-- ==== Sys2Proof/Word.lean ====
section
/-!
DEFINITION. The word types of the device and the one sparse map all of its memories and register files are held in.
Bit 0 is the least significant bit of every word (R4 of 00_scope.md); a native Fox word has 24 bits (R6).
-/
namespace Sys2Proof

/-- A native Fox word (24 bits, R6). -/
abbrev W24 := BitVec 24

/-- A host register word (32 bits, R6). -/
abbrev W32 := BitVec 32

/-- A byte of any of the device's memories. -/
abbrev Byte := BitVec 8

/-- A sparse table: pairs of a number (an address, an instance) and a value, the numbers strictly rising and no value
equal to what an unlisted number holds. -/
abbrev SMap (α : Type) := List (Nat × α)

end Sys2Proof
end

