-- ==== Sys2Proof/Syntax.lean ====
section
/-!
DEFINITION. The commands of the block: one constructor per row of the table of operations and events, with its
operands. An event's operands are what the environment decides about it (which instance, what was received or
measured); a requester is named where the spec tells requesters apart.
Assumption log: 16, 25, 86.
-/
namespace Sys2Proof

/-- Who issues a register access (R623, R625): the host, the supervisor or a thread (LE x 4 + t). -/
inductive Req where
  | host
  | sup
  | le (k : Fin 64)
  deriving DecidableEq, Repr

/-- The index-register copy of a requester (R625). -/
def Req.copy : Req → Nat
  | .host => 0
  | .sup => 1
  | .le k => 2 + k.val / 4

/-- What ECC finds in a word that is read (R99, R559). -/
inductive Ecc where
  | ok
  | corrected
  | uncorrectable
  deriving DecidableEq, Repr

/-- What a Shrew engine sees on a tick (R395, R400, R409): the levels of GP0-GP63, whether an edge that the instruction
waits for was seen since its previous execution, and ECC of the fetched program word. -/
structure ShTick where
  pins : BitVec 64
  edge : Bool := false
  ecc : Ecc := .ok
  deriving DecidableEq, Repr

/-- A frame that arrives at an external input: DA to FCS, whether the FCS is right, whether a bank it lies in was retired
while it arrived (R205), its MAC time in half nanoseconds of device time (R49), a symbol error, how many ns before its tail
its SFD came (R357) and its lookup began (step 3 of Table 6-1, R244), and the handles the device assigns to it and to a mirror
copy. `tail` false: it is in reception, and `bytes` are those that have come (R335). -/
structure RxFrame where
  bytes : List Byte
  tail : Bool := true
  fcs : Bool := true
  lost : Bool := false
  mac : Nat := 0
  sym : Bool := false
  sfdAgo : Nat := 0
  hdrAgo : Nat := 0
  handle : W24 := 1
  mirror : W24 := 2
  deriving DecidableEq, Repr

/-- What an output meets when it starts a frame: the MAC time in half nanoseconds of device time (R49), whether it had to
wait for carrier (R338), ECC of the frame's data with its bank and word (R559), and the handles of a mirror copy and of
the copy that a receive queue takes. -/
structure TxInfo where
  mac : Nat := 0
  deferred : Bool := false
  ecc : Ecc := .ok
  bank : Fin 34 := 0
  word : BitVec 13 := 0
  mirror : W24 := 1
  copy : W24 := 2
  deriving DecidableEq, Repr

/-- A resolution of negotiation (R331, R332): whether the partner negotiates and its abilities in the layout of
ETH_AN_ADV; else whether parallel detection finds 100BASE-TX (or 10BASE-Te); which end is master where both prefer the same,
a fault of the master/slave resolution on the line, and whether auto MDI/MDI-X finds crossed pairs. -/
structure AnResult where
  neg : Bool
  abil : BitVec 13 := 0
  pd100 : Bool := false
  master : Bool := false
  msFault : Bool := false
  mdix : Bool := false
  deriving DecidableEq, Repr

/-- A CSM that arrives on a ring lane (R305-R311): CSM-A and the CSM-B that follows it, the MAC time of arrival in half
nanoseconds, the residence in the node in 1/16 ns, the guardian's count of its 5 ns ticks at the arrival at the relay tap
(R311), and whether T_F has passed or no further copy comes. -/
structure CsmIn where
  cycle : W24
  corr : BitVec 28
  hops : BitVec 6
  folds : BitVec 2
  dir : Bool
  first : Fin 32
  mac : Nat
  res : BitVec 16
  gtk : Nat
  last : Bool
  deriving DecidableEq, Repr

/-- A valid CAN frame on the bus (R370-R373): format 0 classical, 1 FD, 2 XL; flags; identifier (word 1 of a buffer);
payload; XL acceptance field and SDU type; device time and ns since reset at the sample point of its SOF bit; the handle
the device assigns if its payload goes to Sett. -/
structure CanFrame where
  fmt : Fin 3
  ide : Bool := false
  rtr : Bool := false
  brs : Bool := false
  esi : Bool := false
  id : BitVec 29
  data : List Byte
  af : W32 := 0
  sdt : BitVec 8 := 0
  sec : W32 := 0
  ns : BitVec 30 := 0
  sof : Nat := 0
  handle : W24 := 1
  deriving DecidableEq, Repr

/-- How the supervisor's two reads of a profile copy go (Table 16-2 steps 5 and 8, R539): both succeed, the first fails, or
section `i` in load order differs from its hash in step 8. -/
inductive BootRd where
  | ok
  | fail
  | differs (i : Fin 64)
  deriving DecidableEq, Repr

/-- What a reset release meets (R535-R537, R606, R633): the sampled pins HOST_SEL, PROF and CARD_PRESENT_N, the PLLs that
lock, the pin TEST_EN, Den's self-test and its TRNG health test, the memory units that fail the start-up march test (TARGET of R525 and
unit), and the reads of the copies. -/
structure BootIn where
  hostSel : BitVec 2
  prof : BitVec 3
  card : Bool
  locked : BitVec 6 := 63
  selftest : Bool := true
  trng : Bool := true
  fails : List (Fin 5 × Fin 64) := []
  rdA : BootRd := .ok
  rdB : BootRd := .ok
  testEn : Bool := false
  deriving DecidableEq, Repr

/-- The word that a write brings, and the bits of a W1C field that the hardware sets on the same edge (R13). -/
structure WriteIn where
  v : W32
  keep : W32 := 0
  deriving DecidableEq, Repr

/-- An edge on a capture pin: its direction, and how many half ns after the last TCLK edge it comes (R82). -/
structure PinEdge where
  fall : Bool
  sub : Fin 8
  deriving DecidableEq, Repr

/-- Which port establishes its link, and the pairing that the PHY finds where MDIX leaves it to it (R333). -/
structure LinkIn where
  port : Fin 12
  mdix : Bool := false
  deriving DecidableEq, Repr

/-- What a training attempt leaves: the common rate and the equaliser codes (R284). -/
structure TrainIn where
  rate : Fin 3
  ctle : BitVec 8
  dfe : BitVec 8
  deriving DecidableEq, Repr

/-- Which gate of the guardian: of a slot, or of the cycle start (`none`), and the guardian's tick count (R311, R312). -/
structure GateIn where
  slot : Option (Fin 256)
  gtk : Nat
  deriving DecidableEq, Repr

/-- The port whose transmit path enters LPI, or, with `rx`, whose partner begins or ends LPI (R344, R347). -/
structure LpiIn where
  port : Fin 8
  rx : Option Bool := none
  deriving DecidableEq, Repr

/-- The T1S port whose line the monitor finds shorted or open, or, `gone`, in order again (R336). -/
structure LineIn where
  port : Fin 4
  gone : Bool := false
  deriving DecidableEq, Repr

/-- The commands: one per row of the opcode table. -/
inductive Instr where
  /-- REGISTER_WRITE: A write to a register field that has no row of its own takes effect on its pending or live value under its access code. (R21) -/
  | registerWrite (q : Req) (o : BitVec 20) (v : WriteIn) (be : BitVec 4)
  /-- READ_DELIVERED: A delivered read of a BAR0 register with a read side effect (an RC counter or bit) applies that side effect on the delivery edge. (R484) -/
  | readDelivered (q : Req) (o : BitVec 20)
  /-- APPLY_REQUEST: A write of IMG_APPLY_CTRL.GO requests an APPLY, judged under R281 and left pending for its APPLY edge. (R275) -/
  | applyRequest (v : W32)
  /-- APPLY_CANCEL: A write of IMG_APPLY_CTRL.CANCEL withdraws a pending APPLY with result CANCELLED. (R277) -/
  | applyCancel (v : W32)
  /-- APPLY_EDGE: On the APPLY edge every block in scope checks its pending values, and all S fields in scope become active together or nothing changes. (R276) -/
  | applyEdge
  /-- LATCH: A write of 1 to TIME_CTRL.LATCH copies device time and PX0-PX3 into the latch registers on one TCLK edge. (R40) -/
  | latch
  /-- TIME_STEP: A write to TIME_STEP_NS adds its signed value to device time on the next TCLK edge, unless ignored under R43. (R44) -/
  | timeStep (v : W32)
  /-- TIME_SET: A write to TIME_SET_NS loads the set registers into device time, or is discarded with SET_BAD when out of range. (R44) -/
  | timeSet (v : W32)
  /-- TIME_SLEW: A write to TIME_SLEW_NS replaces the remaining slew, which the time base then absorbs at RATE_PPM. (R45) -/
  | timeSlew (v : W32)
  /-- SLEW_DONE: The remaining slew reaches zero and SLEW_BUSY clears. (R45) -/
  | slewDone
  /-- PPS_IN_EDGE: An edge on PPS_IN is measured against the nearest whole second, steers the rate and counts towards LOCKED. (R46) -/
  | ppsInEdge (fall : Bool) (sub : Fin 8)
  /-- PPS_HOLDOVER: No PPS_IN edge for 1.5 s moves the PPS servo from LOCKED to HOLDOVER and sets SRC_LOST. (R46) -/
  | ppsHoldover
  /-- PPS_OUT_START: PPS_OUT rises when the nanoseconds field wraps to 0 while PPS_OUT_EN is 1. (R48) -/
  | ppsOutStart
  /-- PPS_OUT_END: PPS_OUT falls after OUT_WIDTH_MS milliseconds. (R48) -/
  | ppsOutEnd
  /-- CAPT_EDGE: An enabled edge on a CAPT pin pushes a capture record into its FIFO and steps a CAPT-sourced axis. (R82) -/
  | captEdge (n : Fin 8) (e : PinEdge)
  /-- CAPT_POP: A delivered read of TIME_CAPn_POP removes the oldest capture record and fills the hold registers. (R83) -/
  | captPop (n : Fin 8)
  /-- AXIS_SOFT_SET: A write of PHS_PXk SET_LO loads SET_HI:SET_LO into a SOFT axis on the next TCLK edge. (R58) -/
  | axisSoftSet (k : Fin 4) (v : W32)
  /-- MAINS_CROSSING: A rising crossing at MAINS_IN drives the mains PLL, which acquires, locks or re-acquires its axis. (R61) -/
  | mainsCrossing (m : Fin 2) (ns : Fin 4) (half : Bool)
  /-- MAINS_HOLDOVER: No crossing for 2 expected cycles puts the mains PLL into HOLDOVER. (R62) -/
  | mainsHoldover (m : Fin 2)
  /-- MAINS_STOP: After HOLD_S seconds in HOLDOVER the mains PLL stops its axis and sets STOPPED. (R62) -/
  | mainsStop (m : Fin 2)
  /-- PHS_RUN_SET: A write of PHS_CTRL.RUN starts or stops calendar firing, making entries due meanwhile late. (R73) -/
  | phsRunSet (v : Bool)
  /-- CAL_ENTRY_FIRE: An armed calendar entry becomes due on its axis and fires, catches up or skips under R64-R66, and advances its phase. (R65) -/
  | calEntryFire (e : Fin 512) (same : Bool)
  /-- QW_TIMEOUT: A quiet window open for PHS_QW_MAXc microseconds closes on its own and sets its PHS_QW_TIMEOUT bit. (R79) -/
  | qwTimeout (c : Fin 8)
  /-- PAIRED_WORD: A paired instruction word issues and executes its two short operations, reading all operands before either writes. (R103) -/
  | fxPair (k : Fin 64) (w : BitVec 47)
  /-- NOP: Instruction NOP does nothing. (R142) -/
  | fxNop (k : Fin 64) (c : Fin 16) (o : BitVec 36)
  /-- ADD: Instruction ADD adds two registers and sets N Z C V. (R143) -/
  | fxAdd (k : Fin 64) (c : Fin 16) (o : BitVec 36)
  /-- ADC: Instruction ADC adds two registers and the carry. (R143) -/
  | fxAdc (k : Fin 64) (c : Fin 16) (o : BitVec 36)
  /-- SUB: Instruction SUB subtracts two registers. (R143) -/
  | fxSub (k : Fin 64) (c : Fin 16) (o : BitVec 36)
  /-- SBC: Instruction SBC subtracts with the carry as not-borrow. (R143) -/
  | fxSbc (k : Fin 64) (c : Fin 16) (o : BitVec 36)
  /-- AND: Instruction AND forms the bitwise and. (R143) -/
  | fxAnd (k : Fin 64) (c : Fin 16) (o : BitVec 36)
  /-- OR: Instruction OR forms the bitwise or. (R143) -/
  | fxOr (k : Fin 64) (c : Fin 16) (o : BitVec 36)
  /-- XOR: Instruction XOR forms the bitwise exclusive or. (R143) -/
  | fxXor (k : Fin 64) (c : Fin 16) (o : BitVec 36)
  /-- ANDN: Instruction ANDN ands a register with the complement of another. (R143) -/
  | fxAndn (k : Fin 64) (c : Fin 16) (o : BitVec 36)
  /-- MIN: Instruction MIN takes the signed minimum. (R143) -/
  | fxMin (k : Fin 64) (c : Fin 16) (o : BitVec 36)
  /-- MAX: Instruction MAX takes the signed maximum. (R143) -/
  | fxMax (k : Fin 64) (c : Fin 16) (o : BitVec 36)
  /-- MINU: Instruction MINU takes the unsigned minimum. (R143) -/
  | fxMinu (k : Fin 64) (c : Fin 16) (o : BitVec 36)
  /-- MAXU: Instruction MAXU takes the unsigned maximum. (R143) -/
  | fxMaxu (k : Fin 64) (c : Fin 16) (o : BitVec 36)
  /-- CMP: Instruction CMP subtracts without writing a register and sets the flags. (R143) -/
  | fxCmp (k : Fin 64) (c : Fin 16) (o : BitVec 36)
  /-- TST: Instruction TST ands without writing a register and sets N and Z. (R143) -/
  | fxTst (k : Fin 64) (c : Fin 16) (o : BitVec 36)
  /-- MOV: Instruction MOV copies a register. (R143) -/
  | fxMov (k : Fin 64) (c : Fin 16) (o : BitVec 36)
  /-- ADDI: Instruction ADDI adds an immediate. (R144) -/
  | fxAddi (k : Fin 64) (c : Fin 16) (o : BitVec 36)
  /-- ADCI: Immediate form of ADC. (R144) -/
  | fxAdci (k : Fin 64) (c : Fin 16) (o : BitVec 36)
  /-- SUBI: Immediate form of SUB. (R144) -/
  | fxSubi (k : Fin 64) (c : Fin 16) (o : BitVec 36)
  /-- SBCI: Immediate form of SBC. (R144) -/
  | fxSbci (k : Fin 64) (c : Fin 16) (o : BitVec 36)
  /-- ANDI: Instruction ANDI ands with an immediate. (R144) -/
  | fxAndi (k : Fin 64) (c : Fin 16) (o : BitVec 36)
  /-- ORI: Immediate form of OR. (R144) -/
  | fxOri (k : Fin 64) (c : Fin 16) (o : BitVec 36)
  /-- XORI: Instruction XORI exclusive-ors with an immediate. (R144) -/
  | fxXori (k : Fin 64) (c : Fin 16) (o : BitVec 36)
  /-- ANDNI: Immediate form of ANDN. (R144) -/
  | fxAndni (k : Fin 64) (c : Fin 16) (o : BitVec 36)
  /-- MINI: Immediate form of MIN. (R144) -/
  | fxMini (k : Fin 64) (c : Fin 16) (o : BitVec 36)
  /-- MAXI: Immediate form of MAX. (R144) -/
  | fxMaxi (k : Fin 64) (c : Fin 16) (o : BitVec 36)
  /-- MINUI: Immediate form of MINU. (R144) -/
  | fxMinui (k : Fin 64) (c : Fin 16) (o : BitVec 36)
  /-- MAXUI: Immediate form of MAXU. (R144) -/
  | fxMaxui (k : Fin 64) (c : Fin 16) (o : BitVec 36)
  /-- CMPI: Instruction CMPI compares a register with an immediate. (R144) -/
  | fxCmpi (k : Fin 64) (c : Fin 16) (o : BitVec 36)
  /-- TSTI: Instruction TSTI tests a register against an immediate. (R144) -/
  | fxTsti (k : Fin 64) (c : Fin 16) (o : BitVec 36)
  /-- MOVI: Instruction MOVI loads an immediate. (R144) -/
  | fxMovi (k : Fin 64) (c : Fin 16) (o : BitVec 36)
  /-- LSL: Instruction LSL shifts left by a register count. (R146) -/
  | fxLsl (k : Fin 64) (c : Fin 16) (o : BitVec 36)
  /-- LSR: Instruction LSR shifts right logically by a register count. (R146) -/
  | fxLsr (k : Fin 64) (c : Fin 16) (o : BitVec 36)
  /-- ASR: Instruction ASR shifts right arithmetically by a register count. (R146) -/
  | fxAsr (k : Fin 64) (c : Fin 16) (o : BitVec 36)
  /-- ROR: Instruction ROR rotates right by a register count. (R146) -/
  | fxRor (k : Fin 64) (c : Fin 16) (o : BitVec 36)
  /-- LSLI: Instruction LSLI shifts left by an immediate. (R146) -/
  | fxLsli (k : Fin 64) (c : Fin 16) (o : BitVec 36)
  /-- LSRI: Instruction LSRI shifts right logically by an immediate. (R146) -/
  | fxLsri (k : Fin 64) (c : Fin 16) (o : BitVec 36)
  /-- ASRI: Instruction ASRI shifts right arithmetically by an immediate. (R146) -/
  | fxAsri (k : Fin 64) (c : Fin 16) (o : BitVec 36)
  /-- RORI: Instruction RORI rotates right by an immediate. (R146) -/
  | fxRori (k : Fin 64) (c : Fin 16) (o : BitVec 36)
  /-- NEG: Instruction NEG negates a register. (R143) -/
  | fxNeg (k : Fin 64) (c : Fin 16) (o : BitVec 36)
  /-- NOT: Instruction NOT complements a register. (R143) -/
  | fxNot (k : Fin 64) (c : Fin 16) (o : BitVec 36)
  /-- ABS: Instruction ABS takes the saturated absolute value. (R143) -/
  | fxAbs (k : Fin 64) (c : Fin 16) (o : BitVec 36)
  /-- CLZ: Instruction CLZ counts leading zero bits. (R143) -/
  | fxClz (k : Fin 64) (c : Fin 16) (o : BitVec 36)
  /-- BSET: Instruction BSET sets one bit. (R147) -/
  | fxBset (k : Fin 64) (c : Fin 16) (o : BitVec 36)
  /-- BCLR: Instruction BCLR clears one bit. (R147) -/
  | fxBclr (k : Fin 64) (c : Fin 16) (o : BitVec 36)
  /-- BTST: Instruction BTST copies one bit into TF and Z. (R147) -/
  | fxBtst (k : Fin 64) (c : Fin 16) (o : BitVec 36)
  /-- TFC: Instruction TFC folds a long condition into TF. (R147) -/
  | fxTfc (k : Fin 64) (c : Fin 16) (o : BitVec 36)
  /-- MUL: Instruction MUL writes the signed product to MH:ML two cycles later. (R148) -/
  | fxMul (k : Fin 64) (c : Fin 16) (o : BitVec 36)
  /-- MULU: Instruction MULU writes the unsigned product to MH:ML. (R148) -/
  | fxMulu (k : Fin 64) (c : Fin 16) (o : BitVec 36)
  /-- MAC: Instruction MAC adds a signed product to the 72-bit accumulator. (R148) -/
  | fxMac (k : Fin 64) (c : Fin 16) (o : BitVec 36)
  /-- MACU: Instruction MACU adds an unsigned product to the accumulator. (R148) -/
  | fxMacu (k : Fin 64) (c : Fin 16) (o : BitVec 36)
  /-- MSU: Instruction MSU subtracts a signed product from the accumulator. (R148) -/
  | fxMsu (k : Fin 64) (c : Fin 16) (o : BitVec 36)
  /-- MACZ: Instruction MACZ starts the accumulator with a signed product. (R148) -/
  | fxMacz (k : Fin 64) (c : Fin 16) (o : BitVec 36)
  /-- EXA: Instruction EXA extracts the shifted, saturated accumulator into a register. (R149) -/
  | fxExa (k : Fin 64) (c : Fin 16) (o : BitVec 36)
  /-- LD: Instruction LD loads a DM word at base plus offset. (R150) -/
  | fxLd (k : Fin 64) (c : Fin 16) (o : BitVec 36)
  /-- ST: Instruction ST stores a DM word at base plus offset. (R150) -/
  | fxSt (k : Fin 64) (c : Fin 16) (o : BitVec 36)
  /-- LDI: Instruction LDI loads a DM word and post-increments the base. (R150) -/
  | fxLdi (k : Fin 64) (c : Fin 16) (o : BitVec 36)
  /-- STI: Instruction STI stores a DM word and post-increments the base. (R150) -/
  | fxSti (k : Fin 64) (c : Fin 16) (o : BitVec 36)
  /-- MOVS_READ: Instruction MOVS w, sp reads a special register. (R154) -/
  | fxMovsRead (k : Fin 64) (c : Fin 16) (o : BitVec 36)
  /-- MOVS_WRITE: Instruction MOVS sp, w writes a special register with its effect, such as clearing EVP bits or restarting the watchdog. (R154) -/
  | fxMovsWrite (k : Fin 64) (c : Fin 16) (o : BitVec 36)
  /-- GLD: Instruction GLD checks rights and issues a global load that blocks its thread. (R151) -/
  | fxGld (k : Fin 64) (c : Fin 16) (o : BitVec 36)
  /-- GST: Instruction GST checks rights and issues a global store that blocks its thread. (R151) -/
  | fxGst (k : Fin 64) (c : Fin 16) (o : BitVec 36)
  /-- GLOBAL_ACCESS_COMPLETE: A global access completes at its target, is judged against the bank owner on acceptance, writes its result and unblocks the thread. (R100) -/
  | globalAccessComplete (k : Fin 64) (ecc : Ecc) (slot : Fin 3)
  /-- B: Instruction B branches to a target. (R155) -/
  | fxB (k : Fin 64) (c : Fin 16) (o : BitVec 36)
  /-- BR: Instruction BR branches to an address in a register. (R155) -/
  | fxBr (k : Fin 64) (c : Fin 16) (o : BitVec 36)
  /-- CALL: Instruction CALL saves the return address in LK and branches. (R155) -/
  | fxCall (k : Fin 64) (c : Fin 16) (o : BitVec 36)
  /-- CALLR: Instruction CALLR saves LK and branches to a register address. (R155) -/
  | fxCallr (k : Fin 64) (c : Fin 16) (o : BitVec 36)
  /-- RET: Instruction RET returns to LK. (R155) -/
  | fxRet (k : Fin 64) (c : Fin 16) (o : BitVec 36)
  /-- RETT: Instruction RETT restores PC, FLG and the repeat counter from the trap registers and clears TM. (R156) -/
  | fxRett (k : Fin 64) (c : Fin 16) (o : BitVec 36)
  /-- DBNZ: Instruction DBNZ decrements LC and branches while it is not zero. (R110) -/
  | fxDbnz (k : Fin 64) (c : Fin 16) (o : BitVec 36)
  /-- REP: Instruction REP #count latches an immediate count into the repeat counter for the next word. (R111) -/
  | fxRep (k : Fin 64) (c : Fin 16) (o : BitVec 36)
  /-- REP_LC: Instruction REP LC latches LC into the repeat counter for the next word. (R158) -/
  | fxRepLc (k : Fin 64) (c : Fin 16) (o : BitVec 36)
  /-- FOX_WATCHDOG_EXPIRY: A thread watchdog reaches zero, restarts, reports to Owl for safety threads and makes the thread take WATCHDOG. (R115) -/
  | foxWatchdogExpiry (k : Fin 64)
  /-- FRD: Instruction FRD reads bytes of the owned frame and blocks until the data returns. (R165) -/
  | fxFrd (k : Fin 64) (c : Fin 16) (o : BitVec 36)
  /-- FWR: Instruction FWR posts a write of bytes into the owned frame. (R165) -/
  | fxFwr (k : Fin 64) (c : Fin 16) (o : BitVec 36)
  /-- FSETL: Instruction FSETL sets the frame length. (R169) -/
  | fxFsetl (k : Fin 64) (c : Fin 16) (o : BitVec 36)
  /-- FINFO: Instruction FINFO returns a descriptor field of the frame FH. (R171) -/
  | fxFinfo (k : Fin 64) (c : Fin 16) (o : BitVec 36)
  /-- DPOP: Instruction DPOP takes the oldest descriptor of the receive queue into FH. (R170) -/
  | fxDpop (k : Fin 64) (c : Fin 16) (o : BitVec 36)
  /-- FNEW: Instruction FNEW allocates an empty frame from the engine staging share. (R172) -/
  | fxFnew (k : Fin 64) (c : Fin 16) (o : BitVec 36)
  /-- FREL: Instruction FREL returns the frame FH to Sett. (R173) -/
  | fxFrel (k : Fin 64) (c : Fin 16) (o : BitVec 36)
  /-- DPUSH: Instruction DPUSH hands the frame FH to the fabric with an immediate specification. (R174) -/
  | fxDpush (k : Fin 64) (c : Fin 16) (o : BitVec 36)
  /-- DPUSHR: Instruction DPUSHR hands the frame FH to the fabric with a register specification. (R174) -/
  | fxDpushr (k : Fin 64) (c : Fin 16) (o : BitVec 36)
  /-- CPOP: Instruction CPOP removes the oldest transmit completion. (R176) -/
  | fxCpop (k : Fin 64) (c : Fin 16) (o : BitVec 36)
  /-- CRCF: Instruction CRCF feeds frame bytes into a CRC register, blocking for the read. (R179) -/
  | fxCrcf (k : Fin 64) (c : Fin 16) (o : BitVec 36)
  /-- CRCR: Instruction CRCR feeds register bytes into a CRC register. (R179) -/
  | fxCrcr (k : Fin 64) (c : Fin 16) (o : BitVec 36)
  /-- CSUMF: Instruction CSUMF computes a ones-complement sum over frame bytes. (R180) -/
  | fxCsumf (k : Fin 64) (c : Fin 16) (o : BitVec 36)
  /-- HASH: Instruction HASH performs one step of the 24-bit flow hash. (R181) -/
  | fxHash (k : Fin 64) (c : Fin 16) (o : BitVec 36)
  /-- FEXT: Instruction FEXT extracts a bit field from the frame or a register pair. (R182) -/
  | fxFext (k : Fin 64) (c : Fin 16) (o : BitVec 36)
  /-- FINS: Instruction FINS inserts a bit field into the frame or a register pair. (R183) -/
  | fxFins (k : Fin 64) (c : Fin 16) (o : BitVec 36)
  /-- SCALE: Instruction SCALE performs a saturating Q12 multiply-add. (R184) -/
  | fxScale (k : Fin 64) (c : Fin 16) (o : BitVec 36)
  /-- TSR: Instruction TSR reads a timestamp or axis value into a register pair. (R185) -/
  | fxTsr (k : Fin 64) (c : Fin 16) (o : BitVec 36)
  /-- FRXTS: Instruction FRXTS sets or removes the receive timestamp of frame FH. (R187) -/
  | fxFrxts (k : Fin 64) (c : Fin 16) (o : BitVec 36)
  /-- WAITPH: Instruction WAITPH waits for the phase event. (R188) -/
  | fxWaitph (k : Fin 64) (c : Fin 16) (o : BitVec 36)
  /-- WAITEV: Instruction WAITEV waits until a masked event is pending. (R188) -/
  | fxWaitev (k : Fin 64) (c : Fin 16) (o : BitVec 36)
  /-- WAIT_WAKE: An event bit set while a thread waits releases the wait, returning and clearing the matched bits. (R117) -/
  | waitWake (k : Fin 64)
  /-- SIGNAL: Instruction SIGNAL sends a signal with an immediate target after earlier writes complete. (R189) -/
  | fxSignal (k : Fin 64) (c : Fin 16) (o : BitVec 36)
  /-- SIGNALR: Instruction SIGNALR sends a signal with a register target. (R189) -/
  | fxSignalr (k : Fin 64) (c : Fin 16) (o : BitVec 36)
  /-- SIGNAL_DELIVERY: A signal arrives at its target thread and sets its EVP bit, or counts an overrun. (R119) -/
  | signalDelivery (k : Fin 64)
  /-- DOORBELL: Instruction DOORBELL sets a device-to-host doorbell bit. (R190) -/
  | fxDoorbell (k : Fin 64) (c : Fin 16) (o : BitVec 36)
  /-- DOORBELLR: Instruction DOORBELLR sets a doorbell bit named in a register. (R190) -/
  | fxDoorbellr (k : Fin 64) (c : Fin 16) (o : BitVec 36)
  /-- SHPUT: Instruction SHPUT pushes a word into a Shrew engine TXF. (R191) -/
  | fxShput (k : Fin 64) (c : Fin 16) (o : BitVec 36)
  /-- SHGET: Instruction SHGET pops a word from a Shrew engine RXF. (R191) -/
  | fxShget (k : Fin 64) (c : Fin 16) (o : BitVec 36)
  /-- XLD: Privileged instruction XLD reads a DM word of another logical engine. (R194) -/
  | fxXld (k : Fin 64) (c : Fin 16) (o : BitVec 36)
  /-- XST: Privileged instruction XST writes a DM word of another logical engine. (R194) -/
  | fxXst (k : Fin 64) (c : Fin 16) (o : BitVec 36)
  /-- TWAKE: Privileged instruction TWAKE delivers a phase wake to a thread. (R195) -/
  | fxTwake (k : Fin 64) (c : Fin 16) (o : BitVec 36)
  /-- FADOPT: Privileged instruction FADOPT takes over a frame owned by another engine. (R196) -/
  | fxFadopt (k : Fin 64) (c : Fin 16) (o : BitVec 36)
  /-- FRAME_ACCESS_COMPLETE: A blocking frame read, FNEW, Shrew FIFO access or XLD/XST completes and unblocks its thread. (R166) -/
  | frameAccessComplete (k : Fin 64) (h : W24) (ecc : Ecc) (bank : Fin 34) (word : BitVec 13)
  /-- FRAME_WRITE_DRAIN: A posted frame write drains from the thread's write buffer into Sett. (R167) -/
  | frameWriteDrain (k : Fin 64)
  /-- MIGRATION_END: After copying and freezing, the map and fabric port switch to the spare and the threads resume with held wakes, signals and frames. (R127) -/
  | migrationEnd (le : Fin 16)
  /-- ENGINE_STOPPED: Every thread of a stopping engine reaches its safe point, frames are released and the engine is LOADED. (R123) -/
  | engineStopped (le : Fin 16)
  /-- FRAME_RECEIVED: A frame taken whole on an input passes parse, lookup, reservation and its verdict edge, and is released or cancelled. (R204) -/
  | frameReceived (i : Fin 32) (f : RxFrame)
  /-- STAGE1_TRANSFER: A released descriptor crosses stage 1 from its input to its pin intermediate on its cycle. (R201) -/
  | stage1Transfer (i : Fin 32) (k : Fin 32)
  /-- STAGE2_TRANSFER: A descriptor crosses stage 2 from an intermediate to its output on its cycle. (R201) -/
  | stage2Transfer (k : Fin 32) (o : Fin 32)
  /-- TRANSMIT_START: An idle output starts the head frame of its highest eligible class, or delivers it to an internal receive queue. (R219) -/
  | transmitStart (o : Fin 32) (x : TxInfo)
  /-- TRANSMIT_COMPLETE: A frame leaves its last target or is dropped everywhere, releasing cells and appending any completion. (R176) -/
  | transmitComplete (o : Fin 32)
  /-- FRAME_AGED: A head frame whose age exceeds its class limit is dropped with AGED. (R222) -/
  | frameAged (o : Fin 32) (c : Fin 8)
  /-- AON_REEVALUATE: A re-evaluation edge every 32 CCLK releases a held all-or-none frame when all targets accept. (R233) -/
  | aonReevaluate (i : Fin 32) (k : Fin 32)
  /-- AON_EXPIRE: AON_DL passes without release and the held frame is dropped with AON_EXPIRED. (R233) -/
  | aonExpire (i : Fin 32) (k : Fin 32)
  /-- LINK_LOSS: A port reports loss of link: class 6 is flushed, other classes are held and the frame in reception ends. (R238) -/
  | linkLoss (p : Fin 12) (part : Option RxFrame)
  /-- HOLD_EXPIRE: HOLD_MS passes without return of the link and every held frame is flushed. (R239) -/
  | holdExpire (p : Fin 14)
  /-- LINK_UP: The PHY reports the link usable; held frames leave or are flushed depending on the mode. (R336) -/
  | linkUp (l : LinkIn)
  /-- FLOW_STALE: A flow staleness timer reaches TMO_US, sets STALE and EVER_STALE and raises FLOW_STALE. (R253) -/
  | flowStale (x : Fin 1024)
  /-- EPOCH_COMMIT: On the commit edge every BACK slot becomes CUR and the epoch advances, merging simultaneous requests. (R260) -/
  | epochCommit
  /-- COMMIT_NOW: A write of IMG_CTRL.COMMIT_NOW requests a commit on the next edge. (R261) -/
  | commitNow
  /-- HOST_MEMORY_WRITE: A host write to BAR2 is checked for ownership and window and written, with copy-on-write in the staging view. (R617) -/
  | hostMemoryWrite (a : W24) (bytes : List Byte) (ue : Bool)
  /-- IMG_LEASE_OPEN: A write of a duration to IMG_LEASE_OPEN opens or moves the lease on the current epoch. (R264) -/
  | imgLeaseOpen (v : W32)
  /-- IMG_LEASE_CLOSE: A write of IMG_LEASE_CLOSE closes the lease and frees leased slots. (R267) -/
  | imgLeaseClose
  /-- LEASE_EXPIRE: The lease timer reaches 0, closes the lease, sets EXPIRED and doorbell bit 29. (R267) -/
  | leaseExpire
  /-- CSNAP_GO: A write of IMG_CSNAP_CTRL.GO requests a counter snapshot. (R271) -/
  | csnapGo (whn : Bool) (clear : Bool)
  /-- CSNAP_RELEASE: A write of IMG_CSNAP_CTRL.RELEASE ends the counter hold. (R272) -/
  | csnapRelease
  /-- CSNAP_CANCEL: A write of IMG_CSNAP_CTRL.CANCEL withdraws a pending snapshot. (R271) -/
  | csnapCancel
  /-- SNAPSHOT_EDGE: On the snapshot edge every counter is copied into its hold, and live counters restart when CLEAR is set. (R272) -/
  | snapshotEdge
  /-- RING_TRAIN_END: A ring link training attempt ends in success or failure. (R284) -/
  | ringTrainEnd (p : Fin 2) (ok : Bool) (x : TrainIn)
  /-- RING_TRAIN_RETRY: 100 ms after a failed attempt the link retrains. (R284) -/
  | ringTrainRetry (p : Fin 2)
  /-- RING_LOS: LOS on a ring port idles its transmitter and folds the node at its remaining joined port. (R316) -/
  | ringLos (p : Fin 2)
  /-- CSM_A: A received CSM-A is relayed with correction, aligns the guardian and runs the follower servo once per cycle. (R308) -/
  | csmA (p : Fin 2) (x : CsmIn)
  /-- CSM_B: A received CSM-B carrying hops, folds and first node is relayed with its CSM-A. (R288) -/
  | csmB (p : Fin 2) (hops : BitVec 6) (folds : BitVec 2) (dir : Bool) (first : Fin 32)
  /-- ECHO_REQ: A received ECHO_REQ is answered with ECHO_RESP carrying the residence. (R306) -/
  | echoReq (p : Fin 2) (q : BitVec 8) (res : W32)
  /-- ECHO_RESP: A received ECHO_RESP updates the link delay mean. (R306) -/
  | echoResp (p : Fin 2) (q : BitVec 8) (res : W32) (t4 : Nat)
  /-- LINK_STATE: A received LINK_STATE tells whether the neighbour is a member of a running ring. (R299) -/
  | linkState (p : Fin 2) (member : Bool) (node : Fin 32) (id : W32)
  /-- JOIN_A: A received JOIN-A from a node ready to be spliced carries its identity. (R321) -/
  | joinA (p : Fin 2) (id : BitVec 48)
  /-- JOIN_B: A received JOIN-B completes a join request and makes the member insert SPLICE_REQ. (R321) -/
  | joinB (p : Fin 2) (node : Fin 32) (hash : W32)
  /-- CONTROL_BLOCK_SEND: The 125 us timer of a trained port sends ECHO_REQ and LINK_STATE. (R288) -/
  | controlBlockSend (p : Fin 2) (t1 : Nat)
  /-- RING_FRAME: A ring frame arrives: it is relayed, folded, stripped or dropped, and copied to the terminating input when addressed. (R291) -/
  | ringFrame (p : Fin 2) (hdr : List Byte) (f : RxFrame)
  /-- STATUS: A received STATUS control frame updates membership and heal state. (R293) -/
  | status (p : Fin 2) (b : List Byte)
  /-- TIME_ANN: A received TIME_ANN sets ring time, hash and splice announcements. (R308) -/
  | timeAnn (p : Fin 2) (b : List Byte)
  /-- CSTART: A received CSTART that beats the node makes it stop cold start and enter JOIN. (R301) -/
  | cstart (p : Fin 2) (b : List Byte)
  /-- SPLICE_REQ: The first node checks a SPLICE_REQ and schedules or refuses a splice. (R322) -/
  | spliceReq (p : Fin 2) (b : List Byte)
  /-- LASTGASP_RX: A received LASTGASP frame is delivered and raises RING_LASTGASP. (R325) -/
  | lastgaspRx (p : Fin 2) (src : Fin 32) (west : Bool) (f : RxFrame)
  /-- CYCLE_START: At each cycle start the first node sends CSM, and state changes pending on the cycle start take place. (R305) -/
  | cycleStart (gtk : Nat)
  /-- SLOT_START: An own slot starts and the ring MAC inserts control frames and data frames that fit. (R296) -/
  | slotStart (i : Fin 256) (x : TxInfo)
  /-- GUARD_GATE_OPEN: The guardian opens the inserting transmitter at slot start minus g. (R312) -/
  | guardGateOpen (g : GateIn)
  /-- GUARD_GATE_CLOSE: The guardian closes the transmitter, cutting a running insert and counting CONSEC. (R313) -/
  | guardGateClose (i : Option (Fin 256))
  /-- LISTEN_TIMEOUT: No CSM for LISTEN_US moves a LISTEN node into COLDSTART or a JOIN node back to LISTEN. (R300) -/
  | listenTimeout
  /-- CSTART_SEND: Every 10 us in COLDSTART the node inserts a CSTART with its rank. (R300) -/
  | cstartSend
  /-- COLDSTART_END: 300 us of COLDSTART end unbeaten and the node becomes FIRST. (R301) -/
  | coldstartEnd
  /-- CSM_LOSS: No CSM for 3 cycles sends a follower to LISTEN with its time base in HOLDOVER. (R310) -/
  | csmLoss
  /-- NODE_LOST: No STATUS from a member for 3 cycles raises RING_NODE_LOST. (R326) -/
  | nodeLost (n : Fin 32)
  /-- RING_RESYNC: A write of RING_CTRL.RESYNC puts the node into LISTEN_ONLY with cause COMMAND. (R314) -/
  | ringResync
  /-- GUARD_CLK_LOSS: GUARD_CLK shows no edge for 1 us and the guardian switches to the internal oscillator. (R315) -/
  | guardClkLoss
  /-- SPLICE_SWITCH: At k_s x Tc - 200 ns announced members unfold and the joining node joins its ports. (R323) -/
  | spliceSwitch
  /-- SPLICE_FOLDBACK: No CSM of k_s on a newly joined port within T_F folds that port back. (R324) -/
  | spliceFoldback (p : Fin 2)
  /-- AN_RESOLUTION: Negotiation resolves the common mode, pause and EEE, or fails with AN_FAIL. (R331) -/
  | anResolution (n : Fin 8) (r : AnResult)
  /-- RESTART_AN: A write of ETH_CTRL.RESTART_AN takes the link down and restarts negotiation. (R334) -/
  | restartAn (n : Fin 8)
  /-- COLLISION: A collision in half duplex sends a jam and schedules a retry or discards after 16 attempts. (R338) -/
  | collision (p : Fin 12) (late : Bool) (r : BitVec 10)
  /-- BACKOFF_EXPIRE: The back-off wait ends and the MAC retries the frame. (R338) -/
  | backoffExpire (p : Fin 12) (mac : Nat)
  /-- PAUSE_REPEAT: While flow control is asserted a PAUSE frame is sent every QUANTA x 256 bit times. (R341) -/
  | pauseRepeat (n : Fin 8)
  /-- PAUSE_FRAME: A received PAUSE frame stops the classes in PAUSE_CLASSES for q x 512 bit times. (R342) -/
  | pauseFrame (n : Fin 8) (q : BitVec 16)
  /-- PAUSE_EXPIRE: The pause time ends and the stopped classes resume. (R342) -/
  | pauseExpire (n : Fin 8)
  /-- LPI_ENTER: Queues empty for LPI_IDLE_US and the port asserts transmit LPI. (R344) -/
  | lpiEnter (x : LpiIn)
  /-- LPI_GATE_WAKE: The port ends LPI Tw + 1 us before an armed GATE_OPEN phase. (R346) -/
  | lpiGateWake (n : Fin 8)
  /-- PLCA_BEACON: A received BEACON starts a PLCA cycle and ends a fallback. (R348) -/
  | plcaBeacon (t : Fin 4)
  /-- PLCA_FALLBACK: No BEACON for 400 us makes a non-coordinator fall back to CSMA/CD. (R350) -/
  | plcaFallback (t : Fin 4)
  /-- PLCA_OPPORTUNITY_TIMEOUT: An unused opportunity passes after TO_TMR bit times to the next node. (R348) -/
  | plcaOpportunityTimeout (t : Fin 4)
  /-- T1S_THRESHOLD_STEP: In an open window the T1S threshold loop moves CUR one code. (R353) -/
  | t1sThresholdStep (t : Fin 4) (rise : Bool)
  /-- T1S_PHY_FAULT: The line monitor finds a short or open and the T1S link goes down. (R336) -/
  | t1sPhyFault (x : LineIn)
  /-- L1208_READ: A delivered read of an L1208 register clears every counter in it. (R356) -/
  | l1208Read (p : Fin 12) (frag : Bool)
  /-- CAN_FRAME_RECEIVE: A valid CAN frame is matched to a buffer and stored, overwritten, chained or discarded. (R373) -/
  | canFrameReceive (n : Fin 4) (f : CanFrame)
  /-- CAN_ARM: A write setting FULL of a TX buffer arms it. (R379) -/
  | canArm (n : Fin 4) (b : Fin 256)
  /-- CAN_ARBITRATION: Arbitration begins for the highest-priority armed buffer, which the controller reads. (R380) -/
  | canArbitration (n : Fin 4) (tdcv : Option (BitVec 8))
  /-- CAN_TX_COMPLETE: A frame is sent successfully: FULL clears, the timestamp is written and the event raised. (R381) -/
  | canTxComplete (n : Fin 4) (sec : W32) (ns : BitVec 30) (sof : Nat)
  /-- CAN_ERROR: A bus error updates TEC and REC and may enter error passive or bus-off. (R385) -/
  | canError (n : Fin 4) (kind : Fin 6) (tx : Bool) (inc : BitVec 4)
  /-- CAN_TXCANCEL: A write of CAN_TXCANCEL clears FULL of a buffer whose frame has not started. (R381) -/
  | canTxcancel (n : Fin 4) (b : Fin 256)
  /-- CAN_BUFFER_LOCK: A read touching word 0 of a buffer locks it for the requester. (R376) -/
  | canBufferLock (r : Req) (n : Fin 4) (b : Fin 256)
  /-- CAN_BUFFER_RELEASE: A read by the holder touching word 17 releases the lock and clears FULL and OVR. (R376) -/
  | canBufferRelease (r : Req) (n : Fin 4) (b : Fin 256)
  /-- CAN_LOCK_TIMEOUT: A lock held for LOCK_US is released without clearing FULL. (R378) -/
  | canLockTimeout (n : Fin 4) (b : Fin 256)
  /-- CAN_DETECT_WINDOW: A detection candidate window of WIN_MS ends and the next candidate or round is tried, or detection ends unfound. (R367) -/
  | canDetectWindow (n : Fin 4)
  /-- CAN_RECOVERY_DONE: 128 occurrences of 11 recessive bits end recovery with TEC and REC at 0. (R386) -/
  | canRecoveryDone (n : Fin 4)
  /-- TT_REF_SEND: The current master's axis reaches TT_OFS and it sends a reference message. (R388) -/
  | ttRefSend (n : Fin 4)
  /-- TT_BACKUP_TIMEOUT: A backup master hears no reference message in time, sends one and becomes master. (R388) -/
  | ttBackupTimeout (n : Fin 4)
  /-- TT_TX_TRIGGER: Cycle time reaches TRIG_NTU in a matching cycle and a triggered buffer gets its one attempt. (R389) -/
  | ttTxTrigger (n : Fin 4) (b : Fin 256) (hit : Bool)
  /-- SHREW_BR: Shrew instruction BR branches on a condition. (R399) -/
  | shrewBr (e : Fin 32) (x : ShTick) (o : BitVec 12)
  /-- WAIT: Shrew instruction WAIT waits for a lane level, edge, flag or event. (R400) -/
  | wait (e : Fin 32) (x : ShTick) (o : BitVec 12)
  /-- SET: Shrew instruction SET drives lane levels or output enables. (R402) -/
  | set (e : Fin 32) (x : ShTick) (o : BitVec 12)
  /-- LDC: Shrew instruction LDC loads a counter. (R402) -/
  | ldc (e : Fin 32) (x : ShTick) (o : BitVec 12)
  /-- OUT: Shrew instruction OUT shifts bits out of SR onto lanes. (R403) -/
  | out (e : Fin 32) (x : ShTick) (o : BitVec 12)
  /-- IN: Shrew instruction IN shifts lane bits into SR, handing words to the receive latch. (R403) -/
  | shIn (e : Fin 32) (x : ShTick) (o : BitVec 12)
  /-- SHIFT_PUSH: Shrew SHIFT PUSH hands SR to the receive latch. (R406) -/
  | shiftPush (e : Fin 32) (x : ShTick) (o : BitVec 10)
  /-- SHIFT_PULL: Shrew SHIFT PULL takes the transmit latch word into SR. (R406) -/
  | shiftPull (e : Fin 32) (x : ShTick) (o : BitVec 10)
  /-- SHIFT_CLR: Shrew SHIFT CLR clears SR and C. (R406) -/
  | shiftClr (e : Fin 32) (x : ShTick) (o : BitVec 10)
  /-- SHREW_MOV: Shrew instruction MOV moves a value between SR, counters, M, lanes and QPOS. (R407) -/
  | shrewMov (e : Fin 32) (x : ShTick) (o : BitVec 12)
  /-- LOOP: Shrew instruction LOOP decrements a counter and branches while it is not zero. (R399) -/
  | loop (e : Fin 32) (x : ShTick) (o : BitVec 12)
  /-- FLAG: Shrew instruction FLAG clears, sets or toggles a shared flag. (R408) -/
  | flag (e : Fin 32) (x : ShTick) (o : BitVec 12)
  /-- QSTEP: Shrew instruction QSTEP decodes a quadrature step and posts it. (R411) -/
  | qstep (e : Fin 32) (x : ShTick) (o : BitVec 12)
  /-- AXP: Shrew instruction AXP posts a signed step to QPOS and SHREW axes. (R412) -/
  | axp (e : Fin 32) (x : ShTick) (o : BitVec 12)
  /-- HALT: Shrew instruction HALT stops the engine after its tick. (R420) -/
  | halt (e : Fin 32) (x : ShTick) (o : BitVec 12)
  /-- RX_LATCH_PASS: The receive latch passes its word to RXF once RXF has room, raising SHRX. (R404) -/
  | rxLatchPass (e : Fin 32)
  /-- TX_LATCH_TAKE: The empty transmit latch takes the oldest TXF word, raising SHTX at the mark. (R404) -/
  | txLatchTake (e : Fin 32)
  /-- SHR_TXF: A host write to SHR_TXF pushes a word or sets TXF_OVF. (R416) -/
  | shrTxf (e : Fin 32) (v : W24)
  /-- SHR_RXF: A delivered read of SHR_RXF pops the oldest word or sets RXF_UNF. (R416) -/
  | shrRxf (e : Fin 32)
  /-- FLUSH_TXF: A write of SHR_FLUSH.TXF empties TXF and its latch. (R416) -/
  | flushTxf (e : Fin 32)
  /-- FLUSH_RXF: A write of SHR_FLUSH.RXF empties RXF and its latch. (R416) -/
  | flushRxf (e : Fin 32)
  /-- SHR_START_SET: A write of SHR_START_SET starts the engines of the mask. (R418) -/
  | shrStartSet (m : W32)
  /-- SHR_STOP: A write of SHR_STOP stops the engines of the mask. (R420) -/
  | shrStop (m : W32)
  /-- SHR_SWAP: A write of SHR_SWAP sets SWAP_PEND for the engines of the mask. (R423) -/
  | shrSwap (m : W32)
  /-- SWAP_AT_SAFE_POINT: At an engine's next safe point the banks exchange and it continues at address 0. (R423) -/
  | swapAtSafePoint (e : Fin 32)
  /-- SHR_FSWAP: A write of SHR_FSWAP swaps banks at once, recording SHIFT_LOST. (R424) -/
  | shrFswap (m : W32)
  /-- SHR_CLK_RESTART: A write of SHR_CLK_RESTART restarts the dividers of the engines of the mask. (R396) -/
  | shrClkRestart (m : W32)
  /-- SHR_FLAGS_SET: A host write of SHR_FLAGS_SET sets shared flags. (R408) -/
  | shrFlagsSet (v : BitVec 16)
  /-- SHR_FLAGS_CLR: A host write of SHR_FLAGS_CLR clears shared flags. (R408) -/
  | shrFlagsClr (v : BitVec 16)
  /-- SHR_IRQ_SET: A host write of SHR_IRQ_SET sets event latches of an engine. (R410) -/
  | shrIrqSet (e : Fin 32) (v : BitVec 8)
  /-- SHR_PM_DATA: An access of SHR_PM_DATA reads or writes a shadow program word and advances SHR_PM_IDX. (R421) -/
  | shrPmData (r : Req) (e : Fin 32) (wr : Option (BitVec 16))
  /-- BANK_MISMATCH: A VDDIO that disagrees with its declaration holds the bank at high impedance until agreement. (R414) -/
  | bankMismatch (k : Fin 8) (v33 : Bool)
  /-- PHASE_PASS: A woken gateway thread executes the enabled image entries of its groups, after sending queued host writes. (R435) -/
  | phasePass (j : Fin 8) (cut : Option (Fin 4096))
  /-- FRAME_PASS: A gateway thread executes the entries fed by the flow of a popped frame and releases it. (R435) -/
  | framePass (j : Fin 8)
  /-- REMOTE_POLL_DUE: A remote falls due every PERIOD_MS and is signalled to its gateway thread, or counts a miss. (R441) -/
  | remotePollDue (r : Fin 256)
  /-- POLL_DONE: A POLL_DONE message makes the executor write GW_RACK. (R442) -/
  | pollDone (j : Fin 8)
  /-- WRITE_DONE: A WRITE_DONE message completes a posted write and logs a failure. (R445) -/
  | writeDone (j : Fin 8)
  /-- GW_RACK: A write of GW_RACK clears PENDING, MISS_RUN and LOST and may ring a doorbell. (R442) -/
  | gwRack (r : Fin 256) (int : Bool)
  /-- GW_HWQ_PUSH: A host write of GW_HWQ_PUSH enters a posted remote write into the host queue or drops it. (R443) -/
  | gwHwqPush (tag : BitVec 16)
  /-- GW_CNT_ADD: A write of GW_CNT_ADD adds an amount to a gateway counter. (R446) -/
  | gwCntAdd (sel : Fin 16) (n : W24)
  /-- GW_HANDOVER_DONE: The passes that began before a table flip end and the inactive bank passes to the host. (R430) -/
  | gwHandoverDone
  /-- USC_MESSAGE: Owl checks a tapped USC message and accepts, discards or faults the connection. (R460) -/
  | uscMessage
  /-- USC_DEADLINE: The axis reaches D without a timely accepted message and the connection faults. (R462) -/
  | uscDeadline (c : Fin 256)
  /-- USC_BACKSTOP: BACKSTOP_US passes on OCLK without an accepted message and the connection faults. (R462) -/
  | uscBackstop (c : Fin 256)
  /-- USC_SKEW_CLOSE: A two-copy window closes with one copy, which is checked alone or discarded. (R464) -/
  | uscSkewClose (c : Fin 256)
  /-- OWL_THREAD_REPORT: A WDK write of a safety thread reaches Owl as a restart and demand. (R453) -/
  | owlThreadReport
  /-- OWL_THREAD_TIMEOUT: A thread entry sees no restart within MAX_US and faults. (R656) -/
  | owlThreadTimeout (k : Fin 16)
  /-- OWL_DEMAND: A host write of OWL_DEMAND changes the demand or is a DEMAND_BAD fault. (R453) -/
  | owlDemand (v : W32)
  /-- SUPPLY_FAULT: A supply leaves its Owl window and Owl locks out. (R456) -/
  | supplyFault (m : Fin 5)
  /-- CLOCK_FAULT: A clock deviates by more than 5 % and Owl locks out. (R456) -/
  | clockFault (k : Fin 6)
  /-- READBACK_FAULT: A safe-output readback differs from its command for 5 us and Owl locks out. (R455) -/
  | readbackFault (k : Fin 4) (a : BitVec 4) (b : BitVec 4)
  /-- TEST_PULSE: Every TP_MS Owl pulses one driver of each energised output low and checks its readback. (R455) -/
  | testPulse (k : Fin 4) (fail : Bool)
  /-- OWL_INTERNAL_FAULT: A lock-step mismatch, Owl memory error or watchdog expiry drives all outputs low and restarts Owl. (R450) -/
  | owlInternalFault
  /-- FORCE_LOCK: A write of OWL_CTRL.FORCE_LOCK sets the lock-out latch. (R470) -/
  | forceLock
  /-- SAFE_ACK_FALL: SAFE_ACK_N goes low and the unlock sequence enters ACK_LOW. (R471) -/
  | safeAckFall
  /-- SAFE_ACK_RISE: SAFE_ACK_N rises after 100 ms to 30 s; Owl ends inactive causes and places an unlock nonce. (R471) -/
  | safeAckRise (clk : Bool)
  /-- ACK_STUCK: SAFE_ACK_N stays low for more than 30 s and ACK_STUCK is set. (R471) -/
  | ackStuck
  /-- UNLOCK_WINDOW_EXPIRE: 10 s after step 2 without unlock the nonce window closes. (R471) -/
  | unlockWindowExpire
  /-- OWL_TW_ACK: A write of OWL_TW_ACK leads thread entries from WAIT_ACK to RUN. (R656) -/
  | owlTwAck (m : BitVec 16)
  /-- OWL_C_ACK: A write of OWL_C_ACK leads a connection from WAIT_ACK to RUN. (R467) -/
  | owlCAck (c : Fin 256)
  /-- OWL_AUTH_REQ: A write of OWL_AUTH_CTRL.REQ computes the content hash and places an authorisation nonce. (R475) -/
  | owlAuthReq
  /-- OWL_AUTH_GO: A write of OWL_AUTH_CTRL.GO checks the token and appends a CONFIG log entry. (R475) -/
  | owlAuthGo
  /-- LOG_ENTRY_WRITTEN: A change-log entry reaches boot flash and is read back, setting READY for a CONFIG entry. (R477) -/
  | logEntryWritten
  /-- QSPI_READ: A QSPI READ command returns wait bytes, sync and register or memory data. (R490) -/
  | qspiRead (a : W24) (wait : Nat) (n : Nat)
  /-- QSPI_WRITE: A QSPI WRITE command performs 32-bit register writes or byte memory writes. (R491) -/
  | qspiWrite (a : W24) (bytes : List Byte)
  /-- QSPI_STATUS: A QSPI STATUS command returns the interrupt and pending-write bits. (R490) -/
  | qspiStatus
  /-- LBUS_HALFWORD_WRITE: An LBUS halfword write to BAR0 is held or completes the 32-bit write, or is discarded as PARTIAL_WRITE. (R489) -/
  | lbusHalfwordWrite (a : BitVec 20) (be : BitVec 2) (v : BitVec 16)
  /-- MBX_D2H_PEND: A W1C write of MBX_D2H_PEND clears device-to-host doorbell bits. (R493) -/
  | mbxD2hPend (v : WriteIn)
  /-- MBX_D2H_MASK: A write of MBX_D2H_MASK may raise an interrupt message for pending bits. (R493) -/
  | mbxD2hMask (v : W32)
  /-- MBX_H2D_SET: A write of MBX_H2D_SET sets host-to-device doorbell bits, delivered while unmasked. (R494) -/
  | mbxH2dSet (v : W32)
  /-- MBX_H2D_MASK: A write of MBX_H2D_MASK delivers pending host-to-device bits that become unmasked. (R494) -/
  | mbxH2dMask (v : W32)
  /-- MBX_POST: A write of MBX_POSTn posts a command block, or is refused in BUSY. (R495) -/
  | mbxPost (n : Fin 8) (v : W32)
  /-- MAILBOX_FETCH: The supervisor fetches and checks a posted command block, failing with FETCH_FAULT or readying it to run. (R496) -/
  | mailboxFetch (n : Fin 8) (data : Option (List Byte))
  /-- MBX_PWE_POP: A delivered read of MBX_PWE_POP removes the oldest posted-write error record. (R500) -/
  | mbxPwePop
  /-- MBX_HTX_PUSH: A write of MBX_HTX_PUSH submits a host frame, or is logged HTX_FULL. (R502) -/
  | mbxHtxPush (v : W32)
  /-- HTX_COPY: A queued host submission is copied into staging cells once they are free and enters FP14. (R502) -/
  | htxCopy (data : Option (List Byte)) (h : W24)
  /-- MBX_HTXC_POP: A delivered read of MBX_HTXC_POP removes the oldest host transmit completion. (R503) -/
  | mbxHtxcPop
  /-- HRX_WRITE: A frame for FP14 is written into the host receive ring when it has room, advancing PROD. (R504) -/
  | hrxWrite (mh : W24)
  /-- HOST_LINK_DOWN: The PCIe link goes down or PERST_N asserts; undelivered reads lose their effects. (R505) -/
  | hostLinkDown
  /-- HOST_LINK_UP: The PCIe link returns and doorbell bit 30 is set. (R505) -/
  | hostLinkUp (two : Bool) (rate : Fin 3)
  /-- D3HOT_ENTRY: The endpoint enters D3hot and stops initiating requests. (R483) -/
  | d3hotEntry
  /-- D0_RETURN: The endpoint returns to D0 and pending doorbells interrupt. (R483) -/
  | d0Return
  /-- HELLO: Command HELLO selects the command-set version and opens the session. (R514) -/
  | hello (m : Fin 9)
  /-- GET_INFO: Command GET_INFO returns device identity and state. (R513) -/
  | getInfo (m : Fin 9)
  /-- PROFILE_SELECT: Command PROFILE_SELECT writes a selection record copy. (R534) -/
  | profileSelect (m : Fin 9) (ok : Bool)
  /-- PROFILE_SWITCH: Command PROFILE_SWITCH switches to another profile, hitless when compatible. (R549) -/
  | profileSwitch (m : Fin 9) (rdA : BootRd) (rdB : BootRd)
  /-- PROFILE_STORE: Command PROFILE_STORE verifies and writes both copies of a profile slot. (R548) -/
  | profileStore (m : Fin 9) (data : Option (List Byte)) (okA : Bool) (okB : Bool)
  /-- APPLY: Command APPLY requests an APPLY and returns its result. (R515) -/
  | apply (m : Fin 9)
  /-- FLOW_OPEN: Command FLOW_OPEN writes contexts and applies scope FLOW. (R516) -/
  | flowOpen (m : Fin 9)
  /-- FLOW_CLOSE: Command FLOW_CLOSE clears pending OPEN of contexts and applies. (R516) -/
  | flowClose (m : Fin 9)
  /-- LEASE_OPEN: Command LEASE_OPEN opens the snapshot lease. (R517) -/
  | leaseOpen (m : Fin 9)
  /-- LEASE_CLOSE: Command LEASE_CLOSE closes the lease and reports its state. (R517) -/
  | leaseClose (m : Fin 9)
  /-- COUNTER_SNAPSHOT_TAKE: Command COUNTER_SNAPSHOT with OP TAKE requests a snapshot and waits for its edge. (R517) -/
  | counterSnapshotTake (m : Fin 9)
  /-- COUNTER_SNAPSHOT_RELEASE: Command COUNTER_SNAPSHOT with OP RELEASE ends the hold. (R517) -/
  | counterSnapshotRelease (m : Fin 9)
  /-- COUNTER_SNAPSHOT_CANCEL: Command COUNTER_SNAPSHOT with OP CANCEL withdraws a pending snapshot. (R517) -/
  | counterSnapshotCancel (m : Fin 9)
  /-- ENGINE_LOAD: Command ENGINE_LOAD verifies and loads an engine image. (R518) -/
  | engineLoad (m : Fin 9) (data : Option (List Byte))
  /-- ENGINE_START: Command ENGINE_START starts the engines of a mask together. (R518) -/
  | engineStart (m : Fin 9)
  /-- ENGINE_STOP: Command ENGINE_STOP stops the engines of a mask. (R518) -/
  | engineStop (m : Fin 9)
  /-- RETIRE: Command RETIRE retires a channel with cause COMMAND. (R519) -/
  | retire (m : Fin 9)
  /-- RETIRE_CLEAR: Command RETIRE_CLEAR returns a retired channel to service. (R578) -/
  | retireClear (m : Fin 9)
  /-- SYNC: Command SYNC fences earlier host writes and reports posted-write failures. (R501) -/
  | sync (m : Fin 9)
  /-- RING_ROLE_SET: Command RING_ROLE with OP SET applies a new rank and COLD_EN. (R520) -/
  | ringRoleSet (m : Fin 9)
  /-- RING_ROLE_RESYNC: Command RING_ROLE with OP RESYNC writes RING_CTRL.RESYNC. (R520) -/
  | ringRoleResync (m : Fin 9)
  /-- RING_ROLE_LEAVE: Command RING_ROLE with OP LEAVE applies RING_CFG.EN = 0. (R520) -/
  | ringRoleLeave (m : Fin 9)
  /-- RING_ROLE_ENTER: Command RING_ROLE with OP ENTER applies RING_CFG.EN = 1. (R520) -/
  | ringRoleEnter (m : Fin 9)
  /-- CAN_RECOVER: Command CAN_RECOVER starts bus-off recovery of a controller. (R521) -/
  | canRecover (m : Fin 9)
  /-- SAFE_UNLOCK: Command SAFE_UNLOCK checks the unlock token and clears the lock-out latch. (R523) -/
  | safeUnlock (m : Fin 9)
  /-- PASSWORD_CHANGE: Command PASSWORD_CHANGE sets a new safety password under a token. (R523) -/
  | passwordChange (m : Fin 9)
  /-- ATTEST: Command ATTEST writes a signed attestation report. (R553) -/
  | attest (m : Fin 9)
  /-- KEY_ENROLL: Command KEY_ENROLL writes an owner-key hash into an OTP slot. (R551) -/
  | keyEnroll (m : Fin 9) (data : Option (List Byte)) (took : Bool) (ok : Bool)
  /-- KEY_REVOKE: Command KEY_REVOKE revokes an owner-key slot. (R551) -/
  | keyRevoke (m : Fin 9) (data : Option (List Byte)) (took : Bool) (ok : Bool)
  /-- MBIST: Command MBIST runs the march test over a mask of units. (R525) -/
  | mbist (m : Fin 9) (fails : BitVec 64)
  /-- POWER_STATE: Command POWER_STATE performs a device state transition. (R594) -/
  | powerState (m : Fin 9)
  /-- COMMAND_TIMEOUT: A command exceeds its bound or TMO_MS, cancels what it waits for and returns TIMEOUT. (R511) -/
  | commandTimeout (m : Fin 9)
  /-- JTAG_AUTH: A JTAG AUTH exchange grants a debug level or counts a failure. (R554) -/
  | jtagAuth (pub : List Byte) (sig : List Byte) (level : Byte)
  /-- DEN_TRNG: A delivered read of DEN_TRNG returns a random word. (R555) -/
  | denTrng
  /-- BANK_HANDOVER: A write of MEM_BANK_OWNb.OWNER hands a Common RAM bank to a new owner, optionally clearing it. (R563) -/
  | bankHandover (b : Fin 32) (v : W32)
  /-- BANK_CLEAR_DONE: The march engine finishes zeroing a handed-over bank and the new owner's accesses proceed. (R563) -/
  | bankClearDone (b : Fin 32)
  /-- SCRUB_PASS_END: A scrub period ends; the pass completes or LATE is set. (R560) -/
  | scrubPassEnd (done : Bool)
  /-- MEM_UE_POP: A delivered read of MEM_UE_POP removes the oldest UE log record. (R570) -/
  | memUePop
  /-- MEM_REFUSE_POP: A delivered read of MEM_REFUSE_POP removes the oldest refusal record. (R570) -/
  | memRefusePop
  /-- RETIREMENT: A channel with a permanent fault or RETIRE is retired with the action of Table 18-2. (R575) -/
  | retirement (kind : Fin 6) (n : Fin 34)
  /-- HEALTH_LOG_WRITE: The supervisor writes and reads back a health record in flash. (R580) -/
  | healthLogWrite (ok : Bool)
  /-- EVENT_AGGREGATE: An event moves from the input queue into an open record of its cause key or opens one. (R582) -/
  | eventAggregate
  /-- RECORD_CLOSE: An open event record closes after HOLD_US or MAX_MS and enters the host FIFO. (R583) -/
  | recordClose (i : Fin 64)
  /-- EVT_FLUSH: A write of EVT_CTRL.FLUSH closes every open record. (R583) -/
  | evtFlush
  /-- EVT_POP: A delivered read of EVT_POP removes the oldest event record. (R588) -/
  | evtPop
  /-- POWER_FAIL: PFAIL_N or brown-out starts the power-fail path and the last gasp. (R585) -/
  | powerFail (pin : Bool) (core : Bool) (serdes : Bool) (aon : Bool)
  /-- PWR_RESTORED: PFAIL_N and brown-out clear for 10 ms and flash writes resume. (R587) -/
  | pwrRestored
  /-- RESET: A supply leaving range, RESET_N or EARLY_PWR_N resets every domain but AON. (R590) -/
  | reset (cause : Fin 3)
  /-- RESET_RELEASE: Reset is released, pins are sampled and the boot of Table 16-2 runs. (R590) -/
  | resetRelease (b : BootIn)
  /-- VDD_AON_RISE: VDD_AON rises into its window and sets the lock-out latch with cause POWER_ON. (R470) -/
  | vddAonRise
  /-- REFERENCE_LOSS: A PLL loses its reference and coasts, idles the ring or drops the link. (R597) -/
  | referenceLoss (k : Fin 6)
  /-- AVS_STEP: In an open window the AVS loop steps a domain target and requests VDD_CORE. (R600) -/
  | avsStep (d : Fin 10) (slack : BitVec 8)
  /-- AVS_TIMEOUT: The regulator does not confirm within 5 us and AVS_TMO is set. (R600) -/
  | avsTimeout
  /-- DFS_STEP: In an open window the DFS loop changes a cluster FCLK step. (R602) -/
  | dfsStep (c : Fin 2) (occ : BitVec 8)
  /-- RING_EQ_STEP: In an open window ring equalisation changes one code. (R284) -/
  | ringEqStep (p : Fin 2) (dfe : Bool) (code : BitVec 8)
  /-- MAINS_THRESHOLD_STEP: In an open window the MAINS_IN threshold moves one 2 mV step. (R603) -/
  | mainsThresholdStep (m : Fin 2) (mid : BitVec 10)
  /-- THERMAL_CAP: The hottest sensor crosses WARN_C or HOT_C and the FCLK cap changes. (R604) -/
  | thermalCap (t0 : BitVec 11) (t1 : BitVec 11) (t2 : BitVec 11) (t3 : BitVec 11)
  /-- THERMAL_TRIP: The trip temperature held 10 us sends the device to OFF. (R604) -/
  | thermalTrip
  /-- PLACEMENT_MIGRATION: In an open class 7 window the placement loop begins one migration. (R605) -/
  | placementMigration (le : Fin 16)
  /-- CARD_INSERT: CARD_PRESENT_N low for 10 ms ends isolation and applies the active configuration. (R606) -/
  | cardInsert
  /-- CARD_EXTRACT: CARD_PRESENT_N seen high idles ring and port transmitters and isolates the card. (R607) -/
  | cardExtract
  /-- RING_SIGNAL_DETECTED: A ring port detects signal from its partner (LOS ends) and starts link training. (R284) -/
  | ringSignalDetected (p : Fin 2)
  /-- REFERENCE_RETURN: A lost PLL reference returns and the PLL relocks within its bound, restoring its clocks and lock status. (R597) -/
  | referenceReturn (k : Fin 6)
  /-- SUPPLY_RETURN: A supply returns into its Owl window and recommended range, ending the SUPPLY condition and starting the reset-release count. (R657) -/
  | supplyReturn (k : Fin 5)
  /-- ACK_STUCK_CLEAR: After ACK_STUCK, SAFE_ACK_N has been high for 1 s and the acknowledge state leaves ACK_STUCK. (R471) -/
  | ackStuckClear
  /-- TT_SYNC_LOST: No reference message arrives within CYCLE_NTU + 256 NTU and TT_SYNC clears. (R387) -/
  | ttSyncLost (n : Fin 4)
  /-- RESERVED_CONTROL_BLOCK: A received control block of a reserved type is discarded and counted in CTRL_BAD. (R288) -/
  | reservedControlBlock (p : Fin 2) (ty : Fin 16)
  /-- SCRUB_CORRECTION: The scrubber reads a word, finds an ECC error, writes back a correction or logs an uncorrectable error, and counts it against the channel. (R560) -/
  | scrubCorrection (t : Fin 5) (u : Fin 64) (w : BitVec 16) (ue : Bool) (wr : Bool)
  /-- TX_ENABLED_GATE_CLOSED: The guardian reports the ring transmitter enabled while its gate is closed, and Owl reacts under OWL_GUARD.REACT. (R456) -/
  | txEnabledGateClosed
  deriving DecidableEq, Repr

end Sys2Proof
end

