-- ==== Sys2Proof/Decode.lean ====
section
/-!
DEFINITION. The command a word spells by the bits of the opcode table, and the instructions that the words of Fox and Shrew
programs spell by Tables 4-4, 5-1 and 11-1. The opcode table gives no row any bits: its rows are the operations and events of
the device, so no word of the table spells one. The words of IM and of Shrew program memory are decoded here as an engine
fetches them.
Assumption log: 2, 16.
-/
namespace Sys2Proof

/-- No row of the table has bits, so no word spells a command. -/
def decodeTableWord (_nbits _w : Nat) : Option Instr := none

/-- The long operation of an opcode, for thread `k` with condition `c` and operands `o` (Tables 4-4 and 5-1); none for a
reserved opcode (R142, R161). -/
def foxLong (op : Nat) (k : Fin 64) (c : Fin 16) (o : BitVec 36) : Option Instr :=
  match op with
  | 0x00 => some (.fxNop k c o)
  | 0x01 => some (.fxAdd k c o)
  | 0x02 => some (.fxAdc k c o)
  | 0x03 => some (.fxSub k c o)
  | 0x04 => some (.fxSbc k c o)
  | 0x05 => some (.fxAnd k c o)
  | 0x06 => some (.fxOr k c o)
  | 0x07 => some (.fxXor k c o)
  | 0x08 => some (.fxAndn k c o)
  | 0x09 => some (.fxMin k c o)
  | 0x0A => some (.fxMax k c o)
  | 0x0B => some (.fxMinu k c o)
  | 0x0C => some (.fxMaxu k c o)
  | 0x0D => some (.fxCmp k c o)
  | 0x0E => some (.fxTst k c o)
  | 0x0F => some (.fxMov k c o)
  | 0x11 => some (.fxAddi k c o)
  | 0x12 => some (.fxAdci k c o)
  | 0x13 => some (.fxSubi k c o)
  | 0x14 => some (.fxSbci k c o)
  | 0x15 => some (.fxAndi k c o)
  | 0x16 => some (.fxOri k c o)
  | 0x17 => some (.fxXori k c o)
  | 0x18 => some (.fxAndni k c o)
  | 0x19 => some (.fxMini k c o)
  | 0x1A => some (.fxMaxi k c o)
  | 0x1B => some (.fxMinui k c o)
  | 0x1C => some (.fxMaxui k c o)
  | 0x1D => some (.fxCmpi k c o)
  | 0x1E => some (.fxTsti k c o)
  | 0x1F => some (.fxMovi k c o)
  | 0x20 => some (.fxLsl k c o)
  | 0x21 => some (.fxLsr k c o)
  | 0x22 => some (.fxAsr k c o)
  | 0x23 => some (.fxRor k c o)
  | 0x24 => some (.fxLsli k c o)
  | 0x25 => some (.fxLsri k c o)
  | 0x26 => some (.fxAsri k c o)
  | 0x27 => some (.fxRori k c o)
  | 0x28 => some (.fxNeg k c o)
  | 0x29 => some (.fxNot k c o)
  | 0x2A => some (.fxAbs k c o)
  | 0x2B => some (.fxClz k c o)
  | 0x2C => some (.fxBset k c o)
  | 0x2D => some (.fxBclr k c o)
  | 0x2E => some (.fxBtst k c o)
  | 0x2F => some (.fxTfc k c o)
  | 0x30 => some (.fxMul k c o)
  | 0x31 => some (.fxMulu k c o)
  | 0x32 => some (.fxMac k c o)
  | 0x33 => some (.fxMacu k c o)
  | 0x34 => some (.fxMsu k c o)
  | 0x35 => some (.fxMacz k c o)
  | 0x36 => some (.fxExa k c o)
  | 0x38 => some (.fxLd k c o)
  | 0x39 => some (.fxSt k c o)
  | 0x3A => some (.fxLdi k c o)
  | 0x3B => some (.fxSti k c o)
  | 0x3C => some (.fxMovsRead k c o)
  | 0x3D => some (.fxMovsWrite k c o)
  | 0x3E => some (.fxGld k c o)
  | 0x3F => some (.fxGst k c o)
  | 0x40 => some (.fxB k c o)
  | 0x41 => some (.fxBr k c o)
  | 0x42 => some (.fxCall k c o)
  | 0x43 => some (.fxCallr k c o)
  | 0x44 => some (.fxRet k c o)
  | 0x45 => some (.fxRett k c o)
  | 0x46 => some (.fxDbnz k c o)
  | 0x47 => some (.fxRep k c o)
  | 0x48 => some (.fxRepLc k c o)
  | 0x50 => some (.fxFrd k c o)
  | 0x51 => some (.fxFwr k c o)
  | 0x52 => some (.fxFsetl k c o)
  | 0x53 => some (.fxFinfo k c o)
  | 0x54 => some (.fxDpop k c o)
  | 0x55 => some (.fxFnew k c o)
  | 0x56 => some (.fxFrel k c o)
  | 0x57 => some (.fxDpush k c o)
  | 0x58 => some (.fxDpushr k c o)
  | 0x59 => some (.fxCpop k c o)
  | 0x5A => some (.fxCrcf k c o)
  | 0x5B => some (.fxCrcr k c o)
  | 0x5C => some (.fxCsumf k c o)
  | 0x5D => some (.fxHash k c o)
  | 0x5E => some (.fxFext k c o)
  | 0x5F => some (.fxFins k c o)
  | 0x60 => some (.fxScale k c o)
  | 0x61 => some (.fxTsr k c o)
  | 0x62 => some (.fxFrxts k c o)
  | 0x63 => some (.fxWaitph k c o)
  | 0x64 => some (.fxWaitev k c o)
  | 0x65 => some (.fxSignal k c o)
  | 0x66 => some (.fxSignalr k c o)
  | 0x67 => some (.fxDoorbell k c o)
  | 0x68 => some (.fxDoorbellr k c o)
  | 0x69 => some (.fxShput k c o)
  | 0x6A => some (.fxShget k c o)
  | 0x70 => some (.fxXld k c o)
  | 0x71 => some (.fxXst k c o)
  | 0x72 => some (.fxTwake k c o)
  | 0x73 => some (.fxFadopt k c o)
  | _ => none

/-- The instruction of a Fox word (R134, R135): bit 47 says paired or long, [46:43] the condition, [42:36] the opcode, [35:0]
the operands; none for a reserved opcode. -/
def foxDecode (k : Fin 64) (w : BitVec 48) : Option Instr :=
  if w.getLsbD 47 then some (.fxPair k (w.setWidth 47))
  else foxLong (w.toNat / 2 ^ 36 % 128) k ⟨w.toNat / 2 ^ 43 % 16, Nat.mod_lt _ (by decide)⟩ (w.setWidth 36)

/-- The instruction of a Shrew word (Table 11-1), for engine `e` and what it sees on the tick; none for a reserved opcode or a
reserved SUB of SHIFT (R397). -/
def shrDecode (e : Fin 32) (x : ShTick) (w : BitVec 16) : Option Instr :=
  let o : BitVec 12 := w.setWidth 12
  match w.toNat / 4096 with
  | 0x0 => some (.shrewBr e x o)
  | 0x1 => some (.wait e x o)
  | 0x2 => some (.set e x o)
  | 0x3 => some (.ldc e x o)
  | 0x4 => some (.out e x o)
  | 0x5 => some (.shIn e x o)
  | 0x6 => (match w.toNat / 1024 % 4 with
    | 0 => some (.shiftPush e x (w.setWidth 10))
    | 1 => some (.shiftPull e x (w.setWidth 10))
    | 2 => some (.shiftClr e x (w.setWidth 10))
    | _ => none)
  | 0x7 => some (.shrewMov e x o)
  | 0x8 => some (.loop e x o)
  | 0x9 => some (.flag e x o)
  | 0xA => some (.qstep e x o)
  | 0xB => some (.axp e x o)
  | 0xC => some (.halt e x o)
  | _ => none

end Sys2Proof
end

