-- ==== Sys2Proof/Machine/Bits.lean ====
section
/-!
DEFINITION. Bit fields, signs and byte orders on natural numbers, and the CRC and checksum steps of R179-R181.
-/
namespace Sys2Proof

/-- `w` bits of `v` from bit `lo` up (R4). -/
def bitsAt (v lo w : Nat) : Nat := v / 2 ^ lo % 2 ^ w
/-- Bit `i` of `v` as a number. -/
def bitAt (v i : Nat) : Nat := v / 2 ^ i % 2
/-- Bit `i` of `v`. -/
def hasBit (v i : Nat) : Bool := bitAt v i == 1
/-- `v` with bit `i` set. -/
def setBit (v i : Nat) : Nat := if hasBit v i then v else v + 2 ^ i
/-- `v` with bit `i` cleared. -/
def clrBit (v i : Nat) : Nat := if hasBit v i then v - 2 ^ i else v
/-- The signed value of `w` bits. -/
def sgn (w v : Nat) : Int := if v % 2 ^ w < 2 ^ (w - 1) then (v % 2 ^ w : Nat) else ((v % 2 ^ w : Nat) : Int) - (2 ^ w : Nat)
/-- An integer modulo 2^w. -/
def wrapI (w : Nat) (x : Int) : Nat := (x % ((2 ^ w : Nat) : Int)).toNat
/-- An integer clamped to the signed range of `w` bits. -/
def clampS (w : Nat) (x : Int) : Int :=
  if x > ((2 ^ (w - 1) : Nat) : Int) - 1 then ((2 ^ (w - 1) : Nat) : Int) - 1
  else if x < -((2 ^ (w - 1) : Nat) : Int) then -((2 ^ (w - 1) : Nat) : Int) else x
/-- The value of bytes with the first byte least significant (R5, little-endian). -/
def leBytes : List Byte → Nat
  | [] => 0
  | b :: r => b.toNat + 256 * leBytes r
/-- The value of bytes with the first byte most significant (R5, network order). -/
def beBytes (l : List Byte) : Nat := leBytes l.reverse
/-- `n` bytes of `v`, least significant first. -/
def toLe (v : Nat) : Nat → List Byte
  | 0 => []
  | n + 1 => BitVec.ofNat 8 v :: toLe (v / 256) n
/-- `n` bytes of `v`, most significant first. -/
def toBe (v n : Nat) : List Byte := (toLe v n).reverse
/-- The numbers below `n` whose bit is set in `mask`, ascending. -/
def bitsOf (mask n : Nat) : List Nat := (List.range n).filter (fun i => hasBit mask i)
/-- The mask with the bits of a list set. -/
def maskOf (l : List Nat) : Nat := l.foldl setBit 0
/-- Saturating count: at most 2^w - 1. -/
def satAdd (w v n : Nat) : Nat := if v + n < 2 ^ w then v + n else 2 ^ w - 1
/-- The number of bits set among the lowest `n`. -/
def popCount (mask n : Nat) : Nat := (bitsOf mask n).length
/-- The bits of `v` reversed over a width. -/
def revBits (v w : Nat) : Nat := maskOf ((bitsOf v w).map (fun i => w - 1 - i))
/-- Bitwise exclusive or. -/
def xorN (a b : Nat) : Nat := Nat.xor a b
/-- The bits of `m` cleared in `v`. -/
def andnN (v m : Nat) : Nat := Nat.xor v (Nat.land v m)

/-- A polynomial of Table 5-6: width, polynomial, reflected. -/
structure CrcPoly where
  w : Nat
  poly : Nat
  refl : Bool

/-- Table 5-6 (R179). -/
def crcPoly (sel : Nat) : CrcPoly :=
  match sel % 4 with
  | 0 => { w := 32, poly := 0x04C11DB7, refl := true }
  | 1 => { w := 32, poly := 0x1EDC6F41, refl := true }
  | 2 => { w := 16, poly := 0x1021, refl := false }
  | _ => { w := 8, poly := 0x07, refl := false }

/-- The 24-bit polynomial of HASH (R181). -/
def hashPoly : CrcPoly := { w := 24, poly := 0x864CFB, refl := false }

/-- `n` bit steps of the CRC update (R179). -/
def crcBits (p : CrcPoly) : Nat → Nat → Nat
  | 0, crc => crc
  | n + 1, crc =>
    crcBits p n (if p.refl then xorN (crc / 2) (if crc % 2 = 1 then revBits p.poly p.w else 0)
      else xorN (crc * 2 % 2 ^ p.w) (if hasBit crc (p.w - 1) then p.poly else 0))

/-- One byte fed into a CRC register (R179). -/
def crcByte (p : CrcPoly) (crc : Nat) (x : Byte) : Nat :=
  crcBits p 8 (if p.refl then xorN crc x.toNat else xorN crc (x.toNat * 2 ^ (p.w - 8)))

/-- Bytes fed in order (R179). -/
def crcFeed (p : CrcPoly) (crc : Nat) (l : List Byte) : Nat := l.foldl (crcByte p) crc

/-- CRC-32 of IEEE 802.3 with its initial value and final XOR (Table 5-6, row 0). -/
def crc32 (l : List Byte) : Nat := xorN (crcFeed (crcPoly 0) 0xFFFFFFFF l) 0xFFFFFFFF

/-- The USC check value: polynomial 1 with initial value and final XOR 0xFFFFFFFF (Table 5-6). -/
def crc32c (l : List Byte) : Nat := xorN (crcFeed (crcPoly 1) 0xFFFFFFFF l) 0xFFFFFFFF

/-- One step of the flow hash (R181). -/
def hashStep (a b : Nat) : Nat := crcFeed hashPoly a (toBe b 3)

/-- Ones-complement sum of big-endian 16-bit words with end-around carry, an odd byte padded with zero (R180). -/
def csum (acc : Nat) : List Byte → Nat
  | [] => acc
  | [x] => let t := acc + x.toNat * 256; if t < 65536 then t else t - 65535
  | x :: y :: r => let t := acc + (x.toNat * 256 + y.toNat); csum (if t < 65536 then t else t - 65535) r

end Sys2Proof
end

