-- ==== Sys2Proof/Config.lean ====
section
/-!
DEFINITION. What a device or its board fixes, and the free values: constants with no body, so nothing can be proved
about their value. Every constant is named in an entry of the assumption log.
Assumption log: 6, 10, 12, 13, 14.
-/
namespace Sys2Proof.Config

/-- Ordering code: true for LVX-2416-EB (Table 0-1, R1; GLB_ORDER is per device). -/
opaque orderEB : Bool
/-- The assigned PCIe Vendor ID (Table 14-1: not given as a number). -/
opaque vendorId : BitVec 16
/-- The 48-bit node identity of the device (GLB_NODE_ID, RING_ID: per device). -/
opaque nodeId : BitVec 48
/-- DEN_OTP as delivered: REVOKED [31:28], ENROLLED [27:24], JTAG_L2_DIS [17], JTAG_DIS [16], PROFILE_LOCK_EN [8],
PROFILE_LOCK_SLOT [2:0] (per device). -/
opaque otpWord : BitVec 32
/-- The anti-rollback counter of the device as delivered (per device). -/
opaque rollback : BitVec 64
/-- The increments the OTP still allows to the anti-rollback counter (per device). -/
opaque rollbackLeft : BitVec 9
/-- Word `i` (12 per slot) of the owner-key hashes of the device (per device). -/
opaque keyHash : Nat → BitVec 32
/-- OWL_STATUS.NOPW of the device: no safety password set (per device). -/
opaque noPassword : Bool
/-- The safety-password salt of the device, word `i` (per device). -/
opaque salt : Nat → BitVec 32
/-- The stored 48-byte password hash H of the device, byte `i` (per device, R472). -/
opaque pwHash : Nat → BitVec 8
/-- The change-log sequence number held in flash at reset (per device). -/
opaque logSeq : BitVec 32
/-- The change-log chain head, word `i`, held in flash at reset (per device). -/
opaque logHead : Nat → BitVec 32
/-- SHA-384 of a byte string as 48 bytes. The standard's function, left without a body. -/
opaque sha384 : List (BitVec 8) → Nat → BitVec 8
/-- ECDSA P-384 verification of a signature over a digest under a key hash and key; the standard's function. -/
opaque ecdsaOk : List (BitVec 8) → List (BitVec 8) → List (BitVec 8) → Bool
/-- The device's ECDSA signature of a digest (ATTEST), byte `i`. -/
opaque ecdsaSign : List (BitVec 8) → Nat → BitVec 8
/-- The hash of the Huanto service key in ROM, byte `i` (48 bytes, R541: not given as a number). -/
opaque serviceKeyHash : Nat → BitVec 8
/-- The gateway executor in ROM: the word at IM address 15,360 + `i` (R427: its code is not given). -/
opaque gwExecutor : Nat → BitVec 48
/-- The device public key, byte `i` of 96 (R552: per device). -/
opaque deviceKey : Nat → BitVec 8
/-- The certificate chain of the device, at most 2,048 bytes (R552: per device). -/
opaque certLen : BitVec 12
opaque cert : Nat → BitVec 8
/-- The rate correction the PPS servo sets (R46: only its time constant is given): IN_TC, the rate in use, the error in
2^-48 ns. -/
opaque ppsServo : Nat → Int → Int → BitVec 32
/-- How fast a mains PLL pulls its phase towards the crossings (R63: between 0.5 and 1.5 times the frequency; only the
bounds are given): BW and the distance. -/
opaque mainsPull : Nat → Int → Nat
/-- The bank group of a new cell among the groups with a free one (R224: the choice of a free cell is not given): the `n`-th
allocation, cell `i` of the frame. -/
opaque cellGroup : Nat → Nat → Nat
/-- The `n`-th 32-bit word the TRNG delivers (random, R555). -/
opaque trng : Nat → BitVec 32
/-- The `n`-th free value the device takes where the manual leaves a value open. -/
opaque free : Nat → BitVec 64

end Sys2Proof.Config
end

