-- ==== Sys2Proof/Machine/Fields.lean ====
section
/-!
DEFINITION. The register fields of BAR0, one definition each: where the first instance lies, its bits, its access
code, whether it is staged, whether it is a counter of the snapshot (R270) and its reset value. The tables of the
chapters give them; the field, not the word, is the home of a register's value.
Assumption log: 6, 7, 26, 62.
-/
namespace Sys2Proof.Machine

/-- The base access codes of Table 0-3 (R11). -/
inductive Acc where
  | rw | ro | wo | w1c | rc
  deriving DecidableEq, Repr

/-- A register field: `id` is 32 times the offset of its first instance plus its lowest bit. -/
structure Field where
  id : Nat
  w : Nat
  acc : Acc
  staged : Bool := false
  counter : Bool := false
  reset : Nat → Nat := fun _ => 0

/-- The BAR0 offset of the field's first instance. -/
def Field.off (f : Field) : Nat := f.id / 32
/-- The lowest bit of the field in its register. -/
def Field.lo (f : Field) : Nat := f.id % 32
/-- The number under which instance `i` of the field is held. -/
def Field.key (f : Field) (i : Nat) : Nat := f.id * 1048576 + i % 1048576

/-- Reset of SW port RES: 80 cells on FP0-7, 16 on FP8-11, 81 on FP12-13, 0 on the others (R230, Table 6-2, R243). -/
def resReset (i : Nat) : Nat := if i < 8 then 80 else if i < 12 then 16 else if i < 14 then 81 else 0
/-- Lower supply thresholds at reset in mV (Table 13-4). -/
def supLoReset (i : Nat) : Nat := match i with | 0 => 605 | 1 => 730 | 2 => 840 | _ => 1680
/-- Upper supply thresholds at reset in mV (Table 13-4). -/
def supHiReset (i : Nat) : Nat := match i with | 0 => 895 | 1 => 860 | 2 => 960 | _ => 1920

end Sys2Proof.Machine

namespace Sys2Proof.Machine.F

/-- TIME_CTRL.PPS_IN_EDGE [4] at 0x02000, RW/S, reset 0 (R84). -/
def timeCtrlPpsInEdge : Field := { id := 262148, w := 1, acc := .rw, staged := true }
/-- TIME_CTRL.PPS_OUT_EN [3] at 0x02000, RW/S, reset 0 (R84). -/
def timeCtrlPpsOutEn : Field := { id := 262147, w := 1, acc := .rw, staged := true }
/-- TIME_CTRL.SRC [2:1] at 0x02000, RW/S, reset 0 (R84). -/
def timeCtrlSrc : Field := { id := 262145, w := 2, acc := .rw, staged := true }
/-- TIME_CTRL.LATCH [0] at 0x02000, WO/L, reset 0 (R84). -/
def timeCtrlLatch : Field := { id := 262144, w := 1, acc := .wo }
/-- TIME_STATUS.SET_BAD [6] at 0x02004, W1C/L, reset 0 (R84). -/
def timeStatusSetBad : Field := { id := 262278, w := 1, acc := .w1c }
/-- TIME_STATUS.SLEW_BUSY [5] at 0x02004, RO/L, reset 0 (R84). -/
def timeStatusSlewBusy : Field := { id := 262277, w := 1, acc := .ro }
/-- TIME_STATUS.SOFT_IGNORED [4] at 0x02004, W1C/L, reset 0 (R84). -/
def timeStatusSoftIgnored : Field := { id := 262276, w := 1, acc := .w1c }
/-- TIME_STATUS.SRC_LOST [3] at 0x02004, W1C/L, reset 0 (R84). -/
def timeStatusSrcLost : Field := { id := 262275, w := 1, acc := .w1c }
/-- TIME_STATUS.VALID [2] at 0x02004, RO/L, reset 0 (R84). -/
def timeStatusValid : Field := { id := 262274, w := 1, acc := .ro }
/-- TIME_STATUS.STATE [1:0] at 0x02004, RO/L, reset 0 (R84). -/
def timeStatusState : Field := { id := 262272, w := 2, acc := .ro }
/-- TIME_LAT_FRAC [15:0] at 0x02008, RO/L, reset 0 (R84). -/
def timeLatFrac : Field := { id := 262400, w := 16, acc := .ro }
/-- TIME_LAT_NS [29:0] at 0x0200C, RO/L, reset 0 (R84). -/
def timeLatNs : Field := { id := 262528, w := 30, acc := .ro }
/-- TIME_LAT_SEC_LO [31:0] at 0x02010, RO/L, reset 0 (R84). -/
def timeLatSecLo : Field := { id := 262656, w := 32, acc := .ro }
/-- TIME_LAT_SEC_HI [15:0] at 0x02014, RO/L, reset 0 (R84). -/
def timeLatSecHi : Field := { id := 262784, w := 16, acc := .ro }
/-- TIME_RATE [31:0] at 0x02018, RW/L, reset 0 (R84). -/
def timeRate : Field := { id := 262912, w := 32, acc := .rw }
/-- TIME_SET_NS [29:0] at 0x0201C, RW/L, reset 0 (R84). -/
def timeSetNs : Field := { id := 263040, w := 30, acc := .rw }
/-- TIME_SET_SEC_LO [31:0] at 0x02020, RW/L, reset 0 (R84). -/
def timeSetSecLo : Field := { id := 263168, w := 32, acc := .rw }
/-- TIME_SET_SEC_HI [15:0] at 0x02024, RW/L, reset 0 (R84). -/
def timeSetSecHi : Field := { id := 263296, w := 16, acc := .rw }
/-- TIME_STEP_NS [31:0] at 0x02028, WO/L, reset 0 (R84). -/
def timeStepNs : Field := { id := 263424, w := 32, acc := .wo }
/-- TIME_SLEW_NS [31:0] at 0x0202C, WO/L, reset 0 (R84). -/
def timeSlewNs : Field := { id := 263552, w := 32, acc := .wo }
/-- TIME_SLEW_CFG.RATE_PPM [8:0] at 0x02030, RW/L, reset 100 (R84). -/
def timeSlewCfgRatePpm : Field := { id := 263680, w := 9, acc := .rw, reset := fun _ => 100 }
/-- TIME_SLEW_REM [31:0] at 0x02034, RO/L, reset 0 (R84). -/
def timeSlewRem : Field := { id := 263808, w := 32, acc := .ro }
/-- TIME_PPS_ERR [31:0] at 0x0203C, RO/L, reset 0 (R84). -/
def timePpsErr : Field := { id := 264064, w := 32, acc := .ro }
/-- TIME_PPS_CFG.IN_TC [19:16] at 0x02038, RW/S, reset 4 (R84). -/
def timePpsCfgInTc : Field := { id := 263952, w := 4, acc := .rw, staged := true, reset := fun _ => 4 }
/-- TIME_PPS_CFG.OUT_WIDTH_MS [9:0] at 0x02038, RW/S, reset 100 (R84). -/
def timePpsCfgOutWidthMs : Field := { id := 263936, w := 10, acc := .rw, staged := true, reset := fun _ => 100 }
/-- TIME_TS_TRIM.TX_TRIM [31:16] at 0x02080 x14, RW/S, reset 0 (R84). -/
def timeTsTrimTxTrim : Field := { id := 266256, w := 16, acc := .rw, staged := true }
/-- TIME_TS_TRIM.RX_TRIM [15:0] at 0x02080 x14, RW/S, reset 0 (R84). -/
def timeTsTrimRxTrim : Field := { id := 266240, w := 16, acc := .rw, staged := true }
/-- TIME_PTP.DOMAIN [19:12] at 0x020C0 x12, RW/S, reset 0 (R84). -/
def timePtpDomain : Field := { id := 268300, w := 8, acc := .rw, staged := true }
/-- TIME_PTP.DOMAIN_EN [11] at 0x020C0 x12, RW/S, reset 0 (R84). -/
def timePtpDomainEn : Field := { id := 268299, w := 1, acc := .rw, staged := true }
/-- TIME_PTP.UDP6 [10] at 0x020C0 x12, RW/S, reset 0 (R84). -/
def timePtpUdp6 : Field := { id := 268298, w := 1, acc := .rw, staged := true }
/-- TIME_PTP.UDP4 [9] at 0x020C0 x12, RW/S, reset 0 (R84). -/
def timePtpUdp4 : Field := { id := 268297, w := 1, acc := .rw, staged := true }
/-- TIME_PTP.L2 [8] at 0x020C0 x12, RW/S, reset 0 (R84). -/
def timePtpL2 : Field := { id := 268296, w := 1, acc := .rw, staged := true }
/-- TIME_PTP.PDELAY_RESP [7:6] at 0x020C0 x12, RW/S, reset 0 (R84). -/
def timePtpPdelayResp : Field := { id := 268294, w := 2, acc := .rw, staged := true }
/-- TIME_PTP.PDELAY_REQ [5:4] at 0x020C0 x12, RW/S, reset 0 (R84). -/
def timePtpPdelayReq : Field := { id := 268292, w := 2, acc := .rw, staged := true }
/-- TIME_PTP.DELAY_REQ [3:2] at 0x020C0 x12, RW/S, reset 0 (R84). -/
def timePtpDelayReq : Field := { id := 268290, w := 2, acc := .rw, staged := true }
/-- TIME_PTP.SYNC [1:0] at 0x020C0 x12, RW/S, reset 0 (R84). -/
def timePtpSync : Field := { id := 268288, w := 2, acc := .rw, staged := true }
/-- TIME_CAP.CFG.AXIS [3:2] at 0x02100 x8, RW/S, reset 0 (R84). -/
def timeCapCfgAxis : Field := { id := 270338, w := 2, acc := .rw, staged := true }
/-- TIME_CAP.CFG.EDGE [1:0] at 0x02100 x8, RW/S, reset 0 (R84). -/
def timeCapCfgEdge : Field := { id := 270336, w := 2, acc := .rw, staged := true }
/-- TIME_CAP.POP.VALID [31] at 0x02104 x8, RC/L, reset 0 (R84). -/
def timeCapPopValid : Field := { id := 270495, w := 1, acc := .rc }
/-- TIME_CAP.POP.HALF [30] at 0x02104 x8, RC/L, reset 0 (R84). -/
def timeCapPopHalf : Field := { id := 270494, w := 1, acc := .rc }
/-- TIME_CAP.POP.NS [29:0] at 0x02104 x8, RC/L, reset 0 (R84). -/
def timeCapPopNs : Field := { id := 270464, w := 30, acc := .rc }
/-- TIME_CAP.SEC.EDGE [8] at 0x02108 x8, RO/L, reset 0 (R84). -/
def timeCapSecEdge : Field := { id := 270600, w := 1, acc := .ro }
/-- TIME_CAP.SEC.SEC [7:0] at 0x02108 x8, RO/L, reset 0 (R84). -/
def timeCapSecSec : Field := { id := 270592, w := 8, acc := .ro }
/-- TIME_CAP.AX_LO [31:0] at 0x0210C x8, RO/L, reset 0 (R84). -/
def timeCapAxLo : Field := { id := 270720, w := 32, acc := .ro }
/-- TIME_CAP.AX_HI [15:0] at 0x02110 x8, RO/L, reset 0 (R84). -/
def timeCapAxHi : Field := { id := 270848, w := 16, acc := .ro }
/-- TIME_CAP.STAT.OVF [8] at 0x02114 x8, W1C/L, reset 0 (R84). -/
def timeCapStatOvf : Field := { id := 270984, w := 1, acc := .w1c }
/-- TIME_CAP.STAT.LEVEL [4:0] at 0x02114 x8, RO/L, reset 0 (R84). -/
def timeCapStatLevel : Field := { id := 270976, w := 5, acc := .ro }
/-- PHS_PX.CFG.MODULO [10] at 0x02400 x4, RW/S, reset 0 (R84). -/
def phsPxCfgModulo : Field := { id := 294922, w := 1, acc := .rw, staged := true }
/-- PHS_PX.CFG.CAPT_EDGE [9:8] at 0x02400 x4, RW/S, reset 0 (R84). -/
def phsPxCfgCaptEdge : Field := { id := 294920, w := 2, acc := .rw, staged := true }
/-- PHS_PX.CFG.SEL [7:3] at 0x02400 x4, RW/S, reset 0 (R84). -/
def phsPxCfgSel : Field := { id := 294915, w := 5, acc := .rw, staged := true }
/-- PHS_PX.CFG.SRC [2:0] at 0x02400 x4, RW/S, reset 0 (R84). -/
def phsPxCfgSrc : Field := { id := 294912, w := 3, acc := .rw, staged := true }
/-- PHS_PX.MOD_LO [31:0] at 0x02404 x4, RW/S, reset 0 (R84). -/
def phsPxModLo : Field := { id := 295040, w := 32, acc := .rw, staged := true }
/-- PHS_PX.MOD_HI [15:0] at 0x02408 x4, RW/S, reset 0 (R84). -/
def phsPxModHi : Field := { id := 295168, w := 16, acc := .rw, staged := true }
/-- PHS_PX.LAT_LO [31:0] at 0x0240C x4, RO/L, reset 0 (R84). -/
def phsPxLatLo : Field := { id := 295296, w := 32, acc := .ro }
/-- PHS_PX.LAT_HI [15:0] at 0x02410 x4, RO/L, reset 0 (R84). -/
def phsPxLatHi : Field := { id := 295424, w := 16, acc := .ro }
/-- PHS_PX.SET_LO [31:0] at 0x02414 x4, RW/L, reset 0 (R84). -/
def phsPxSetLo : Field := { id := 295552, w := 32, acc := .rw }
/-- PHS_PX.SET_HI [15:0] at 0x02418 x4, RW/L, reset 0 (R84). -/
def phsPxSetHi : Field := { id := 295680, w := 16, acc := .rw }
/-- PHS_PX.STAT.REVERSE [2] at 0x0241C x4, RO/L, reset 0 (R84). -/
def phsPxStatReverse : Field := { id := 295810, w := 1, acc := .ro }
/-- PHS_PX.STAT.JUMP [1] at 0x0241C x4, W1C/L, reset 0 (R84). -/
def phsPxStatJump : Field := { id := 295809, w := 1, acc := .w1c }
/-- PHS_PX.STAT.RUN [0] at 0x0241C x4, RO/L, reset 0 (R84). -/
def phsPxStatRun : Field := { id := 295808, w := 1, acc := .ro }
/-- PHS_M.CFG.HOLD_S [7:4] at 0x02600 x2, RW/S, reset 2 (R84). -/
def phsMCfgHoldS : Field := { id := 311300, w := 4, acc := .rw, staged := true, reset := fun _ => 2 }
/-- PHS_M.CFG.BW [3:2] at 0x02600 x2, RW/S, reset 1 (R84). -/
def phsMCfgBw : Field := { id := 311298, w := 2, acc := .rw, staged := true, reset := fun _ => 1 }
/-- PHS_M.CFG.NOM [1] at 0x02600 x2, RW/S, reset 0 (R84). -/
def phsMCfgNom : Field := { id := 311297, w := 1, acc := .rw, staged := true }
/-- PHS_M.CFG.EN [0] at 0x02600 x2, RW/S, reset 0 (R84). -/
def phsMCfgEn : Field := { id := 311296, w := 1, acc := .rw, staged := true }
/-- PHS_M.OFS [23:0] at 0x02604 x2, RW/S, reset 0 (R84). -/
def phsMOfs : Field := { id := 311424, w := 24, acc := .rw, staged := true }
/-- PHS_M.FREQ [23:0] at 0x02608 x2, RO/L, reset 0 (R84). -/
def phsMFreq : Field := { id := 311552, w := 24, acc := .ro }
/-- PHS_M.STAT.STOPPED [3] at 0x0260C x2, RO/L, reset 0 (R84). -/
def phsMStatStopped : Field := { id := 311683, w := 1, acc := .ro }
/-- PHS_M.STAT.LOST [2] at 0x0260C x2, W1C/L, reset 0 (R84). -/
def phsMStatLost : Field := { id := 311682, w := 1, acc := .w1c }
/-- PHS_M.STAT.STATE [1:0] at 0x0260C x2, RO/L, reset 0 (R84). -/
def phsMStatState : Field := { id := 311680, w := 2, acc := .ro }
/-- PHS_CAL_CTRL.EN [31] at 0x0280C, RW/S, reset 0 (R84). -/
def phsCalCtrlEn : Field := { id := 328095, w := 1, acc := .rw, staged := true }
/-- PHS_CAL_CTRL.AXIS [30:29] at 0x0280C, RW/S, reset 0 (R84). -/
def phsCalCtrlAxis : Field := { id := 328093, w := 2, acc := .rw, staged := true }
/-- PHS_CAL_CTRL.DIR [28] at 0x0280C, RW/S, reset 0 (R84). -/
def phsCalCtrlDir : Field := { id := 328092, w := 1, acc := .rw, staged := true }
/-- PHS_CAL_CTRL.CATCHUP [27] at 0x0280C, RW/S, reset 0 (R84). -/
def phsCalCtrlCatchup : Field := { id := 328091, w := 1, acc := .rw, staged := true }
/-- PHS_CAL_CTRL.ACTION [23:20] at 0x0280C, RW/S, reset 0 (R84). -/
def phsCalCtrlAction : Field := { id := 328084, w := 4, acc := .rw, staged := true }
/-- PHS_CAL_CTRL.ARG [15:0] at 0x0280C, RW/S, reset 0 (R84). -/
def phsCalCtrlArg : Field := { id := 328064, w := 16, acc := .rw, staged := true }
/-- PHS_CTRL.RUN [0] at 0x02800, RW/L, reset 0 (R84). -/
def phsCtrlRun : Field := { id := 327680, w := 1, acc := .rw }
/-- PHS_STATUS.ARMED [9:0] at 0x02804, RO/L, reset 0 (R84). -/
def phsStatusArmed : Field := { id := 327808, w := 10, acc := .ro }
/-- PHS_CAL_IDX [8:0] at 0x02808, RW/L, reset 0 (R84). -/
def phsCalIdx : Field := { id := 327936, w := 9, acc := .rw }
/-- PHS_CAL_PH_LO [31:0] at 0x02810, RW/S, reset 0 (R84). -/
def phsCalPhLo : Field := { id := 328192, w := 32, acc := .rw, staged := true }
/-- PHS_CAL_PH_HI [15:0] at 0x02814, RW/S, reset 0 (R84). -/
def phsCalPhHi : Field := { id := 328320, w := 16, acc := .rw, staged := true }
/-- PHS_CAL_IV_LO [31:0] at 0x02818, RW/S, reset 0 (R84). -/
def phsCalIvLo : Field := { id := 328448, w := 32, acc := .rw, staged := true }
/-- PHS_CAL_IV_HI [15:0] at 0x0281C, RW/S, reset 0 (R84). -/
def phsCalIvHi : Field := { id := 328576, w := 16, acc := .rw, staged := true }
/-- PHS_CAL_NEXT_LO [31:0] at 0x02820, RO/L, reset 0 (R84). -/
def phsCalNextLo : Field := { id := 328704, w := 32, acc := .ro }
/-- PHS_CAL_NEXT_HI [15:0] at 0x02824, RO/L, reset 0 (R84). -/
def phsCalNextHi : Field := { id := 328832, w := 16, acc := .ro }
/-- PHS_CAL_FIRED [23:0] at 0x02828, RO/L, reset 0 (R84). -/
def phsCalFired : Field := { id := 328960, w := 24, acc := .ro, counter := true }
/-- PHS_CAL_MISSED [23:0] at 0x0282C, RC/L, reset 0 (R84). -/
def phsCalMissed : Field := { id := 329088, w := 24, acc := .rc, counter := true }
/-- PHS_SGRP [31:0] at 0x02840 x8, RW/S, reset 0 (R84). -/
def phsSgrp : Field := { id := 329728, w := 32, acc := .rw, staged := true }
/-- PHS_TRIG_CFG.INIT [15:8] at 0x02860, RW/S, reset 0 (R84). -/
def phsTrigCfgInit : Field := { id := 330760, w := 8, acc := .rw, staged := true }
/-- PHS_TRIG_CFG.OE [7:0] at 0x02860, RW/S, reset 0 (R84). -/
def phsTrigCfgOe : Field := { id := 330752, w := 8, acc := .rw, staged := true }
/-- PHS_TRIG_LEVEL [7:0] at 0x02864, RO/L, reset 0 (R84). -/
def phsTrigLevel : Field := { id := 330880, w := 8, acc := .ro }
/-- PHS_COLLIDE [23:0] at 0x02868, RC/L, reset 0 (R84). -/
def phsCollide : Field := { id := 331008, w := 24, acc := .rc, counter := true }
/-- PHS_QW_STATE [7:0] at 0x02870, RO/L, reset 0 (R84). -/
def phsQwState : Field := { id := 331264, w := 8, acc := .ro }
/-- PHS_QW_TIMEOUT [7:0] at 0x02874, W1C/L, reset 0 (R84). -/
def phsQwTimeout : Field := { id := 331392, w := 8, acc := .w1c }
/-- PHS_QW_MAX [19:0] at 0x02880 x8, RW/S, reset 0 (R84). -/
def phsQwMax : Field := { id := 331776, w := 20, acc := .rw, staged := true }
/-- FOX_ID.ROLE [9:8] at 0x40000 x18, RO/L, reset per R86 (R132). -/
def foxIdRole : Field := { id := 8388616, w := 2, acc := .ro }
/-- FOX_ID.CLUSTER [7] at 0x40000 x18, RO/L, reset per engine (R132). -/
def foxIdCluster : Field := { id := 8388615, w := 1, acc := .ro }
/-- FOX_ID.PHYS [4:0] at 0x40000 x18, RO/L, reset p (R132). -/
def foxIdPhys : Field := { id := 8388608, w := 5, acc := .ro, reset := fun i => i }
/-- FOX_ID.LOGICAL [31:28] at 0x40000 x18, RO/L, reset per R86 (R132). -/
def foxIdLogical : Field := { id := 8388636, w := 4, acc := .ro }
/-- FOX_STATUS.FSTEP [13:12] at 0x40004 x18, RO/L, reset 0 (R132). -/
def foxStatusFstep : Field := { id := 8388748, w := 2, acc := .ro }
/-- FOX_STATUS.RUNNING [11:8] at 0x40004 x18, RO/L, reset 0 (R132). -/
def foxStatusRunning : Field := { id := 8388744, w := 4, acc := .ro }
/-- FOX_STATUS.STATE [2:0] at 0x40004 x18, RO/L, reset 0 (R132). -/
def foxStatusState : Field := { id := 8388736, w := 3, acc := .ro }
/-- FOX_SEWIN.SIZE [31:16] at 0x40008 x18 x2, RW/S, reset 0 (R132). -/
def foxSewinSize : Field := { id := 8388880, w := 16, acc := .rw, staged := true }
/-- FOX_SEWIN.BASE [8:0] at 0x40008 x18 x2, RW/S, reset 0 (R132). -/
def foxSewinBase : Field := { id := 8388864, w := 9, acc := .rw, staged := true }
/-- FOX_SHBIND [31:0] at 0x40010 x18, RW/S, reset 0 (R132). -/
def foxShbind : Field := { id := 8389120, w := 32, acc := .rw, staged := true }
/-- FOX_CYCLES [31:0] at 0x40014 x18, RO/L, reset 0 (R132). -/
def foxCycles : Field := { id := 8389248, w := 32, acc := .ro, counter := true }
/-- FOX_ECC_CE [23:0] at 0x40018 x18, RC/L, reset 0 (R132). -/
def foxEccCe : Field := { id := 8389376, w := 24, acc := .rc, counter := true }
/-- FOX_T.TCFG.EN [31] at 0x40100 x18 x4, RO/L, reset 0 (R132). -/
def foxTTcfgEn : Field := { id := 8396831, w := 1, acc := .ro }
/-- FOX_T.TCFG.PRIV [30] at 0x40100 x18 x4, RO/L, reset 0 (R132). -/
def foxTTcfgPriv : Field := { id := 8396830, w := 1, acc := .ro }
/-- FOX_T.TCFG.SAFETY [29] at 0x40100 x18 x4, RO/L, reset 0 (R132). -/
def foxTTcfgSafety : Field := { id := 8396829, w := 1, acc := .ro }
/-- FOX_T.TCFG.START_PC [13:0] at 0x40100 x18 x4, RO/L, reset 0 (R132). -/
def foxTTcfgStartPc : Field := { id := 8396800, w := 14, acc := .ro }
/-- FOX_T.TSTAT.STATE [31:28] at 0x40104 x18 x4, RO/L, reset 0 (R132). -/
def foxTTstatState : Field := { id := 8396956, w := 4, acc := .ro }
/-- FOX_T.TSTAT.TM [27] at 0x40104 x18 x4, RO/L, reset 0 (R132). -/
def foxTTstatTm : Field := { id := 8396955, w := 1, acc := .ro }
/-- FOX_T.TSTAT.PC [13:0] at 0x40104 x18 x4, RO/L, reset 0 (R132). -/
def foxTTstatPc : Field := { id := 8396928, w := 14, acc := .ro }
/-- FOX_T.TRAP.CAUSE [27:24] at 0x40108 x18 x4, RO/L, reset 0 (R132). -/
def foxTTrapCause : Field := { id := 8397080, w := 4, acc := .ro }
/-- FOX_T.TRAP.PC [13:0] at 0x40108 x18 x4, RO/L, reset 0 (R132). -/
def foxTTrapPc : Field := { id := 8397056, w := 14, acc := .ro }
/-- FOX_T.TRAP_CNT [23:0] at 0x4010C x18 x4, RC/L, reset 0 (R132). -/
def foxTTrapCnt : Field := { id := 8397184, w := 24, acc := .rc, counter := true }
/-- FOX_T.WDG.EN [31] at 0x40110 x18 x4, RW/S, reset 0 (R132). -/
def foxTWdgEn : Field := { id := 8397343, w := 1, acc := .rw, staged := true }
/-- FOX_T.WDG.INTERVAL_US [15:0] at 0x40110 x18 x4, RW/S, reset 0 (R132). -/
def foxTWdgIntervalUs : Field := { id := 8397312, w := 16, acc := .rw, staged := true }
/-- FOX_T.WAKE_OVR [23:0] at 0x40114 x18 x4, RC/L, reset 0 (R132). -/
def foxTWakeOvr : Field := { id := 8397440, w := 24, acc := .rc, counter := true }
/-- FOX_T.SIG_OVR [23:0] at 0x40118 x18 x4, RC/L, reset 0 (R132). -/
def foxTSigOvr : Field := { id := 8397568, w := 24, acc := .rc, counter := true }
/-- FOX_T.EVP [23:0] at 0x4011C x18 x4, RO/L, reset 0 (R132). -/
def foxTEvp : Field := { id := 8397696, w := 24, acc := .ro }
/-- FOX_T.EVM [23:0] at 0x40120 x18 x4, RO/L, reset 0 (R132). -/
def foxTEvm : Field := { id := 8397824, w := 24, acc := .ro }
/-- FOX_T.DBMASK [31:0] at 0x40124 x18 x4, RW/L, reset 0 (R132). -/
def foxTDbmask : Field := { id := 8397952, w := 32, acc := .rw }
/-- FOX_T.ISSUED [31:0] at 0x40128 x18 x4, RO/L, reset 0 (R132). -/
def foxTIssued : Field := { id := 8398080, w := 32, acc := .ro, counter := true }
/-- FOX_MAP.VALID [31] at 0x41F00 x18 x16, RO/L, reset 1 (R132). -/
def foxMapValid : Field := { id := 8642591, w := 1, acc := .ro, reset := fun _ => 1 }
/-- FOX_MAP.PHYS [4:0] at 0x41F00 x18 x16, RO/L, reset per R86 (R132). -/
def foxMapPhys : Field := { id := 8642560, w := 5, acc := .ro, reset := fun i => if i < 8 then i else i + 1 }
/-- FOX_SPARES [17:0] at 0x41F40 x18, RO/L, reset 0x20100 (R132). -/
def foxSpares : Field := { id := 8644608, w := 18, acc := .ro, reset := fun _ => 131328 }
/-- FOX_RETIRED [17:0] at 0x41F44 x18, RO/L, reset 0 (R132). -/
def foxRetired : Field := { id := 8644736, w := 18, acc := .ro }
/-- SW_HASH_SEED [23:0] at 0x04000, RW/S, reset 0 (R243). -/
def swHashSeed : Field := { id := 524288, w := 24, acc := .rw, staged := true }
/-- SW_CYCLE [31:0] at 0x04004, RO/L, reset 0 (R243). -/
def swCycle : Field := { id := 524416, w := 32, acc := .ro }
/-- SW_CELLS_TOTAL [15:0] at 0x04008, RO/L, reset 32,768 (R243). -/
def swCellsTotal : Field := { id := 524544, w := 16, acc := .ro, reset := fun _ => 32768 }
/-- SW_CELLS_FREE [15:0] at 0x0400C, RO/L, reset 32,768 (R243). -/
def swCellsFree : Field := { id := 524672, w := 16, acc := .ro, reset := fun _ => 32768 }
/-- SW_SHARED [15:0] at 0x04010, RO/L, reset 22,174 (R243). -/
def swShared : Field := { id := 524800, w := 16, acc := .ro, reset := fun _ => 22174 }
/-- SW_MIR_CAP [15:0] at 0x04014, RW/S, reset 256 (R243). -/
def swMirCap : Field := { id := 524928, w := 16, acc := .rw, staged := true, reset := fun _ => 256 }
/-- SW_STAGE_HOST [15:0] at 0x04018, RW/S, reset 1,024 (R243). -/
def swStageHost : Field := { id := 525056, w := 16, acc := .rw, staged := true, reset := fun _ => 1024 }
/-- SW_STAGE_SUP [15:0] at 0x0401C, RW/S, reset 256 (R243). -/
def swStageSup : Field := { id := 525184, w := 16, acc := .rw, staged := true, reset := fun _ => 256 }
/-- SW_STAGE [15:0] at 0x04020 x16, RW/S, reset 512 (R243). -/
def swStage : Field := { id := 525312, w := 16, acc := .rw, staged := true, reset := fun _ => 512 }
/-- SW_AGE.EN [31] at 0x04060 x8, RW/S, reset 0 (R243). -/
def swAgeEn : Field := { id := 527391, w := 1, acc := .rw, staged := true }
/-- SW_AGE.LIMIT_US [19:0] at 0x04060 x8, RW/S, reset 0 (R243). -/
def swAgeLimitUs : Field := { id := 527360, w := 20, acc := .rw, staged := true }
/-- SW_P.CFG.DEF_PORT [20:16] at 0x04400 x32, RW/S, reset 0 (R243). -/
def swPCfgDefPort : Field := { id := 557072, w := 5, acc := .rw, staged := true }
/-- SW_P.CFG.MISS [12] at 0x04400 x32, RW/S, reset 0 (R243). -/
def swPCfgMiss : Field := { id := 557068, w := 1, acc := .rw, staged := true }
/-- SW_P.CFG.PCP_EN [11] at 0x04400 x32, RW/S, reset 0 (R243). -/
def swPCfgPcpEn : Field := { id := 557067, w := 1, acc := .rw, staged := true }
/-- SW_P.CFG.DEF_CLASS [10:8] at 0x04400 x32, RW/S, reset 0 (R243). -/
def swPCfgDefClass : Field := { id := 557064, w := 3, acc := .rw, staged := true }
/-- SW_P.CFG.GUARD [7] at 0x04400 x32, RW/S, reset 0 (R243). -/
def swPCfgGuard : Field := { id := 557063, w := 1, acc := .rw, staged := true }
/-- SW_P.CFG.HOLD_MS [6:0] at 0x04400 x32, RW/S, reset 0 (R243). -/
def swPCfgHoldMs : Field := { id := 557056, w := 7, acc := .rw, staged := true }
/-- SW_P.PCPMAP [23:0] at 0x04404 x32, RW/S, reset 0xFAC688 (R243). -/
def swPPcpmap : Field := { id := 557184, w := 24, acc := .rw, staged := true, reset := fun _ => 16434824 }
/-- SW_P.RES [11:0] at 0x04408 x32, RW/S, reset 80, 16 or 81 (R243). -/
def swPRes : Field := { id := 557312, w := 12, acc := .rw, staged := true, reset := resReset }
/-- SW_P.SHCAP [15:0] at 0x0440C x32, RW/S, reset 4,096 (R243). -/
def swPShcap : Field := { id := 557440, w := 16, acc := .rw, staged := true, reset := fun _ => 4096 }
/-- SW_P.QMAX_BE [15:0] at 0x04410 x32, RW/S, reset 1,024 (R243). -/
def swPQmaxBe : Field := { id := 557568, w := 16, acc := .rw, staged := true, reset := fun _ => 1024 }
/-- SW_P.QMAX_SAFE [15:0] at 0x04414 x32, RW/S, reset 256 (R243). -/
def swPQmaxSafe : Field := { id := 557696, w := 16, acc := .rw, staged := true, reset := fun _ => 256 }
/-- SW_P.QMAX_SCHED [15:0] at 0x04418 x32, RW/S, reset 2,048 (R243). -/
def swPQmaxSched : Field := { id := 557824, w := 16, acc := .rw, staged := true, reset := fun _ => 2048 }
/-- SW_P.MIR.RX_N [31:16] at 0x0441C x32, RW/S, reset 0 (R243). -/
def swPMirRxN : Field := { id := 557968, w := 16, acc := .rw, staged := true }
/-- SW_P.MIR.TX_N [15:0] at 0x0441C x32, RW/S, reset 0 (R243). -/
def swPMirTxN : Field := { id := 557952, w := 16, acc := .rw, staged := true }
/-- SW_P.MIRDST.CLASS [18:16] at 0x04420 x32, RW/S, reset 0 (R243). -/
def swPMirdstClass : Field := { id := 558096, w := 3, acc := .rw, staged := true }
/-- SW_P.MIRDST.TX_DST [12:8] at 0x04420 x32, RW/S, reset 0 (R243). -/
def swPMirdstTxDst : Field := { id := 558088, w := 5, acc := .rw, staged := true }
/-- SW_P.MIRDST.RX_DST [4:0] at 0x04420 x32, RW/S, reset 0 (R243). -/
def swPMirdstRxDst : Field := { id := 558080, w := 5, acc := .rw, staged := true }
/-- SW_P.EQMAP [15:0] at 0x04424 x32, RW/S, reset 0 (R243). -/
def swPEqmap : Field := { id := 558208, w := 16, acc := .rw, staged := true }
/-- SW_P.STAT.QCELLS [31:16] at 0x04428 x32, RO/L, reset 0 (R243). -/
def swPStatQcells : Field := { id := 558352, w := 16, acc := .ro }
/-- SW_P.STAT.RES_ACTIVE [3] at 0x04428 x32, RO/L, reset 0 (R243). -/
def swPStatResActive : Field := { id := 558339, w := 1, acc := .ro }
/-- SW_P.STAT.HOLDING [2] at 0x04428 x32, RO/L, reset 0 (R243). -/
def swPStatHolding : Field := { id := 558338, w := 1, acc := .ro }
/-- SW_P.STAT.LINK_UP [1] at 0x04428 x32, RO/L, reset 0 (R243). -/
def swPStatLinkUp : Field := { id := 558337, w := 1, acc := .ro }
/-- SW_P.USE.RES [27:16] at 0x0442C x32, RO/L, reset 0 (R243). -/
def swPUseRes : Field := { id := 558480, w := 12, acc := .ro }
/-- SW_P.USE.SHARED [15:0] at 0x0442C x32, RO/L, reset 0 (R243). -/
def swPUseShared : Field := { id := 558464, w := 16, acc := .ro }
/-- SW_P.AON.HELD [6:0] at 0x04430 x32, RO/L, reset 0 (R243). -/
def swPAonHeld : Field := { id := 558592, w := 7, acc := .ro }
/-- SW_FDB_IDX [11:0] at 0x04C00, RW/L, reset 0 (R243). -/
def swFdbIdx : Field := { id := 622592, w := 12, acc := .rw }
/-- SW_FDB_CTRL.VALID [31] at 0x04C04, RW/S, reset 0 (R243). -/
def swFdbCtrlValid : Field := { id := 622751, w := 1, acc := .rw, staged := true }
/-- SW_FDB_CTRL.ANY_VID [30] at 0x04C04, RW/S, reset 0 (R243). -/
def swFdbCtrlAnyVid : Field := { id := 622750, w := 1, acc := .rw, staged := true }
/-- SW_FDB_CTRL.AON [29] at 0x04C04, RW/S, reset 0 (R243). -/
def swFdbCtrlAon : Field := { id := 622749, w := 1, acc := .rw, staged := true }
/-- SW_FDB_CTRL.CLASS_OVR [28] at 0x04C04, RW/S, reset 0 (R243). -/
def swFdbCtrlClassOvr : Field := { id := 622748, w := 1, acc := .rw, staged := true }
/-- SW_FDB_CTRL.CLASS [26:24] at 0x04C04, RW/S, reset 0 (R243). -/
def swFdbCtrlClass : Field := { id := 622744, w := 3, acc := .rw, staged := true }
/-- SW_FDB_CTRL.VID [11:0] at 0x04C04, RW/S, reset 0 (R243). -/
def swFdbCtrlVid : Field := { id := 622720, w := 12, acc := .rw, staged := true }
/-- SW_FDB_DA_LO [31:0] at 0x04C08, RW/S, reset 0 (R243). -/
def swFdbDaLo : Field := { id := 622848, w := 32, acc := .rw, staged := true }
/-- SW_FDB_DA_HI [15:0] at 0x04C0C, RW/S, reset 0 (R243). -/
def swFdbDaHi : Field := { id := 622976, w := 16, acc := .rw, staged := true }
/-- SW_FDB_PORTS [31:0] at 0x04C10, RW/S, reset 0 (R243). -/
def swFdbPorts : Field := { id := 623104, w := 32, acc := .rw, staged := true }
/-- SW_FDB_AON_DL [15:0] at 0x04C14, RW/S, reset 0 (R243). -/
def swFdbAonDl : Field := { id := 623232, w := 16, acc := .rw, staged := true }
/-- SW_C.RX_FRAMES [31:0] at 0x05000 x32, RC/L, reset 0 (R243). -/
def swCRxFrames : Field := { id := 655360, w := 32, acc := .rc, counter := true }
/-- SW_C.PORT_DOWN [31:0] at 0x05024 x32, RC/L, reset 0 (R243). -/
def swCPortDown : Field := { id := 656512, w := 32, acc := .rc, counter := true }
/-- SW_C.TX_FRAMES [31:0] at 0x05004 x32, RC/L, reset 0 (R243). -/
def swCTxFrames : Field := { id := 655488, w := 32, acc := .rc, counter := true }
/-- SW_C.FLUSHED [31:0] at 0x05028 x32, RC/L, reset 0 (R243). -/
def swCFlushed : Field := { id := 656640, w := 32, acc := .rc, counter := true }
/-- SW_C.FCS_ERR [31:0] at 0x05008 x32, RC/L, reset 0 (R243). -/
def swCFcsErr : Field := { id := 655616, w := 32, acc := .rc, counter := true }
/-- SW_C.AGED [31:0] at 0x0502C x32, RC/L, reset 0 (R243). -/
def swCAged : Field := { id := 656768, w := 32, acc := .rc, counter := true }
/-- SW_C.RUNT [31:0] at 0x0500C x32, RC/L, reset 0 (R243). -/
def swCRunt : Field := { id := 655744, w := 32, acc := .rc, counter := true }
/-- SW_C.PARTIAL [31:0] at 0x05030 x32, RC/L, reset 0 (R243). -/
def swCPartial : Field := { id := 656896, w := 32, acc := .rc, counter := true }
/-- SW_C.OVERSIZE [31:0] at 0x05010 x32, RC/L, reset 0 (R243). -/
def swCOversize : Field := { id := 655872, w := 32, acc := .rc, counter := true }
/-- SW_C.LOST [31:0] at 0x05034 x32, RC/L, reset 0 (R243). -/
def swCLost : Field := { id := 657024, w := 32, acc := .rc, counter := true }
/-- SW_C.NO_ROUTE [31:0] at 0x05014 x32, RC/L, reset 0 (R243). -/
def swCNoRoute : Field := { id := 656000, w := 32, acc := .rc, counter := true }
/-- SW_C.MIRROR_DROP [31:0] at 0x05038 x32, RC/L, reset 0 (R243). -/
def swCMirrorDrop : Field := { id := 657152, w := 32, acc := .rc, counter := true }
/-- SW_C.RESERVE_FULL [31:0] at 0x05018 x32, RC/L, reset 0 (R243). -/
def swCReserveFull : Field := { id := 656128, w := 32, acc := .rc, counter := true }
/-- SW_C.MIR_SENT [31:0] at 0x0503C x32, RC/L, reset 0 (R243). -/
def swCMirSent : Field := { id := 657280, w := 32, acc := .rc, counter := true }
/-- SW_C.AON_EXPIRED [31:0] at 0x0501C x32, RC/L, reset 0 (R243). -/
def swCAonExpired : Field := { id := 656256, w := 32, acc := .rc, counter := true }
/-- SW_C.LAT_MAX [31:0] at 0x05040 x32, RC/L, reset 0 (R243). -/
def swCLatMax : Field := { id := 657408, w := 32, acc := .rc, counter := true }
/-- SW_C.QUEUE_FULL [31:0] at 0x05020 x32, RC/L, reset 0 (R243). -/
def swCQueueFull : Field := { id := 656384, w := 32, acc := .rc, counter := true }
/-- SW_C.RES_ENTER [31:0] at 0x05044 x32, RC/L, reset 0 (R243). -/
def swCResEnter : Field := { id := 657536, w := 32, acc := .rc, counter := true }
/-- FLOW_IDX [9:0] at 0x08000, RW/L, reset 0 (R279). -/
def flowIdx : Field := { id := 1048576, w := 10, acc := .rw }
/-- FLOW_CTRL.OPEN [31] at 0x08040, RW/S, reset 0 (R279). -/
def flowCtrlOpen : Field := { id := 1050655, w := 1, acc := .rw, staged := true }
/-- FLOW_CTRL.USC_EN [30] at 0x08040, RW/S, reset 0 (R279). -/
def flowCtrlUscEn : Field := { id := 1050654, w := 1, acc := .rw, staged := true }
/-- FLOW_CTRL.DIR [29:28] at 0x08040, RW/S, reset 0 (R279). -/
def flowCtrlDir : Field := { id := 1050652, w := 2, acc := .rw, staged := true }
/-- FLOW_CTRL.KIND [27] at 0x08040, RW/S, reset 0 (R279). -/
def flowCtrlKind : Field := { id := 1050651, w := 1, acc := .rw, staged := true }
/-- FLOW_CTRL.CLASS [26:24] at 0x08040, RW/S, reset 0 (R279). -/
def flowCtrlClass : Field := { id := 1050648, w := 3, acc := .rw, staged := true }
/-- FLOW_CTRL.ENGINE [23:20] at 0x08040, RW/S, reset 0 (R279). -/
def flowCtrlEngine : Field := { id := 1050644, w := 4, acc := .rw, staged := true }
/-- FLOW_CTRL.MATCH_EN [17] at 0x08040, RW/S, reset 0 (R279). -/
def flowCtrlMatchEn : Field := { id := 1050641, w := 1, acc := .rw, staged := true }
/-- FLOW_CTRL.USC_IDX [7:0] at 0x08040, RW/S, reset 0 (R279). -/
def flowCtrlUscIdx : Field := { id := 1050624, w := 8, acc := .rw, staged := true }
/-- FLOW_SEG_OFS [19:0] at 0x08044, RW/S, reset 0 (R279). -/
def flowSegOfs : Field := { id := 1050752, w := 20, acc := .rw, staged := true }
/-- FLOW_SEG_LEN [16:0] at 0x08048, RW/S, reset 0 (R279). -/
def flowSegLen : Field := { id := 1050880, w := 17, acc := .rw, staged := true }
/-- FLOW_INPORTS [31:0] at 0x0804C, RW/S, reset 0 (R279). -/
def flowInports : Field := { id := 1051008, w := 32, acc := .rw, staged := true }
/-- FLOW_DA_LO [31:0] at 0x08050, RW/S, reset 0 (R279). -/
def flowDaLo : Field := { id := 1051136, w := 32, acc := .rw, staged := true }
/-- FLOW_DA_HI.DA_EN [16] at 0x08054, RW/S, reset 0 (R279). -/
def flowDaHiDaEn : Field := { id := 1051280, w := 1, acc := .rw, staged := true }
/-- FLOW_DA_HI.DA [15:0] at 0x08054, RW/S, reset 0 (R279). -/
def flowDaHiDa : Field := { id := 1051264, w := 16, acc := .rw, staged := true }
/-- FLOW_VID.VID_EN [12] at 0x08058, RW/S, reset 0 (R279). -/
def flowVidVidEn : Field := { id := 1051404, w := 1, acc := .rw, staged := true }
/-- FLOW_VID.VID [11:0] at 0x08058, RW/S, reset 0 (R279). -/
def flowVidVid : Field := { id := 1051392, w := 12, acc := .rw, staged := true }
/-- FLOW_ETYPE.ETYPE_EN [16] at 0x0805C, RW/S, reset 0 (R279). -/
def flowEtypeEtypeEn : Field := { id := 1051536, w := 1, acc := .rw, staged := true }
/-- FLOW_ETYPE.ETYPE [15:0] at 0x0805C, RW/S, reset 0 (R279). -/
def flowEtypeEtype : Field := { id := 1051520, w := 16, acc := .rw, staged := true }
/-- FLOW_TAG [31:0] at 0x08060, RW/S, reset 0 (R279). -/
def flowTag : Field := { id := 1051648, w := 32, acc := .rw, staged := true }
/-- FLOW_TAGCFG.TAG_EN [31] at 0x08064, RW/S, reset 0 (R279). -/
def flowTagcfgTagEn : Field := { id := 1051807, w := 1, acc := .rw, staged := true }
/-- FLOW_TAGCFG.TAG_OFS [5:0] at 0x08064, RW/S, reset 0 (R279). -/
def flowTagcfgTagOfs : Field := { id := 1051776, w := 6, acc := .rw, staged := true }
/-- FLOW_TAG_MASK [31:0] at 0x08068, RW/S, reset 0 (R279). -/
def flowTagMask : Field := { id := 1051904, w := 32, acc := .rw, staged := true }
/-- FLOW_TARGETS [31:0] at 0x0806C, RW/S, reset 0 (R279). -/
def flowTargets : Field := { id := 1052032, w := 32, acc := .rw, staged := true }
/-- FLOW_TMO.TMO_EN [31] at 0x08070, RW/S, reset 0 (R279). -/
def flowTmoTmoEn : Field := { id := 1052191, w := 1, acc := .rw, staged := true }
/-- FLOW_TMO.TMO_US [23:0] at 0x08070, RW/S, reset 0 (R279). -/
def flowTmoTmoUs : Field := { id := 1052160, w := 24, acc := .rw, staged := true }
/-- FLOW_STAT.USC_FAIL [3] at 0x08080, RO/L, reset 0 (R279). -/
def flowStatUscFail : Field := { id := 1052675, w := 1, acc := .ro }
/-- FLOW_STAT.EVER_STALE [2] at 0x08080, W1C/L, reset 0 (R279). -/
def flowStatEverStale : Field := { id := 1052674, w := 1, acc := .w1c }
/-- FLOW_STAT.STALE [1] at 0x08080, RO/L, reset 0 (R279). -/
def flowStatStale : Field := { id := 1052673, w := 1, acc := .ro }
/-- FLOW_STAT.ACTIVE [0] at 0x08080, RO/L, reset 0 (R279). -/
def flowStatActive : Field := { id := 1052672, w := 1, acc := .ro }
/-- FLOW_RX [31:0] at 0x08084, RO/L, reset 0 (R279). -/
def flowRx : Field := { id := 1052800, w := 32, acc := .ro, counter := true }
/-- FLOW_DROP [31:0] at 0x08088, RO/L, reset 0 (R279). -/
def flowDrop : Field := { id := 1052928, w := 32, acc := .ro, counter := true }
/-- FLOW_LAST_NS [29:0] at 0x0808C, RO/L, reset 0 (R279). -/
def flowLastNs : Field := { id := 1053056, w := 30, acc := .ro }
/-- FLOW_LAST_SEC [7:0] at 0x08090, RO/L, reset 0 (R279). -/
def flowLastSec : Field := { id := 1053184, w := 8, acc := .ro }
/-- IMG_EPOCH [23:0] at 0x0A000, RO/L, reset 0 (R279). -/
def imgEpoch : Field := { id := 1310720, w := 24, acc := .ro }
/-- IMG_CTRL.COMMIT_NOW [0] at 0x0A004, WO/L, reset 0 (R279). -/
def imgCtrlCommitNow : Field := { id := 1310848, w := 1, acc := .wo }
/-- IMG_COMMITS [31:0] at 0x0A008, RO/L, reset 0 (R279). -/
def imgCommits : Field := { id := 1310976, w := 32, acc := .ro, counter := true }
/-- IMG_MERGED [23:0] at 0x0A00C, RC/L, reset 0 (R279). -/
def imgMerged : Field := { id := 1311104, w := 24, acc := .rc, counter := true }
/-- IMG_STAGE_REFUSED [23:0] at 0x0A010, RC/L, reset 0 (R279). -/
def imgStageRefused : Field := { id := 1311232, w := 24, acc := .rc, counter := true }
/-- IMG_LEASE_OPEN [13:0] at 0x0A020, WO/L, reset 0 (R279). -/
def imgLeaseOpen : Field := { id := 1311744, w := 14, acc := .wo }
/-- IMG_LEASE_CLOSE [0] at 0x0A024, WO/L, reset 0 (R279). -/
def imgLeaseClose : Field := { id := 1311872, w := 1, acc := .wo }
/-- IMG_LEASE_STAT.OPEN [31] at 0x0A028, RO/L, reset 0 (R279). -/
def imgLeaseStatOpen : Field := { id := 1312031, w := 1, acc := .ro }
/-- IMG_LEASE_STAT.EXPIRED [30] at 0x0A028, W1C/L, reset 0 (R279). -/
def imgLeaseStatExpired : Field := { id := 1312030, w := 1, acc := .w1c }
/-- IMG_LEASE_STAT.ZERO [29] at 0x0A028, W1C/L, reset 0 (R279). -/
def imgLeaseStatZero : Field := { id := 1312029, w := 1, acc := .w1c }
/-- IMG_LEASE_STAT.EPOCH [23:0] at 0x0A028, RO/L, reset 0 (R279). -/
def imgLeaseStatEpoch : Field := { id := 1312000, w := 24, acc := .ro }
/-- IMG_LEASE_REM [13:0] at 0x0A02C, RO/L, reset 0 (R279). -/
def imgLeaseRem : Field := { id := 1312128, w := 14, acc := .ro }
/-- IMG_APPLY_SCOPE [18:0] at 0x0A100, RW/L, reset 0 (R279). -/
def imgApplyScope : Field := { id := 1318912, w := 19, acc := .rw }
/-- IMG_APPLY_CTRL.GO [31] at 0x0A104, WO/L, reset 0 (R279). -/
def imgApplyCtrlGo : Field := { id := 1319071, w := 1, acc := .wo }
/-- IMG_APPLY_CTRL.CANCEL [30] at 0x0A104, WO/L, reset 0 (R279). -/
def imgApplyCtrlCancel : Field := { id := 1319070, w := 1, acc := .wo }
/-- IMG_APPLY_CTRL.AXIS [5:4] at 0x0A104, RW/L, reset 0 (R279). -/
def imgApplyCtrlAxis : Field := { id := 1319044, w := 2, acc := .rw }
/-- IMG_APPLY_CTRL.WHEN [1:0] at 0x0A104, RW/L, reset 0 (R279). -/
def imgApplyCtrlWhen : Field := { id := 1319040, w := 2, acc := .rw }
/-- IMG_APPLY_PH_LO [31:0] at 0x0A108, RW/L, reset 0 (R279). -/
def imgApplyPhLo : Field := { id := 1319168, w := 32, acc := .rw }
/-- IMG_APPLY_PH_HI [15:0] at 0x0A10C, RW/L, reset 0 (R279). -/
def imgApplyPhHi : Field := { id := 1319296, w := 16, acc := .rw }
/-- IMG_APPLY_STAT.PENDING [31] at 0x0A110, RO/L, reset 0 (R279). -/
def imgApplyStatPending : Field := { id := 1319455, w := 1, acc := .ro }
/-- IMG_APPLY_STAT.LATE [30] at 0x0A110, W1C/L, reset 0 (R279). -/
def imgApplyStatLate : Field := { id := 1319454, w := 1, acc := .w1c }
/-- IMG_APPLY_STAT.BLOCK [20:16] at 0x0A110, RO/L, reset 0 (R279). -/
def imgApplyStatBlock : Field := { id := 1319440, w := 5, acc := .ro }
/-- IMG_APPLY_STAT.RESULT [7:0] at 0x0A110, RO/L, reset 0 (R279). -/
def imgApplyStatResult : Field := { id := 1319424, w := 8, acc := .ro }
/-- IMG_CSNAP_CTRL.GO [31] at 0x0A200, WO/L, reset 0 (R279). -/
def imgCsnapCtrlGo : Field := { id := 1327135, w := 1, acc := .wo }
/-- IMG_CSNAP_CTRL.RELEASE [30] at 0x0A200, WO/L, reset 0 (R279). -/
def imgCsnapCtrlRelease : Field := { id := 1327134, w := 1, acc := .wo }
/-- IMG_CSNAP_CTRL.CANCEL [29] at 0x0A200, WO/L, reset 0 (R279). -/
def imgCsnapCtrlCancel : Field := { id := 1327133, w := 1, acc := .wo }
/-- IMG_CSNAP_CTRL.WHEN [1] at 0x0A200, RW/L, reset 0 (R279). -/
def imgCsnapCtrlWhen : Field := { id := 1327105, w := 1, acc := .rw }
/-- IMG_CSNAP_CTRL.CLEAR [0] at 0x0A200, RW/L, reset 0 (R279). -/
def imgCsnapCtrlClear : Field := { id := 1327104, w := 1, acc := .rw }
/-- IMG_CSNAP_STAT.HELD [31] at 0x0A204, RO/L, reset 0 (R279). -/
def imgCsnapStatHeld : Field := { id := 1327263, w := 1, acc := .ro }
/-- IMG_CSNAP_STAT.PENDING [30] at 0x0A204, RO/L, reset 0 (R279). -/
def imgCsnapStatPending : Field := { id := 1327262, w := 1, acc := .ro }
/-- IMG_CSNAP_STAT.BUSY [29] at 0x0A204, W1C/L, reset 0 (R279). -/
def imgCsnapStatBusy : Field := { id := 1327261, w := 1, acc := .w1c }
/-- IMG_CSNAP_STAT.EPOCH [23:0] at 0x0A204, RO/L, reset 0 (R279). -/
def imgCsnapStatEpoch : Field := { id := 1327232, w := 24, acc := .ro }
/-- IMG_CSNAP_NS [29:0] at 0x0A208, RO/L, reset 0 (R279). -/
def imgCsnapNs : Field := { id := 1327360, w := 30, acc := .ro }
/-- IMG_CSNAP_SEC_LO [31:0] at 0x0A20C, RO/L, reset 0 (R279). -/
def imgCsnapSecLo : Field := { id := 1327488, w := 32, acc := .ro }
/-- RING_CFG.EN [31] at 0x0C000, RW/S, reset 0 (R327). -/
def ringCfgEn : Field := { id := 1572895, w := 1, acc := .rw, staged := true }
/-- RING_CFG.COLD_EN [30] at 0x0C000, RW/S, reset 0 (R327). -/
def ringCfgColdEn : Field := { id := 1572894, w := 1, acc := .rw, staged := true }
/-- RING_CFG.FIRST_REF [29] at 0x0C000, RW/S, reset 0 (R327). -/
def ringCfgFirstRef : Field := { id := 1572893, w := 1, acc := .rw, staged := true }
/-- RING_CFG.RANK [27:24] at 0x0C000, RW/S, reset 15 (R327). -/
def ringCfgRank : Field := { id := 1572888, w := 4, acc := .rw, staged := true, reset := fun _ => 15 }
/-- RING_CFG.NODE [20:16] at 0x0C000, RW/S, reset 0 (R327). -/
def ringCfgNode : Field := { id := 1572880, w := 5, acc := .rw, staged := true }
/-- RING_CFG.RATE_MAX [13:12] at 0x0C000, RW/S, reset 0 (R327). -/
def ringCfgRateMax : Field := { id := 1572876, w := 2, acc := .rw, staged := true }
/-- RING_CFG.NMAX [5:0] at 0x0C000, RW/S, reset 32 (R327). -/
def ringCfgNmax : Field := { id := 1572864, w := 6, acc := .rw, staged := true, reset := fun _ => 32 }
/-- RING_CYCLE.UNITS [7:0] at 0x0C004, RW/S, reset 8 (R327). -/
def ringCycleUnits : Field := { id := 1572992, w := 8, acc := .rw, staged := true, reset := fun _ => 8 }
/-- RING_GUARD.GUARD_NS [10:0] at 0x0C008, RW/S, reset 100 (R327). -/
def ringGuardGuardNs : Field := { id := 1573120, w := 11, acc := .rw, staged := true, reset := fun _ => 100 }
/-- RING_LMAX.LMAX_NS [7:0] at 0x0C00C, RW/S, reset 10 (R327). -/
def ringLmaxLmaxNs : Field := { id := 1573248, w := 8, acc := .rw, staged := true, reset := fun _ => 10 }
/-- RING_LISTEN.LISTEN_US [23:0] at 0x0C010, RW/S, reset 10,000 (R327). -/
def ringListenListenUs : Field := { id := 1573376, w := 24, acc := .rw, staged := true, reset := fun _ => 10000 }
/-- RING_SERVO.KI_SH [12:8] at 0x0C014, RW/S, reset 12 (R327). -/
def ringServoKiSh : Field := { id := 1573512, w := 5, acc := .rw, staged := true, reset := fun _ => 12 }
/-- RING_SERVO.KP_SH [4:0] at 0x0C014, RW/S, reset 4 (R327). -/
def ringServoKpSh : Field := { id := 1573504, w := 5, acc := .rw, staged := true, reset := fun _ => 4 }
/-- RING_CTRL.RESYNC [0] at 0x0C018, WO/L, reset 0 (R327). -/
def ringCtrlResync : Field := { id := 1573632, w := 1, acc := .wo }
/-- RING_FN_RATE [31:0] at 0x0C01C, RW/L, reset 0 (R327). -/
def ringFnRate : Field := { id := 1573760, w := 32, acc := .rw }
/-- RING_DA_PRE_LO [31:0] at 0x0C020, RW/S, reset 0 (R327). -/
def ringDaPreLo : Field := { id := 1573888, w := 32, acc := .rw, staged := true }
/-- RING_DA_PRE_HI [7:0] at 0x0C024, RW/S, reset 0 (R327). -/
def ringDaPreHi : Field := { id := 1574016, w := 8, acc := .rw, staged := true }
/-- RING_ID_LO [31:0] at 0x0C028, RO/L, reset per device (R327). -/
def ringIdLo : Field := { id := 1574144, w := 32, acc := .ro, reset := fun _ => Config.nodeId.toNat % 4294967296 }
/-- RING_ID_HI [15:0] at 0x0C02C, RO/L, reset per device (R327). -/
def ringIdHi : Field := { id := 1574272, w := 16, acc := .ro, reset := fun _ => Config.nodeId.toNat / 4294967296 }
/-- RING_STATUS.STATE [31:28] at 0x0C040, RO/L, reset 0 (R327). -/
def ringStatusState : Field := { id := 1574940, w := 4, acc := .ro }
/-- RING_STATUS.HEALED [27] at 0x0C040, RO/L, reset 0 (R327). -/
def ringStatusHealed : Field := { id := 1574939, w := 1, acc := .ro }
/-- RING_STATUS.LOCKED [26] at 0x0C040, RO/L, reset 0 (R327). -/
def ringStatusLocked : Field := { id := 1574938, w := 1, acc := .ro }
/-- RING_STATUS.FOLD_E [25] at 0x0C040, RO/L, reset 0 (R327). -/
def ringStatusFoldE : Field := { id := 1574937, w := 1, acc := .ro }
/-- RING_STATUS.FOLD_W [24] at 0x0C040, RO/L, reset 0 (R327). -/
def ringStatusFoldW : Field := { id := 1574936, w := 1, acc := .ro }
/-- RING_STATUS.OUTSIDE [23] at 0x0C040, RO/L, reset 0 (R327). -/
def ringStatusOutside : Field := { id := 1574935, w := 1, acc := .ro }
/-- RING_STATUS.FIRST [20:16] at 0x0C040, RO/L, reset 0 (R327). -/
def ringStatusFirst : Field := { id := 1574928, w := 5, acc := .ro }
/-- RING_STATUS.MEMBERS [13:8] at 0x0C040, RO/L, reset 0 (R327). -/
def ringStatusMembers : Field := { id := 1574920, w := 6, acc := .ro }
/-- RING_STATUS.LO_CAUSE [6:4] at 0x0C040, RO/L, reset 0 (R327). -/
def ringStatusLoCause : Field := { id := 1574916, w := 3, acc := .ro }
/-- RING_STATUS.JOIN_ERR [3:0] at 0x0C040, RO/L, reset 0 (R327). -/
def ringStatusJoinErr : Field := { id := 1574912, w := 4, acc := .ro }
/-- RING_MEMBERS [31:0] at 0x0C044, RO/L, reset 0 (R327). -/
def ringMembers : Field := { id := 1575040, w := 32, acc := .ro }
/-- RING_CYCLE_NO [23:0] at 0x0C048, RO/L, reset 0 (R327). -/
def ringCycleNo : Field := { id := 1575168, w := 24, acc := .ro }
/-- RING_OFFSET [31:0] at 0x0C04C, RO/L, reset 0 (R327). -/
def ringOffset : Field := { id := 1575296, w := 32, acc := .ro }
/-- RING_RATE [31:0] at 0x0C050, RO/L, reset 0 (R327). -/
def ringRate : Field := { id := 1575424, w := 32, acc := .ro }
/-- RING_HASH [31:0] at 0x0C054, RO/L, reset 0 (R327). -/
def ringHash : Field := { id := 1575552, w := 32, acc := .ro }
/-- RING_SPLICE.PENDING [31] at 0x0C058, RO/L, reset 0 (R327). -/
def ringSplicePending : Field := { id := 1575711, w := 1, acc := .ro }
/-- RING_SPLICE.CYCLE [23:0] at 0x0C058, RO/L, reset 0 (R327). -/
def ringSpliceCycle : Field := { id := 1575680, w := 24, acc := .ro }
/-- RING_GSTAT.OPEN [31] at 0x0C060, RO/L, reset 0 (R327). -/
def ringGstatOpen : Field := { id := 1575967, w := 1, acc := .ro }
/-- RING_GSTAT.INTERNAL_OSC [30] at 0x0C060, RO/L, reset 0 (R327). -/
def ringGstatInternalOsc : Field := { id := 1575966, w := 1, acc := .ro }
/-- RING_GSTAT.ALIGNED [29] at 0x0C060, RO/L, reset 0 (R327). -/
def ringGstatAligned : Field := { id := 1575965, w := 1, acc := .ro }
/-- RING_GSTAT.CONSEC [1:0] at 0x0C060, RO/L, reset 0 (R327). -/
def ringGstatConsec : Field := { id := 1575936, w := 2, acc := .ro }
/-- RING_L.LIVE [31] at 0x0C070 x2, RO/L, reset 0 (R327). -/
def ringLLive : Field := { id := 1576479, w := 1, acc := .ro }
/-- RING_L.LOS_SEEN [30] at 0x0C070 x2, W1C/L, reset 0 (R327). -/
def ringLLosSeen : Field := { id := 1576478, w := 1, acc := .w1c }
/-- RING_L.TRAINED [29] at 0x0C070 x2, RO/L, reset 0 (R327). -/
def ringLTrained : Field := { id := 1576477, w := 1, acc := .ro }
/-- RING_L.JOINED [28] at 0x0C070 x2, RO/L, reset 0 (R327). -/
def ringLJoined : Field := { id := 1576476, w := 1, acc := .ro }
/-- RING_L.RATE [25:24] at 0x0C070 x2, RO/L, reset 0 (R327). -/
def ringLRate : Field := { id := 1576472, w := 2, acc := .ro }
/-- RING_L.DELAY [15:0] at 0x0C070 x2, RO/L, reset 0 (R327). -/
def ringLDelay : Field := { id := 1576448, w := 16, acc := .ro }
/-- RING_LC.RELAYED [31:0] at 0x0C100 x2, RC/L, reset 0 (R327). -/
def ringLcRelayed : Field := { id := 1581056, w := 32, acc := .rc, counter := true }
/-- RING_LC.CTRL_BAD [31:0] at 0x0C118 x2, RC/L, reset 0 (R327). -/
def ringLcCtrlBad : Field := { id := 1581824, w := 32, acc := .rc, counter := true }
/-- RING_LC.INSERTED [31:0] at 0x0C104 x2, RC/L, reset 0 (R327). -/
def ringLcInserted : Field := { id := 1581184, w := 32, acc := .rc, counter := true }
/-- RING_LC.TRAIN_FAIL [31:0] at 0x0C11C x2, RC/L, reset 0 (R327). -/
def ringLcTrainFail : Field := { id := 1581952, w := 32, acc := .rc, counter := true }
/-- RING_LC.DELIVERED [31:0] at 0x0C108 x2, RC/L, reset 0 (R327). -/
def ringLcDelivered : Field := { id := 1581312, w := 32, acc := .rc, counter := true }
/-- RING_LC.LOS_EVENTS [31:0] at 0x0C120 x2, RC/L, reset 0 (R327). -/
def ringLcLosEvents : Field := { id := 1582080, w := 32, acc := .rc, counter := true }
/-- RING_LC.HDR_ERR [31:0] at 0x0C10C x2, RC/L, reset 0 (R327). -/
def ringLcHdrErr : Field := { id := 1581440, w := 32, acc := .rc, counter := true }
/-- RING_LC.NOFIT [31:0] at 0x0C124 x2, RC/L, reset 0 (R327). -/
def ringLcNofit : Field := { id := 1582208, w := 32, acc := .rc, counter := true }
/-- RING_LC.HOPS_DROP [31:0] at 0x0C110 x2, RC/L, reset 0 (R327). -/
def ringLcHopsDrop : Field := { id := 1581568, w := 32, acc := .rc, counter := true }
/-- RING_C.GBLOCK [31:0] at 0x0C180, RC/L, reset 0 (R327). -/
def ringCGblock : Field := { id := 1585152, w := 32, acc := .rc, counter := true }
/-- RING_LC.INSERT_CUT [31:0] at 0x0C114 x2, RC/L, reset 0 (R327). -/
def ringLcInsertCut : Field := { id := 1581696, w := 32, acc := .rc, counter := true }
/-- RING_C.GALIGN_REJ [31:0] at 0x0C184, RC/L, reset 0 (R327). -/
def ringCGalignRej : Field := { id := 1585280, w := 32, acc := .rc, counter := true }
/-- RING_C.CSM_MISSED [31:0] at 0x0C188, RC/L, reset 0 (R327). -/
def ringCCsmMissed : Field := { id := 1585408, w := 32, acc := .rc, counter := true }
/-- RING_C.SPLICE_REFUSED [31:0] at 0x0C18C, RC/L, reset 0 (R327). -/
def ringCSpliceRefused : Field := { id := 1585536, w := 32, acc := .rc, counter := true }
/-- RING_C.LISTEN_ONLY_ENTRIES [31:0] at 0x0C190, RC/L, reset 0 (R327). -/
def ringCListenOnlyEntries : Field := { id := 1585664, w := 32, acc := .rc, counter := true }
/-- RING_LC.CTRL_DEFER [31:0] at 0x0C128 x2, RC/L, reset 0 (R327). -/
def ringLcCtrlDefer : Field := { id := 1582336, w := 32, acc := .rc, counter := true }
/-- RING_SLOT_IDX [7:0] at 0x0C200, RW/L, reset 0 (R327). -/
def ringSlotIdx : Field := { id := 1589248, w := 8, acc := .rw }
/-- RING_SLOT_CTRL.EN [31] at 0x0C204, RW/S, reset 0 (R327). -/
def ringSlotCtrlEn : Field := { id := 1589407, w := 1, acc := .rw, staged := true }
/-- RING_SLOT_CTRL.LANE [30] at 0x0C204, RW/S, reset 0 (R327). -/
def ringSlotCtrlLane : Field := { id := 1589406, w := 1, acc := .rw, staged := true }
/-- RING_SLOT_CTRL.OWNER [28:24] at 0x0C204, RW/S, reset 0 (R327). -/
def ringSlotCtrlOwner : Field := { id := 1589400, w := 5, acc := .rw, staged := true }
/-- RING_SLOT_CTRL.START [18:0] at 0x0C204, RW/S, reset 0 (R327). -/
def ringSlotCtrlStart : Field := { id := 1589376, w := 19, acc := .rw, staged := true }
/-- RING_SLOT_LEN [18:0] at 0x0C208, RW/S, reset 0 (R327). -/
def ringSlotLen : Field := { id := 1589504, w := 19, acc := .rw, staged := true }
/-- RING_LG_CFG.EN [31] at 0x0C300, RW/S, reset 0 (R327). -/
def ringLgCfgEn : Field := { id := 1597471, w := 1, acc := .rw, staged := true }
/-- RING_LG_CFG.ETYPE [15:0] at 0x0C300, RW/S, reset 0 (R327). -/
def ringLgCfgEtype : Field := { id := 1597440, w := 16, acc := .rw, staged := true }
/-- RING_LG_DA_LO [31:0] at 0x0C304, RW/S, reset 0 (R327). -/
def ringLgDaLo : Field := { id := 1597568, w := 32, acc := .rw, staged := true }
/-- RING_LG_DA_HI [15:0] at 0x0C308, RW/S, reset 0 (R327). -/
def ringLgDaHi : Field := { id := 1597696, w := 16, acc := .rw, staged := true }
/-- RING_LG_SA_LO [31:0] at 0x0C30C, RW/S, reset 0 (R327). -/
def ringLgSaLo : Field := { id := 1597824, w := 32, acc := .rw, staged := true }
/-- RING_LG_SA_HI [15:0] at 0x0C310, RW/S, reset 0 (R327). -/
def ringLgSaHi : Field := { id := 1597952, w := 16, acc := .rw, staged := true }
/-- ETH_CFG.EN [31] at 0x10000 x8, RW/S, reset 0 (R359). -/
def ethCfgEn : Field := { id := 2097183, w := 1, acc := .rw, staged := true }
/-- ETH_CFG.COMPAT [30] at 0x10000 x8, RW/S, reset 0 (R359). -/
def ethCfgCompat : Field := { id := 2097182, w := 1, acc := .rw, staged := true }
/-- ETH_CFG.AN_EN [29] at 0x10000 x8, RW/S, reset 1 (R359). -/
def ethCfgAnEn : Field := { id := 2097181, w := 1, acc := .rw, staged := true, reset := fun _ => 1 }
/-- ETH_CFG.FAST_LD [28] at 0x10000 x8, RW/S, reset 0 (R359). -/
def ethCfgFastLd : Field := { id := 2097180, w := 1, acc := .rw, staged := true }
/-- ETH_CFG.MDIX [25:24] at 0x10000 x8, RW/S, reset 0 (R359). -/
def ethCfgMdix : Field := { id := 2097176, w := 2, acc := .rw, staged := true }
/-- ETH_CFG.FORCE_SPEED [21:20] at 0x10000 x8, RW/S, reset 1 (R359). -/
def ethCfgForceSpeed : Field := { id := 2097172, w := 2, acc := .rw, staged := true, reset := fun _ => 1 }
/-- ETH_CFG.FORCE_FD [16] at 0x10000 x8, RW/S, reset 1 (R359). -/
def ethCfgForceFd : Field := { id := 2097168, w := 1, acc := .rw, staged := true, reset := fun _ => 1 }
/-- ETH_AN_ADV.EEE1000 [12] at 0x10004 x8, RW/S, reset 0 (R359). -/
def ethAnAdvEee1000 : Field := { id := 2097292, w := 1, acc := .rw, staged := true }
/-- ETH_AN_ADV.EEE100 [11] at 0x10004 x8, RW/S, reset 0 (R359). -/
def ethAnAdvEee100 : Field := { id := 2097291, w := 1, acc := .rw, staged := true }
/-- ETH_AN_ADV.ASM_DIR [10] at 0x10004 x8, RW/S, reset 0 (R359). -/
def ethAnAdvAsmDir : Field := { id := 2097290, w := 1, acc := .rw, staged := true }
/-- ETH_AN_ADV.PAUSE [9] at 0x10004 x8, RW/S, reset 1 (R359). -/
def ethAnAdvPause : Field := { id := 2097289, w := 1, acc := .rw, staged := true, reset := fun _ => 1 }
/-- ETH_AN_ADV.MS [8:7] at 0x10004 x8, RW/S, reset 0 (R359). -/
def ethAnAdvMs : Field := { id := 2097287, w := 2, acc := .rw, staged := true }
/-- ETH_AN_ADV.MODES [4:0] at 0x10004 x8, RW/S, reset 0x1F (R359). -/
def ethAnAdvModes : Field := { id := 2097280, w := 5, acc := .rw, staged := true, reset := fun _ => 31 }
/-- ETH_MAXLEN [13:0] at 0x10008 x8, RW/S, reset 9,600 (R359). -/
def ethMaxlen : Field := { id := 2097408, w := 14, acc := .rw, staged := true, reset := fun _ => 9600 }
/-- ETH_FC.TX_PAUSE_EN [31] at 0x1000C x8, RW/S, reset 0 (R359). -/
def ethFcTxPauseEn : Field := { id := 2097567, w := 1, acc := .rw, staged := true }
/-- ETH_FC.RX_PAUSE_EN [30] at 0x1000C x8, RW/S, reset 0 (R359). -/
def ethFcRxPauseEn : Field := { id := 2097566, w := 1, acc := .rw, staged := true }
/-- ETH_FC.PAUSE_CLASSES [23:16] at 0x1000C x8, RW/S, reset 0x3F (R359). -/
def ethFcPauseClasses : Field := { id := 2097552, w := 8, acc := .rw, staged := true, reset := fun _ => 63 }
/-- ETH_FC.QUANTA [15:0] at 0x1000C x8, RW/S, reset 0xFFFF (R359). -/
def ethFcQuanta : Field := { id := 2097536, w := 16, acc := .rw, staged := true, reset := fun _ => 65535 }
/-- ETH_SA_LO [31:0] at 0x10010 x8, RW/S, reset 0 (R359). -/
def ethSaLo : Field := { id := 2097664, w := 32, acc := .rw, staged := true }
/-- ETH_SA_HI [15:0] at 0x10014 x8, RW/S, reset 0 (R359). -/
def ethSaHi : Field := { id := 2097792, w := 16, acc := .rw, staged := true }
/-- ETH_EEE.EN [31] at 0x10018 x8, RW/S, reset 0 (R359). -/
def ethEeeEn : Field := { id := 2097951, w := 1, acc := .rw, staged := true }
/-- ETH_EEE.GATE_WAKE [30] at 0x10018 x8, RW/S, reset 1 (R359). -/
def ethEeeGateWake : Field := { id := 2097950, w := 1, acc := .rw, staged := true, reset := fun _ => 1 }
/-- ETH_EEE.LPI_IDLE_US [15:0] at 0x10018 x8, RW/S, reset 100 (R359). -/
def ethEeeLpiIdleUs : Field := { id := 2097920, w := 16, acc := .rw, staged := true, reset := fun _ => 100 }
/-- ETH_EEE_TW [15:0] at 0x1001C x8, RW/L, reset 0 (R359). -/
def ethEeeTw : Field := { id := 2098048, w := 16, acc := .rw }
/-- ETH_CTRL.RESTART_AN [0] at 0x10020 x8, WO/L, reset 0 (R359). -/
def ethCtrlRestartAn : Field := { id := 2098176, w := 1, acc := .wo }
/-- ETH_STATUS.LINK [31] at 0x10040 x8, RO/L, reset 0 (R359). -/
def ethStatusLink : Field := { id := 2099231, w := 1, acc := .ro }
/-- ETH_STATUS.AN_DONE [30] at 0x10040 x8, RO/L, reset 0 (R359). -/
def ethStatusAnDone : Field := { id := 2099230, w := 1, acc := .ro }
/-- ETH_STATUS.AN_FAIL [29] at 0x10040 x8, W1C/L, reset 0 (R359). -/
def ethStatusAnFail : Field := { id := 2099229, w := 1, acc := .w1c }
/-- ETH_STATUS.FD [28] at 0x10040 x8, RO/L, reset 0 (R359). -/
def ethStatusFd : Field := { id := 2099228, w := 1, acc := .ro }
/-- ETH_STATUS.SPEED [25:24] at 0x10040 x8, RO/L, reset 0 (R359). -/
def ethStatusSpeed : Field := { id := 2099224, w := 2, acc := .ro }
/-- ETH_STATUS.MASTER [23] at 0x10040 x8, RO/L, reset 0 (R359). -/
def ethStatusMaster : Field := { id := 2099223, w := 1, acc := .ro }
/-- ETH_STATUS.MDIX_ACT [22] at 0x10040 x8, RO/L, reset 0 (R359). -/
def ethStatusMdixAct : Field := { id := 2099222, w := 1, acc := .ro }
/-- ETH_STATUS.TX_PAUSE [21] at 0x10040 x8, RO/L, reset 0 (R359). -/
def ethStatusTxPause : Field := { id := 2099221, w := 1, acc := .ro }
/-- ETH_STATUS.RX_PAUSE [20] at 0x10040 x8, RO/L, reset 0 (R359). -/
def ethStatusRxPause : Field := { id := 2099220, w := 1, acc := .ro }
/-- ETH_STATUS.EEE_ACT [19] at 0x10040 x8, RO/L, reset 0 (R359). -/
def ethStatusEeeAct : Field := { id := 2099219, w := 1, acc := .ro }
/-- ETH_STATUS.LPI_TX [18] at 0x10040 x8, RO/L, reset 0 (R359). -/
def ethStatusLpiTx : Field := { id := 2099218, w := 1, acc := .ro }
/-- ETH_STATUS.LPI_RX [17] at 0x10040 x8, RO/L, reset 0 (R359). -/
def ethStatusLpiRx : Field := { id := 2099217, w := 1, acc := .ro }
/-- ETH_STATUS.PAUSED [16] at 0x10040 x8, RO/L, reset 0 (R359). -/
def ethStatusPaused : Field := { id := 2099216, w := 1, acc := .ro }
/-- ETH_PARTNER [12:0] at 0x10044 x8, RO/L, reset 0 (R359). -/
def ethPartner : Field := { id := 2099328, w := 13, acc := .ro }
/-- ETH_TW_ACT [15:0] at 0x10048 x8, RO/L, reset 0 (R359). -/
def ethTwAct : Field := { id := 2099456, w := 16, acc := .ro }
/-- ETH_L1208_RUNT.BAD [31:16] at 0x10200 x8, RC/L, reset 0 (R359). -/
def ethL1208RuntBad : Field := { id := 2113552, w := 16, acc := .rc, counter := true }
/-- ETH_L1208_RUNT.GOOD [15:0] at 0x10200 x8, RC/L, reset 0 (R359). -/
def ethL1208RuntGood : Field := { id := 2113536, w := 16, acc := .rc, counter := true }
/-- ETH_L1208_FRAG [15:0] at 0x10204 x8, RC/L, reset 0 (R359). -/
def ethL1208Frag : Field := { id := 2113664, w := 16, acc := .rc, counter := true }
/-- ETH_C.RX_OCTETS [31:0] at 0x10100 x8, RC/L, reset 0 (R359). -/
def ethCRxOctets : Field := { id := 2105344, w := 32, acc := .rc, counter := true }
/-- ETH_C.LATE_COL [31:0] at 0x1012C x8, RC/L, reset 0 (R359). -/
def ethCLateCol : Field := { id := 2106752, w := 32, acc := .rc, counter := true }
/-- ETH_C.RX_FRAMES [31:0] at 0x10104 x8, RC/L, reset 0 (R359). -/
def ethCRxFrames : Field := { id := 2105472, w := 32, acc := .rc, counter := true }
/-- ETH_C.EXC_COL [31:0] at 0x10130 x8, RC/L, reset 0 (R359). -/
def ethCExcCol : Field := { id := 2106880, w := 32, acc := .rc, counter := true }
/-- ETH_C.RX_BCAST [31:0] at 0x10108 x8, RC/L, reset 0 (R359). -/
def ethCRxBcast : Field := { id := 2105600, w := 32, acc := .rc, counter := true }
/-- ETH_C.DEFERRED [31:0] at 0x10134 x8, RC/L, reset 0 (R359). -/
def ethCDeferred : Field := { id := 2107008, w := 32, acc := .rc, counter := true }
/-- ETH_C.RX_MCAST [31:0] at 0x1010C x8, RC/L, reset 0 (R359). -/
def ethCRxMcast : Field := { id := 2105728, w := 32, acc := .rc, counter := true }
/-- ETH_C.TX_ABORT [31:0] at 0x10138 x8, RC/L, reset 0 (R359). -/
def ethCTxAbort : Field := { id := 2107136, w := 32, acc := .rc, counter := true }
/-- ETH_C.RX_PAUSE [31:0] at 0x10110 x8, RC/L, reset 0 (R359). -/
def ethCRxPause : Field := { id := 2105856, w := 32, acc := .rc, counter := true }
/-- ETH_C.LINK_DOWN [31:0] at 0x1013C x8, RC/L, reset 0 (R359). -/
def ethCLinkDown : Field := { id := 2107264, w := 32, acc := .rc, counter := true }
/-- ETH_C.RX_CTRL_UNK [31:0] at 0x10114 x8, RC/L, reset 0 (R359). -/
def ethCRxCtrlUnk : Field := { id := 2105984, w := 32, acc := .rc, counter := true }
/-- ETH_C.AN_FAIL_CNT [31:0] at 0x10140 x8, RC/L, reset 0 (R359). -/
def ethCAnFailCnt : Field := { id := 2107392, w := 32, acc := .rc, counter := true }
/-- ETH_C.RX_SYMBOL_ERR [31:0] at 0x10118 x8, RC/L, reset 0 (R359). -/
def ethCRxSymbolErr : Field := { id := 2106112, w := 32, acc := .rc, counter := true }
/-- ETH_C.LPI_TX_ENTRIES [31:0] at 0x10144 x8, RC/L, reset 0 (R359). -/
def ethCLpiTxEntries : Field := { id := 2107520, w := 32, acc := .rc, counter := true }
/-- ETH_C.TX_OCTETS [31:0] at 0x1011C x8, RC/L, reset 0 (R359). -/
def ethCTxOctets : Field := { id := 2106240, w := 32, acc := .rc, counter := true }
/-- ETH_C.LPI_TX_US [31:0] at 0x10148 x8, RC/L, reset 0 (R359). -/
def ethCLpiTxUs : Field := { id := 2107648, w := 32, acc := .rc, counter := true }
/-- ETH_C.TX_FRAMES [31:0] at 0x10120 x8, RC/L, reset 0 (R359). -/
def ethCTxFrames : Field := { id := 2106368, w := 32, acc := .rc, counter := true }
/-- ETH_C.LPI_RX_US [31:0] at 0x1014C x8, RC/L, reset 0 (R359). -/
def ethCLpiRxUs : Field := { id := 2107776, w := 32, acc := .rc, counter := true }
/-- ETH_C.TX_PAUSE [31:0] at 0x10124 x8, RC/L, reset 0 (R359). -/
def ethCTxPause : Field := { id := 2106496, w := 32, acc := .rc, counter := true }
/-- ETH_C.PAUSED_US [31:0] at 0x10150 x8, RC/L, reset 0 (R359). -/
def ethCPausedUs : Field := { id := 2107904, w := 32, acc := .rc, counter := true }
/-- ETH_C.COLLISIONS [31:0] at 0x10128 x8, RC/L, reset 0 (R359). -/
def ethCCollisions : Field := { id := 2106624, w := 32, acc := .rc, counter := true }
/-- T1S_CFG.EN [31] at 0x18000 x4, RW/S, reset 0 (R360). -/
def t1sCfgEn : Field := { id := 3145759, w := 1, acc := .rw, staged := true }
/-- T1S_CFG.COMPAT [30] at 0x18000 x4, RW/S, reset 0 (R360). -/
def t1sCfgCompat : Field := { id := 3145758, w := 1, acc := .rw, staged := true }
/-- T1S_CFG.PLCA_EN [29] at 0x18000 x4, RW/S, reset 0 (R360). -/
def t1sCfgPlcaEn : Field := { id := 3145757, w := 1, acc := .rw, staged := true }
/-- T1S_CFG.NODE_ID [15:8] at 0x18000 x4, RW/S, reset 0 (R360). -/
def t1sCfgNodeId : Field := { id := 3145736, w := 8, acc := .rw, staged := true }
/-- T1S_CFG.NODE_CNT [7:0] at 0x18000 x4, RW/S, reset 8 (R360). -/
def t1sCfgNodeCnt : Field := { id := 3145728, w := 8, acc := .rw, staged := true, reset := fun _ => 8 }
/-- T1S_PLCA_TMR.BURST_TMR [23:16] at 0x18004 x4, RW/S, reset 128 (R360). -/
def t1sPlcaTmrBurstTmr : Field := { id := 3145872, w := 8, acc := .rw, staged := true, reset := fun _ => 128 }
/-- T1S_PLCA_TMR.BURST_CNT [15:8] at 0x18004 x4, RW/S, reset 0 (R360). -/
def t1sPlcaTmrBurstCnt : Field := { id := 3145864, w := 8, acc := .rw, staged := true }
/-- T1S_PLCA_TMR.TO_TMR [7:0] at 0x18004 x4, RW/S, reset 32 (R360). -/
def t1sPlcaTmrToTmr : Field := { id := 3145856, w := 8, acc := .rw, staged := true, reset := fun _ => 32 }
/-- T1S_MAXLEN [10:0] at 0x18008 x4, RW/S, reset 1,522 (R360). -/
def t1sMaxlen : Field := { id := 3145984, w := 11, acc := .rw, staged := true, reset := fun _ => 1522 }
/-- T1S_THR.ADAPT_EN [31] at 0x1800C x4, RW/S, reset 0 (R360). -/
def t1sThrAdaptEn : Field := { id := 3146143, w := 1, acc := .rw, staged := true }
/-- T1S_THR.CUR [12:8] at 0x1800C x4, RO/L, reset 10 (R360). -/
def t1sThrCur : Field := { id := 3146120, w := 5, acc := .ro, reset := fun _ => 10 }
/-- T1S_THR.INIT [4:0] at 0x1800C x4, RW/S, reset 10 (R360). -/
def t1sThrInit : Field := { id := 3146112, w := 5, acc := .rw, staged := true, reset := fun _ => 10 }
/-- T1S_STATUS.LINK [31] at 0x18040 x4, RO/L, reset 0 (R360). -/
def t1sStatusLink : Field := { id := 3147807, w := 1, acc := .ro }
/-- T1S_STATUS.PLCA_ACT [30] at 0x18040 x4, RO/L, reset 0 (R360). -/
def t1sStatusPlcaAct : Field := { id := 3147806, w := 1, acc := .ro }
/-- T1S_STATUS.COORD [29] at 0x18040 x4, RO/L, reset 0 (R360). -/
def t1sStatusCoord : Field := { id := 3147805, w := 1, acc := .ro }
/-- T1S_STATUS.PHY_FAULT [28] at 0x18040 x4, W1C/L, reset 0 (R360). -/
def t1sStatusPhyFault : Field := { id := 3147804, w := 1, acc := .w1c }
/-- T1S_L1208_RUNT.BAD [31:16] at 0x18200 x4, RC/L, reset 0 (R360). -/
def t1sL1208RuntBad : Field := { id := 3162128, w := 16, acc := .rc, counter := true }
/-- T1S_L1208_RUNT.GOOD [15:0] at 0x18200 x4, RC/L, reset 0 (R360). -/
def t1sL1208RuntGood : Field := { id := 3162112, w := 16, acc := .rc, counter := true }
/-- T1S_L1208_FRAG [15:0] at 0x18204 x4, RC/L, reset 0 (R360). -/
def t1sL1208Frag : Field := { id := 3162240, w := 16, acc := .rc, counter := true }
/-- T1S_C.RX_OCTETS [31:0] at 0x18100 x4, RC/L, reset 0 (R360). -/
def t1sCRxOctets : Field := { id := 3153920, w := 32, acc := .rc, counter := true }
/-- T1S_C.LATE_COL [31:0] at 0x1811C x4, RC/L, reset 0 (R360). -/
def t1sCLateCol : Field := { id := 3154816, w := 32, acc := .rc, counter := true }
/-- T1S_C.RX_FRAMES [31:0] at 0x18104 x4, RC/L, reset 0 (R360). -/
def t1sCRxFrames : Field := { id := 3154048, w := 32, acc := .rc, counter := true }
/-- T1S_C.EXC_COL [31:0] at 0x18120 x4, RC/L, reset 0 (R360). -/
def t1sCExcCol : Field := { id := 3154944, w := 32, acc := .rc, counter := true }
/-- T1S_C.RX_BCAST [31:0] at 0x18108 x4, RC/L, reset 0 (R360). -/
def t1sCRxBcast : Field := { id := 3154176, w := 32, acc := .rc, counter := true }
/-- T1S_C.DEFERRED [31:0] at 0x18124 x4, RC/L, reset 0 (R360). -/
def t1sCDeferred : Field := { id := 3155072, w := 32, acc := .rc, counter := true }
/-- T1S_C.RX_MCAST [31:0] at 0x1810C x4, RC/L, reset 0 (R360). -/
def t1sCRxMcast : Field := { id := 3154304, w := 32, acc := .rc, counter := true }
/-- T1S_C.TX_ABORT [31:0] at 0x18128 x4, RC/L, reset 0 (R360). -/
def t1sCTxAbort : Field := { id := 3155200, w := 32, acc := .rc, counter := true }
/-- T1S_C.TX_OCTETS [31:0] at 0x18110 x4, RC/L, reset 0 (R360). -/
def t1sCTxOctets : Field := { id := 3154432, w := 32, acc := .rc, counter := true }
/-- T1S_C.BEACON_RX [31:0] at 0x1812C x4, RC/L, reset 0 (R360). -/
def t1sCBeaconRx : Field := { id := 3155328, w := 32, acc := .rc, counter := true }
/-- T1S_C.TX_FRAMES [31:0] at 0x18114 x4, RC/L, reset 0 (R360). -/
def t1sCTxFrames : Field := { id := 3154560, w := 32, acc := .rc, counter := true }
/-- T1S_C.PLCA_FALLBACK [31:0] at 0x18130 x4, RC/L, reset 0 (R360). -/
def t1sCPlcaFallback : Field := { id := 3155456, w := 32, acc := .rc, counter := true }
/-- T1S_C.COLLISIONS [31:0] at 0x18118 x4, RC/L, reset 0 (R360). -/
def t1sCCollisions : Field := { id := 3154688, w := 32, acc := .rc, counter := true }
/-- T1S_C.THR_STEPS [31:0] at 0x18134 x4, RC/L, reset 0 (R360). -/
def t1sCThrSteps : Field := { id := 3155584, w := 32, acc := .rc, counter := true }
/-- T1S_C.LINK_DOWN [31:0] at 0x18138 x4, RC/L, reset 0 (R360). -/
def t1sCLinkDown : Field := { id := 3155712, w := 32, acc := .rc, counter := true }
/-- CAN_CFG.MODE [31:30] at 0x1C000 x4, RW/S, reset 0 (R390). -/
def canCfgMode : Field := { id := 3670046, w := 2, acc := .rw, staged := true }
/-- CAN_CFG.FD_EN [29] at 0x1C000 x4, RW/S, reset 0 (R390). -/
def canCfgFdEn : Field := { id := 3670045, w := 1, acc := .rw, staged := true }
/-- CAN_CFG.XL_EN [28] at 0x1C000 x4, RW/S, reset 0 (R390). -/
def canCfgXlEn : Field := { id := 3670044, w := 1, acc := .rw, staged := true }
/-- CAN_CFG.TDC_EN [27] at 0x1C000 x4, RW/S, reset 0 (R390). -/
def canCfgTdcEn : Field := { id := 3670043, w := 1, acc := .rw, staged := true }
/-- CAN_CFG.TX_ORDER [26] at 0x1C000 x4, RW/S, reset 0 (R390). -/
def canCfgTxOrder : Field := { id := 3670042, w := 1, acc := .rw, staged := true }
/-- CAN_CFG.PEX [25] at 0x1C000 x4, RW/S, reset 1 (R390). -/
def canCfgPex : Field := { id := 3670041, w := 1, acc := .rw, staged := true, reset := fun _ => 1 }
/-- CAN_CFG.BANK [20:16] at 0x1C000 x4, RW/S, reset 28 + n (R390). -/
def canCfgBank : Field := { id := 3670032, w := 5, acc := .rw, staged := true, reset := fun i => 28 + i }
/-- CAN_CFG.DB_BIT [4:0] at 0x1C000 x4, RW/S, reset 0 (R390). -/
def canCfgDbBit : Field := { id := 3670016, w := 5, acc := .rw, staged := true }
/-- CAN_NBT.NTSEG2 [31:25] at 0x1C004 x4, RW/S, reset 20 (R390). -/
def canNbtNtseg2 : Field := { id := 3670169, w := 7, acc := .rw, staged := true, reset := fun _ => 20 }
/-- CAN_NBT.NTSEG1 [24:16] at 0x1C004 x4, RW/S, reset 79 (R390). -/
def canNbtNtseg1 : Field := { id := 3670160, w := 9, acc := .rw, staged := true, reset := fun _ => 79 }
/-- CAN_NBT.NSJW [15:9] at 0x1C004 x4, RW/S, reset 20 (R390). -/
def canNbtNsjw : Field := { id := 3670153, w := 7, acc := .rw, staged := true, reset := fun _ => 20 }
/-- CAN_NBT.NBRP [8:0] at 0x1C004 x4, RW/S, reset 10 (R390). -/
def canNbtNbrp : Field := { id := 3670144, w := 9, acc := .rw, staged := true, reset := fun _ => 10 }
/-- CAN_DBT.DSJW [31:27] at 0x1C008 x4, RW/S, reset 7 (R390). -/
def canDbtDsjw : Field := { id := 3670299, w := 5, acc := .rw, staged := true, reset := fun _ => 7 }
/-- CAN_DBT.DTSEG2 [26:22] at 0x1C008 x4, RW/S, reset 7 (R390). -/
def canDbtDtseg2 : Field := { id := 3670294, w := 5, acc := .rw, staged := true, reset := fun _ => 7 }
/-- CAN_DBT.DTSEG1 [21:16] at 0x1C008 x4, RW/S, reset 17 (R390). -/
def canDbtDtseg1 : Field := { id := 3670288, w := 6, acc := .rw, staged := true, reset := fun _ => 17 }
/-- CAN_DBT.TDCO [15:8] at 0x1C008 x4, RW/S, reset 10 (R390). -/
def canDbtTdco : Field := { id := 3670280, w := 8, acc := .rw, staged := true, reset := fun _ => 10 }
/-- CAN_DBT.DBRP [4:0] at 0x1C008 x4, RW/S, reset 5 (R390). -/
def canDbtDbrp : Field := { id := 3670272, w := 5, acc := .rw, staged := true, reset := fun _ => 5 }
/-- CAN_XBT [31:0] at 0x1C00C x4, RW/S, reset As CAN_DBT (R390). -/
def canXbt : Field := { id := 3670400, w := 32, acc := .rw, staged := true, reset := fun _ => 1072769541 }
/-- CAN_LOCK.EN [31] at 0x1C010 x4, RW/S, reset 0 (R390). -/
def canLockEn : Field := { id := 3670559, w := 1, acc := .rw, staged := true }
/-- CAN_LOCK.LOCK_US [15:0] at 0x1C010 x4, RW/S, reset 0 (R390). -/
def canLockLockUs : Field := { id := 3670528, w := 16, acc := .rw, staged := true }
/-- CAN_DET.ROUNDS [15:8] at 0x1C014 x4, RW/S, reset 1 (R390). -/
def canDetRounds : Field := { id := 3670664, w := 8, acc := .rw, staged := true, reset := fun _ => 1 }
/-- CAN_DET.WIN_MS [7:0] at 0x1C014 x4, RW/S, reset 100 (R390). -/
def canDetWinMs : Field := { id := 3670656, w := 8, acc := .rw, staged := true, reset := fun _ => 100 }
/-- CAN_DETC [31:0] at 0x1C018 x4 x4, RW/S, reset 0 (R390). -/
def canDetc : Field := { id := 3670784, w := 32, acc := .rw, staged := true }
/-- CAN_DET_RES.DONE [31] at 0x1C028 x4, RO/L, reset 0 (R390). -/
def canDetResDone : Field := { id := 3671327, w := 1, acc := .ro }
/-- CAN_DET_RES.FOUND [30] at 0x1C028 x4, RO/L, reset 0 (R390). -/
def canDetResFound : Field := { id := 3671326, w := 1, acc := .ro }
/-- CAN_DET_RES.CAND [1:0] at 0x1C028 x4, RO/L, reset 0 (R390). -/
def canDetResCand : Field := { id := 3671296, w := 2, acc := .ro }
/-- CAN_TT_CFG.TT_EN [31] at 0x1C030 x4, RW/S, reset 0 (R390). -/
def canTtCfgTtEn : Field := { id := 3671583, w := 1, acc := .rw, staged := true }
/-- CAN_TT_CFG.MASTER [30] at 0x1C030 x4, RW/S, reset 0 (R390). -/
def canTtCfgMaster : Field := { id := 3671582, w := 1, acc := .rw, staged := true }
/-- CAN_TT_CFG.PRIO [29:27] at 0x1C030 x4, RW/S, reset 0 (R390). -/
def canTtCfgPrio : Field := { id := 3671579, w := 3, acc := .rw, staged := true }
/-- CAN_TT_CFG.AXIS [25:24] at 0x1C030 x4, RW/S, reset 0 (R390). -/
def canTtCfgAxis : Field := { id := 3671576, w := 2, acc := .rw, staged := true }
/-- CAN_TT_CFG.NTU [15:0] at 0x1C030 x4, RW/S, reset 500 (R390). -/
def canTtCfgNtu : Field := { id := 3671552, w := 16, acc := .rw, staged := true, reset := fun _ => 500 }
/-- CAN_TT_REFID.IDE [29] at 0x1C034 x4, RW/S, reset 0 (R390). -/
def canTtRefidIde : Field := { id := 3671709, w := 1, acc := .rw, staged := true }
/-- CAN_TT_REFID.REF_ID [28:0] at 0x1C034 x4, RW/S, reset 0 (R390). -/
def canTtRefidRefId : Field := { id := 3671680, w := 29, acc := .rw, staged := true }
/-- CAN_TT_CYC.TX_WIN [31:16] at 0x1C038 x4, RW/S, reset 1 (R390). -/
def canTtCycTxWin : Field := { id := 3671824, w := 16, acc := .rw, staged := true, reset := fun _ => 1 }
/-- CAN_TT_CYC.CYCLE_NTU [15:0] at 0x1C038 x4, RW/S, reset 1,000 (R390). -/
def canTtCycCycleNtu : Field := { id := 3671808, w := 16, acc := .rw, staged := true, reset := fun _ => 1000 }
/-- CAN_TT_PER_LO [31:0] at 0x1C03C x4, RW/S, reset 0 (R390). -/
def canTtPerLo : Field := { id := 3671936, w := 32, acc := .rw, staged := true }
/-- CAN_TT_PER_HI [15:0] at 0x1C040 x4, RW/S, reset 0 (R390). -/
def canTtPerHi : Field := { id := 3672064, w := 16, acc := .rw, staged := true }
/-- CAN_TT_OFS_LO [31:0] at 0x1C044 x4, RW/S, reset 0 (R390). -/
def canTtOfsLo : Field := { id := 3672192, w := 32, acc := .rw, staged := true }
/-- CAN_TT_OFS_HI [15:0] at 0x1C048 x4, RW/S, reset 0 (R390). -/
def canTtOfsHi : Field := { id := 3672320, w := 16, acc := .rw, staged := true }
/-- CAN_STATUS.ESTATE [31:30] at 0x1C080 x4, RO/L, reset 0 (R390). -/
def canStatusEstate : Field := { id := 3674142, w := 2, acc := .ro }
/-- CAN_STATUS.BUSOFF_SEEN [29] at 0x1C080 x4, W1C/L, reset 0 (R390). -/
def canStatusBusoffSeen : Field := { id := 3674141, w := 1, acc := .w1c }
/-- CAN_STATUS.TT_MASTER_ACT [28] at 0x1C080 x4, RO/L, reset 0 (R390). -/
def canStatusTtMasterAct : Field := { id := 3674140, w := 1, acc := .ro }
/-- CAN_STATUS.TT_SYNC [27] at 0x1C080 x4, RO/L, reset 0 (R390). -/
def canStatusTtSync : Field := { id := 3674139, w := 1, acc := .ro }
/-- CAN_STATUS.LEC [26:24] at 0x1C080 x4, RO/L, reset 0 (R390). -/
def canStatusLec : Field := { id := 3674136, w := 3, acc := .ro }
/-- CAN_STATUS.TDCV [7:0] at 0x1C080 x4, RO/L, reset 0 (R390). -/
def canStatusTdcv : Field := { id := 3674112, w := 8, acc := .ro }
/-- CAN_ERRC.REC [24:16] at 0x1C084 x4, RO/L, reset 0 (R390). -/
def canErrcRec : Field := { id := 3674256, w := 9, acc := .ro }
/-- CAN_ERRC.TEC [8:0] at 0x1C084 x4, RO/L, reset 0 (R390). -/
def canErrcTec : Field := { id := 3674240, w := 9, acc := .ro }
/-- CAN_TT_STAT.CYCLE [21:16] at 0x1C088 x4, RO/L, reset 0 (R390). -/
def canTtStatCycle : Field := { id := 3674384, w := 6, acc := .ro }
/-- CAN_TT_STAT.CTIME [15:0] at 0x1C088 x4, RO/L, reset 0 (R390). -/
def canTtStatCtime : Field := { id := 3674368, w := 16, acc := .ro }
/-- CAN_BCFG.MODE [31:30] at 0x1C204 x4, RW/S, reset 0 (R390). -/
def canBcfgMode : Field := { id := 3686558, w := 2, acc := .rw, staged := true }
/-- CAN_BCFG.EVT_EN [29] at 0x1C204 x4, RW/S, reset 0 (R390). -/
def canBcfgEvtEn : Field := { id := 3686557, w := 1, acc := .rw, staged := true }
/-- CAN_BCFG.EVT_HOST [28] at 0x1C204 x4, RW/S, reset 0 (R390). -/
def canBcfgEvtHost : Field := { id := 3686556, w := 1, acc := .rw, staged := true }
/-- CAN_BCFG.EVT_LE [27:24] at 0x1C204 x4, RW/S, reset 0 (R390). -/
def canBcfgEvtLe : Field := { id := 3686552, w := 4, acc := .rw, staged := true }
/-- CAN_BCFG.EVT_T [23:22] at 0x1C204 x4, RW/S, reset 0 (R390). -/
def canBcfgEvtT : Field := { id := 3686550, w := 2, acc := .rw, staged := true }
/-- CAN_BCFG.TRIG_EN [21] at 0x1C204 x4, RW/S, reset 0 (R390). -/
def canBcfgTrigEn : Field := { id := 3686549, w := 1, acc := .rw, staged := true }
/-- CAN_BCFG.FMT [20:19] at 0x1C204 x4, RW/S, reset 0 (R390). -/
def canBcfgFmt : Field := { id := 3686547, w := 2, acc := .rw, staged := true }
/-- CAN_BCFG.IDE [18] at 0x1C204 x4, RW/S, reset 0 (R390). -/
def canBcfgIde : Field := { id := 3686546, w := 1, acc := .rw, staged := true }
/-- CAN_BCFG.NEXT [7:0] at 0x1C204 x4, RW/S, reset 0 (R390). -/
def canBcfgNext : Field := { id := 3686528, w := 8, acc := .rw, staged := true }
/-- CAN_BID [28:0] at 0x1C208 x4, RW/S, reset 0 (R390). -/
def canBid : Field := { id := 3686656, w := 29, acc := .rw, staged := true }
/-- CAN_BMASK [28:0] at 0x1C20C x4, RW/S, reset 0 (R390). -/
def canBmask : Field := { id := 3686784, w := 29, acc := .rw, staged := true }
/-- CAN_BTRIG.REP_LOG [24:22] at 0x1C210 x4, RW/S, reset 0 (R390). -/
def canBtrigRepLog : Field := { id := 3686934, w := 3, acc := .rw, staged := true }
/-- CAN_BTRIG.OFS [21:16] at 0x1C210 x4, RW/S, reset 0 (R390). -/
def canBtrigOfs : Field := { id := 3686928, w := 6, acc := .rw, staged := true }
/-- CAN_BTRIG.TRIG_NTU [15:0] at 0x1C210 x4, RW/S, reset 0 (R390). -/
def canBtrigTrigNtu : Field := { id := 3686912, w := 16, acc := .rw, staged := true }
/-- CAN_TXCANCEL [7:0] at 0x1C220 x4, WO/L, reset 0 (R390). -/
def canTxcancel : Field := { id := 3687424, w := 8, acc := .wo }
/-- CAN_BWIN_IDX [7:0] at 0x1C300 x4, RW/L, reset 0 (R390). -/
def canBwinIdx : Field := { id := 3694592, w := 8, acc := .rw }
/-- CAN_BWIN [31:0] at 0x1C304 x4 x18, RW/L, reset 0 (R390). -/
def canBwin : Field := { id := 3694720, w := 32, acc := .rw }
/-- CAN_AUX [31:0] at 0x1C350 x4 x4, RO/L, reset 0 (R390). -/
def canAux : Field := { id := 3697152, w := 32, acc := .ro }
/-- CAN_C.RX_FRAMES [31:0] at 0x1C100 x4, RC/L, reset 0 (R390). -/
def canCRxFrames : Field := { id := 3678208, w := 32, acc := .rc, counter := true }
/-- CAN_C.STUFF_ERR [31:0] at 0x1C120 x4, RC/L, reset 0 (R390). -/
def canCStuffErr : Field := { id := 3679232, w := 32, acc := .rc, counter := true }
/-- CAN_C.TX_FRAMES [31:0] at 0x1C104 x4, RC/L, reset 0 (R390). -/
def canCTxFrames : Field := { id := 3678336, w := 32, acc := .rc, counter := true }
/-- CAN_C.FORM_ERR [31:0] at 0x1C124 x4, RC/L, reset 0 (R390). -/
def canCFormErr : Field := { id := 3679360, w := 32, acc := .rc, counter := true }
/-- CAN_C.NO_MATCH [31:0] at 0x1C108 x4, RC/L, reset 0 (R390). -/
def canCNoMatch : Field := { id := 3678464, w := 32, acc := .rc, counter := true }
/-- CAN_C.ACK_ERR [31:0] at 0x1C128 x4, RC/L, reset 0 (R390). -/
def canCAckErr : Field := { id := 3679488, w := 32, acc := .rc, counter := true }
/-- CAN_C.OVR_CNT [31:0] at 0x1C10C x4, RC/L, reset 0 (R390). -/
def canCOvrCnt : Field := { id := 3678592, w := 32, acc := .rc, counter := true }
/-- CAN_C.BIT_ERR [31:0] at 0x1C12C x4, RC/L, reset 0 (R390). -/
def canCBitErr : Field := { id := 3679616, w := 32, acc := .rc, counter := true }
/-- CAN_C.CHAIN_STORED [31:0] at 0x1C110 x4, RC/L, reset 0 (R390). -/
def canCChainStored : Field := { id := 3678720, w := 32, acc := .rc, counter := true }
/-- CAN_C.CRC_ERR [31:0] at 0x1C130 x4, RC/L, reset 0 (R390). -/
def canCCrcErr : Field := { id := 3679744, w := 32, acc := .rc, counter := true }
/-- CAN_C.CHAIN_LOST [31:0] at 0x1C114 x4, RC/L, reset 0 (R390). -/
def canCChainLost : Field := { id := 3678848, w := 32, acc := .rc, counter := true }
/-- CAN_C.BUSOFF_CNT [31:0] at 0x1C134 x4, RC/L, reset 0 (R390). -/
def canCBusoffCnt : Field := { id := 3679872, w := 32, acc := .rc, counter := true }
/-- CAN_C.LOCK_TMO [31:0] at 0x1C118 x4, RC/L, reset 0 (R390). -/
def canCLockTmo : Field := { id := 3678976, w := 32, acc := .rc, counter := true }
/-- CAN_C.TT_MISS [31:0] at 0x1C138 x4, RC/L, reset 0 (R390). -/
def canCTtMiss : Field := { id := 3680000, w := 32, acc := .rc, counter := true }
/-- CAN_C.XL_NO_SETT [31:0] at 0x1C11C x4, RC/L, reset 0 (R390). -/
def canCXlNoSett : Field := { id := 3679104, w := 32, acc := .rc, counter := true }
/-- CAN_C.TX_BAD [31:0] at 0x1C13C x4, RC/L, reset 0 (R390). -/
def canCTxBad : Field := { id := 3680128, w := 32, acc := .rc, counter := true }
/-- CAN_C.REF_RX [31:0] at 0x1C140 x4, RC/L, reset 0 (R390). -/
def canCRefRx : Field := { id := 3680256, w := 32, acc := .rc, counter := true }
/-- SHR_CFG.LINK_RX [31] at 0x20000 x32, RW/S, reset 0 (R426). -/
def shrCfgLinkRx : Field := { id := 4194335, w := 1, acc := .rw, staged := true }
/-- SHR_CFG.LINK_TX [30] at 0x20000 x32, RW/S, reset 0 (R426). -/
def shrCfgLinkTx : Field := { id := 4194334, w := 1, acc := .rw, staged := true }
/-- SHR_CFG.DIR [29] at 0x20000 x32, RW/S, reset 0 (R426). -/
def shrCfgDir : Field := { id := 4194333, w := 1, acc := .rw, staged := true }
/-- SHR_CFG.CK_EN [28] at 0x20000 x32, RW/S, reset 0 (R426). -/
def shrCfgCkEn : Field := { id := 4194332, w := 1, acc := .rw, staged := true }
/-- SHR_CFG.CK_IDLE [27] at 0x20000 x32, RW/S, reset 0 (R426). -/
def shrCfgCkIdle : Field := { id := 4194331, w := 1, acc := .rw, staged := true }
/-- SHR_CFG.QINV [26] at 0x20000 x32, RW/S, reset 0 (R426). -/
def shrCfgQinv : Field := { id := 4194330, w := 1, acc := .rw, staged := true }
/-- SHR_CFG.WLEN [25:21] at 0x20000 x32, RW/S, reset 24 (R426). -/
def shrCfgWlen : Field := { id := 4194325, w := 5, acc := .rw, staged := true, reset := fun _ => 24 }
/-- SHR_CFG.MLEN [20:16] at 0x20000 x32, RW/S, reset 24 (R426). -/
def shrCfgMlen : Field := { id := 4194320, w := 5, acc := .rw, staged := true, reset := fun _ => 24 }
/-- SHR_CFG.EVT_LE [15:12] at 0x20000 x32, RW/S, reset 0 (R426). -/
def shrCfgEvtLe : Field := { id := 4194316, w := 4, acc := .rw, staged := true }
/-- SHR_CFG.EVT_T [11:10] at 0x20000 x32, RW/S, reset 0 (R426). -/
def shrCfgEvtT : Field := { id := 4194314, w := 2, acc := .rw, staged := true }
/-- SHR_CFG.EVT_EN [9] at 0x20000 x32, RW/S, reset 0 (R426). -/
def shrCfgEvtEn : Field := { id := 4194313, w := 1, acc := .rw, staged := true }
/-- SHR_CFG.CK_LANE [6:4] at 0x20000 x32, RW/S, reset 0 (R426). -/
def shrCfgCkLane : Field := { id := 4194308, w := 3, acc := .rw, staged := true }
/-- SHR_CFG.TXF_MARK [3:0] at 0x20000 x32, RW/S, reset 0 (R426). -/
def shrCfgTxfMark : Field := { id := 4194304, w := 4, acc := .rw, staged := true }
/-- SHR_LANEA.PIN0 [5:0] at 0x20004 x32, RW/S, reset 0 (R426). -/
def shrLaneaPin0 : Field := { id := 4194432, w := 6, acc := .rw, staged := true }
/-- SHR_LANEA.PIN1 [13:8] at 0x20004 x32, RW/S, reset 1 (R426). -/
def shrLaneaPin1 : Field := { id := 4194440, w := 6, acc := .rw, staged := true, reset := fun _ => 1 }
/-- SHR_LANEA.PIN2 [21:16] at 0x20004 x32, RW/S, reset 2 (R426). -/
def shrLaneaPin2 : Field := { id := 4194448, w := 6, acc := .rw, staged := true, reset := fun _ => 2 }
/-- SHR_LANEA.PIN3 [29:24] at 0x20004 x32, RW/S, reset 3 (R426). -/
def shrLaneaPin3 : Field := { id := 4194456, w := 6, acc := .rw, staged := true, reset := fun _ => 3 }
/-- SHR_LANEB.PIN4 [5:0] at 0x20008 x32, RW/S, reset 4 (R426). -/
def shrLanebPin4 : Field := { id := 4194560, w := 6, acc := .rw, staged := true, reset := fun _ => 4 }
/-- SHR_LANEB.PIN5 [13:8] at 0x20008 x32, RW/S, reset 5 (R426). -/
def shrLanebPin5 : Field := { id := 4194568, w := 6, acc := .rw, staged := true, reset := fun _ => 5 }
/-- SHR_LANEB.PIN6 [21:16] at 0x20008 x32, RW/S, reset 6 (R426). -/
def shrLanebPin6 : Field := { id := 4194576, w := 6, acc := .rw, staged := true, reset := fun _ => 6 }
/-- SHR_LANEB.PIN7 [29:24] at 0x20008 x32, RW/S, reset 7 (R426). -/
def shrLanebPin7 : Field := { id := 4194584, w := 6, acc := .rw, staged := true, reset := fun _ => 7 }
/-- SHR_DIV.RATE [23:0] at 0x2000C x32, RW/S, reset 256 (R426). -/
def shrDivRate : Field := { id := 4194688, w := 24, acc := .rw, staged := true, reset := fun _ => 256 }
/-- SHR_TXF [23:0] at 0x20010 x32, WO/L, reset 0 (R426). -/
def shrTxf : Field := { id := 4194816, w := 24, acc := .wo }
/-- SHR_RXF.VALID [31] at 0x20014 x32, RC/L, reset 0 (R426). -/
def shrRxfValid : Field := { id := 4194975, w := 1, acc := .rc }
/-- SHR_RXF.DATA [23:0] at 0x20014 x32, RC/L, reset 0 (R426). -/
def shrRxfData : Field := { id := 4194944, w := 24, acc := .rc }
/-- SHR_STAT.STATE [31:29] at 0x20018 x32, RO/L, reset 0 (R426). -/
def shrStatState : Field := { id := 4195101, w := 3, acc := .ro }
/-- SHR_STAT.BANK [28] at 0x20018 x32, RO/L, reset 0 (R426). -/
def shrStatBank : Field := { id := 4195100, w := 1, acc := .ro }
/-- SHR_STAT.SWAP_PEND [27] at 0x20018 x32, RO/L, reset 0 (R426). -/
def shrStatSwapPend : Field := { id := 4195099, w := 1, acc := .ro }
/-- SHR_STAT.RLAT [25] at 0x20018 x32, RO/L, reset 0 (R426). -/
def shrStatRlat : Field := { id := 4195097, w := 1, acc := .ro }
/-- SHR_STAT.TLAT [24] at 0x20018 x32, RO/L, reset 0 (R426). -/
def shrStatTlat : Field := { id := 4195096, w := 1, acc := .ro }
/-- SHR_STAT.PC [22:16] at 0x20018 x32, RO/L, reset 0 (R426). -/
def shrStatPc : Field := { id := 4195088, w := 7, acc := .ro }
/-- SHR_STAT.C [12:8] at 0x20018 x32, RO/L, reset 0 (R426). -/
def shrStatC : Field := { id := 4195080, w := 5, acc := .ro }
/-- SHR_STAT.TXF_LVL [7:4] at 0x20018 x32, RO/L, reset 0 (R426). -/
def shrStatTxfLvl : Field := { id := 4195076, w := 4, acc := .ro }
/-- SHR_STAT.RXF_LVL [3:0] at 0x20018 x32, RO/L, reset 0 (R426). -/
def shrStatRxfLvl : Field := { id := 4195072, w := 4, acc := .ro }
/-- SHR_ERR.ILLEGAL [2] at 0x2001C x32, W1C/L, reset 0 (R426). -/
def shrErrIllegal : Field := { id := 4195202, w := 1, acc := .w1c }
/-- SHR_ERR.RXF_UNF [1] at 0x2001C x32, W1C/L, reset 0 (R426). -/
def shrErrRxfUnf : Field := { id := 4195201, w := 1, acc := .w1c }
/-- SHR_ERR.TXF_OVF [0] at 0x2001C x32, W1C/L, reset 0 (R426). -/
def shrErrTxfOvf : Field := { id := 4195200, w := 1, acc := .w1c }
/-- SHR_CA [15:0] at 0x20020 x32, RO/L, reset 0 (R426). -/
def shrCa : Field := { id := 4195328, w := 16, acc := .ro }
/-- SHR_CB [15:0] at 0x20024 x32, RO/L, reset 0 (R426). -/
def shrCb : Field := { id := 4195456, w := 16, acc := .ro }
/-- SHR_SR [23:0] at 0x20028 x32, RO/L, reset 0 (R426). -/
def shrSr : Field := { id := 4195584, w := 24, acc := .ro }
/-- SHR_SHIFT_LOST [4:0] at 0x2002C x32, RO/L, reset 0 (R426). -/
def shrShiftLost : Field := { id := 4195712, w := 5, acc := .ro }
/-- SHR_QPOS [31:0] at 0x20030 x32, RO/L, reset 0 (R426). -/
def shrQpos : Field := { id := 4195840, w := 32, acc := .ro }
/-- SHR_IRQ_SET [7:0] at 0x20034 x32, WO/L, reset 0 (R426). -/
def shrIrqSet : Field := { id := 4195968, w := 8, acc := .wo }
/-- SHR_IRQ [7:0] at 0x20038 x32, W1C/L, reset 0 (R426). -/
def shrIrq : Field := { id := 4196096, w := 8, acc := .w1c }
/-- SHR_FLUSH.RXF [1] at 0x2003C x32, WO/L, reset 0 (R426). -/
def shrFlushRxf : Field := { id := 4196225, w := 1, acc := .wo }
/-- SHR_FLUSH.TXF [0] at 0x2003C x32, WO/L, reset 0 (R426). -/
def shrFlushTxf : Field := { id := 4196224, w := 1, acc := .wo }
/-- SHR_QERR [31:0] at 0x20040 x32, RC/L, reset 0 (R426). -/
def shrQerr : Field := { id := 4196352, w := 32, acc := .rc, counter := true }
/-- SHR_START_OVR [31:0] at 0x20044 x32, RC/L, reset 0 (R426). -/
def shrStartOvr : Field := { id := 4196480, w := 32, acc := .rc, counter := true }
/-- SHR_SWAPS [31:0] at 0x20048 x32, RC/L, reset 0 (R426). -/
def shrSwaps : Field := { id := 4196608, w := 32, acc := .rc, counter := true }
/-- SHR_M [23:0] at 0x2004C x32, RO/L, reset 0 (R426). -/
def shrM : Field := { id := 4196736, w := 24, acc := .ro }
/-- SHR_MATCH.VALUE [23:0] at 0x20050 x32, RW/S, reset 0 (R426). -/
def shrMatchValue : Field := { id := 4196864, w := 24, acc := .rw, staged := true }
/-- SHR_PM_IDX [6:0] at 0x20080 x32, RW/L, reset 0 (R426). -/
def shrPmIdx : Field := { id := 4198400, w := 7, acc := .rw }
/-- SHR_PM_DATA [15:0] at 0x20084 x32, RW/L, reset 0 (R426). -/
def shrPmData : Field := { id := 4198528, w := 16, acc := .rw }
/-- SHR_START_SET [31:0] at 0x22000, WO/L, reset 0 (R426). -/
def shrStartSet : Field := { id := 4456448, w := 32, acc := .wo }
/-- SHR_CLK_RESTART [31:0] at 0x22004, WO/L, reset 0 (R426). -/
def shrClkRestart : Field := { id := 4456576, w := 32, acc := .wo }
/-- SHR_STOP [31:0] at 0x22008, WO/L, reset 0 (R426). -/
def shrStop : Field := { id := 4456704, w := 32, acc := .wo }
/-- SHR_SWAP [31:0] at 0x2200C, WO/L, reset 0 (R426). -/
def shrSwap : Field := { id := 4456832, w := 32, acc := .wo }
/-- SHR_FSWAP [31:0] at 0x22010, WO/L, reset 0 (R426). -/
def shrFswap : Field := { id := 4456960, w := 32, acc := .wo }
/-- SHR_FLAGS [15:0] at 0x22014, RO/L, reset 0 (R426). -/
def shrFlags : Field := { id := 4457088, w := 16, acc := .ro }
/-- SHR_FLAGS_SET [15:0] at 0x22018, WO/L, reset 0 (R426). -/
def shrFlagsSet : Field := { id := 4457216, w := 16, acc := .wo }
/-- SHR_FLAGS_CLR [15:0] at 0x2201C, WO/L, reset 0 (R426). -/
def shrFlagsClr : Field := { id := 4457344, w := 16, acc := .wo }
/-- SHR_BANK.V33 [31] at 0x22100 x8, RW/S, reset 1 (R426). -/
def shrBankV33 : Field := { id := 4464671, w := 1, acc := .rw, staged := true, reset := fun _ => 1 }
/-- SHR_BANK.MISMATCH [30] at 0x22100 x8, RO/L, reset 0 (R426). -/
def shrBankMismatch : Field := { id := 4464670, w := 1, acc := .ro }
/-- SHR_PINCFG.OWNER [28:24] at 0x22200 x64, RW/S, reset 0 (R426). -/
def shrPincfgOwner : Field := { id := 4472856, w := 5, acc := .rw, staged := true }
/-- SHR_PINCFG.PULL [21:20] at 0x22200 x64, RW/S, reset 0 (R426). -/
def shrPincfgPull : Field := { id := 4472852, w := 2, acc := .rw, staged := true }
/-- SHR_PINCFG.DRIVE [17:16] at 0x22200 x64, RW/S, reset 1 (R426). -/
def shrPincfgDrive : Field := { id := 4472848, w := 2, acc := .rw, staged := true, reset := fun _ => 1 }
/-- SHR_PINCFG.OE_INIT [13] at 0x22200 x64, RW/S, reset 0 (R426). -/
def shrPincfgOeInit : Field := { id := 4472845, w := 1, acc := .rw, staged := true }
/-- SHR_PINCFG.INIT [12] at 0x22200 x64, RW/S, reset 0 (R426). -/
def shrPincfgInit : Field := { id := 4472844, w := 1, acc := .rw, staged := true }
/-- SHR_PINCFG.FILT [3:0] at 0x22200 x64, RW/S, reset 0 (R426). -/
def shrPincfgFilt : Field := { id := 4472832, w := 4, acc := .rw, staged := true }
/-- SHR_PIN_IN0 [31:0] at 0x22300, RO/L, reset 0 (R426). -/
def shrPinIn0 : Field := { id := 4481024, w := 32, acc := .ro }
/-- SHR_PIN_IN1 [31:0] at 0x22304, RO/L, reset 0 (R426). -/
def shrPinIn1 : Field := { id := 4481152, w := 32, acc := .ro }
/-- GW_CFG.EN [31] at 0x24000, RW/S, reset 0 (R446). -/
def gwCfgEn : Field := { id := 4718623, w := 1, acc := .rw, staged := true }
/-- GW_CFG.BANK_A [20:16] at 0x24000, RW/S, reset 0 (R446). -/
def gwCfgBankA : Field := { id := 4718608, w := 5, acc := .rw, staged := true }
/-- GW_CFG.BANK_B [12:8] at 0x24000, RW/S, reset 1 (R446). -/
def gwCfgBankB : Field := { id := 4718600, w := 5, acc := .rw, staged := true, reset := fun _ => 1 }
/-- GW_CFG.SEL [0] at 0x24000, RW/S, reset 0 (R446). -/
def gwCfgSel : Field := { id := 4718592, w := 1, acc := .rw, staged := true }
/-- GW_STAT.HANDOVER [1] at 0x24004, RO/L, reset 0 (R446). -/
def gwStatHandover : Field := { id := 4718721, w := 1, acc := .ro }
/-- GW_STAT.ACTIVE [0] at 0x24004, RO/L, reset 0 (R446). -/
def gwStatActive : Field := { id := 4718720, w := 1, acc := .ro }
/-- GW_THR.EN [31] at 0x24010 x8, RW/S, reset 0 (R446). -/
def gwThrEn : Field := { id := 4719135, w := 1, acc := .rw, staged := true }
/-- GW_THR.LE [27:24] at 0x24010 x8, RW/S, reset 0 (R446). -/
def gwThrLe : Field := { id := 4719128, w := 4, acc := .rw, staged := true }
/-- GW_THR.T [21:20] at 0x24010 x8, RW/S, reset 0 (R446). -/
def gwThrT : Field := { id := 4719124, w := 2, acc := .rw, staged := true }
/-- GW_THR.GROUPS [15:0] at 0x24010 x8, RW/S, reset 0 (R446). -/
def gwThrGroups : Field := { id := 4719104, w := 16, acc := .rw, staged := true }
/-- GW_CNT_ADD.SEL [31:28] at 0x24040, WO/L, reset 0 (R446). -/
def gwCntAddSel : Field := { id := 4720668, w := 4, acc := .wo }
/-- GW_CNT_ADD.AMOUNT [23:0] at 0x24040, WO/L, reset 0 (R446). -/
def gwCntAddAmount : Field := { id := 4720640, w := 24, acc := .wo }
/-- GW_RIDX [7:0] at 0x24080, RW/L, reset 0 (R446). -/
def gwRidx : Field := { id := 4722688, w := 8, acc := .rw }
/-- GW_RCFG.EN [31] at 0x24084, RW/S, reset 0 (R446). -/
def gwRcfgEn : Field := { id := 4722847, w := 1, acc := .rw, staged := true }
/-- GW_RCFG.DB_EN [30] at 0x24084, RW/S, reset 0 (R446). -/
def gwRcfgDbEn : Field := { id := 4722846, w := 1, acc := .rw, staged := true }
/-- GW_RCFG.DB_BIT [28:24] at 0x24084, RW/S, reset 0 (R446). -/
def gwRcfgDbBit : Field := { id := 4722840, w := 5, acc := .rw, staged := true }
/-- GW_RCFG.PROTO_LE [23:20] at 0x24084, RW/S, reset 0 (R446). -/
def gwRcfgProtoLe : Field := { id := 4722836, w := 4, acc := .rw, staged := true }
/-- GW_RCFG.THR [19:17] at 0x24084, RW/S, reset 0 (R446). -/
def gwRcfgThr : Field := { id := 4722833, w := 3, acc := .rw, staged := true }
/-- GW_RCFG.WIDTH [13:12] at 0x24084, RW/S, reset 1 (R446). -/
def gwRcfgWidth : Field := { id := 4722828, w := 2, acc := .rw, staged := true, reset := fun _ => 1 }
/-- GW_RCFG.PERIOD_MS [9:0] at 0x24084, RW/S, reset 0 (R446). -/
def gwRcfgPeriodMs : Field := { id := 4722816, w := 10, acc := .rw, staged := true }
/-- GW_RSTAT.PENDING [31] at 0x24088, RO/L, reset 0 (R446). -/
def gwRstatPending : Field := { id := 4722975, w := 1, acc := .ro }
/-- GW_RSTAT.LOST [30] at 0x24088, RO/L, reset 0 (R446). -/
def gwRstatLost : Field := { id := 4722974, w := 1, acc := .ro }
/-- GW_RSTAT.MISS_RUN [1:0] at 0x24088, RO/L, reset 0 (R446). -/
def gwRstatMissRun : Field := { id := 4722944, w := 2, acc := .ro }
/-- GW_RLAST_NS [29:0] at 0x2408C, RO/L, reset 0 (R446). -/
def gwRlastNs : Field := { id := 4723072, w := 30, acc := .ro }
/-- GW_RACK.INT [8] at 0x24090, WO/L, reset 0 (R446). -/
def gwRackInt : Field := { id := 4723208, w := 1, acc := .wo }
/-- GW_RACK.REMOTE [7:0] at 0x24090, WO/L, reset 0 (R446). -/
def gwRackRemote : Field := { id := 4723200, w := 8, acc := .wo }
/-- GW_HWQ_ADDR.REMOTE [31:24] at 0x24100, RW/L, reset 0 (R446). -/
def gwHwqAddrRemote : Field := { id := 4726808, w := 8, acc := .rw }
/-- GW_HWQ_ADDR.OFS [19:0] at 0x24100, RW/L, reset 0 (R446). -/
def gwHwqAddrOfs : Field := { id := 4726784, w := 20, acc := .rw }
/-- GW_HWQ_DATA.WIDTH [31:30] at 0x24104, RW/L, reset 1 (R446). -/
def gwHwqDataWidth : Field := { id := 4726942, w := 2, acc := .rw, reset := fun _ => 1 }
/-- GW_HWQ_DATA.VALUE [23:0] at 0x24104, RW/L, reset 0 (R446). -/
def gwHwqDataValue : Field := { id := 4726912, w := 24, acc := .rw }
/-- GW_HWQ_PUSH [15:0] at 0x24108, WO/L, reset 0 (R446). -/
def gwHwqPush : Field := { id := 4727040, w := 16, acc := .wo }
/-- GW_HWQ_STAT.LAST_SEQ [31:16] at 0x2410C, RO/L, reset 0 (R446). -/
def gwHwqStatLastSeq : Field := { id := 4727184, w := 16, acc := .ro }
/-- GW_HWQ_STAT.LEVEL [6:0] at 0x2410C, RO/L, reset 0 (R446). -/
def gwHwqStatLevel : Field := { id := 4727168, w := 7, acc := .ro }
/-- GW_HWQ_DONE [15:0] at 0x24110, RO/L, reset 0 (R446). -/
def gwHwqDone : Field := { id := 4727296, w := 16, acc := .ro }
/-- GW_C.EXEC [31:0] at 0x24200, RC/L, reset 0 (R446). -/
def gwCExec : Field := { id := 4734976, w := 32, acc := .rc, counter := true }
/-- GW_C.HWQ_DROP [31:0] at 0x24214, RC/L, reset 0 (R446). -/
def gwCHwqDrop : Field := { id := 4735616, w := 32, acc := .rc, counter := true }
/-- GW_C.BAD_ENTRY [31:0] at 0x24204, RC/L, reset 0 (R446). -/
def gwCBadEntry : Field := { id := 4735104, w := 32, acc := .rc, counter := true }
/-- GW_C.POLL_MISSED [31:0] at 0x24218, RC/L, reset 0 (R446). -/
def gwCPollMissed : Field := { id := 4735744, w := 32, acc := .rc, counter := true }
/-- GW_C.CLAMPED [31:0] at 0x24208, RC/L, reset 0 (R446). -/
def gwCClamped : Field := { id := 4735232, w := 32, acc := .rc, counter := true }
/-- GW_C.WRITE_FAIL [31:0] at 0x2421C, RC/L, reset 0 (R446). -/
def gwCWriteFail : Field := { id := 4735872, w := 32, acc := .rc, counter := true }
/-- GW_C.BACKOFF [31:0] at 0x2420C, RC/L, reset 0 (R446). -/
def gwCBackoff : Field := { id := 4735360, w := 32, acc := .rc, counter := true }
/-- GW_C.BAD_MSG [31:0] at 0x24220, RC/L, reset 0 (R446). -/
def gwCBadMsg : Field := { id := 4736000, w := 32, acc := .rc, counter := true }
/-- GW_C.PASS_LATE [31:0] at 0x24210, RC/L, reset 0 (R446). -/
def gwCPassLate : Field := { id := 4735488, w := 32, acc := .rc, counter := true }
/-- GW_C.POLLS [31:0] at 0x24224, RC/L, reset 0 (R446). -/
def gwCPolls : Field := { id := 4736128, w := 32, acc := .rc, counter := true }
/-- OWL_CFG.TP_MS [9:0] at 0x28000, RW/S, reset 0 (R479). -/
def owlCfgTpMs : Field := { id := 5242880, w := 10, acc := .rw, staged := true }
/-- OWL_STATUS.LOCKED [31] at 0x28004, RO/L, reset 1 (R479). -/
def owlStatusLocked : Field := { id := 5243039, w := 1, acc := .ro, reset := fun _ => 1 }
/-- OWL_STATUS.ACK [30:28] at 0x28004, RO/L, reset 0 (R479). -/
def owlStatusAck : Field := { id := 5243036, w := 3, acc := .ro }
/-- OWL_STATUS.NOPW [27] at 0x28004, RO/L, reset per device (R479). -/
def owlStatusNopw : Field := { id := 5243035, w := 1, acc := .ro, reset := fun _ => Config.noPassword.toNat }
/-- OWL_STATUS.NOPW_DEN_OFF [26] at 0x28004, RO/L, reset 0 (R479). -/
def owlStatusNopwDenOff : Field := { id := 5243034, w := 1, acc := .ro }
/-- OWL_STATUS.CAUSE [7:0] at 0x28004, RO/L, reset 5 (R479). -/
def owlStatusCause : Field := { id := 5243008, w := 8, acc := .ro, reset := fun _ => 5 }
/-- OWL_CAUSES [10:0] at 0x28008, RO/L, reset 0x010 (R479). -/
def owlCauses : Field := { id := 5243136, w := 11, acc := .ro, reset := fun _ => 16 }
/-- OWL_CAUSES_SEEN [10:0] at 0x2800C, W1C/L, reset 0x010 (R479). -/
def owlCausesSeen : Field := { id := 5243264, w := 11, acc := .w1c, reset := fun _ => 16 }
/-- OWL_CTRL.FORCE_LOCK [0] at 0x28010, WO/L, reset 0 (R479). -/
def owlCtrlForceLock : Field := { id := 5243392, w := 1, acc := .wo }
/-- OWL_OUT.EN [31] at 0x28020 x4, RW/S, reset 0 (R479). -/
def owlOutEn : Field := { id := 5243935, w := 1, acc := .rw, staged := true }
/-- OWL_OUT.SRC [30] at 0x28020 x4, RW/S, reset 0 (R479). -/
def owlOutSrc : Field := { id := 5243934, w := 1, acc := .rw, staged := true }
/-- OWL_OUT.TW [3:0] at 0x28020 x4, RW/S, reset 0 (R479). -/
def owlOutTw : Field := { id := 5243904, w := 4, acc := .rw, staged := true }
/-- OWL_DEMAND [11:0] at 0x28030, RW/L, reset 0xF00 (R479). -/
def owlDemand : Field := { id := 5244416, w := 12, acc := .rw, reset := fun _ => 3840 }
/-- OWL_OUT_STAT.RB_B [15:12] at 0x28034, RO/L, reset 0 (R479). -/
def owlOutStatRbB : Field := { id := 5244556, w := 4, acc := .ro }
/-- OWL_OUT_STAT.RB_A [11:8] at 0x28034, RO/L, reset 0 (R479). -/
def owlOutStatRbA : Field := { id := 5244552, w := 4, acc := .ro }
/-- OWL_OUT_STAT.ARMED [7:4] at 0x28034, RO/L, reset 0 (R479). -/
def owlOutStatArmed : Field := { id := 5244548, w := 4, acc := .ro }
/-- OWL_OUT_STAT.ENERGISED [3:0] at 0x28034, RO/L, reset 0 (R479). -/
def owlOutStatEnergised : Field := { id := 5244544, w := 4, acc := .ro }
/-- OWL_SUP.LO_MV [27:16] at 0x28040 x5, RW/S, reset Table 13-4 (R479). -/
def owlSupLoMv : Field := { id := 5244944, w := 12, acc := .rw, staged := true, reset := supLoReset }
/-- OWL_SUP.HI_MV [11:0] at 0x28040 x5, RW/S, reset Table 13-4 (R479). -/
def owlSupHiMv : Field := { id := 5244928, w := 12, acc := .rw, staged := true, reset := supHiReset }
/-- OWL_GUARD.REACT [0] at 0x28060, RW/S, reset 0 (R479). -/
def owlGuardReact : Field := { id := 5245952, w := 1, acc := .rw, staged := true }
/-- OWL_TW_ACK [15:0] at 0x28070, WO/L, reset 0 (R479). -/
def owlTwAck : Field := { id := 5246464, w := 16, acc := .wo }
/-- OWL_TW_STAT [31:0] at 0x28074, RO/L, reset 0 (R479). -/
def owlTwStat : Field := { id := 5246592, w := 32, acc := .ro }
/-- OWL_TW.EN [31] at 0x28080 x16, RW/S, reset 0 (R479). -/
def owlTwEn : Field := { id := 5247007, w := 1, acc := .rw, staged := true }
/-- OWL_TW.LE [27:24] at 0x28080 x16, RW/S, reset 0 (R479). -/
def owlTwLe : Field := { id := 5247000, w := 4, acc := .rw, staged := true }
/-- OWL_TW.T [21:20] at 0x28080 x16, RW/S, reset 0 (R479). -/
def owlTwT : Field := { id := 5246996, w := 2, acc := .rw, staged := true }
/-- OWL_TW.REACT [17:16] at 0x28080 x16, RW/S, reset 0 (R479). -/
def owlTwReact : Field := { id := 5246992, w := 2, acc := .rw, staged := true }
/-- OWL_TW.MAX_US [15:0] at 0x28080 x16, RW/S, reset 0 (R479). -/
def owlTwMaxUs : Field := { id := 5246976, w := 16, acc := .rw, staged := true }
/-- OWL_TW.MIN_US [15:0] at 0x28084 x16, RW/S, reset 0 (R479). -/
def owlTwMinUs : Field := { id := 5247104, w := 16, acc := .rw, staged := true }
/-- OWL_CIDX [7:0] at 0x28200, RW/L, reset 0 (R479). -/
def owlCidx : Field := { id := 5259264, w := 8, acc := .rw }
/-- OWL_C_CFG.EN [31] at 0x28204, RW/S, reset 0 (R479). -/
def owlCCfgEn : Field := { id := 5259423, w := 1, acc := .rw, staged := true }
/-- OWL_C_CFG.MODE [30:29] at 0x28204, RW/S, reset 0 (R479). -/
def owlCCfgMode : Field := { id := 5259421, w := 2, acc := .rw, staged := true }
/-- OWL_C_CFG.TSTAMP [28] at 0x28204, RW/S, reset 0 (R479). -/
def owlCCfgTstamp : Field := { id := 5259420, w := 1, acc := .rw, staged := true }
/-- OWL_C_CFG.REACT [27:26] at 0x28204, RW/S, reset 0 (R479). -/
def owlCCfgReact : Field := { id := 5259418, w := 2, acc := .rw, staged := true }
/-- OWL_C_CFG.OUTMASK [23:20] at 0x28204, RW/S, reset 0 (R479). -/
def owlCCfgOutmask : Field := { id := 5259412, w := 4, acc := .rw, staged := true }
/-- OWL_C_CFG.AXIS [17:16] at 0x28204, RW/S, reset 0 (R479). -/
def owlCCfgAxis : Field := { id := 5259408, w := 2, acc := .rw, staged := true }
/-- OWL_C_CFG.DLEN [6:0] at 0x28204, RW/S, reset 0 (R479). -/
def owlCCfgDlen : Field := { id := 5259392, w := 7, acc := .rw, staged := true }
/-- OWL_C_ID [31:0] at 0x28208, RW/S, reset 0 (R479). -/
def owlCId : Field := { id := 5259520, w := 32, acc := .rw, staged := true }
/-- OWL_C_POS.SYNC_N [27:24] at 0x2820C, RW/S, reset 1 (R479). -/
def owlCPosSyncN : Field := { id := 5259672, w := 4, acc := .rw, staged := true, reset := fun _ => 1 }
/-- OWL_C_POS.CHK_MAX [23:20] at 0x2820C, RW/S, reset 1 (R479). -/
def owlCPosChkMax : Field := { id := 5259668, w := 4, acc := .rw, staged := true, reset := fun _ => 1 }
/-- OWL_C_POS.SEQ_WIN [19:16] at 0x2820C, RW/S, reset 1 (R479). -/
def owlCPosSeqWin : Field := { id := 5259664, w := 4, acc := .rw, staged := true, reset := fun _ => 1 }
/-- OWL_C_POS.OFS [13:0] at 0x2820C, RW/S, reset 0 (R479). -/
def owlCPosOfs : Field := { id := 5259648, w := 14, acc := .rw, staged := true }
/-- OWL_C_PATH.SKEW_US [31:16] at 0x28210, RW/S, reset 0 (R479). -/
def owlCPathSkewUs : Field := { id := 5259792, w := 16, acc := .rw, staged := true }
/-- OWL_C_PATH.SINGLE_MAX [15:12] at 0x28210, RW/S, reset 4 (R479). -/
def owlCPathSingleMax : Field := { id := 5259788, w := 4, acc := .rw, staged := true, reset := fun _ => 4 }
/-- OWL_C_PATH.PATH_B [9:5] at 0x28210, RW/S, reset 0 (R479). -/
def owlCPathPathB : Field := { id := 5259781, w := 5, acc := .rw, staged := true }
/-- OWL_C_PATH.PATH_A [4:0] at 0x28210, RW/S, reset 0 (R479). -/
def owlCPathPathA : Field := { id := 5259776, w := 5, acc := .rw, staged := true }
/-- OWL_C_TEXP_LO [31:0] at 0x28214, RW/S, reset 0 (R479). -/
def owlCTexpLo : Field := { id := 5259904, w := 32, acc := .rw, staged := true }
/-- OWL_C_TEXP_HI [15:0] at 0x28218, RW/S, reset 0 (R479). -/
def owlCTexpHi : Field := { id := 5260032, w := 16, acc := .rw, staged := true }
/-- OWL_C_BACKSTOP [23:0] at 0x2821C, RW/S, reset 0 (R479). -/
def owlCBackstop : Field := { id := 5260160, w := 24, acc := .rw, staged := true }
/-- OWL_C_AGE [31:0] at 0x28220, RW/S, reset 0 (R479). -/
def owlCAge : Field := { id := 5260288, w := 32, acc := .rw, staged := true }
/-- OWL_C_STAT.STATE [31:29] at 0x28240, RO/L, reset 0 (R479). -/
def owlCStatState : Field := { id := 5261341, w := 3, acc := .ro }
/-- OWL_C_STAT.FAULT [27:24] at 0x28240, RO/L, reset 0 (R479). -/
def owlCStatFault : Field := { id := 5261336, w := 4, acc := .ro }
/-- OWL_C_STAT.DEGRADED [23] at 0x28240, RO/L, reset 0 (R479). -/
def owlCStatDegraded : Field := { id := 5261335, w := 1, acc := .ro }
/-- OWL_C_SEQ [23:0] at 0x28244, RO/L, reset 0 (R479). -/
def owlCSeq : Field := { id := 5261440, w := 24, acc := .ro }
/-- OWL_C_ACK [0] at 0x28248, WO/L, reset 0 (R479). -/
def owlCAck : Field := { id := 5261568, w := 1, acc := .wo }
/-- OWL_LOCK.UNLOCK_ERR [7:0] at 0x28300, RO/L, reset 0 (R479). -/
def owlLockUnlockErr : Field := { id := 5267456, w := 8, acc := .ro }
/-- OWL_NONCE [31:0] at 0x28310 x4, RO/L, reset 0 (R479). -/
def owlNonce : Field := { id := 5267968, w := 32, acc := .ro }
/-- OWL_SALT [31:0] at 0x28320 x4, RO/L, reset per device (R479). -/
def owlSalt : Field := { id := 5268480, w := 32, acc := .ro, reset := fun i => (Config.salt i).toNat }
/-- OWL_AUTH_CTRL.GO [1] at 0x28340, WO/L, reset 0 (R479). -/
def owlAuthCtrlGo : Field := { id := 5269505, w := 1, acc := .wo }
/-- OWL_AUTH_CTRL.REQ [0] at 0x28340, WO/L, reset 0 (R479). -/
def owlAuthCtrlReq : Field := { id := 5269504, w := 1, acc := .wo }
/-- OWL_AUTH_STAT.READY [31] at 0x28344, RO/L, reset 0 (R479). -/
def owlAuthStatReady : Field := { id := 5269663, w := 1, acc := .ro }
/-- OWL_AUTH_STAT.BAD_TOKEN [30] at 0x28344, W1C/L, reset 0 (R479). -/
def owlAuthStatBadToken : Field := { id := 5269662, w := 1, acc := .w1c }
/-- OWL_TOKEN [31:0] at 0x28350 x4, WO/L, reset 0 (R479). -/
def owlToken : Field := { id := 5270016, w := 32, acc := .wo }
/-- OWL_AUTH_NONCE [31:0] at 0x28360 x4, RO/L, reset 0 (R479). -/
def owlAuthNonce : Field := { id := 5270528, w := 32, acc := .ro }
/-- OWL_LOG_SEQ [31:0] at 0x28400, RO/L, reset per device (R479). -/
def owlLogSeq : Field := { id := 5275648, w := 32, acc := .ro, reset := fun _ => Config.logSeq.toNat }
/-- OWL_LOG_HEAD [31:0] at 0x28410 x12, RO/L, reset per device (R479). -/
def owlLogHead : Field := { id := 5276160, w := 32, acc := .ro, reset := fun i => (Config.logHead i).toNat }
/-- OWL_LOG_IDX [5:0] at 0x28440, RW/L, reset 0 (R479). -/
def owlLogIdx : Field := { id := 5277696, w := 6, acc := .rw }
/-- OWL_LOG_WIN [31:0] at 0x28480 x32, RO/L, reset 0 (R479). -/
def owlLogWin : Field := { id := 5279744, w := 32, acc := .ro }
/-- OWL_CC.ACCEPTED [31:0] at 0x28260, RC/L, reset 0 (R479). -/
def owlCcAccepted : Field := { id := 5262336, w := 32, acc := .rc, counter := true }
/-- OWL_CC.SINGLE [31:0] at 0x28270, RC/L, reset 0 (R479). -/
def owlCcSingle : Field := { id := 5262848, w := 32, acc := .rc, counter := true }
/-- OWL_CC.CHK_FAIL [31:0] at 0x28264, RC/L, reset 0 (R479). -/
def owlCcChkFail : Field := { id := 5262464, w := 32, acc := .rc, counter := true }
/-- OWL_CC.DUP [31:0] at 0x28274, RC/L, reset 0 (R479). -/
def owlCcDup : Field := { id := 5262976, w := 32, acc := .rc, counter := true }
/-- OWL_CC.LOST_MSG [31:0] at 0x28268, RC/L, reset 0 (R479). -/
def owlCcLostMsg : Field := { id := 5262592, w := 32, acc := .rc, counter := true }
/-- OWL_CC.FAILS [31:0] at 0x28278, RC/L, reset 0 (R479). -/
def owlCcFails : Field := { id := 5263104, w := 32, acc := .rc, counter := true }
/-- OWL_CC.STALE [31:0] at 0x2826C, RC/L, reset 0 (R479). -/
def owlCcStale : Field := { id := 5262720, w := 32, acc := .rc, counter := true }
/-- MBX_HOSTIF.RATE [9:8] at 0x2C000, RO/L, reset 0 (R506). -/
def mbxHostifRate : Field := { id := 5767176, w := 2, acc := .ro }
/-- MBX_HOSTIF.WIDTH [5:4] at 0x2C000, RO/L, reset 0 (R506). -/
def mbxHostifWidth : Field := { id := 5767172, w := 2, acc := .ro }
/-- MBX_HOSTIF.LINK [2] at 0x2C000, RO/L, reset 0 (R506). -/
def mbxHostifLink : Field := { id := 5767170, w := 1, acc := .ro }
/-- MBX_HOSTIF.SEL [1:0] at 0x2C000, RO/L, reset pins (R506). -/
def mbxHostifSel : Field := { id := 5767168, w := 2, acc := .ro }
/-- MBX_WTAG [15:0] at 0x2C004, RW/L, reset 0 (R506). -/
def mbxWtag : Field := { id := 5767296, w := 16, acc := .rw }
/-- MBX_LWIN.BASE [3:0] at 0x2C008, RW/L, reset 0 (R506). -/
def mbxLwinBase : Field := { id := 5767424, w := 4, acc := .rw }
/-- MBX_D2H_PEND [31:0] at 0x2C010, W1C/L, reset 0 (R506). -/
def mbxD2hPend : Field := { id := 5767680, w := 32, acc := .w1c }
/-- MBX_D2H_MASK [31:0] at 0x2C014, RW/L, reset 0 (R506). -/
def mbxD2hMask : Field := { id := 5767808, w := 32, acc := .rw }
/-- MBX_H2D_SET [31:0] at 0x2C020, WO/L, reset 0 (R506). -/
def mbxH2dSet : Field := { id := 5768192, w := 32, acc := .wo }
/-- MBX_H2D_PEND [31:0] at 0x2C024, RO/L, reset 0 (R506). -/
def mbxH2dPend : Field := { id := 5768320, w := 32, acc := .ro }
/-- MBX_H2D_MASK [31:0] at 0x2C028, RW/L, reset 0xFFFFFFFF (R506). -/
def mbxH2dMask : Field := { id := 5768448, w := 32, acc := .rw, reset := fun _ => 4294967295 }
/-- MBX_PTR_LO [31:0] at 0x2C100 x8, RW/L, reset 0 (R506). -/
def mbxPtrLo : Field := { id := 5775360, w := 32, acc := .rw }
/-- MBX_PTR_HI [31:0] at 0x2C104 x8, RW/L, reset 0 (R506). -/
def mbxPtrHi : Field := { id := 5775488, w := 32, acc := .rw }
/-- MBX_POST.SPACE [0] at 0x2C108 x8, WO/L, reset 0 (R506). -/
def mbxPostSpace : Field := { id := 5775616, w := 1, acc := .wo }
/-- MBX_STAT.REFUSED [2] at 0x2C10C x8, W1C/L, reset 0 (R506). -/
def mbxStatRefused : Field := { id := 5775746, w := 1, acc := .w1c }
/-- MBX_STAT.STATE [1:0] at 0x2C10C x8, RO/L, reset 0 (R506). -/
def mbxStatState : Field := { id := 5775744, w := 2, acc := .ro }
/-- MBX_ACK.TAG [31:16] at 0x2C110 x8, RO/L, reset 0 (R506). -/
def mbxAckTag : Field := { id := 5775888, w := 16, acc := .ro }
/-- MBX_ACK.CODE [15:0] at 0x2C110 x8, RO/L, reset 0 (R506). -/
def mbxAckCode : Field := { id := 5775872, w := 16, acc := .ro }
/-- MBX_PWE_POP.VALID [31] at 0x2C200, RC/L, reset 0 (R506). -/
def mbxPwePopValid : Field := { id := 5783583, w := 1, acc := .rc }
/-- MBX_PWE_POP.CAUSE [23:16] at 0x2C200, RC/L, reset 0 (R506). -/
def mbxPwePopCause : Field := { id := 5783568, w := 8, acc := .rc }
/-- MBX_PWE_POP.TAG [15:0] at 0x2C200, RC/L, reset 0 (R506). -/
def mbxPwePopTag : Field := { id := 5783552, w := 16, acc := .rc }
/-- MBX_PWE_TARGET [31:0] at 0x2C204, RO/L, reset 0 (R506). -/
def mbxPweTarget : Field := { id := 5783680, w := 32, acc := .ro }
/-- MBX_PWE_INFO.SPACE [31:30] at 0x2C208, RO/L, reset 0 (R506). -/
def mbxPweInfoSpace : Field := { id := 5783838, w := 2, acc := .ro }
/-- MBX_PWE_INFO.REMOTE [23:16] at 0x2C208, RO/L, reset 0 (R506). -/
def mbxPweInfoRemote : Field := { id := 5783824, w := 8, acc := .ro }
/-- MBX_PWE_INFO.WIDTH [2:0] at 0x2C208, RO/L, reset 0 (R506). -/
def mbxPweInfoWidth : Field := { id := 5783808, w := 3, acc := .ro }
/-- MBX_PWE_NS [29:0] at 0x2C20C, RO/L, reset 0 (R506). -/
def mbxPweNs : Field := { id := 5783936, w := 30, acc := .ro }
/-- MBX_PWE_LEVEL [6:0] at 0x2C210, RO/L, reset 0 (R506). -/
def mbxPweLevel : Field := { id := 5784064, w := 7, acc := .ro }
/-- MBX_PWE_OVF [31:0] at 0x2C214, RC/L, reset 0 (R506). -/
def mbxPweOvf : Field := { id := 5784192, w := 32, acc := .rc, counter := true }
/-- MBX_PWE_TOTAL [31:0] at 0x2C218, RO/L, reset 0 (R506). -/
def mbxPweTotal : Field := { id := 5784320, w := 32, acc := .ro, counter := true }
/-- MBX_HTX_ADDR_LO [31:0] at 0x2C300, RW/L, reset 0 (R506). -/
def mbxHtxAddrLo : Field := { id := 5791744, w := 32, acc := .rw }
/-- MBX_HTX_ADDR_HI [31:0] at 0x2C304, RW/L, reset 0 (R506). -/
def mbxHtxAddrHi : Field := { id := 5791872, w := 32, acc := .rw }
/-- MBX_HTX_LEN.SPACE [31] at 0x2C308, RW/L, reset 0 (R506). -/
def mbxHtxLenSpace : Field := { id := 5792031, w := 1, acc := .rw }
/-- MBX_HTX_LEN.CLASS [26:24] at 0x2C308, RW/L, reset 0 (R506). -/
def mbxHtxLenClass : Field := { id := 5792024, w := 3, acc := .rw }
/-- MBX_HTX_LEN.LEN [13:0] at 0x2C308, RW/L, reset 0 (R506). -/
def mbxHtxLenLen : Field := { id := 5792000, w := 14, acc := .rw }
/-- MBX_HTX_PUSH [15:0] at 0x2C30C, WO/L, reset 0 (R506). -/
def mbxHtxPush : Field := { id := 5792128, w := 16, acc := .wo }
/-- MBX_HTX_LEVEL [5:0] at 0x2C310, RO/L, reset 0 (R506). -/
def mbxHtxLevel : Field := { id := 5792256, w := 6, acc := .ro }
/-- MBX_HTXC_POP.VALID [31] at 0x2C314, RC/L, reset 0 (R506). -/
def mbxHtxcPopValid : Field := { id := 5792415, w := 1, acc := .rc }
/-- MBX_HTXC_POP.EGRESS [28:24] at 0x2C314, RC/L, reset 0 (R506). -/
def mbxHtxcPopEgress : Field := { id := 5792408, w := 5, acc := .rc }
/-- MBX_HTXC_POP.STATUS [23:16] at 0x2C314, RC/L, reset 0 (R506). -/
def mbxHtxcPopStatus : Field := { id := 5792400, w := 8, acc := .rc }
/-- MBX_HTXC_POP.TAG [15:0] at 0x2C314, RC/L, reset 0 (R506). -/
def mbxHtxcPopTag : Field := { id := 5792384, w := 16, acc := .rc }
/-- MBX_HRX_BASE_LO [31:0] at 0x2C400, RW/S, reset 0 (R506). -/
def mbxHrxBaseLo : Field := { id := 5799936, w := 32, acc := .rw, staged := true }
/-- MBX_HRX_BASE_HI [31:0] at 0x2C404, RW/S, reset 0 (R506). -/
def mbxHrxBaseHi : Field := { id := 5800064, w := 32, acc := .rw, staged := true }
/-- MBX_HRX_CFG.EN [31] at 0x2C408, RW/S, reset 0 (R506). -/
def mbxHrxCfgEn : Field := { id := 5800223, w := 1, acc := .rw, staged := true }
/-- MBX_HRX_CFG.SPACE [30] at 0x2C408, RW/S, reset 0 (R506). -/
def mbxHrxCfgSpace : Field := { id := 5800222, w := 1, acc := .rw, staged := true }
/-- MBX_HRX_CFG.ENTRIES [26:16] at 0x2C408, RW/S, reset 0 (R506). -/
def mbxHrxCfgEntries : Field := { id := 5800208, w := 11, acc := .rw, staged := true }
/-- MBX_HRX_CFG.BUF_SIZE [13:0] at 0x2C408, RW/S, reset 0 (R506). -/
def mbxHrxCfgBufSize : Field := { id := 5800192, w := 14, acc := .rw, staged := true }
/-- MBX_HRX_PROD [9:0] at 0x2C40C, RO/L, reset 0 (R506). -/
def mbxHrxProd : Field := { id := 5800320, w := 10, acc := .ro }
/-- MBX_HRX_CONS [9:0] at 0x2C410, RW/L, reset 0 (R506). -/
def mbxHrxCons : Field := { id := 5800448, w := 10, acc := .rw }
/-- MBX_HRX_TOOBIG [31:0] at 0x2C414, RC/L, reset 0 (R506). -/
def mbxHrxToobig : Field := { id := 5800576, w := 32, acc := .rc, counter := true }
/-- DEN_STATUS.READY [31] at 0x30000, RO/L, reset 0 (R555). -/
def denStatusReady : Field := { id := 6291487, w := 1, acc := .ro }
/-- DEN_STATUS.SELFTEST_FAIL [30] at 0x30000, RO/L, reset 0 (R555). -/
def denStatusSelftestFail : Field := { id := 6291486, w := 1, acc := .ro }
/-- DEN_STATUS.TRNG_FAIL [29] at 0x30000, W1C/L, reset 0 (R555). -/
def denStatusTrngFail : Field := { id := 6291485, w := 1, acc := .w1c }
/-- DEN_OTP.REVOKED [31:28] at 0x30004, RO/L, reset per device (R555). -/
def denOtpRevoked : Field := { id := 6291612, w := 4, acc := .ro, reset := fun _ => Config.otpWord.toNat / 2 ^ 28 }
/-- DEN_OTP.ENROLLED [27:24] at 0x30004, RO/L, reset per device (R555). -/
def denOtpEnrolled : Field := { id := 6291608, w := 4, acc := .ro, reset := fun _ => Config.otpWord.toNat / 2 ^ 24 % 16 }
/-- DEN_OTP.JTAG_L2_DIS [17] at 0x30004, RO/L, reset per device (R555). -/
def denOtpJtagL2Dis : Field := { id := 6291601, w := 1, acc := .ro, reset := fun _ => Config.otpWord.toNat / 2 ^ 17 % 2 }
/-- DEN_OTP.JTAG_DIS [16] at 0x30004, RO/L, reset per device (R555). -/
def denOtpJtagDis : Field := { id := 6291600, w := 1, acc := .ro, reset := fun _ => Config.otpWord.toNat / 2 ^ 16 % 2 }
/-- DEN_OTP.PROFILE_LOCK_EN [8] at 0x30004, RO/L, reset per device (R555). -/
def denOtpProfileLockEn : Field := { id := 6291592, w := 1, acc := .ro, reset := fun _ => Config.otpWord.toNat / 2 ^ 8 % 2 }
/-- DEN_OTP.PROFILE_LOCK_SLOT [2:0] at 0x30004, RO/L, reset per device (R555). -/
def denOtpProfileLockSlot : Field := { id := 6291584, w := 3, acc := .ro, reset := fun _ => Config.otpWord.toNat % 8 }
/-- DEN_CFG.TRNG_HOST [1] at 0x30008, RW/S, reset 0 (R555). -/
def denCfgTrngHost : Field := { id := 6291713, w := 1, acc := .rw, staged := true }
/-- DEN_CFG.JTAG_BLOCK [0] at 0x30008, RW/S, reset 0 (R555). -/
def denCfgJtagBlock : Field := { id := 6291712, w := 1, acc := .rw, staged := true }
/-- DEN_ROLLBACK_LO [31:0] at 0x30010, RO/L, reset per device (R555). -/
def denRollbackLo : Field := { id := 6291968, w := 32, acc := .ro, reset := fun _ => Config.rollback.toNat % 4294967296 }
/-- DEN_ROLLBACK_HI [31:0] at 0x30014, RO/L, reset per device (R555). -/
def denRollbackHi : Field := { id := 6292096, w := 32, acc := .ro, reset := fun _ => Config.rollback.toNat / 4294967296 }
/-- DEN_ROLLBACK_LEFT [8:0] at 0x30018, RO/L, reset per device (R555). -/
def denRollbackLeft : Field := { id := 6292224, w := 9, acc := .ro, reset := fun _ => Config.rollbackLeft.toNat }
/-- DEN_KIDX [1:0] at 0x30020, RW/L, reset 0 (R555). -/
def denKidx : Field := { id := 6292480, w := 2, acc := .rw }
/-- DEN_KHASH [31:0] at 0x30030 x12, RO/L, reset per device (R555). -/
def denKhash : Field := { id := 6292992, w := 32, acc := .ro, reset := fun i => (Config.keyHash i).toNat }
/-- DEN_BOOT.CAUSE_B [23:20] at 0x30080, RO/L, reset 0 (R555). -/
def denBootCauseB : Field := { id := 6295572, w := 4, acc := .ro }
/-- DEN_BOOT.CAUSE_A [19:16] at 0x30080, RO/L, reset 0 (R555). -/
def denBootCauseA : Field := { id := 6295568, w := 4, acc := .ro }
/-- DEN_BOOT.SRC [10:9] at 0x30080, RO/L, reset 0 (R555). -/
def denBootSrc : Field := { id := 6295561, w := 2, acc := .ro }
/-- DEN_BOOT.COPY [8] at 0x30080, RO/L, reset 0 (R555). -/
def denBootCopy : Field := { id := 6295560, w := 1, acc := .ro }
/-- DEN_BOOT.SLOT [7:0] at 0x30080, RO/L, reset 0xFF (R555). -/
def denBootSlot : Field := { id := 6295552, w := 8, acc := .ro, reset := fun _ => 255 }
/-- DEN_PROF_PINS [2:0] at 0x30084, RO/L, reset pins (R555). -/
def denProfPins : Field := { id := 6295680, w := 3, acc := .ro }
/-- DEN_BUNDLE_HASH [31:0] at 0x300C0 x12, RO/L, reset 0 (R555). -/
def denBundleHash : Field := { id := 6297600, w := 32, acc := .ro }
/-- DEN_JTAG.LEVEL [1:0] at 0x30100, RO/L, reset 0 (R555). -/
def denJtagLevel : Field := { id := 6299648, w := 2, acc := .ro }
/-- DEN_TRNG [31:0] at 0x30110, RC/L, reset 0 (R555). -/
def denTrng : Field := { id := 6300160, w := 32, acc := .rc }
/-- DEN_SIG_FAIL [31:0] at 0x30120, RC/L, reset 0 (R555). -/
def denSigFail : Field := { id := 6300672, w := 32, acc := .rc, counter := true }
/-- DEN_JTAG_FAIL [31:0] at 0x30124, RC/L, reset 0 (R555). -/
def denJtagFail : Field := { id := 6300800, w := 32, acc := .rc, counter := true }
/-- MEM_BANK_OWN.PEND [31] at 0x34000 x32, RO/L, reset 0 (R570). -/
def memBankOwnPend : Field := { id := 6815775, w := 1, acc := .ro }
/-- MEM_BANK_OWN.CLEARING [30] at 0x34000 x32, RO/L, reset 0 (R570). -/
def memBankOwnClearing : Field := { id := 6815774, w := 1, acc := .ro }
/-- MEM_BANK_OWN.REFUSED_WR [29] at 0x34000 x32, W1C/L, reset 0 (R570). -/
def memBankOwnRefusedWr : Field := { id := 6815773, w := 1, acc := .w1c }
/-- MEM_BANK_OWN.CLEAR [8] at 0x34000 x32, WO/L, reset 0 (R570). -/
def memBankOwnClear : Field := { id := 6815752, w := 1, acc := .wo }
/-- MEM_BANK_OWN.OWNER [4:0] at 0x34000 x32, RW/L, reset 16 (R570). -/
def memBankOwnOwner : Field := { id := 6815744, w := 5, acc := .rw, reset := fun _ => 16 }
/-- MEM_SETT_MAP [5:0] at 0x34080 x32, RO/L, reset l (R570). -/
def memSettMap : Field := { id := 6819840, w := 6, acc := .ro, reset := fun i => i }
/-- MEM_SETT_SPARES [1:0] at 0x34100, RO/L, reset 0x3 (R570). -/
def memSettSpares : Field := { id := 6823936, w := 2, acc := .ro, reset := fun _ => 3 }
/-- MEM_SCRUB.EN [31] at 0x34110, RW/S, reset 1 (R570). -/
def memScrubEn : Field := { id := 6824479, w := 1, acc := .rw, staged := true, reset := fun _ => 1 }
/-- MEM_SCRUB.PERIOD_S [7:0] at 0x34110, RW/S, reset 10 (R570). -/
def memScrubPeriodS : Field := { id := 6824448, w := 8, acc := .rw, staged := true, reset := fun _ => 10 }
/-- MEM_SCRUB_STAT.LATE [0] at 0x34114, W1C/L, reset 0 (R570). -/
def memScrubStatLate : Field := { id := 6824576, w := 1, acc := .w1c }
/-- MEM_UE_POP.VALID [31] at 0x34120, RC/L, reset 0 (R570). -/
def memUePopValid : Field := { id := 6824991, w := 1, acc := .rc }
/-- MEM_UE_POP.TARGET [26:24] at 0x34120, RC/L, reset 0 (R570). -/
def memUePopTarget : Field := { id := 6824984, w := 3, acc := .rc }
/-- MEM_UE_POP.UNIT [21:16] at 0x34120, RC/L, reset 0 (R570). -/
def memUePopUnit : Field := { id := 6824976, w := 6, acc := .rc }
/-- MEM_UE_POP.WORD [15:0] at 0x34120, RC/L, reset 0 (R570). -/
def memUePopWord : Field := { id := 6824960, w := 16, acc := .rc }
/-- MEM_REFUSE_POP.VALID [31] at 0x34130, RC/L, reset 0 (R570). -/
def memRefusePopValid : Field := { id := 6825503, w := 1, acc := .rc }
/-- MEM_REFUSE_POP.WR [30] at 0x34130, RC/L, reset 0 (R570). -/
def memRefusePopWr : Field := { id := 6825502, w := 1, acc := .rc }
/-- MEM_REFUSE_POP.REQ [28:24] at 0x34130, RC/L, reset 0 (R570). -/
def memRefusePopReq : Field := { id := 6825496, w := 5, acc := .rc }
/-- MEM_REFUSE_POP.BANK [20:16] at 0x34130, RC/L, reset 0 (R570). -/
def memRefusePopBank : Field := { id := 6825488, w := 5, acc := .rc }
/-- MEM_REFUSE_POP.OFFSET [15:0] at 0x34130, RC/L, reset 0 (R570). -/
def memRefusePopOffset : Field := { id := 6825472, w := 16, acc := .rc }
/-- MEM_MBIST_STAT.BUSY [31] at 0x34140, RO/L, reset 0 (R570). -/
def memMbistStatBusy : Field := { id := 6826015, w := 1, acc := .ro }
/-- MEM_MBIST_STAT.MODE [30] at 0x34140, RO/L, reset 0 (R570). -/
def memMbistStatMode : Field := { id := 6826014, w := 1, acc := .ro }
/-- MEM_MBIST_STAT.UNIT [21:16] at 0x34140, RO/L, reset 0 (R570). -/
def memMbistStatUnit : Field := { id := 6826000, w := 6, acc := .ro }
/-- MEM_MBIST_STAT.TARGET [2:0] at 0x34140, RO/L, reset 0 (R570). -/
def memMbistStatTarget : Field := { id := 6825984, w := 3, acc := .ro }
/-- MEM_MBIST_FAIL_LO [31:0] at 0x34144, RO/L, reset 0 (R570). -/
def memMbistFailLo : Field := { id := 6826112, w := 32, acc := .ro }
/-- MEM_MBIST_FAIL_HI [31:0] at 0x34148, RO/L, reset 0 (R570). -/
def memMbistFailHi : Field := { id := 6826240, w := 32, acc := .ro }
/-- MEM_C.CE_SETT [31:0] at 0x34200, RC/L, reset 0 (R570). -/
def memCCeSett : Field := { id := 6832128, w := 32, acc := .rc, counter := true }
/-- MEM_C.REFUSED [31:0] at 0x34214, RC/L, reset 0 (R570). -/
def memCRefused : Field := { id := 6832768, w := 32, acc := .rc, counter := true }
/-- MEM_C.CE_CRAM [31:0] at 0x34204, RC/L, reset 0 (R570). -/
def memCCeCram : Field := { id := 6832256, w := 32, acc := .rc, counter := true }
/-- MEM_C.SCRUB_PASSES [31:0] at 0x34218, RC/L, reset 0 (R570). -/
def memCScrubPasses : Field := { id := 6832896, w := 32, acc := .rc, counter := true }
/-- MEM_C.CE_IMG [31:0] at 0x34208, RC/L, reset 0 (R570). -/
def memCCeImg : Field := { id := 6832384, w := 32, acc := .rc, counter := true }
/-- MEM_C.SETT_UE_TX [31:0] at 0x3421C, RC/L, reset 0 (R570). -/
def memCSettUeTx : Field := { id := 6833024, w := 32, acc := .rc, counter := true }
/-- MEM_C.CE_FLOW [31:0] at 0x3420C, RC/L, reset 0 (R570). -/
def memCCeFlow : Field := { id := 6832512, w := 32, acc := .rc, counter := true }
/-- MEM_C.SCRUB_FIXED [31:0] at 0x34220, RC/L, reset 0 (R570). -/
def memCScrubFixed : Field := { id := 6833152, w := 32, acc := .rc, counter := true }
/-- MEM_C.UE_TOTAL [31:0] at 0x34210, RC/L, reset 0 (R570). -/
def memCUeTotal : Field := { id := 6832640, w := 32, acc := .rc, counter := true }
/-- EVT_CFG.MAX_MS [25:16] at 0x38000, RW/S, reset 10 (R588). -/
def evtCfgMaxMs : Field := { id := 7340048, w := 10, acc := .rw, staged := true, reset := fun _ => 10 }
/-- EVT_CFG.HOLD_US [15:0] at 0x38000, RW/S, reset 100 (R588). -/
def evtCfgHoldUs : Field := { id := 7340032, w := 16, acc := .rw, staged := true, reset := fun _ => 100 }
/-- EVT_CTRL.FLUSH [0] at 0x38004, WO/L, reset 0 (R588). -/
def evtCtrlFlush : Field := { id := 7340160, w := 1, acc := .wo }
/-- EVT_STATUS.OPEN [22:16] at 0x38008, RO/L, reset 0 (R588). -/
def evtStatusOpen : Field := { id := 7340304, w := 7, acc := .ro }
/-- EVT_STATUS.LEVEL [8:0] at 0x38008, RO/L, reset 0 (R588). -/
def evtStatusLevel : Field := { id := 7340288, w := 9, acc := .ro }
/-- EVT_THR.AUTO [31] at 0x38010 x6, RW/S, reset 1 (R588). -/
def evtThrAuto : Field := { id := 7340575, w := 1, acc := .rw, staged := true, reset := fun _ => 1 }
/-- EVT_THR.COUNT [23:16] at 0x38010 x6, RW/S, reset 3 (R588). -/
def evtThrCount : Field := { id := 7340560, w := 8, acc := .rw, staged := true, reset := fun _ => 3 }
/-- EVT_THR.WINDOW_MS [15:0] at 0x38010 x6, RW/S, reset 1,000 (R588). -/
def evtThrWindowMs : Field := { id := 7340544, w := 16, acc := .rw, staged := true, reset := fun _ => 1000 }
/-- EVT_MASK [31:0] at 0x38030 x4, RW/L, reset 0xFFFFFFFF (R588). -/
def evtMask : Field := { id := 7341568, w := 32, acc := .rw, reset := fun _ => 4294967295 }
/-- EVT_POP.VALID [31] at 0x38040, RC/L, reset 0 (R588). -/
def evtPopValid : Field := { id := 7342111, w := 1, acc := .rc }
/-- EVT_POP.EARLY [30] at 0x38040, RC/L, reset 0 (R588). -/
def evtPopEarly : Field := { id := 7342110, w := 1, acc := .rc }
/-- EVT_POP.SAT [29] at 0x38040, RC/L, reset 0 (R588). -/
def evtPopSat : Field := { id := 7342109, w := 1, acc := .rc }
/-- EVT_POP.CAUSE [23:16] at 0x38040, RC/L, reset 0 (R588). -/
def evtPopCause : Field := { id := 7342096, w := 8, acc := .rc }
/-- EVT_POP.COUNT [15:0] at 0x38040, RC/L, reset 0 (R588). -/
def evtPopCount : Field := { id := 7342080, w := 16, acc := .rc }
/-- EVT_SUBJ.SUBJECT [31:16] at 0x38044, RO/L, reset 0 (R588). -/
def evtSubjSubject : Field := { id := 7342224, w := 16, acc := .ro }
/-- EVT_SUBJ.PARTNER [15:0] at 0x38044, RO/L, reset 0 (R588). -/
def evtSubjPartner : Field := { id := 7342208, w := 16, acc := .ro }
/-- EVT_DETAIL [31:0] at 0x38048, RO/L, reset 0 (R588). -/
def evtDetail : Field := { id := 7342336, w := 32, acc := .ro }
/-- EVT_FIRST_NS [29:0] at 0x3804C, RO/L, reset 0 (R588). -/
def evtFirstNs : Field := { id := 7342464, w := 30, acc := .ro }
/-- EVT_FIRST_SEC [31:0] at 0x38050, RO/L, reset 0 (R588). -/
def evtFirstSec : Field := { id := 7342592, w := 32, acc := .ro }
/-- EVT_LAST_NS [29:0] at 0x38054, RO/L, reset 0 (R588). -/
def evtLastNs : Field := { id := 7342720, w := 30, acc := .ro }
/-- EVT_LAST_SEC [31:0] at 0x38058, RO/L, reset 0 (R588). -/
def evtLastSec : Field := { id := 7342848, w := 32, acc := .ro }
/-- EVT_CHSEL.KIND [10:8] at 0x38080, RW/L, reset 0 (R588). -/
def evtChselKind : Field := { id := 7344136, w := 3, acc := .rw }
/-- EVT_CHSEL.NUMBER [5:0] at 0x38080, RW/L, reset 0 (R588). -/
def evtChselNumber : Field := { id := 7344128, w := 6, acc := .rw }
/-- EVT_CHSTAT.RETIRED [31] at 0x38084, RO/L, reset 0 (R588). -/
def evtChstatRetired : Field := { id := 7344287, w := 1, acc := .ro }
/-- EVT_CHSTAT.PERM_SEEN [30] at 0x38084, W1C/L, reset 0 (R588). -/
def evtChstatPermSeen : Field := { id := 7344286, w := 1, acc := .w1c }
/-- EVT_CHSTAT.CAUSE [27:24] at 0x38084, RO/L, reset 0 (R588). -/
def evtChstatCause : Field := { id := 7344280, w := 4, acc := .ro }
/-- EVT_CHSTAT.IN_WINDOW [7:0] at 0x38084, RO/L, reset 0 (R588). -/
def evtChstatInWindow : Field := { id := 7344256, w := 8, acc := .ro }
/-- EVT_CHFAULTS [31:0] at 0x38088, RC/L, reset 0 (R588). -/
def evtChfaults : Field := { id := 7344384, w := 32, acc := .rc, counter := true }
/-- EVT_RET_LO [31:0] at 0x38100 x6, RO/L, reset 0 (R588). -/
def evtRetLo : Field := { id := 7348224, w := 32, acc := .ro }
/-- EVT_RET_HI [1:0] at 0x38104 x6, RO/L, reset 0 (R588). -/
def evtRetHi : Field := { id := 7348352, w := 2, acc := .ro }
/-- EVT_C.EVENTS [31:0] at 0x38200, RC/L, reset 0 (R588). -/
def evtCEvents : Field := { id := 7356416, w := 32, acc := .rc, counter := true }
/-- EVT_C.EARLY_CNT [31:0] at 0x38210, RC/L, reset 0 (R588). -/
def evtCEarlyCnt : Field := { id := 7356928, w := 32, acc := .rc, counter := true }
/-- EVT_C.RECORDS [31:0] at 0x38204, RC/L, reset 0 (R588). -/
def evtCRecords : Field := { id := 7356544, w := 32, acc := .rc, counter := true }
/-- EVT_C.HLOG_WRITES [31:0] at 0x38214, RC/L, reset 0 (R588). -/
def evtCHlogWrites : Field := { id := 7357056, w := 32, acc := .rc, counter := true }
/-- EVT_C.EVT_LOST [31:0] at 0x38208, RC/L, reset 0 (R588). -/
def evtCEvtLost : Field := { id := 7356672, w := 32, acc := .rc, counter := true }
/-- EVT_C.HLOG_FAIL_CNT [31:0] at 0x38218, RC/L, reset 0 (R588). -/
def evtCHlogFailCnt : Field := { id := 7357184, w := 32, acc := .rc, counter := true }
/-- EVT_C.IN_LOST [31:0] at 0x3820C, RC/L, reset 0 (R588). -/
def evtCInLost : Field := { id := 7356800, w := 32, acc := .rc, counter := true }
/-- EVT_C.RETIREMENTS [31:0] at 0x3821C, RC/L, reset 0 (R588). -/
def evtCRetirements : Field := { id := 7357312, w := 32, acc := .rc, counter := true }
/-- PWR_STATE.TRANSIT [31] at 0x01000, RO/L, reset 0 (R609). -/
def pwrStateTransit : Field := { id := 131103, w := 1, acc := .ro }
/-- PWR_STATE.DOMAINS_ON [13:4] at 0x01000, RO/L, reset 0x3FF (R609). -/
def pwrStateDomainsOn : Field := { id := 131076, w := 10, acc := .ro, reset := fun _ => 1023 }
/-- PWR_STATE.STATE [1:0] at 0x01000, RO/L, reset 0 (R609). -/
def pwrStateState : Field := { id := 131072, w := 2, acc := .ro }
/-- PWR_TRIM_MASK [9:1] at 0x01004, RO/L, reset 0 (R609). -/
def pwrTrimMask : Field := { id := 131201, w := 9, acc := .ro }
/-- PWR_AVS_CFG.EN [31] at 0x01010, RW/S, reset 1 (R609). -/
def pwrAvsCfgEn : Field := { id := 131615, w := 1, acc := .rw, staged := true, reset := fun _ => 1 }
/-- PWR_AVS_CFG.VMIN_MV [25:16] at 0x01010, RW/S, reset 650 (R609). -/
def pwrAvsCfgVminMv : Field := { id := 131600, w := 10, acc := .rw, staged := true, reset := fun _ => 650 }
/-- PWR_AVS_CFG.VMAX_MV [13:4] at 0x01010, RW/S, reset 850 (R609). -/
def pwrAvsCfgVmaxMv : Field := { id := 131588, w := 10, acc := .rw, staged := true, reset := fun _ => 850 }
/-- PWR_AVS_CFG.MARGIN_MV [3:0] at 0x01010, RW/S, reset 5 (R609). -/
def pwrAvsCfgMarginMv : Field := { id := 131584, w := 4, acc := .rw, staged := true, reset := fun _ => 5 }
/-- PWR_AVS_D.STARVED [31] at 0x01020 x10, W1C/L, reset 0 (R609). -/
def pwrAvsDStarved : Field := { id := 132127, w := 1, acc := .w1c }
/-- PWR_AVS_D.TARGET_MV [25:16] at 0x01020 x10, RO/L, reset 750 (R609). -/
def pwrAvsDTargetMv : Field := { id := 132112, w := 10, acc := .ro, reset := fun _ => 750 }
/-- PWR_AVS_D.SLACK [7:0] at 0x01020 x10, RO/L, reset 0 (R609). -/
def pwrAvsDSlack : Field := { id := 132096, w := 8, acc := .ro }
/-- PWR_VCORE.AVS_TMO [31] at 0x01050, W1C/L, reset 0 (R609). -/
def pwrVcoreAvsTmo : Field := { id := 133663, w := 1, acc := .w1c }
/-- PWR_VCORE.REQ_MV [9:0] at 0x01050, RO/L, reset 750 (R609). -/
def pwrVcoreReqMv : Field := { id := 133632, w := 10, acc := .ro, reset := fun _ => 750 }
/-- PWR_BOD.AON [2] at 0x01060, W1C/L, reset 0 (R609). -/
def pwrBodAon : Field := { id := 134146, w := 1, acc := .w1c }
/-- PWR_BOD.SERDES [1] at 0x01060, W1C/L, reset 0 (R609). -/
def pwrBodSerdes : Field := { id := 134145, w := 1, acc := .w1c }
/-- PWR_BOD.CORE [0] at 0x01060, W1C/L, reset 0 (R609). -/
def pwrBodCore : Field := { id := 134144, w := 1, acc := .w1c }
/-- PWR_BOD.PFAIL [8] at 0x01060, W1C/L, reset 0 (R609). -/
def pwrBodPfail : Field := { id := 134152, w := 1, acc := .w1c }
/-- PWR_INS.ISO [3] at 0x01070, RO/L, reset 1 (R609). -/
def pwrInsIso : Field := { id := 134659, w := 1, acc := .ro, reset := fun _ => 1 }
/-- PWR_INS.EXTRACT_SEEN [2] at 0x01070, W1C/L, reset 0 (R609). -/
def pwrInsExtractSeen : Field := { id := 134658, w := 1, acc := .w1c }
/-- PWR_INS.CARD_PRESENT [1] at 0x01070, RO/L, reset pin (R609). -/
def pwrInsCardPresent : Field := { id := 134657, w := 1, acc := .ro }
/-- PWR_INS.EARLY_PWR [0] at 0x01070, RO/L, reset pin (R609). -/
def pwrInsEarlyPwr : Field := { id := 134656, w := 1, acc := .ro, reset := fun _ => 1 }
/-- PWR_TEMP [10:0] at 0x01080 x4, RO/L, reset 0 (R609). -/
def pwrTemp : Field := { id := 135168, w := 11, acc := .ro }
/-- PWR_THERM_CFG.WARN_C [23:16] at 0x01090, RW/S, reset Table 19-6 (R609). -/
def pwrThermCfgWarnC : Field := { id := 135696, w := 8, acc := .rw, staged := true, reset := fun _ => if Config.orderEB then 115 else 95 }
/-- PWR_THERM_CFG.HOT_C [15:8] at 0x01090, RW/S, reset Table 19-6 (R609). -/
def pwrThermCfgHotC : Field := { id := 135688, w := 8, acc := .rw, staged := true, reset := fun _ => if Config.orderEB then 120 else 100 }
/-- PWR_THERM_CFG.PLACE_DT [7:0] at 0x01090, RW/S, reset 10 (R609). -/
def pwrThermCfgPlaceDt : Field := { id := 135680, w := 8, acc := .rw, staged := true, reset := fun _ => 10 }
/-- PWR_THERM_STAT.TRIP_SEEN [2] at 0x01094, W1C/L, reset 0 (R609). -/
def pwrThermStatTripSeen : Field := { id := 135810, w := 1, acc := .w1c }
/-- PWR_THERM_STAT.HOT [1] at 0x01094, RO/L, reset 0 (R609). -/
def pwrThermStatHot : Field := { id := 135809, w := 1, acc := .ro }
/-- PWR_THERM_STAT.WARN [0] at 0x01094, RO/L, reset 0 (R609). -/
def pwrThermStatWarn : Field := { id := 135808, w := 1, acc := .ro }
/-- PWR_C.AVS_STEPS [31:0] at 0x01100, RC/L, reset 0 (R609). -/
def pwrCAvsSteps : Field := { id := 139264, w := 32, acc := .rc, counter := true }
/-- PWR_C.PLACE_MOVES [31:0] at 0x01110, RC/L, reset 0 (R609). -/
def pwrCPlaceMoves : Field := { id := 139776, w := 32, acc := .rc, counter := true }
/-- PWR_C.DFS_STEPS_A [31:0] at 0x01104, RC/L, reset 0 (R609). -/
def pwrCDfsStepsA : Field := { id := 139392, w := 32, acc := .rc, counter := true }
/-- PWR_C.MAINS_THR_STEPS [31:0] at 0x01114, RC/L, reset 0 (R609). -/
def pwrCMainsThrSteps : Field := { id := 139904, w := 32, acc := .rc, counter := true }
/-- PWR_C.DFS_STEPS_B [31:0] at 0x01108, RC/L, reset 0 (R609). -/
def pwrCDfsStepsB : Field := { id := 139520, w := 32, acc := .rc, counter := true }
/-- PWR_C.TRIM_ENTRIES [31:0] at 0x01118, RC/L, reset 0 (R609). -/
def pwrCTrimEntries : Field := { id := 140032, w := 32, acc := .rc, counter := true }
/-- PWR_C.THERM_CAPS [31:0] at 0x0110C, RC/L, reset 0 (R609). -/
def pwrCThermCaps : Field := { id := 139648, w := 32, acc := .rc, counter := true }
/-- PWR_C.HOLD_ENTRIES [31:0] at 0x0111C, RC/L, reset 0 (R609). -/
def pwrCHoldEntries : Field := { id := 140160, w := 32, acc := .rc, counter := true }
/-- CLK_STATUS.LOST [21:16] at 0x01800, W1C/L, reset 0 (R609). -/
def clkStatusLost : Field := { id := 196624, w := 6, acc := .w1c }
/-- CLK_STATUS.LOCKED [5:0] at 0x01800, RO/L, reset 0 (R609). -/
def clkStatusLocked : Field := { id := 196608, w := 6, acc := .ro }
/-- CLK_DFS.EN [31] at 0x01810 x2, RW/S, reset 1 (R609). -/
def clkDfsEn : Field := { id := 197151, w := 1, acc := .rw, staged := true, reset := fun _ => 1 }
/-- CLK_DFS.MIN [29:28] at 0x01810 x2, RW/S, reset 0 (R609). -/
def clkDfsMin : Field := { id := 197148, w := 2, acc := .rw, staged := true }
/-- CLK_DFS.MAX [25:24] at 0x01810 x2, RW/S, reset 3 (R609). -/
def clkDfsMax : Field := { id := 197144, w := 2, acc := .rw, staged := true, reset := fun _ => 3 }
/-- CLK_DFS.UP_PCT [23:16] at 0x01810 x2, RW/S, reset 90 (R609). -/
def clkDfsUpPct : Field := { id := 197136, w := 8, acc := .rw, staged := true, reset := fun _ => 90 }
/-- CLK_DFS.DOWN_PCT [15:8] at 0x01810 x2, RW/S, reset 40 (R609). -/
def clkDfsDownPct : Field := { id := 197128, w := 8, acc := .rw, staged := true, reset := fun _ => 40 }
/-- CLK_DFS_STAT.CAP [25:24] at 0x01820 x2, RO/L, reset 3 (R609). -/
def clkDfsStatCap : Field := { id := 197656, w := 2, acc := .ro, reset := fun _ => 3 }
/-- CLK_DFS_STAT.OCC_PCT [7:0] at 0x01820 x2, RO/L, reset 0 (R609). -/
def clkDfsStatOccPct : Field := { id := 197632, w := 8, acc := .ro }
/-- CLK_MTHR.ADAPT_EN [31] at 0x01830 x2, RW/S, reset 0 (R609). -/
def clkMthrAdaptEn : Field := { id := 198175, w := 1, acc := .rw, staged := true }
/-- CLK_MTHR.HYST_MV [27:24] at 0x01830 x2, RW/S, reset 10 (R609). -/
def clkMthrHystMv : Field := { id := 198168, w := 4, acc := .rw, staged := true, reset := fun _ => 10 }
/-- CLK_MTHR.CUR_MV [21:12] at 0x01830 x2, RO/L, reset 0 (R609). -/
def clkMthrCurMv : Field := { id := 198156, w := 10, acc := .ro }
/-- CLK_MTHR.INIT_MV [9:0] at 0x01830 x2, RW/S, reset 0 (R609). -/
def clkMthrInitMv : Field := { id := 198144, w := 10, acc := .rw, staged := true }
/-- CLK_PLACE.FAULT_EN [1] at 0x01840, RW/S, reset 1 (R609). -/
def clkPlaceFaultEn : Field := { id := 198657, w := 1, acc := .rw, staged := true, reset := fun _ => 1 }
/-- CLK_PLACE.EN [0] at 0x01840, RW/S, reset 0 (R609). -/
def clkPlaceEn : Field := { id := 198656, w := 1, acc := .rw, staged := true }
/-- GLB_MAGIC [31:0] at 0x00000, RO/L, reset 0x4C565832 (R618). -/
def glbMagic : Field := { id := 0, w := 32, acc := .ro, reset := fun _ => 1280727090 }
/-- GLB_VENDOR [15:0] at 0x00004, RO/L, reset Vendor ID (R618). -/
def glbVendor : Field := { id := 128, w := 16, acc := .ro, reset := fun _ => Config.vendorId.toNat }
/-- GLB_DEVICE [15:0] at 0x00008, RO/L, reset 0x2416 (R618). -/
def glbDevice : Field := { id := 256, w := 16, acc := .ro, reset := fun _ => 9238 }
/-- GLB_REV.ROM_VER [23:8] at 0x0000C, RO/L, reset 0x0103 (R618). -/
def glbRevRomVer : Field := { id := 392, w := 16, acc := .ro, reset := fun _ => 259 }
/-- GLB_REV.SILICON [7:0] at 0x0000C, RO/L, reset 0xB1 (R618). -/
def glbRevSilicon : Field := { id := 384, w := 8, acc := .ro, reset := fun _ => 177 }
/-- GLB_ORDER.TJ_MAX [15:8] at 0x00010, RO/L, reset per device (R618). -/
def glbOrderTjMax : Field := { id := 520, w := 8, acc := .ro, reset := fun _ => if Config.orderEB then 125 else 105 }
/-- GLB_ORDER.CODE [0] at 0x00010, RO/L, reset per device (R618). -/
def glbOrderCode : Field := { id := 512, w := 1, acc := .ro, reset := fun _ => Config.orderEB.toNat }
/-- GLB_NODE_ID_LO [31:0] at 0x00014, RO/L, reset per device (R618). -/
def glbNodeIdLo : Field := { id := 640, w := 32, acc := .ro, reset := fun _ => Config.nodeId.toNat % 4294967296 }
/-- GLB_NODE_ID_HI [15:0] at 0x00018, RO/L, reset per device (R618). -/
def glbNodeIdHi : Field := { id := 768, w := 16, acc := .ro, reset := fun _ => Config.nodeId.toNat / 4294967296 }
/-- GLB_SCRATCH [31:0] at 0x0001C, RW/L, reset 0 (R618). -/
def glbScratch : Field := { id := 896, w := 32, acc := .rw }
/-- GLB_UPTIME_S [31:0] at 0x00020, RO/L, reset 0 (R618). -/
def glbUptimeS : Field := { id := 1024, w := 32, acc := .ro }
/-- GLB_SCOPES [18:0] at 0x00024, RO/L, reset 0x7FFFF (R618). -/
def glbScopes : Field := { id := 1152, w := 19, acc := .ro, reset := fun _ => 524287 }
/-- GLB_STATUS.BOOTED [31] at 0x00028, RO/L, reset 0 (R618). -/
def glbStatusBooted : Field := { id := 1311, w := 1, acc := .ro }
/-- GLB_STATUS.PROFILE [30] at 0x00028, RO/L, reset 0 (R618). -/
def glbStatusProfile : Field := { id := 1310, w := 1, acc := .ro }
/-- GLB_STATUS.SESSION [29] at 0x00028, RO/L, reset 0 (R618). -/
def glbStatusSession : Field := { id := 1309, w := 1, acc := .ro }
/-- GLB_RESET.CAUSE [2:0] at 0x0002C, RO/L, reset per reset (R618). -/
def glbResetCause : Field := { id := 1408, w := 3, acc := .ro }
/-- GLB_RESET.AFTER_OFF [8] at 0x0002C, RO/L, reset per reset (R618). -/
def glbResetAfterOff : Field := { id := 1416, w := 1, acc := .ro }
/-- CAN_BIDX [7:0] at 0x1C200 x4, RW/L, reset 0 (R390). -/
def canBidx : Field := { id := 3686400, w := 8, acc := .rw }

end Sys2Proof.Machine.F
end

