-- ==== Sys2Proof/Machine/SMap.lean ====
section
/-!
DEFINITION. The operations of the sparse map: reading with a default, writing that keeps the canonical form, and the
canonical form itself as a Bool.
Assumption log: 8.
-/
namespace Sys2Proof

/-- What number `x` holds: its listed value, or the default `d`. -/
def SMap.get {α : Type} (d : α) : SMap α → Nat → α
  | [], _ => d
  | (k, v) :: r, x => if x = k then v else SMap.get d r x

/-- The map without any entry for `x`. -/
def SMap.del {α : Type} (x : Nat) : SMap α → SMap α
  | [] => []
  | (k, v) :: r => if x = k then SMap.del x r else (k, v) :: SMap.del x r

/-- The map with `v` put before the first greater number (for a map without an entry for `x`). -/
def SMap.ins {α : Type} (x : Nat) (v : α) : SMap α → SMap α
  | [] => [(x, v)]
  | (k, w) :: r => if x < k then (x, v) :: (k, w) :: r else (k, w) :: SMap.ins x v r

/-- Writing `v` at `x`: the default value removes the entry, so equal contents are equal lists. -/
def SMap.set {α : Type} [DecidableEq α] (d : α) (m : SMap α) (x : Nat) (v : α) : SMap α :=
  if v = d then SMap.del x m else SMap.ins x v (SMap.del x m)

/-- Every number of the map is greater than `lo`, rising strictly, and no listed value satisfies `isD`. -/
def SMap.wfFrom {α : Type} (isD : Nat → α → Bool) : Option Nat → SMap α → Bool
  | _, [] => true
  | lo, (k, v) :: r => (match lo with | none => true | some b => decide (b < k)) && !isD k v && SMap.wfFrom isD (some k) r

/-- The canonical form: numbers strictly rising, no entry equal to what an unlisted number holds (`isD`). -/
def SMap.wf {α : Type} (isD : Nat → α → Bool) (m : SMap α) : Bool := SMap.wfFrom isD none m

/-- Applying a function to the entry at `x`. -/
def SMap.upd {α : Type} [DecidableEq α] (d : α) (m : SMap α) (x : Nat) (f : α → α) : SMap α :=
  SMap.set d m x (f (SMap.get d m x))

/-- The entries whose number satisfies `p`. -/
def SMap.keep {α : Type} (p : Nat → Bool) (m : SMap α) : SMap α := m.filter (fun e => p e.1)

/-- The union of two maps; the first map's entries win. -/
def SMap.join {α : Type} : SMap α → SMap α → SMap α
  | [], m => m
  | (k, v) :: r, m => SMap.ins k v (SMap.del k (SMap.join r m))

/-- `n` consecutive values from `x` on. -/
def SMap.slice {α : Type} (d : α) (m : SMap α) (x : Nat) : Nat → List α
  | 0 => []
  | n + 1 => SMap.get d m x :: SMap.slice d m (x + 1) n

/-- Writing a list of values at consecutive numbers from `x` on. -/
def SMap.fill {α : Type} [DecidableEq α] (d : α) (m : SMap α) (x : Nat) : List α → SMap α
  | [] => m
  | v :: r => SMap.fill d (SMap.set d m x v) (x + 1) r

end Sys2Proof
end

