-- ==== Sys2Proof/Machine/State.lean ====
section
/-!
DEFINITION. The state of the block as plain data: the queue of commands, the register fields and everything else the
spec gives the machine; the fault and refusal reasons; and the state after reset.
Assumption log: 7, 8, 9, 10, 11, 13, 28, 42, 64, 88, 92.
-/
namespace Sys2Proof.Machine

/-! ## Time, axes and the calendar (02_phase_and_time.md) -/

/-- Device time: 48-bit seconds, nanoseconds below 10^9, and the fraction with the 32 hidden bits, in 2^-48 ns
(R38, R39). -/
structure DevTime where
  sec : Nat := 0
  ns : Nat := 0
  frac : Nat := 0
  deriving DecidableEq, Repr

/-- A timestamp: seconds, nanoseconds and the half-nanosecond bit (R50). -/
structure Stamp where
  sec : Nat := 0
  ns : Nat := 0
  half : Bool := false
  deriving DecidableEq, Repr

/-- A phase axis: its 48-bit value and the fraction of a count of a mains axis (R57, R58). -/
structure Axis where
  val : Nat := 0
  frac : Nat := 0
  deriving DecidableEq, Repr

/-- The hidden state of a mains PLL: consecutive good cycles (R61), whether it re-acquires after a holdover (R63), the last
crossing in half ns of `up`, and two phases in 10^-12 of a count (2^24 counts per cycle): that of the crossings, and that of the PLL,
which follows it without a step. -/
structure Pll where
  good : Nat := 0
  again : Bool := false
  lastAt : Option Nat := none
  ref : Nat := 0
  ang : Nat := 0
  deriving DecidableEq, Repr

/-- A calendar entry beside its fields: written since the last APPLY of PHS, armed, late, running phase p (R64-R66, R80). -/
structure CalEnt where
  written : Bool := false
  armed : Bool := false
  late : Bool := false
  p : Nat := 0
  deriving DecidableEq, Repr

/-- A capture record (R82). -/
structure CaptRec where
  ns : Nat
  half : Bool
  sec8 : Nat
  fall : Bool
  ax : Nat
  deriving DecidableEq, Repr

/-! ## Fox engines (03-05) -/

/-- The five flags of a thread (Table 3-1). -/
structure Flags where
  n : Bool := false
  z : Bool := false
  c : Bool := false
  v : Bool := false
  tf : Bool := false
  deriving DecidableEq, Repr

/-- The states of a thread that TSTAT shows, but for FROZEN (R132). -/
inductive ThState where
  | idle | ready | waitph | waitev | global | halted
  deriving DecidableEq, Repr

/-- What a blocked or waiting thread waits for: a global load or store (R100), a frame access (R166, R167), FNEW
(R172), a Shrew FIFO access (R191), another engine's DM (R194), a push that waits for room (R177), a wait (R188). -/
inductive Block where
  | none
  | gld (d : Fin 16) (addr width : Nat)
  | gst (addr width value : Nat)
  | frd (d : Fin 16) (addr width : Nat)
  | fwr (addr : Nat) (bytes : List Byte)
  | crcf (d : Fin 16) (addr len sel : Nat)
  | csumf (d : Fin 16) (addr len : Nat)
  | fext (d : Fin 16) (spec pos : Nat)
  | fins (spec pos value : Nat)
  | fnew
  | shput (eng value : Nat)
  | shget (d : Fin 16) (eng : Nat)
  | xld (d : Fin 16) (le addr : Nat)
  | xst (le addr value : Nat)
  | push
  | waitev (d : Fin 16)
  | waitph
  deriving DecidableEq, Repr

/-- A multiply in flight: FCLK cycles left until it lands, whether it writes MX, and the value it writes to MX:MH:ML
(only the low 48 bits when it does not write MX) (R107, R148). -/
structure MulOp where
  left : Nat
  wmx : Bool
  value : BitVec 72
  deriving DecidableEq, Repr

/-- A completion descriptor: tag, status, egress port and transmit timestamp (R176, R185). -/
structure Completion where
  tag : W24
  status : Nat
  egress : Nat
  txts : Option Stamp
  deriving DecidableEq, Repr

/-- A posted frame write (R167): offset and bytes of the frame it names. -/
structure FWrite where
  handle : Nat
  off : Nat
  bytes : List Byte
  /-- a FINS: bit position, specification, value -/
  ins : Option (Nat × Nat × Nat)
  deriving DecidableEq, Repr

/-- A Fox thread (Table 3-1, R93, and what the later rules give it). -/
structure Thread where
  w : Vector W24 16 := Vector.replicate 16 0
  fl : Flags := {}
  lc : W24 := 0
  lk : BitVec 14 := 0
  pc : BitVec 14 := 0
  evm : W24 := 0
  evp : W24 := 0
  /-- MX:MH:ML -/
  acc : BitVec 72 := 0
  rpt : W24 := 0
  tm : Bool := false
  fh : W24 := 0
  trapc : W24 := 0
  trappc : BitVec 14 := 0
  traprc : W24 := 0
  trapfl : Flags := {}
  /-- remaining watchdog time in ns -/
  wdk : Nat := 0
  /-- a WATCHDOG trap waits to be taken (R115) -/
  wdPend : Bool := false
  st : ThState := .idle
  blk : Block := .none
  /-- PC and repeat counter of the blocked word -/
  blkPc : BitVec 14 := 0
  blkRpt : W24 := 0
  /-- FH of the blocked word, and the other half of a pair whose FRD.UB blocks: slot A, slot bits, MX:MH:ML it reads -/
  blkFh : W24 := 0
  defer : Option (Bool × BitVec 23 × BitVec 72) := none
  muls : List MulOp := []
  wbuf : List FWrite := []
  rxq : List Nat := []
  comps : List Completion := []
  /-- pushes with CPL = 1 that have not completed -/
  outst : Nat := 0
  /-- transmit timestamp of the completion last removed by CPOP -/
  lastTx : Option Stamp := none
  /-- the TSR hold (R186) -/
  hold : Stamp := {}
  deriving DecidableEq, Repr

/-- A logical engine beside its fields: the thread that issued last (R90) and the physical engine a migration has
claimed (R127), and what its freeze holds. -/
structure Engine where
  last : Fin 4 := 3
  /-- FXs claimed by a migration in progress -/
  mig : Option Nat := none
  /-- the migration retires the engine it leaves -/
  migRetire : Bool := false
  /-- FOX_STATUS.STATE before the migration -/
  was : Nat := 0
  /-- wakes and signals that came during the freeze, in order (R128): thread, and the signal or none for a wake -/
  held : List (Nat × Option Nat) := []
  /-- host writes to its window during the freeze, in order: offset, value, W1C bits set on the same edge (R130) -/
  heldWr : List (Nat × Nat × Nat) := []
  deriving DecidableEq, Repr

/-- A signal on its way (R119): the target thread and the signal number. -/
structure Signal where
  dst : Nat
  sig : Nat
  deriving DecidableEq, Repr

/-! ## Frames and the switch fabric (05, 06) -/

/-- A frame in Sett with its descriptor (R162-R171, R200-R231). -/
structure Frame where
  len : Nat := 0
  data : SMap Byte := []
  inport : Nat := 0
  cls : Nat := 0
  flow : Option Nat := none
  mirror : Bool := false
  trunc : Bool := false
  runt : Bool := false
  loc : Bool := false
  vlan : Bool := false
  lost : Bool := false
  /-- ns since reset at t_T, the last FCS bit or R203 (AGE_US counts from it) -/
  rxAt : Nat := 0
  hash : Nat := 0
  origlen : Nat := 0
  rxts : Option Stamp := none
  /-- the logical engine that owns it (R162) -/
  owner : Option Nat := none
  /-- cells charged to the shared pool and to the reserve of the input (R227) -/
  cShared : Nat := 0
  cRes : Nat := 0
  /-- cells charged to a staging share, and whose: 0-15 LEn, 16 host, 17 supervisor (R228) -/
  cStage : Nat := 0
  stageOf : Nat := 0
  /-- the external input whose reserve and use of S hold its cells (R227, R229) -/
  chargeTo : Nat := 0
  /-- the bank group (cell number mod 4, R224) of each of its cells, in order -/
  groups : List Nat := []
  /-- outputs on which the frame still waits -/
  todo : List Nat := []
  /-- outputs that have sent it -/
  sent : List Nat := []
  /-- outputs that have dropped it, with the completion status of the cause (Table 6-3) -/
  drops : List (Nat × Nat) := []
  /-- completion wanted by a thread: thread and tag (R176) -/
  cpl : Option (Nat × W24) := none
  /-- completion wanted by the host: tag (R503) -/
  hcpl : Option Nat := none
  /-- held all-or-none frame, and ns since reset at its deadline (R233) -/
  aon : Bool := false
  aonDl : Nat := 0
  /-- transmit timestamp taken at its last target -/
  txts : Option Stamp := none
  deriving DecidableEq, Repr

/-- A descriptor in a queue of the fabric: two queue indices (input and pin, intermediate and output, or output and
class) and the frame's handle. -/
structure Desc where
  a : Nat
  b : Nat
  h : Nat
  deriving DecidableEq, Repr

/-! ## Host interface, events, faults, memories (14, 17, 18) -/

/-- A record of the posted-write error log (R499, R500). -/
structure PweRec where
  tag : Nat
  cause : Nat
  target : Nat := 0
  space : Nat := 0
  remote : Nat := 0
  width : Nat := 0
  ns : Nat := 0
  deriving DecidableEq, Repr

/-- A host transmit submission (R502). -/
structure HtxRec where
  tag : Nat
  addr : Nat
  space : Nat
  cls : Nat
  len : Nat
  deriving DecidableEq, Repr

/-- What a mailbox's posted command is doing beside the STATE field (R495-R497). -/
inductive MbxPhase where
  /-- nothing posted -/
  | idle
  /-- posted, not yet fetched -/
  | posted
  /-- fetched and checked, ready to run or to be judged again -/
  | ready
  /-- waiting for an APPLY edge, a snapshot edge or a drain -/
  | waiting
  deriving DecidableEq, Repr

/-- A mailbox beside its fields: phase, block address and space, header and parameters of the fetched block. -/
structure Mbx where
  phase : MbxPhase := .idle
  addr : Nat := 0
  space : Nat := 0
  op : Nat := 0
  tag : Nat := 0xFFFF
  flags : Nat := 0
  params : List Byte := []
  /-- PWE_TOTAL and GW SEQ seen when a SYNC was accepted -/
  noteSeq : Nat := 0
  /-- acceptance number of the post (R528), LENGTH of the block, and `up` at the start of its execution -/
  seq : Nat := 0
  len : Nat := 0
  startAt : Nat := 0
  /-- engines an ENGINE_STOP waits for (R518) -/
  acc : Nat := 0
  deriving DecidableEq, Repr

/-- An event on its way into the event unit (R581). -/
structure Event where
  cause : Nat
  subj : Nat
  partner : Nat := 0
  detail : Nat := 0
  ns : Nat := 0
  sec : Nat := 0
  /-- `up` when it was raised -/
  at_ : Nat := 0
  deriving DecidableEq, Repr

/-- An open or closed event record (R582, R583); `firstAt` and `lastAt` are `up` of its FIRST and its LAST. -/
structure EvRec where
  cause : Nat
  subj : Nat
  partner : Nat
  detail : Nat
  count : Nat := 1
  sat : Bool := false
  early : Bool := false
  fns : Nat
  fsec : Nat
  lns : Nat
  lsec : Nat
  firstAt : Nat := 0
  lastAt : Nat := 0
  deriving DecidableEq, Repr

/-- A record of the UE log (R570). -/
structure UeRec where
  target : Nat
  unit : Nat
  word : Nat
  deriving DecidableEq, Repr

/-- A record of the refusal log (R562). -/
structure RefuseRec where
  wr : Bool
  req : Nat
  bank : Nat
  ofs : Nat
  deriving DecidableEq, Repr

/-- A fault channel beside its fields: the times (ns since reset) of the faults in its window, the words at which an
uncorrectable error was found (R571-R573), and the cause of a retirement that is decided and not yet carried out. -/
structure Chan where
  times : List Nat := []
  ueWords : List Nat := []
  retire : Option Nat := none
  deriving DecidableEq, Repr

/-- A health-log record waiting for the supervisor or written (R579): kind, channel kind, number, cause, count, detail,
seconds, nanoseconds. -/
structure Health where
  kind : Nat
  chKind : Nat
  number : Nat
  cause : Nat
  count : Nat
  detail : Nat := 0
  sec : Nat := 0
  ns : Nat := 0
  deriving DecidableEq, Repr

/-! ## Image RAM, APPLY and snapshots (07) -/

/-- A pending APPLY (R275, R277): scope mask, WHEN, axis, phase, whether its edge has come, whether its phase was due at
the request, and the mailbox whose command requested it. -/
structure ApplyReq where
  scope : Nat
  whn : Nat
  axis : Nat
  phase : Nat
  due : Bool := false
  late : Bool := false
  mbx : Option Nat := none
  /-- a write of GO with CANCEL fell on its edge: that request follows it -/
  again : Bool := false
  deriving DecidableEq, Repr

/-! ## Shrew engines (11) -/

/-- The states of SHR_STAT.STATE (R426). -/
inductive ShSt where
  | stopped | running | waiting | stalled | halted | fault | retired
  deriving DecidableEq, Repr
/-- The code of a state in SHR_STAT. -/
def ShSt.code : ShSt → Nat
  | .stopped => 0 | .running => 1 | .waiting => 2 | .stalled => 3 | .halted => 4 | .fault => 5 | .retired => 6

/-- A Shrew engine (R397, R393, R411, R421). -/
structure Shrew where
  st : ShSt := .stopped
  bank : Bool := false
  swapPend : Bool := false
  pc : Nat := 0
  ca : BitVec 16 := 0
  cb : BitVec 16 := 0
  m : W24 := 0
  sr : W24 := 0
  c : Nat := 0
  rlat : Option W24 := none
  tlat : Option W24 := none
  txf : List W24 := []
  rxf : List W24 := []
  /-- the pacer's phase counter (R393) -/
  phase : Nat := 0
  /-- SCLK periods left of a K pulse, 0 for none (R405) -/
  kLeft : Nat := 0
  qpos : BitVec 32 := 0
  /-- the lane pair BA sampled last, none before the first QSTEP after a start (R411) -/
  qprev : Option Nat := none
  /-- whether a WAIT for an edge is armed, and the level of its lane at its last execution (R400) -/
  armed : Bool := false
  lvl : Bool := false
  deriving DecidableEq, Repr


/-! ## Ports (09) -/

/-- A port of FP0-FP13 beside its fields. -/
structure Port where
  /-- the bytes of the frame in transmission as they leave, DA to FCS (R52-R55) -/
  wire : List Byte := []
  /-- it ends with an invalid FCS (R559) -/
  badFcs : Bool := false
  /-- attempts of the frame in transmission that collided, and the back-off slots it waits, none when it does not wait
  (R338) -/
  att : Nat := 0
  slots : Option Nat := none
  /-- the negotiated mode when the link was last up (R239) -/
  mode : Nat := 0
  /-- `up` when the link was last lost (R571) -/
  lostAt : Option Nat := none
  /-- quanta of the last PAUSE frame sent and its bytes; quanta of one that waits for the frame in progress (R341) -/
  pauseSent : Option Nat := none
  pauseWire : List Byte := []
  pauseDue : Option Nat := none
  /-- quanta and `up` of the PAUSE stop in force (R342) -/
  pausedQ : Nat := 0
  pausedAt : Nat := 0
  /-- `up` when transmit LPI was asserted, when its queues last held a frame, when receive LPI began (R344, R347) -/
  lpiAt : Nat := 0
  busyAt : Nat := 0
  lpiRxAt : Nat := 0
  /-- the node whose PLCA opportunity it is, and the frames sent in the own opportunity (R348) -/
  plca : Nat := 0
  burst : Nat := 0
  /-- the class 7 frame that a gate released into the next opportunity, 0 for none (R351) -/
  rel : Nat := 0
  /-- a short or open of the pair is present (R336) -/
  fault : Bool := false
  deriving DecidableEq, Repr



/-! ## The Voleyx ring (08) -/

/-- A control block of Table 8-1. -/
inductive Block66 where
  | csmA (cycle corr : Nat)
  | csmB (hops folds dir first : Nat)
  | echoReq (seq : Nat)
  | echoResp (seq res : Nat)
  | linkState (member : Bool) (node ring : Nat)
  | joinA (id : Nat)
  | joinB (node hash : Nat)
  deriving DecidableEq, Repr

/-- A splice a member asks for (Table 8-3, SPLICE_REQ): joiner's identity (0 for a repaired link), node number, whether
it lies west of the sender, slot-table hash, link delay in 1/16 ns. -/
structure SpliceReq where
  id : Nat
  node : Nat
  west : Bool
  hash : Nat
  delay : Nat
  deriving DecidableEq, Repr

/-- A ring lane beside its fields (R284-R306, R312, R319-R324). -/
structure Lane where
  /-- the transmitter trains; failed attempts since the last success -/
  training : Bool := false
  fails : Nat := 0
  /-- the last LINK_STATE of the neighbour: member, node, ring (R299) -/
  nbr : Option (Bool × Nat × Nat) := none
  /-- the last ECHO_REQ sent: its sequence and send time in half ns; link delay values, newest first (R306) -/
  echo : Option (Nat × Nat) := none
  seq : Nat := 0
  samples : List Int := []
  /-- the identity of a JOIN-A that waits for its JOIN-B; the splice this member asks for (R321) -/
  joinId : Option Nat := none
  req : Option SpliceReq := none
  /-- joined at the last splice and no CSM received since (R324) -/
  fresh : Bool := false
  /-- the guardian's gate and the slot it is open for (R312, R328) -/
  gate : Bool := false
  gateIx : Nat := 0
  /-- the own slot under way and its end, in 0.1 ns of `up`; control frames still to send in this cycle: 1 STATUS,
  2 TIME_ANN, 4 SPLICE_REQ (R296, R297) -/
  slot : Nat := 0
  endAt : Nat := 0
  ctl : List Nat := []
  /-- ends of the control, CSTART and last-gasp inserts under way, and of the last relayed frame, in 0.1 ns of `up` (R286,
  R313); `up` at the last insert in LISTEN or COLDSTART (R312) -/
  ends : List Nat := []
  relTo : Nat := 0
  lastIns : Option Nat := none
  /-- the ring frame and the control blocks that left last, the listen feed's last frame (R320) -/
  out : List Byte := []
  blocks : List Block66 := []
  feed : List Byte := []
  /-- equaliser codes (R284, Table 19-5) -/
  ctle : Nat := 0
  dfe : Nat := 0
  deriving DecidableEq, Repr

/-- The first node's announcement of ring time (Table 8-3, TIME_ANN): its node, ring time of cycle `cycle` in ns, cycle,
hash, rank and identity. -/
structure Ann where
  node : Nat
  ns : Nat
  cycle : Nat
  hash : Nat
  rank : Nat
  id : Nat
  deriving DecidableEq, Repr

/-- A splice that is scheduled or announced (R322): splice cycle, unfolding nodes, joining node and its identity. -/
structure Splice where
  ks : Nat
  a : Nat
  b : Option Nat := none
  j : Option Nat := none
  id : Nat := 0
  deriving DecidableEq, Repr

/-- The ring node beside its fields. -/
structure Ring where
  /-- a first node is known; it is RING_STATUS.FIRST -/
  known : Bool := false
  /-- the follower has stepped its time since it joined; integral of the servo (R309) -/
  stepped : Bool := false
  acc : Int := 0
  /-- consecutive cycles below 20 ns, and below g/2 with an accepted alignment (R310, R314) -/
  near : Nat := 0
  good : Nat := 0
  /-- a CSM came in this cycle; the best copy so far: hops, lane, offset (R308) -/
  seen : Bool := false
  best : Option (Nat × Nat × Int) := none
  ann : Option Ann := none
  /-- another first node met, and whether this FIRST node yields at its next cycle start (R302) -/
  other : Option Nat := none
  otherAnn : Option Ann := none
  yields : Bool := false
  /-- it was FIRST when it entered HOLD (Table 20-2) -/
  held : Bool := false
  /-- consecutive rejections of the guardian; its window for CSM (R311, R312) -/
  rej : Nat := 0
  csmGate : Bool := false
  /-- the guardian's cycle start and the cycle it counts for, 16 of its cycles, both in 1/16 ns of its own ticks, none or 0
  before its first; where its calibration began; its copy of the own slots: index, lane, START, LEN (R311, R328) -/
  gref : Option Int := none
  gcyc : Nat := 0
  gspan : Nat := 0
  gcal : Option (Int × Nat) := none
  gown : List (Nat × Nat × Nat × Nat) := []
  /-- members' last STATUS: FOLD_E and FOLD_W, plus 4 (R326) -/
  stat : SMap Nat := []
  /-- FIRST: the splice it schedules, and that a TIME_ANN of it could not be sent (R297, R322) -/
  plan : Option Splice := none
  missed : Bool := false
  /-- the announced splice and the cycles in which it was announced (R322, R323) -/
  sp : Option Splice := none
  got : List Nat := []
  /-- a last gasp under way: `up` at detection and the frame that was built (R325) -/
  gasp : Option (Nat × List Byte) := none
  deriving DecidableEq, Repr



/-! ## CAN controllers (10) -/

/-- What a CAN controller sends or arbitrates for: a buffer, or a reference message with its cycle count. -/
inductive CanTx where
  | buf (b : Nat)
  | ref (cycle : Nat)
  deriving DecidableEq, Repr

/-- A CAN controller beside its fields. -/
structure Can where
  /-- the next storage sequence number (R375) -/
  seq : Nat := 0
  /-- the frame in arbitration or transmission -/
  cur : Option CanTx := none
  /-- the cycle count of a due reference message (R388) -/
  due : Option Nat := none
  /-- the triggered buffers whose attempt of this cycle has not ended (R389) -/
  trig : List Nat := []
  /-- candidate and pass of detection (R367) -/
  cand : Nat := 0
  round : Nat := 0
  /-- ns since reset at the reference mark (R387); the period of its axis in which this master last sent a reference (R388);
  the triggered buffers that had their attempt in this cycle (R389) -/
  mark : Nat := 0
  refIx : Nat := 0
  tried : List Nat := []
  /-- it acknowledged the last frame received (R373); the secondary sample point of the data phase of the frame in
  transmission, in CCLK after each bit (R364) -/
  ack : Bool := false
  ssp : Option Nat := none
  /-- its bank was retired: held as OFF until an APPLY names another bank (Table 18-2) -/
  lost : Bool := false
  deriving DecidableEq, Repr



/-! ## Signal gateway (12) -/

/-- A host record of the gateway that is queued, or sent and not complete (R443-R445). -/
structure GwRec where
  seq : Nat
  tag : Nat
  remote : Nat
  ofs : Nat
  width : Nat
  value : Nat
  sent : Bool := false
  deriving DecidableEq, Repr


/-! ## Safety (13): reports on their way to Owl -/

/-- A report of a safety thread to Owl (R116): its thread, and the value written to WDK, or none for an expiry. -/
structure OwlReport where
  k : Nat
  value : Option W24
  deriving DecidableEq, Repr

/-- A message of a tapped frame on its way to Owl (R448): connection, fabric input, frame length, the bytes from OFS on,
and the value of the connection's axis at the verdict edge. -/
structure Tap where
  c : Nat
  port : Nat
  len : Nat
  msg : List Byte
  ax : Nat
  deriving DecidableEq, Repr

/-- A safe-channel connection beside its fields (R460-R467). -/
structure Conn where
  /-- the next message sets the expected sequence (R461) -/
  first : Bool := true
  /-- check failures since the last accepted message -/
  chk : Nat := 0
  /-- accepted messages in SYNC or FAILED -/
  cnt : Nat := 0
  /-- the deadline D, and whether the axis reached it before a message was accepted (R462) -/
  dl : Option Nat := none
  late : Bool := false
  /-- the backstop runs -/
  back : Bool := false
  /-- the first copy of an open window: its path (0 A, 1 B) and message (R463) -/
  win : Option (Nat × List Byte) := none
  /-- consecutive windows with one copy and with two (R465) -/
  singles : Nat := 0
  duals : Nat := 0
  deriving DecidableEq, Repr

/-- A thread entry beside OWL_TW_STAT: restarts without a fault in FAILED, `up` at the previous restart, the demand taken
last (R453, R656). -/
structure TwEnt where
  n : Nat := 0
  last : Option Nat := none
  dem : Nat := 0
  deriving DecidableEq, Repr

/-- Owl beside its fields (R450-R477). -/
structure Owl where
  /-- demands of the four outputs as last seen (R454) -/
  dem : Nat := 0
  /-- outputs whose next test pulse takes driver B (R455) -/
  tpB : Nat := 0
  /-- `up` at the falling edge of SAFE_ACK_N; whether the unlock window is open (R471) -/
  ackAt : Nat := 0
  win : Bool := false
  /-- a nonce in OWL_AUTH_NONCE is valid (R658); a request stands (R475); the authorised content hash -/
  nonceOk : Bool := false
  req : Bool := false
  hash : List Byte := []
  /-- a CONFIG entry's READY is still to come; `up` when READY was set (R474, R475) -/
  want : Bool := false
  readyAt : Nat := 0
  /-- `up` at the last internal fault; halted until VDD_AON is removed (R450) -/
  intAt : Option Nat := none
  halted : Bool := false
  /-- the cached log entries, newest first; entries that have not reached flash: sequence number and bytes (R477) -/
  log : List (List Byte) := []
  toFlash : List (Nat × List Byte) := []
  deriving DecidableEq, Repr


/-! ## Profiles (16) -/

/-- Where a PROFILE_SWITCH stands (R548): waiting for the commit edge of a break, for the engines it stops, for its
APPLY edge, or for the end of START. -/
inductive SwStage where
  | commit | stop | apply | start
  deriving DecidableEq, Repr
/-- A PROFILE_SWITCH under way (R548): the target copy and object, whether it breaks, the engines it stops and loads, of
which those that ran, the pending values it replaced, `up` and the epoch at its commit edge (after the APPLY edge, the length of the break), and its stage. -/
structure Switch where
  slot : Nat
  copy : Nat
  obj : List Byte
  brk : Bool
  stops : Nat
  ran : Nat := 0
  saved : SMap Nat := []
  cutAt : Nat := 0
  epoch : Nat := 0
  stage : SwStage
  deriving DecidableEq, Repr



/-- Reasons for which the machine could stop. No command stops the LVX-2416: every refusal of the device is state. -/
inductive Fault where
  /-- Raised by nothing: kept so that the type of reasons has a member. Safe, since no step answers it. -/
  | none
  deriving DecidableEq, Repr

/-- Reasons for which a command has no meaning. -/
inductive Refusal where
  /-- A command whose meaning is not written; raised by its arm of `exec` only. Safe: it claims nothing. -/
  | notModelled (mnemonic : String)
  deriving DecidableEq, Repr

/-- The state of the block. The values given here are those right after reset. -/
structure State where
  /-- commands waiting, first in, first out -/
  pending : List Instr := []
  /-- pending values of S fields, active values of S fields, values of L fields, held counters (R16, R17, R272) -/
  pend : SMap Nat := []
  actv : SMap Nat := []
  live : SMap Nat := []
  held : SMap Nat := []
  /-- the next free value to use (plain counter, model's own) -/
  fresh : Nat := 0
  /-- data returned by the last read, peek or QSPI exchange, as bytes or one word (model's view of the interface) -/
  rdata : List Nat := []
  time : DevTime := {}
  /-- ns counted by the device, and that count at the last reset release -/
  up : Nat := 0
  relAt : Nat := 0
  /-- `up + 1` at the start of each timer that runs (R46, R62, R79 and the other durations of the rules), by its key -/
  timers : SMap Nat := []
  /-- remaining slew, 2^-48 ns -/
  slew : Int := 0
  /-- consecutive PPS_IN edges within 100 ns (R46); lock of the selected source: 0 none, 1 locked, 2 holdover -/
  ppsGood : Nat := 0
  srcLock : Nat := 0
  ppsOut : Bool := false
  axes : SMap Axis := []
  plls : SMap Pll := []
  cal : SMap CalEnt := []
  capt : SMap (List CaptRec) := []
  /-- open class 7 gates of FP0-FP13 (R77) -/
  gates : Nat := 0
  threads : SMap Thread := []
  engines : SMap Engine := []
  sigs : List Signal := []
  /-- IM and DM words by logical engine: engine x 16,384 or 32,768 plus address -/
  im : SMap (BitVec 48) := []
  dm : SMap W24 := []
  frames : SMap Frame := []
  pinQ : List Desc := []
  midQ : List Desc := []
  outQ : List Desc := []
  /-- the frame each output is transmitting, 0 for none -/
  txing : SMap Nat := []
  /-- cells in use of the staging shares (0-15 LEn, 16 host, 17 supervisor) and of the mirror partition -/
  stage : SMap Nat := []
  mirUse : Nat := 0
  /-- mirror numbering of inputs and outputs (R235) -/
  rxNum : SMap Nat := []
  txNum : SMap Nat := []
  /-- pushes and submissions accepted by an internal input, waiting for their verdict: input, handle, push
  specification [10:0] (bit 10 LOOKUP, [7:5] class, [4:0] port) (R203) -/
  subm : List Desc := []
  /-- Common RAM bytes (R556) -/
  cram : SMap Byte := []
  /-- words marked poisoned or uncorrectable, by memory code x 2^32 + word (R558) -/
  poison : SMap Bool := []
  /-- host memory as the device has written it -/
  hostMem : SMap Byte := []
  pwe : List PweRec := []
  htx : List HtxRec := []
  /-- host transmit completions: tag, status, egress -/
  htxc : List (Nat × Nat × Nat) := []
  mbx : SMap Mbx := []
  /-- PWE_TOTAL at the previous SYNC of the session (R501) -/
  syncTotal : Nat := 0
  evq : List Event := []
  evOpen : List EvRec := []
  evFifo : List EvRec := []
  ueLog : List UeRec := []
  refLog : List RefuseRec := []
  chans : SMap Chan := []
  /-- health records decided and not yet written, and the number of the next -/
  health : List Health := []
  healthSeq : Nat := 0
  /-- interrupt messages sent, newest first -/
  irqSent : List Nat := []
  /-- interrupt delivery of the PCIe function: 0 INTA, 1 MSI, 2 MSI-X, and log2 of the MSI vectors -/
  irqMode : Nat := 0
  msiLog : Nat := 0
  d3hot : Bool := false
  /-- LBUS: held low write half (offset, value), read hold, register whose low half was the last access -/
  lbusLow : Option (Nat × Nat) := none
  lbusHold : Nat := 0
  lbusLast : Option Nat := none
  /-- Image RAM: bytes of the CUR slots, of the BACK and LEASED slots, and the blocks that have such a slot (R258) -/
  imgCur : SMap Byte := []
  imgBack : SMap Byte := []
  imgLease : SMap Byte := []
  backBlk : SMap Bool := []
  leaseBlk : SMap Bool := []
  /-- commit requests for the next commit edge (R261) -/
  commitReq : Nat := 0
  /-- remaining lease time in ns (R264) -/
  leaseNs : Nat := 0
  /-- the last lease that ended expired (R517) -/
  leaseExp : Bool := false
  /-- flow context bytes 0x60-0xFF (USC state and firmware areas): context x 256 + byte -/
  flowMem : SMap Byte := []
  apply : Option ApplyReq := none
  /-- the active values before each of the last APPLY edges, with `up` at the edge, oldest first: a frame in reception on an
  edge is looked up and handled as they were (R213, R244, R357) -/
  olds : List (Nat × SMap Nat) := []
  /-- the commit edge a pending snapshot with WHEN = 1 waits for has come; the mailbox that waits for the snapshot -/
  snapDue : Bool := false
  /-- WHEN and CLEAR of the pending snapshot (R271) -/
  snapWhn : Bool := false
  snapClr : Bool := false
  snapMbx : Option Nat := none
  shrews : SMap Shrew := []
  /-- Shrew program words: engine x 256 + bank x 128 + address -/
  shrPm : SMap (BitVec 16) := []
  /-- the 16 shared flags (R408) -/
  shrFlags : Nat := 0
  /-- levels and output enables the engines set on GP0-GP63 (R413) -/
  gpLvl : Nat := 0
  gpOe : Nat := 0
  /-- banks whose measured VDDIO is 3.3 V (R414) -/
  vddio33 : Nat := 255
  /-- the ports by fabric port, and the frame each has in reception (R335) -/
  ports : SMap Port := []
  arriving : SMap (Option RxFrame) := []
  /-- the ring node and its lanes, 0 RINGE and 1 RINGW -/
  ring : Ring := {}
  ringLanes : SMap Lane := []
  /-- the CAN controllers; the holder of each buffer lock: controller x 256 + buffer, 1 for the host window, 2 + thread
  (R376) -/
  cans : SMap Can := []
  canLocks : SMap Nat := []
  /-- host records of the gateway, in order of their sequence numbers -/
  hwq : List GwRec := []
  /-- reports of safety threads that have not reached Owl (R116, R453) -/
  owlRep : List OwlReport := []
  /-- Owl: itself, its connections and thread entries, tapped messages not yet checked -/
  owl : Owl := {}
  conns : SMap Conn := []
  tws : SMap TwEnt := []
  taps : List Tap := []
  /-- the log area of boot flash by slot (R477) -/
  flashLog : SMap (List Byte) := []
  /-- supplies outside their Owl windows, bit m of Table 13-4 (R657) -/
  supOut : Nat := 0
  /-- the stored password hash when a command has set one; none: as delivered (R472, R473) -/
  pwHash : Option (List Byte) := none
  /-- 32-bit words drawn from the TRNG -/
  trngN : Nat := 0
  /-- the health log region of boot flash by slot (R579) -/
  hlog : SMap (List Byte) := []
  /-- host writes that wait for the clearing of their Common RAM bank, by byte (R563) -/
  waitWr : List (Nat × Byte) := []
  /-- the power-fail path has begun and no recovery was seen: no flash program or erase starts (R585, R587) -/
  pfail : Bool := false
  /-- the device is in OFF; reset release has been seen and the boot has run -/
  off : Bool := false
  released : Bool := false
  /-- the next acceptance number of a mailbox post (R528) -/
  mbxSeq : Nat := 0
  /-- the MSI-X table by 32-bit word and the pending-bit array (R616) -/
  msix : SMap Nat := []
  pba : Nat := 0
  /-- the selection records, copies A and B, and the profile copies by 2 x slot + copy (R533) -/
  selRec : SMap (List Byte) := []
  prof : SMap (List Byte) := []
  /-- the running bundle, START command blocks still to run, the switch under way, image hashes by engine (R545, R553) -/
  bundle : List Byte := []
  startQ : List (List Byte) := []
  switch : Option Switch := none
  imgHash : SMap (List Byte) := []
  /-- logical Sett banks that left service for want of a spare (R225) -/
  settOut : Nat := 0
  /-- the FCLK step of clusters A and B (FOX_STATUS.FSTEP, R602) -/
  fstep : SMap Nat := []
  /-- loops that have stepped in the present opening of their window: 0-9 AVS by domain, 10 and 11 DFS, 12 placement -/
  stepMask : Nat := 0
  /-- doorbell bits whose messages wait for the return to D0 (R483) -/
  d3pend : Nat := 0
  deriving DecidableEq, Repr

/-- The machine right after reset: every field at its reset value, memories with nothing listed, no command waiting. -/
def State.reset : State := {}

end Sys2Proof.Machine
end

