-- ==== Sys2Proof/Machine/Flags.lean ====
section
/-!
DEFINITION. Every result and flag computation of the Fox instruction set (R137, R143-R149, R182-R184): from operand
values and the flags that stood before the word to a value and the flags after it.
Assumption log: 18.
-/
namespace Sys2Proof.Machine

/-- A result with the flags after the operation. -/
structure Res24 where
  d : W24
  fl : Flags
  deriving DecidableEq, Repr

/-- N and Z of a result. -/
def Flags.nz (f : Flags) (d : W24) : Flags := { f with n := d.getLsbD 23, z := d == 0 }
/-- The FLG register: [4] TF, [3] N, [2] Z, [1] C, [0] V (Table 3-2). -/
def Flags.toW (f : Flags) : W24 :=
  BitVec.ofNat 24 (16 * f.tf.toNat + 8 * f.n.toNat + 4 * f.z.toNat + 2 * f.c.toNat + f.v.toNat)
/-- Flags from the FLG register. -/
def Flags.ofW (x : W24) : Flags :=
  { tf := x.getLsbD 4, n := x.getLsbD 3, z := x.getLsbD 2, c := x.getLsbD 1, v := x.getLsbD 0 }

/-- The long conditions of Table 4-3 (R137). -/
def condHolds (c : Nat) (f : Flags) : Bool :=
  match c % 16 with
  | 0 => true
  | 1 => f.z
  | 2 => !f.z
  | 3 => f.c
  | 4 => !f.c
  | 5 => f.n
  | 6 => !f.n
  | 7 => f.v
  | 8 => !f.v
  | 9 => f.c && !f.z
  | 10 => !f.c || f.z
  | 11 => f.n == f.v
  | 12 => f.n != f.v
  | 13 => !f.z && f.n == f.v
  | 14 => f.z || f.n != f.v
  | _ => f.tf

/-- The short conditions: code 7 is TF (R137). -/
def shortCond (c : Nat) (f : Flags) : Bool := if c % 8 = 7 then f.tf else condHolds (c % 8) f

/-- a + b + cin with N Z C V (R143). -/
def addFl (a b : W24) (cin : Bool) (f : Flags) : Res24 :=
  let r := a.toNat + b.toNat + cin.toNat
  let d := BitVec.ofNat 24 r
  { d := d, fl := { f.nz d with c := decide (2 ^ 24 ≤ r), v := a.getLsbD 23 == b.getLsbD 23 && d.getLsbD 23 != a.getLsbD 23 } }

/-- A bitwise result with N Z. -/
def logFl (d : W24) (f : Flags) : Res24 := { d := d, fl := f.nz d }

/-- The register operations of R143 (and of the immediate forms, R144) that write flags. -/
inductive Alu where
  | add | adc | sub | sbc | and | or | xor | andn | min | max | minu | maxu | cmp | tst | neg | not | abs | clz
  deriving DecidableEq, Repr

/-- Whether the operation writes its destination (CMP and TST do not). -/
def Alu.writes : Alu → Bool
  | .cmp => false
  | .tst => false
  | _ => true

/-- R143. -/
def Alu.run (op : Alu) (a b : W24) (f : Flags) : Res24 :=
  match op with
  | .add => addFl a b false f
  | .adc => addFl a b f.c f
  | .sub => addFl a (~~~b) true f
  | .cmp => addFl a (~~~b) true f
  | .sbc => addFl a (~~~b) f.c f
  | .neg => addFl 0 (~~~a) true f
  | .and => logFl (a &&& b) f
  | .tst => logFl (a &&& b) f
  | .or => logFl (a ||| b) f
  | .xor => logFl (a ^^^ b) f
  | .andn => logFl (a &&& ~~~b) f
  | .not => logFl (~~~a) f
  | .min => logFl (if a.toInt ≤ b.toInt then a else b) f
  | .max => logFl (if a.toInt ≤ b.toInt then b else a) f
  | .minu => logFl (if a.toNat ≤ b.toNat then a else b) f
  | .maxu => logFl (if a.toNat ≤ b.toNat then b else a) f
  | .abs =>
    let d : W24 := if a = 0x800000 then 0x7FFFFF else if a.getLsbD 23 then 0 - a else a
    { d := d, fl := { f.nz d with v := decide (a = 0x800000) } }
  | .clz =>
    let d : W24 := BitVec.ofNat 24 (if a.toNat = 0 then 24 else 23 - Nat.log2 a.toNat)
    { d := d, fl := { f with n := false, z := d == 0 } }

/-- The shifts of R146. -/
inductive Shift where
  | lsl | lsr | asr | ror
  deriving DecidableEq, Repr

/-- R146: count `n` below 32. -/
def Shift.run (op : Shift) (a : W24) (n : Nat) (f : Flags) : Res24 :=
  match op with
  | .lsl =>
    if n = 0 then logFl a f
    else if n ≤ 24 then
      let d : W24 := BitVec.ofNat 24 (a.toNat * 2 ^ n); { d := d, fl := { f.nz d with c := a.getLsbD (24 - n) } }
    else { d := 0, fl := { f.nz 0 with c := false } }
  | .lsr =>
    if n = 0 then logFl a f
    else if n ≤ 24 then
      let d : W24 := BitVec.ofNat 24 (a.toNat / 2 ^ n); { d := d, fl := { f.nz d with c := a.getLsbD (n - 1) } }
    else { d := 0, fl := { f.nz 0 with c := false } }
  | .asr =>
    if n = 0 then logFl a f
    else if n ≤ 23 then
      let d : W24 := BitVec.ofInt 24 (a.toInt / 2 ^ n); { d := d, fl := { f.nz d with c := a.getLsbD (n - 1) } }
    else
      let d : W24 := if a.getLsbD 23 then 0xFFFFFF else 0; { d := d, fl := { f.nz d with c := a.getLsbD 23 } }
  | .ror =>
    let t := n % 24
    if t = 0 then logFl a f
    else
      let d : W24 := BitVec.ofNat 24 (a.toNat / 2 ^ t + a.toNat * 2 ^ (24 - t))
      { d := d, fl := { f.nz d with c := d.getLsbD 23 } }

/-- Multiplications of R148. -/
inductive Mul where
  | mul | mulu | mac | macu | msu | macz
  deriving DecidableEq, Repr

/-- R148 from the accumulator that stands when every earlier multiply has landed: the value of MX:MH:ML. -/
def Mul.run (op : Mul) (a b : W24) (acc : BitVec 72) : BitVec 72 :=
  let sp : BitVec 72 := BitVec.ofInt 72 (a.toInt * b.toInt)
  let up : BitVec 72 := BitVec.ofNat 72 (a.toNat * b.toNat)
  let mx : BitVec 72 := acc &&& (0xFFFFFF <<< 48)
  let lo : BitVec 72 := 0xFFFFFFFFFFFF
  match op with
  | .mul => mx ||| (sp &&& lo)
  | .mulu => mx ||| up
  | .macz => sp
  | .mac => acc + sp
  | .msu => acc - sp
  | .macu => acc + up
/-- Whether the operation writes MX. -/
def Mul.wmx : Mul → Bool
  | .mul => false
  | .mulu => false
  | _ => true
/-- A multiply landing on the accumulator (R107). -/
def MulOp.land (m : MulOp) (acc : BitVec 72) : BitVec 72 :=
  if m.wmx then m.value else (acc &&& (0xFFFFFF <<< 48)) ||| (m.value &&& 0xFFFFFFFFFFFF)

/-- EXA (R149). -/
def exaRun (acc : BitVec 72) (s : Nat) (f : Flags) : Res24 :=
  let t := acc.toInt / 2 ^ s
  let d : W24 := BitVec.ofInt 24 (clampS 24 t)
  { d := d, fl := { f.nz d with v := decide (clampS 24 t ≠ t) } }

/-- SCALE (R184). -/
def scaleRun (d a b : W24) (f : Flags) : Res24 :=
  let q := (a.toInt * b.toInt + 2048) / 4096
  let r := d.toInt + q
  let x : W24 := BitVec.ofInt 24 (clampS 24 r)
  { d := x, fl := { f.nz x with v := decide (clampS 24 r ≠ r) } }

/-! ## Field extract and insert (R182, R183) -/

/-- The specification imm24 of FEXT and FINS. -/
structure FSpec where
  src : Bool
  signed : Bool
  le : Bool
  len : Nat
  bofs : Nat
  deriving DecidableEq, Repr
def FSpec.of (x : Nat) : FSpec :=
  { src := hasBit x 23, signed := hasBit x 22, le := hasBit x 21, len := bitsAt x 16 5, bofs := bitsAt x 0 16 }

/-- Bit at position `q` of a byte string: bit 0 of a byte is its MSB in network order, its LSB in little-endian. -/
def bitPos (le : Bool) (l : List Byte) (q : Nat) : Bool :=
  (l.getD (q / 8) 0).getLsbD (if le then q % 8 else 7 - q % 8)

/-- The unsigned field of `len` bits at position `p` of a byte string. -/
def fieldAt (sp : FSpec) (l : List Byte) (p : Nat) : Nat :=
  if sp.le then (List.range sp.len).foldl (fun v i => v + (bitPos true l (p + i)).toNat * 2 ^ i) 0
  else (List.range sp.len).foldl (fun v i => v * 2 + (bitPos false l (p + i)).toNat) 0

/-- FEXT (R182). -/
def fextRun (sp : FSpec) (l : List Byte) (p : Nat) (f : Flags) : Res24 :=
  let v := fieldAt sp l p
  let d : W24 := if sp.signed && sp.len != 0 then BitVec.ofInt 24 (sgn sp.len v) else BitVec.ofNat 24 v
  { d := d, fl := f.nz d }

/-- A byte string with one bit replaced. -/
def putBit (le : Bool) (l : List Byte) (q : Nat) (b : Bool) : List Byte :=
  let j := if le then q % 8 else 7 - q % 8
  let m : Byte := BitVec.ofNat 8 (2 ^ j)
  l.set (q / 8) (if b then l.getD (q / 8) 0 ||| m else l.getD (q / 8) 0 &&& ~~~m)

/-- FINS into a byte string (R183): bit i of the value goes where FEXT takes bit i from. -/
def finsRun (sp : FSpec) (l : List Byte) (p v : Nat) : List Byte :=
  (List.range sp.len).foldl
    (fun l i => putBit sp.le l (if sp.le then p + i else p + (sp.len - 1 - i)) (hasBit v i)) l

/-- The flags of FINS (R183). -/
def finsFl (sp : FSpec) (w : W24) (f : Flags) : Flags :=
  let fits := if sp.len = 0 then true
    else if sp.signed then decide (-(2 ^ (sp.len - 1) : Int) ≤ w.toInt) && decide (w.toInt ≤ 2 ^ (sp.len - 1) - 1)
    else decide (w.toNat < 2 ^ sp.len)
  { f with z := w.toNat % 2 ^ sp.len == 0, v := !fits }

end Sys2Proof.Machine
end

