-- ==== Sys2Proof/Machine/Ops.lean ====
section
/-!
DEFINITION. The named operations every meaning uses: reading and writing register fields, counters, device time,
events, logs, doorbells, channel faults and the records of the state.
Assumption log: 3, 5, 10, 26, 31, 64, 73, 75, 77, 88.
-/
namespace Sys2Proof.Machine

/-! ## Register fields -/

/-- What a read of the field returns: the pending value of an S field, the value of an L field (R19, R21). -/
def State.get (s : State) (f : Field) (i : Nat := 0) : Nat :=
  SMap.get (f.reset i) (if f.staged then s.pend else s.live) (f.key i)

/-- The value the hardware uses: the active value of an S field, the value of an L field (R16, R17). -/
def State.act (s : State) (f : Field) (i : Nat := 0) : Nat :=
  SMap.get (f.reset i) (if f.staged then s.actv else s.live) (f.key i)

/-- The state with the active values of the edge `e`, in ns since reset (R213, R244, R357). -/
def State.asOf (s : State) (e : Nat) : State :=
  match s.olds.find? (fun x => decide (e < x.1)) with
  | some x => { s with actv := x.2 }
  | none => s

/-- Writing a field: the pending value of an S field (R16), the value of an L field (R21). -/
def State.put (s : State) (f : Field) (i : Nat) (v : Nat) : State :=
  if f.staged then { s with pend := SMap.set (f.reset i) s.pend (f.key i) (v % 2 ^ f.w) }
  else { s with live := SMap.set (f.reset i) s.live (f.key i) (v % 2 ^ f.w) }

/-- Making a value active (an APPLY edge, R17). -/
def State.putAct (s : State) (f : Field) (i : Nat) (v : Nat) : State :=
  { s with actv := SMap.set (f.reset i) s.actv (f.key i) (v % 2 ^ f.w) }

/-- A field as a truth value. -/
def State.on (s : State) (f : Field) (i : Nat := 0) : Bool := s.act f i != 0

/-- Adding to a counter that stops at its largest value. -/
def State.inc (s : State) (f : Field) (i : Nat := 0) (n : Nat := 1) : State := s.put f i (satAdd f.w (s.get f i) n)

/-- Adding to a counter that wraps. -/
def State.incWrap (s : State) (f : Field) (i : Nat := 0) (n : Nat := 1) : State := s.put f i (s.get f i + n)

/-- What a read of a counter returns: its hold during a counter snapshot, else its live value (R272). -/
def State.shown (s : State) (f : Field) (i : Nat := 0) : Nat :=
  if f.counter && s.get F.imgCsnapStatHeld != 0 then SMap.get (f.reset i) s.held (f.key i) else s.get f i
/-- The side effect of a delivered read of an RC field: it is cleared, but for a counter under a snapshot hold (R11, R272). -/
def State.taken (s : State) (f : Field) (i : Nat := 0) : State :=
  if f.counter && s.get F.imgCsnapStatHeld != 0 then s else s.put f i 0

/-- Folding an update over a list. -/
def State.each {α : Type} (s : State) (l : List α) (g : State → α → State) : State := l.foldl g s

/-- An update made only when a condition holds. -/
def State.when (s : State) (b : Bool) (g : State → State) : State := if b then g s else s

/-- The next free value of the device, and the state that has used it. -/
def State.free (s : State) : Nat := (Config.free s.fresh).toNat
def State.tookFree (s : State) : State := { s with fresh := s.fresh + 1 }

/-! ## Time -/

/-- Device time as a timestamp with 0.5 ns resolution (R50). -/
def State.stamp (s : State) : Stamp := { sec := s.time.sec, ns := s.time.ns, half := decide (2 ^ 47 ≤ s.time.frac) }

/-- Device time as one count of ns (R58, TIME source). -/
def DevTime.lin (t : DevTime) : Nat := t.sec * 1000000000 + t.ns

/-- Adding an integer number of ns to device time; seconds wrap at 2^48 (R38). -/
def DevTime.addNs (t : DevTime) (d : Int) : DevTime :=
  let x := ((t.lin : Int) + d) % ((2 ^ 48 * 1000000000 : Nat) : Int)
  { t with sec := x.toNat / 1000000000, ns := x.toNat % 1000000000 }

/-- A timestamp as half-nanosecond count. -/
def Stamp.halves (t : Stamp) : Nat := (t.sec * 1000000000 + t.ns) * 2 + t.half.toNat

/-- A half-nanosecond count as a timestamp. -/
def Stamp.ofHalves (x : Nat) : Stamp :=
  { sec := x / 2 / 1000000000 % 2 ^ 48, ns := x / 2 % 1000000000, half := decide (x % 2 = 1) }

/-- The time ns + half of the last edge and `sub` half nanoseconds later, in half ns since second 0 (R50, R82). -/
def DevTime.halves (t : DevTime) (sub : Nat) : Nat := t.lin * 2 + (t.frac + sub * 2 ^ 47) / 2 ^ 47

/-! ## Timers: durations that the rules give and no register counts (R46, R62, R79 and others) -/

/-- The key of timer `i` of a kind. -/
def tmKey (kind i : Nat) : Nat := kind * 65536 + i
/-- Starting a timer now; one that runs starts again. -/
def State.tmStart (s : State) (k : Nat) : State := { s with timers := SMap.set 0 s.timers k (s.up + 1) }
/-- Stopping a timer. -/
def State.tmStop (s : State) (k : Nat) : State := { s with timers := SMap.set 0 s.timers k 0 }
/-- Whether a timer runs. -/
def State.tmOn (s : State) (k : Nat) : Bool := SMap.get 0 s.timers k != 0
/-- ns since a timer that runs was started. -/
def State.tmAge (s : State) (k : Nat) : Nat := s.up + 1 - SMap.get 0 s.timers k
/-- Whether a timer runs and `ns` have passed since its start. -/
def State.tmPast (s : State) (k ns : Nat) : Bool := s.tmOn k && decide (SMap.get 0 s.timers k + ns ≤ s.up + 1)

/-! ## Records of the state -/

/-- Thread LE x 4 + t. -/
def State.th (s : State) (k : Nat) : Thread := SMap.get ({} : Thread) s.threads k
def State.setTh (s : State) (k : Nat) (t : Thread) : State := { s with threads := SMap.set ({} : Thread) s.threads k t }
def State.updTh (s : State) (k : Nat) (g : Thread → Thread) : State := s.setTh k (g (s.th k))
/-- Logical engine. -/
def State.eng (s : State) (e : Nat) : Engine := SMap.get ({} : Engine) s.engines e
def State.setEng (s : State) (e : Nat) (x : Engine) : State := { s with engines := SMap.set ({} : Engine) s.engines e x }
/-- Frame by handle. -/
def State.frame (s : State) (h : Nat) : Frame := SMap.get ({} : Frame) s.frames h
def State.setFrame (s : State) (h : Nat) (x : Frame) : State := { s with frames := SMap.set ({} : Frame) s.frames h x }
/-- Calendar entry. -/
def State.calE (s : State) (e : Nat) : CalEnt := SMap.get ({} : CalEnt) s.cal e
def State.setCal (s : State) (e : Nat) (x : CalEnt) : State := { s with cal := SMap.set ({} : CalEnt) s.cal e x }
/-- Axis. -/
def State.axis (s : State) (k : Nat) : Axis := SMap.get ({} : Axis) s.axes k
def State.setAxis (s : State) (k : Nat) (x : Axis) : State := { s with axes := SMap.set ({} : Axis) s.axes k x }
/-- Mailbox. -/
def State.mb (s : State) (n : Nat) : Mbx := SMap.get ({} : Mbx) s.mbx n
def State.setMb (s : State) (n : Nat) (x : Mbx) : State := { s with mbx := SMap.set ({} : Mbx) s.mbx n x }
/-- Channel by KIND x 64 + NUMBER (R571; the field instance of EVT_CHSEL). -/
def State.chan (s : State) (k : Nat) : Chan := SMap.get ({} : Chan) s.chans k
def State.setChan (s : State) (k : Nat) (x : Chan) : State := { s with chans := SMap.set ({} : Chan) s.chans k x }

/-! ## Bytes -/

/-- Bytes of Common RAM. -/
def State.cramBytes (s : State) (a n : Nat) : List Byte := SMap.slice 0 s.cram a n
/-- The mark of a memory word that reads as uncorrectable or poisoned: TARGET code of R525, unit, word (R558). -/
def markKey (target unit word : Nat) : Nat := (target * 64 + unit) * 65536 + word
def State.marked (s : State) (target unit word : Nat) : Bool := SMap.get false s.poison (markKey target unit word)
def State.setMark (s : State) (target unit word : Nat) (b : Bool) : State :=
  { s with poison := SMap.set false s.poison (markKey target unit word) b }
/-- Writing Common RAM; a word of 8 bytes that the write covers whole loses its mark (R558). -/
def State.putCram (s : State) (a : Nat) (l : List Byte) : State :=
  { s with cram := SMap.fill 0 s.cram a l,
           poison := s.poison.filter (fun e =>
             !(e.1 / 4194304 == 1 && (let w := e.1 / 65536 % 64 * 65536 + e.1 % 65536 * 8
                                      decide (a ≤ w) && decide (w + 8 ≤ a + l.length)))) }
/-- Bytes of host memory written by the device. -/
def State.putHost (s : State) (a : Nat) (l : List Byte) : State := { s with hostMem := SMap.fill 0 s.hostMem a l }
/-- Bytes of a frame; bytes at or beyond L read as zero (R164). -/
def Frame.bytes (f : Frame) (a n : Nat) : List Byte :=
  (List.range n).map (fun j => if a + j < f.len then SMap.get 0 f.data (a + j) else 0)
/-- All bytes of a frame. -/
def Frame.all (f : Frame) : List Byte := f.bytes 0 f.len
/-- Writing frame bytes; L grows to one past the highest byte written (R164). -/
def Frame.write (f : Frame) (a : Nat) (l : List Byte) : Frame :=
  { f with data := SMap.fill 0 f.data a l, len := if l.isEmpty then f.len else max f.len (a + l.length) }
/-- FSETL: bytes from the new length upward read as zero from then on (R169). -/
def Frame.setLen (f : Frame) (l : Nat) : Frame := { f with len := l, data := SMap.keep (fun a => decide (a < l)) f.data }
/-- A frame made of bytes. -/
def Frame.ofBytes (l : List Byte) : Frame := { data := SMap.fill 0 [] 0 l, len := l.length, origlen := l.length }

/-! ## Doorbells and interrupts (R492, R493) -/

/-- The bits that interrupt: PEND AND MASK. -/
def State.irqBits (s : State) : Nat := Nat.land (s.get F.mbxD2hPend) (s.get F.mbxD2hMask)
/-- The level of INTA or HOST_IRQ_N: asserted while any PEND AND MASK bit is 1 (R493). -/
def State.irqLevel (s : State) : Bool := s.irqBits != 0
/-- A 32-bit word of the MSI-X table (R616): entry `i / 4`; word 3 is the vector control, whose mask bit is 1 at reset: the
state holds its complement. -/
def State.msixWord (s : State) (i : Nat) : Nat := if i % 4 = 3 then 1 - SMap.get 0 s.msix i else SMap.get 0 s.msix i
/-- The message sent for bit `b`: MSI-X entry b, or its pending bit while the entry is masked, MSI vector b mod N; none
under INTA, LBUS and QSPI; in D3hot it waits for the return to D0 (R483, R493, R616). -/
def State.sendIrq (s : State) (b : Nat) : State :=
  if s.get F.mbxHostifSel != 0 then s
  else if s.d3hot then { s with d3pend := setBit s.d3pend b }
  else match s.irqMode with
    | 1 => { s with irqSent := b % 2 ^ s.msiLog :: s.irqSent }
    | 2 => if hasBit (s.msixWord (4 * b + 3)) 0 then { s with pba := setBit s.pba b } else { s with irqSent := b :: s.irqSent }
    | _ => s
/-- The pending-bit array (R616): masked entries whose bit still interrupts. -/
def State.pbaWord (s : State) : Nat := Nat.land s.pba s.irqBits
/-- A write of a word of the MSI-X table (R616): an entry that is unmasked sends the message that was pending. -/
def State.msixWr (s : State) (i v : Nat) : State :=
  let t := { s with msix := SMap.set 0 s.msix i (if i % 4 = 3 then 1 - v % 2 else v) }
  if i % 4 = 3 ∧ v % 2 = 0 then
    let t := { t with pba := clrBit s.pba (i / 4) }
    if hasBit s.pbaWord (i / 4) then t.sendIrq (i / 4) else t
  else t
/-- Messages for the bits of PEND AND MASK that rose from `old`. -/
def State.irqEdge (s : State) (old : Nat) : State :=
  s.each ((bitsOf s.irqBits 32).filter (fun b => !hasBit old b)) State.sendIrq
/-- Setting a device-to-host doorbell bit; a bit already set stays set (R190, R492). -/
def State.doorbell (s : State) (b : Nat) : State :=
  (s.put F.mbxD2hPend 0 (setBit (s.get F.mbxD2hPend) (b % 32))).irqEdge s.irqBits

/-! ## Logs and events -/

/-- A posted-write error record (R499, R500): counted always, discarded and counted in PWE_OVF when the log is full. -/
def State.logPweTag (s : State) (r : PweRec) : State :=
  let s := s.incWrap F.mbxPweTotal
  if s.pwe.length < 64 then { s with pwe := s.pwe ++ [{ r with ns := s.time.ns }] }.doorbell 25
  else s.inc F.mbxPweOvf
/-- A host write that failed: cause, target address, space and width, with the tag MBX_WTAG (R499). -/
def State.logPwe (s : State) (cause target space width : Nat) : State :=
  s.logPweTag { tag := s.get F.mbxWtag, cause := cause, target := target, space := space, width := width }

/-- Raising an event (R581, R582): into the input queue, or discarded and counted in IN_LOST when it is full. -/
def State.raise (s : State) (cause subj : Nat) (partner detail : Nat := 0) : State :=
  if s.evq.length < 1024 then
    let e : Event := { cause := cause, subj := subj, partner := partner, detail := detail, ns := s.time.ns, sec := s.time.sec,
                       at_ := s.up }
    State.inc { s with evq := s.evq ++ [e] } F.evtCEvents
  else s.inc F.evtCInLost

/-- A host write of a BAR0 register: discarded and logged with cause DOMAIN_OFF when its block's domain is off (R35);
nothing in OFF, where no requester runs (R505). -/
def State.hostWr (s : State) (on : Bool) (off : Nat) (g : State → State) : State :=
  if s.off then s else if on then g s else s.logPwe 1 off 0 4

/-- A refusal of a Common RAM access (R562): log of 16 records, counted in REFUSED. -/
def State.logRefuse (s : State) (wr : Bool) (req addr : Nat) : State :=
  let s := s.inc F.memCRefused
  if s.refLog.length < 16 then
    { s with refLog := s.refLog ++ [{ wr := wr, req := req, bank := addr / 65536, ofs := addr % 65536 }] }
  else s

/-! ## Channel faults (R571-R574) -/

/-- Whether a channel is retired (EVT_RETk). -/
def State.retired (s : State) (kind n : Nat) : Bool :=
  if n < 32 then hasBit (s.get F.evtRetLo kind) n else hasBit (s.get F.evtRetHi kind) (n - 32)
/-- Marking a channel retired or in service. -/
def State.setRetired (s : State) (kind n : Nat) (b : Bool) : State :=
  let s := s.put F.evtChstatRetired (kind * 64 + n) b.toNat
  if n < 32 then s.put F.evtRetLo kind (if b then setBit (s.get F.evtRetLo kind) n else clrBit (s.get F.evtRetLo kind) n)
  else s.put F.evtRetHi kind (if b then setBit (s.get F.evtRetHi kind) (n - 32) else clrBit (s.get F.evtRetHi kind) (n - 32))

/-- A health record decided now (R579, R580). -/
def State.addHealth (s : State) (kind ck n cause count : Nat) (detail : Nat := 0) : State :=
  { s with health := s.health ++ [{ kind := kind, chKind := ck, number := n, cause := cause, count := count,
                                    detail := detail, sec := s.time.sec, ns := s.time.ns }] }

/-- A permanent fault (R574): CH_PERMANENT; with AUTO the retirement is decided, else a PERMANENT record is written and
the fault window restarts. -/
def State.permanent (s : State) (kind n cause : Nat) (detail : Nat := 0) : State :=
  let k := kind * 64 + n
  let cnt := (s.chan k).times.length
  let s := (s.raise 0x59 (kind * 256 + n)).put F.evtChstatPermSeen k 1
  let s := s.put F.evtChstatCause k cause
  if s.on F.evtThrAuto kind then
    (s.addHealth 1 kind n cause cnt detail).setChan k { s.chan k with retire := some cause }
  else (s.addHealth 3 kind n cause cnt detail).setChan k { s.chan k with times := [] }

/-- A transient fault of a channel: it counts and raises CH_FAULT (R572), and starts nothing further on a channel whose
retirement is decided (R573, R576). -/
def State.chFault (s : State) (kind n : Nat) : State :=
  let k := kind * 64 + n
  let s := (s.inc F.evtChfaults k).raise 0x58 (kind * 256 + n)
  if s.retired kind n || (s.chan k).retire.isSome then s
  else
    let win := s.act F.evtThrWindowMs kind * 1000000
    let ts := ((s.chan k).times.filter (fun t => decide (s.up < t + win))) ++ [s.up]
    let s := s.setChan k { s.chan k with times := ts }
    if s.act F.evtThrCount kind ≤ ts.length then s.permanent kind n 1 else s

/-- A hard signature of a channel (R573). -/
def State.hard (s : State) (kind n cause : Nat) (detail : Nat := 0) : State :=
  if s.retired kind n || (s.chan (kind * 64 + n)).retire.isSome then s else s.permanent kind n cause detail

/-- An uncorrectable error of a memory word that is not poisoned (R559, R571): UE log, MEM_UE, the channel's fault, and
the hard signature at the second one at the same word. `ck` is the channel kind and number where the unit is a channel. -/
def State.memUe (s : State) (target unit word : Nat) (ch : Option (Nat × Nat)) : State :=
  let s := s.inc F.memCUeTotal
  let s := if s.ueLog.length < 16 then { s with ueLog := s.ueLog ++ [{ target := target, unit := unit, word := word }] }
           else s
  let s := s.raise 0x44 (target * 64 + unit)
  match ch with
  | none => s
  | some (kind, n) =>
    let k := kind * 64 + n
    let s := s.chFault kind n
    if (s.chan k).ueWords.contains word then s.hard kind n 3 ((target * 2 ^ 24) + unit * 65536 + word)
    else s.setChan k { s.chan k with ueWords := word :: (s.chan k).ueWords }

/-! ## Thread events -/

/-- Whether a thread is started (R93, R123). -/
def Thread.started (t : Thread) : Bool := t.st != .idle
/-- Setting an event bit of a started thread (Table 3-7). -/
def State.setEvp (s : State) (k b : Nat) : State :=
  if (s.th k).started then s.updTh k (fun t => { t with evp := t.evp ||| BitVec.ofNat 24 (2 ^ b) }) else s
/-- A wake overrun (R118, R120). -/
def State.wakeOvr (s : State) (k : Nat) : State := (s.inc F.foxTWakeOvr k).raise 0x03 k
/-- Whether a logical engine is carried (FOX_MAPn.VALID). -/
def State.carried (s : State) (le : Nat) : Bool := s.get F.foxMapValid le != 0
/-- The timers of the scrubber: the pass under way, and a pass that is late (R560). -/
def tmScrub : Nat := tmKey 34 0
def tmScrubLate : Nat := tmKey 35 0
/-- The timer of a migration, from step 1 of Table 3-8. -/
def tmMig (le : Nat) : Nat := tmKey 5 le
/-- Whether a migrating engine is in its freeze: from step 6 of Table 3-8, 17.360 us after the decision (R127). -/
def State.freezing (s : State) (le : Nat) : Bool := s.get F.foxStatusState le == 4 && s.tmPast (tmMig le) 17360
/-- A phase wake taking effect (R76, R118, R123): in EVP bit 0; an overrun when it is already set or the thread is not
started. -/
def State.wakeNow (s : State) (k : Nat) : State :=
  if !(s.th k).started || (s.th k).evp.getLsbD 0 then s.wakeOvr k else s.setEvp k 0
/-- A signal taking effect (R119, R123, R189): discarded and counted for a thread that is not started and for an engine that
is not carried. -/
def State.signalNow (s : State) (k g : Nat) : State :=
  if !s.carried (k / 4) || !(s.th k).started || (s.th k).evp.getLsbD (8 + g) then s.inc F.foxTSigOvr k else s.setEvp k (8 + g)
/-- A wake or a signal that comes during the freeze of its engine is held (R76, R119, R128). -/
def State.holdEv (s : State) (k : Nat) (g : Option Nat) : State :=
  s.setEng (k / 4) { s.eng (k / 4) with held := (s.eng (k / 4)).held ++ [(k, g)] }
/-- A phase wake arrives (R76). -/
def State.wake (s : State) (k : Nat) : State := if s.freezing (k / 4) then s.holdEv k none else s.wakeNow k
/-- A signal arrives (R119). -/
def State.signal (s : State) (k g : Nat) : State := if s.freezing (k / 4) then s.holdEv k (some g) else s.signalNow k g
/-- What a freeze held is delivered in the order in which it came (R128). -/
def State.deliverHeld (s : State) (le : Nat) : State :=
  let l := (s.eng le).held
  State.each (s.setEng le { s.eng le with held := [] }) l (fun s e =>
    match e.2 with
    | none => s.wakeNow e.1
    | some g => s.signalNow e.1 g)
/-- The physical engine that carries a logical engine. -/
def State.phys (s : State) (le : Nat) : Nat := s.get F.foxMapPhys le
/-- The logical engine a physical engine carries. -/
def State.leOf (s : State) (p : Nat) : Option Nat := (List.range 16).find? (fun e => s.carried e && s.phys e == p)

/-! ## Power domains (R34, R35) -/

/-- The power domains in the order of PWR_STATE.DOMAINS_ON bit (Table 1-5). -/
inductive Dom where
  | aon | core | foxa | foxb | phyg | phyt | ring | host | shrew | den
  deriving DecidableEq, Repr
def Dom.bit : Dom → Nat
  | .aon => 0 | .core => 1 | .foxa => 2 | .foxb => 3 | .phyg => 4 | .phyt => 5 | .ring => 6 | .host => 7 | .shrew => 8
  | .den => 9
/-- A physical engine's power domain. -/
def foxDom (p : Nat) : Dom := if p < 9 then .foxa else .foxb
/-- Whether a domain is on. -/
def State.domOn (s : State) (d : Dom) : Bool := hasBit (s.get F.pwrStateDomainsOn) d.bit
/-- Den is available: its domain is on and its self-test has not failed (DEN_STATUS). -/
def State.denOk (s : State) : Bool := s.domOn .den && s.get F.denStatusSelftestFail == 0

/-- The card is isolated: ring transmitters idle, port transmitters off, GP and TRIG pins at high impedance (R606). -/
def State.iso (s : State) : Bool := s.get F.pwrInsIso != 0

end Sys2Proof.Machine
end

