-- ==== Sys2Proof/Machine/Operands.lean ====
section
/-!
DEFINITION. The operand forms of the Fox instruction set: fields and reserved bits of long words (Table 4-1) and of
short slots (Table 4-2), register pairs, access widths (Tables 4-5 and 5-2) and special registers (Table 3-2).
Assumption log: 18, 19.
-/
namespace Sys2Proof.Machine

/-! ## Long operand fields, bits [35:0] (R135) -/

abbrev Opnd := BitVec 36
def Opnd.d (o : Opnd) : Fin 16 := ⟨o.toNat / 2 ^ 32 % 16, Nat.mod_lt _ (by decide)⟩
def Opnd.a (o : Opnd) : Fin 16 := ⟨o.toNat / 2 ^ 28 % 16, Nat.mod_lt _ (by decide)⟩
def Opnd.b (o : Opnd) : Fin 16 := ⟨o.toNat / 2 ^ 24 % 16, Nat.mod_lt _ (by decide)⟩
def Opnd.imm (o : Opnd) : Nat := o.toNat % 2 ^ 24
/-- Format checks: the fields Table 4-1 shows as zero are zero. -/
def Opnd.isLN (o : Opnd) : Bool := o == 0
def Opnd.isLR (o : Opnd) : Bool := o.imm == 0
def Opnd.isLI (o : Opnd) : Bool := o.b == 0
def Opnd.isLH (o : Opnd) : Bool := o.b == 0 && decide (o.imm < 32)
def Opnd.isLA (o : Opnd) : Bool := o.a == 0 && o.b == 0 && decide (o.imm < 64)
def Opnd.isLX (o : Opnd) : Bool := o.d == 0 && o.imm == 0
def Opnd.isLM (o : Opnd) : Bool := o.b == 0
def Opnd.isLP (o : Opnd) : Bool := o.a == 0 && o.imm == 0
def Opnd.isLQ (o : Opnd) : Bool := o.d == 0 && o.a == 0 && o.imm == 0
def Opnd.isLT (o : Opnd) : Bool := o.d == 0 && o.a == 0 && o.b == 0 && decide (o.imm < 16384)
def Opnd.isLJ (o : Opnd) : Bool := o.d == 0 && o.b == 0 && o.imm == 0
def Opnd.isLC (o : Opnd) : Bool := o.d == 0 && o.a == 0 && o.b == 0

/-- Whether a register number may name a pair W(2k) (R161, R151). -/
def evenReg (r : Fin 16) : Bool := r.val % 2 == 0

/-! ## Registers of a thread -/

/-- Wr. -/
def Thread.reg (t : Thread) (r : Fin 16) : W24 := t.w[r]
def Thread.setReg (t : Thread) (r : Fin 16) (v : W24) : Thread := { t with w := t.w.set r v }
/-- The register after an even one: the upper half of the pair. -/
def upper (r : Fin 16) : Fin 16 := ⟨(r.val + 1) % 16, Nat.mod_lt _ (by decide)⟩
/-- The 48-bit value of the pair W(2k+1):W(2k). -/
def Thread.pair (t : Thread) (r : Fin 16) : Nat := (t.reg r).toNat + 2 ^ 24 * (t.reg (upper r)).toNat
def Thread.setPair (t : Thread) (r : Fin 16) (v : Nat) : Thread :=
  (t.setReg r (BitVec.ofNat 24 v)).setReg (upper r) (BitVec.ofNat 24 (v / 2 ^ 24))
/-- A 32-bit value in a pair: [23:0] and [31:24] (Table 4-5). -/
def Thread.setPair32 (t : Thread) (r : Fin 16) (v : Nat) : Thread :=
  (t.setReg r (BitVec.ofNat 24 v)).setReg (upper r) (BitVec.ofNat 24 (v / 2 ^ 24 % 256))
/-- The 32-bit value stored from a pair: W(2k)[23:0] and W(2k+1)[7:0]. -/
def Thread.pair32 (t : Thread) (r : Fin 16) : Nat := (t.reg r).toNat + 2 ^ 24 * ((t.reg (upper r)).toNat % 256)

/-! ## Access widths (Tables 4-5, 5-2) -/

/-- Bytes of a width code. -/
def widthBytes (w : Nat) : Nat :=
  match w with
  | 0 => 1 | 1 => 1 | 2 => 2 | 3 => 2 | 4 => 3 | 5 => 4 | 6 => 2 | 7 => 2 | 8 => 3 | 9 => 4 | _ => 0
/-- Whether the width uses a register pair. -/
def widthPair (w : Nat) : Bool := w == 5 || w == 9
/-- Whether the width takes the first byte as most significant. -/
def widthNet (w : Nat) : Bool := decide (6 ≤ w)
/-- Alignment of a global access (R98, Table 4-5). -/
def widthAlign (w : Nat) : Nat :=
  match w with
  | 2 => 2 | 3 => 2 | 5 => 4 | _ => 1
/-- The value of loaded bytes in a width, sign-extended to 24 bits where the width says so. -/
def widthValue (w : Nat) (l : List Byte) : Nat :=
  let v := if widthNet w then beBytes l else leBytes l
  match w with
  | 1 => wrapI 24 (sgn 8 v)
  | 3 => wrapI 24 (sgn 16 v)
  | 7 => wrapI 24 (sgn 16 v)
  | _ => v
/-- Writing a loaded value to its destination. -/
def Thread.setWidth (t : Thread) (w : Nat) (d : Fin 16) (v : Nat) : Thread :=
  if widthPair w then t.setPair32 d v else t.setReg d (BitVec.ofNat 24 v)
/-- The value a store takes from its source register. -/
def Thread.srcWidth (t : Thread) (w : Nat) (r : Fin 16) : Nat := if widthPair w then t.pair32 r else (t.reg r).toNat
/-- The bytes a store writes, in address order. -/
def widthStore (w v : Nat) : List Byte := if widthNet w then toBe v (widthBytes w) else toLe v (widthBytes w)

/-! ## The multiplier's registers (R107) -/

/-- The accumulator once every multiply in flight has landed. -/
def Thread.accAfter (t : Thread) : BitVec 72 := t.muls.foldl (fun acc m => m.land acc) t.acc
/-- Every multiply in flight lands (R109). -/
def Thread.landAll (t : Thread) : Thread := { t with acc := t.accAfter, muls := [] }
/-- One FCLK cycle passes for the multiplier. -/
def Thread.mulTick (t : Thread) : Thread :=
  { t with acc := (t.muls.filter (fun m => decide (m.left ≤ 1))).foldl (fun acc m => m.land acc) t.acc,
           muls := (t.muls.filter (fun m => decide (1 < m.left))).map (fun m => { m with left := m.left - 1 }) }
/-- Part `i` of MX:MH:ML, 24 bits each. -/
def Thread.accPart (t : Thread) (i : Nat) : W24 := BitVec.ofNat 24 (t.acc.toNat / 2 ^ (24 * i))
/-- A MOVS write of part `i`. -/
def Thread.setAccPart (t : Thread) (i : Nat) (v : W24) : Thread :=
  { t with acc := BitVec.ofNat 72 (t.acc.toNat - t.acc.toNat / 2 ^ (24 * i) % 2 ^ 24 * 2 ^ (24 * i) + v.toNat * 2 ^ (24 * i)) }

/-! ## Special registers (Table 3-2, R154) -/

/-- MOVS w, sp. WDK reads the remaining time in whole us, a started one not counted, and TRAPC keeps the 24 bits written, both of
which the spec leaves open (R154; DESIGN CHOICE, log 19). -/
def Thread.spRead (t : Thread) (k : Nat) (sp : Fin 16) : W24 :=
  match sp.val with
  | 0 => t.fl.toW
  | 1 => t.lc
  | 2 => t.lk.setWidth 24
  | 3 => t.pc.setWidth 24
  | 4 => t.evm
  | 5 => t.evp
  | 6 => t.accPart 0
  | 7 => t.accPart 1
  | 8 => t.accPart 2
  | 9 => BitVec.ofNat 24 k
  | 10 => t.trapc
  | 11 => t.trappc.setWidth 24
  | 12 => t.traprc
  | 13 => BitVec.ofNat 24 (t.wdk / 1000)
  | 14 => t.fh
  | _ => t.trapfl.toW

/-- MOVS sp, w, but for WDK, whose restart is the machine's (R115). -/
def Thread.spWrite (t : Thread) (sp : Fin 16) (v : W24) : Thread :=
  match sp.val with
  | 0 => { t with fl := Flags.ofW v }
  | 1 => { t with lc := v }
  | 2 => { t with lk := v.setWidth 14 }
  | 4 => { t with evm := v }
  | 5 => { t with evp := t.evp &&& ~~~v }
  | 6 => t.setAccPart 0 v
  | 7 => t.setAccPart 1 v
  | 8 => t.setAccPart 2 v
  | 10 => { t with trapc := v }
  | 11 => { t with trappc := v.setWidth 14 }
  | 12 => { t with traprc := v }
  | 14 => { t with fh := v }
  | 15 => { t with trapfl := Flags.ofW v }
  | _ => t

end Sys2Proof.Machine
end

