-- ==== Sys2Proof/Machine/Time.lean ====
section
/-!
DEFINITION. Device time, the phase axes, capture pins, the mains PLLs and the quiet windows (02_phase_and_time.md), and
the meanings of their commands.
Assumption log: 10, 32, 33, 34, 35, 88.
-/
namespace Sys2Proof.Machine

/-- The outcome every meaning has: a next state. -/
abbrev Out := Host.Outcome State Fault Refusal

/-! ## Timestamps (R49, R50) -/

/-- The rate code of a ring lane in use: 0 10.3125, 1 5.15625, 2 2.578125 Gbaud. -/
def State.laneRate (s : State) (l : Nat) : Nat := s.get F.ringLRate l

/-- RX and TX latency of a port in its mode, in half nanoseconds (Table 2-2). -/
def State.phyLat (s : State) (p : Nat) : Nat × Nat :=
  if p < 8 then
    match s.get F.ethStatusSpeed p with
    | 2 => (424, 256)
    | 1 => (508, 184)
    | _ => (2960, 1120)
  else if p < 12 then (4520, 1880)
  else match s.laneRate (p - 12) with
    | 0 => (123, 88)
    | 1 => (236, 169)
    | _ => (462, 330)
/-- A half-nanosecond count moved by a signed amount; below time 0 it wraps with the seconds field (R38). -/
def shiftHalves (x : Nat) (d : Int) : Stamp := Stamp.ofHalves ((((x : Int) + d) % (2 ^ 49 * 1000000000 : Nat)).toNat)
/-- The receive timestamp of a frame with MAC time `mac` (R49). -/
def State.rxStamp (s : State) (p mac : Nat) : Stamp :=
  shiftHalves mac (-((s.phyLat p).1 : Int) - sgn 16 (s.act F.timeTsTrimRxTrim p))
/-- The transmit timestamp (R49). -/
def State.txStamp (s : State) (p mac : Nat) : Stamp :=
  shiftHalves mac (((s.phyLat p).2 : Int) + sgn 16 (s.act F.timeTsTrimTxTrim p))

/-! ## Axes -/

/-- The modulus of an axis (R57). -/
def State.axMod (s : State) (k : Nat) : Nat :=
  if s.on F.phsPxCfgModulo k then s.act F.phsPxModLo k + 2 ^ 32 * s.act F.phsPxModHi k else 2 ^ 48

/-- The value of an axis: from device time for a TIME source, else the value it holds (R58). -/
def State.axVal (s : State) (k : Nat) : Nat :=
  if s.act F.phsPxCfgSrc k = 1 then s.time.lin % s.axMod k else (s.axis k).val

/-- How far an entry's axis is past its p in its direction: d of R64. -/
def State.calD (s : State) (e : Nat) : Nat :=
  let k := s.act F.phsCalCtrlAxis e
  let m := s.axMod k
  let x := s.axVal k % m
  let p := (s.calE e).p % m
  if s.on F.phsCalCtrlDir e then (p + m - x) % m else (x + m - p) % m

/-- Whether an armed entry is due (R64). -/
def State.calDue (s : State) (e : Nat) : Bool :=
  (s.calE e).armed && decide (2 * s.calD e < s.axMod (s.act F.phsCalCtrlAxis e))

/-- The entries of the calendar that the model lists, and which of them are armed on axis `k`. -/
def State.armedOn (s : State) (k : Nat) : List Nat :=
  (s.cal.map (·.1)).filter (fun e => (s.calE e).armed && s.act F.phsCalCtrlAxis e == k)

/-- The entries on axis `k` that are due now and were not due in `old` are late (R66). -/
def State.lateSince (s old : State) (k : Nat) : State :=
  s.each (s.armedOn k) (fun s e =>
    let c := s.calE e
    s.setCal e { c with late := s.calDue e && (c.late || !old.calDue e) })

/-- The axis `k` has changed from what `old` holds by other than continuous counting (R60): JUMP and REVERSE where its
value changed; the entries that became due by it are late (R66), also by a change of its modulus alone. -/
def State.jumped (s old : State) (k : Nat) (dec : Bool) : State :=
  (if s.axVal k = old.axVal k then s
    else (s.put F.phsPxStatJump k 1).put F.phsPxStatReverse k dec.toNat).lateSince old k

/-- The axes whose active source is `src`. -/
def State.axesOf (s : State) (src : Nat) : List Nat := (List.range 4).filter (fun k => s.act F.phsPxCfgSrc k == src)

/-- A continuous step of an axis by a signed number of counts (R57, R60). -/
def State.count (s : State) (k : Nat) (n : Int) : State :=
  if n = 0 then s
  else
    let m := s.axMod k
    let a := s.axis k
    (s.setAxis k { a with val := (((a.val : Int) + n) % (m : Int)).toNat }).put F.phsPxStatReverse k (decide (n < 0)).toNat

/-- STAT.RUN of an axis (R652). -/
def State.axRun (s : State) (k : Nat) : Bool :=
  match s.act F.phsPxCfgSrc k with
  | 1 | 4 | 5 => true
  | 2 => s.get F.phsMStatState 0 != 0 && s.get F.phsMStatStopped 0 == 0
  | 3 => s.get F.phsMStatState 1 != 0 && s.get F.phsMStatStopped 1 == 0
  | _ => false

/-! ## Device time -/

/-- STATE of TIME_STATUS (R41). -/
def State.timeState (s : State) : Nat :=
  if s.get F.timeStatusValid = 0 then 0
  else if s.act F.timeCtrlSrc ≠ 0 ∧ s.srcLock = 1 then 2
  else if s.act F.timeCtrlSrc ≠ 0 ∧ s.srcLock = 2 then 3
  else 1

/-- TIME_SLEW_REM: whole ns still to absorb, away from zero, so that it is 0 only when nothing remains (R45). -/
def State.slewRem (s : State) : Int := if s.slew < 0 then -((-s.slew + 2 ^ 48 - 1) / 2 ^ 48) else (s.slew + 2 ^ 48 - 1) / 2 ^ 48

/-- Device time changed by other than counting: every TIME axis has jumped (R60). -/
def State.setTime (s : State) (t : DevTime) (dec : State → State → Nat → Bool) : State :=
  let s' := { s with time := t }
  s'.each (s'.axesOf 1) (fun x k => x.jumped s k (dec s x k))

/-- A saturated rate correction: range -2^30 to 2^30 (TIME_RATE). -/
def satRate (v : Nat) : Nat :=
  let r := sgn 32 v
  wrapI 32 (if r > 1073741824 then 1073741824 else if r < -1073741824 then -1073741824 else r)

/-- Whether software steers the time base (R42, R43). -/
def State.soft (s : State) : Bool := s.act F.timeCtrlSrc == 0

/-- The effect of a software steering write, or SOFT_IGNORED (R43). -/
def State.steer (s : State) (g : State → State) : State := if s.soft then g s else s.put F.timeStatusSoftIgnored 0 1

/-- LATCH (R40). -/
def State.latch (s : State) : State :=
  let s := s.put F.timeLatFrac 0 (s.time.frac / 2 ^ 32)
  let s := s.put F.timeLatNs 0 s.time.ns
  let s := s.put F.timeLatSecLo 0 s.time.sec
  let s := s.put F.timeLatSecHi 0 (s.time.sec / 2 ^ 32)
  s.each (List.range 4) (fun s k => (s.put F.phsPxLatLo k (s.axVal k)).put F.phsPxLatHi k (s.axVal k / 2 ^ 32))

/-- A write of TIME_STEP_NS (R44). -/
def State.timeStep (s : State) (v : Nat) : State :=
  s.steer (fun s => s.setTime (s.time.addNs (sgn 32 v)) (fun _ _ _ => decide (sgn 32 v < 0)))

/-- A write of TIME_SET_NS (R41, R44). -/
def State.timeSet (s : State) (v : Nat) : State :=
  s.steer (fun s =>
    let ns := v % 2 ^ 30
    if 999999999 < ns then s.put F.timeStatusSetBad 0 1
    else
      let s := (s.put F.timeSetNs 0 ns).put F.timeStatusValid 0 1
      s.setTime { sec := s.get F.timeSetSecLo + 2 ^ 32 * s.get F.timeSetSecHi, ns := ns, frac := 0 }
        (fun old new k => decide (new.axVal k < old.axVal k)))

/-- A write of TIME_SLEW_NS (R45). -/
def State.timeSlew (s : State) (v : Nat) : State := s.steer (fun s => { s with slew := sgn 32 v * 2 ^ 48 })

/-- A write of TIME_RATE (R43, saturating). -/
def State.timeRate (s : State) (v : Nat) : State := s.steer (fun s => s.put F.timeRate 0 (satRate v))

/-- A LATCH write of 1. -/
def execLatch (s : State) : Out := .next (s.hostWr true 0x02000 State.latch)
def execTimeStep (v : W32) (s : State) : Out := .next (s.hostWr true 0x02028 (·.timeStep v.toNat))
def execTimeSet (v : W32) (s : State) : Out := .next (s.hostWr true 0x0201C (·.timeSet v.toNat))
def execTimeSlew (v : W32) (s : State) : Out := .next (s.hostWr true 0x0202C (·.timeSlew v.toNat))

/-- What one TCLK edge can absorb of a slew, in 2^-48 ns: RATE_PPM of 4 ns; larger values act as 500 (R45, R84). -/
def State.slewMost (s : State) : Nat := min 500 (s.get F.timeSlewCfgRatePpm) * 2 ^ 50 / 1000000
/-- The slew reaches zero (R45): on the edge that absorbs the rest of it, when one edge absorbs as much. -/
def execSlewDone (s : State) : Out :=
  .next (if s.off || s.slew == 0 || decide (s.slewMost < s.slew.natAbs) then s
    else
      let x := (s.time.frac : Int) + s.slew
      let t := s.time.addNs (x / 2 ^ 48)
      let s := { s with time := { t with frac := (x % 2 ^ 48).toNat }, slew := 0 }
      s.each (s.axesOf 1) (fun s k => s.put F.phsPxStatReverse k 0))

/-- The signed distance of device time, `sub` half ns after a TCLK edge, from the nearest whole second, in 2^-48 ns
(R46). -/
def DevTime.ppsErr (t : DevTime) (sub : Nat) : Int :=
  let x : Nat := t.ns * 2 ^ 48 + t.frac + sub * 2 ^ 47
  if x < 500000000 * 2 ^ 48 then (x : Int) else (x : Int) - (1000000000 * 2 ^ 48 : Nat)

/-- Whether the PPS servo steers the time base: SRC = PPS, or the first node of a ring with FIRST_REF = 1 (R46, R304). -/
def State.ppsSteers (s : State) : Bool :=
  s.act F.timeCtrlSrc == 2 || (s.act F.timeCtrlSrc == 1 && s.on F.ringCfgFirstRef && s.get F.ringStatusState == 6)

/-- The rate in use changes (R43); a FIRST node shows it in RING_RATE too (R304, R327). -/
def State.steerRate (s : State) (v : Nat) : State :=
  let s := s.put F.timeRate 0 (satRate v)
  if s.act F.timeCtrlSrc = 1 then s.put F.ringRate 0 (satRate v) else s
/-- The source of the time base has locked (R41, R47). -/
def State.srcLocked (s : State) : State := State.put { s with srcLock := 1 } F.timeStatusValid 0 1
/-- The locked source of the time base is lost (R47). -/
def State.srcLost (s : State) : State :=
  if s.srcLock = 1 then State.put { s with srcLock := 2 } F.timeStatusSrcLost 0 1 else s

/-- The timer of the last PPS_IN edge. -/
def tmPps : Nat := tmKey 1 0
/-- A PPS_IN edge under SRC = PPS (R46, R41), `sub` half ns after the last TCLK edge: the error in whole ns towards zero
(DESIGN CHOICE, log 32), the rate the servo sets with its time constant, lock after 8 edges within 100 ns. -/
def execPpsInEdge (fall : Bool) (sub : Fin 8) (s : State) : Out :=
  .next (if s.off || !s.ppsSteers || fall != s.on F.timeCtrlPpsInEdge then s
    else
      let err := s.time.ppsErr sub
      let good := if err.natAbs < 100 * 2 ^ 48 then s.ppsGood + 1 else 0
      let rate := Config.ppsServo (s.act F.timePpsCfgInTc) (sgn 32 (s.get F.timeRate)) err
      let s := (s.put F.timePpsErr 0 (wrapI 32 (err.tdiv (2 ^ 48)))).steerRate rate.toNat
      let s := State.tmStart { s with ppsGood := good } tmPps
      if 8 ≤ good then s.srcLocked else s)

/-- No PPS_IN edge for 1.5 s (R46, R47). -/
def execPpsHoldover (s : State) : Out :=
  .next (if s.ppsSteers && s.tmPast tmPps 1500000000 then State.srcLost { s with ppsGood := 0 } else s)

/-- The timer of the PPS_OUT pulse. -/
def tmPpsOut : Nat := tmKey 2 0
/-- PPS_OUT rises, when enabled and its width is not 0, as the nanoseconds field wraps to 0: less than one TCLK edge and
its correction ago (R48). -/
def execPpsOutStart (s : State) : Out :=
  .next (if s.on F.timeCtrlPpsOutEn && s.act F.timePpsCfgOutWidthMs != 0 && !s.off && decide (s.time.ns < 5) then
      State.tmStart { s with ppsOut := true } tmPpsOut
    else s)
/-- PPS_OUT falls after its width; widths above 999 ms act as 999 (R48). -/
def execPpsOutEnd (s : State) : Out :=
  .next (if s.tmPast tmPpsOut (min 999 (s.act F.timePpsCfgOutWidthMs) * 1000000) then
      State.tmStop { s with ppsOut := false } tmPpsOut
    else s)

/-! ## Capture pins (R82, R83) -/

/-- Whether an edge selection (0 off, 1 rise, 2 fall, 3 both) takes an edge. -/
def edgeSel (sel : Nat) (fall : Bool) : Bool := if fall then hasBit sel 1 else hasBit sel 0

/-- The records CAPTn holds. -/
def State.captQ (s : State) (n : Nat) : List CaptRec := SMap.get [] s.capt n

/-- The value of an axis `sub` half ns after a TCLK edge: a TIME axis is interpolated (R58, R82). -/
def State.axAt (s : State) (k sub : Nat) : Nat :=
  if s.act F.phsPxCfgSrc k = 1 then s.time.halves sub / 2 % s.axMod k else s.axVal k
/-- An edge on CAPTn (R58, R82). -/
def execCaptEdge (n : Fin 8) (e : PinEdge) (s : State) : Out :=
  .next (if !s.domOn .shrew then s
    else
      let s := if edgeSel (s.act F.timeCapCfgEdge n) e.fall then
          if (s.captQ n).length < 16 then
            let t := Stamp.ofHalves (s.time.halves e.sub)
            let r : CaptRec := { ns := t.ns, half := t.half, sec8 := t.sec % 256, fall := e.fall,
                                 ax := s.axAt (s.act F.timeCapCfgAxis n) e.sub }
            { s with capt := SMap.set [] s.capt n (s.captQ n ++ [r]) }
          else s.put F.timeCapStatOvf n 1
        else s
      s.each ((s.axesOf 5).filter (fun k => s.act F.phsPxCfgSel k == n.val &&
          (match s.act F.phsPxCfgCaptEdge k with | 0 => !e.fall | 1 => e.fall | _ => true)))
        (fun s k => s.count k 1))

/-- A delivered read of TIME_CAPn_POP (R83). -/
def State.captPop (s : State) (n : Nat) : State :=
  match s.captQ n with
  | [] => { s with rdata := [0] }
  | r :: q =>
    let s := { s with capt := SMap.set [] s.capt n q, rdata := [2 ^ 31 + r.half.toNat * 2 ^ 30 + r.ns] }
    let s := (s.put F.timeCapSecEdge n r.fall.toNat).put F.timeCapSecSec n r.sec8
    (s.put F.timeCapAxLo n r.ax).put F.timeCapAxHi n (r.ax / 2 ^ 32)
def execCaptPop (n : Fin 8) (s : State) : Out := .next (if s.domOn .shrew then s.captPop n else { s with rdata := [0] })

/-! ## Software-set axes, mains PLLs -/

/-- A write of PHS_PXk SET_LO (R58, R60): loads a SOFT axis, is ignored on others. -/
def State.softSet (s : State) (k v : Nat) : State :=
  if s.act F.phsPxCfgSrc k = 6 then
    let s := s.put F.phsPxSetLo k v
    let x := (s.get F.phsPxSetLo k + 2 ^ 32 * s.get F.phsPxSetHi k) % s.axMod k
    (s.setAxis k { s.axis k with val := x }).jumped s k (decide (x < s.axVal k))
  else s
def execAxisSoftSet (k : Fin 4) (v : W32) (s : State) : Out :=
  .next (s.hostWr (s.domOn .core) (0x02414 + 0x40 * k) (·.softSet k v.toNat))

/-- The hidden state of a mains PLL. -/
def State.pll (s : State) (m : Nat) : Pll := SMap.get {} s.plls m
def State.setPll (s : State) (m : Nat) (x : Pll) : State := { s with plls := SMap.set {} s.plls m x }
/-- One mains cycle in the unit of the phases of a PLL. -/
def pllTurn : Nat := 2 ^ 24 * 10 ^ 12
/-- The signed distance from phase `a` to phase `b`, at most half a cycle. -/
def pllDiff (a b : Nat) : Int :=
  let d := (b + pllTurn - a % pllTurn) % pllTurn
  if d < pllTurn / 2 then (d : Int) else (d : Int) - pllTurn
/-- The timer of a mains PLL: the last crossing, or the entry to HOLDOVER. -/
def tmMains (m : Nat) : Nat := tmKey 3 m
/-- One expected cycle in ns at the frequency in use. -/
def State.mainsCycle (s : State) (m : Nat) : Nat := 10 ^ 12 / s.get F.phsMFreq m

/-- The phase of the crossings at a TCLK edge, `sub` half ns ahead of a crossing: phase 0 lies at the crossing plus OFS (R61). -/
def State.mainsRef (s : State) (m sub : Nat) : Nat :=
  ((-(sgn 24 (s.act F.phsMOfs m)) * 10 ^ 12 - s.get F.phsMFreq m * sub * 2 ^ 23) % (pllTurn : Int)).toNat

/-- A crossing at MAINS_INm, `ns` and a `half` ns after the last TCLK edge (R61, R63): the frequency measured since the last
one, the phase error of the PLL against the crossing plus OFS; 8 consecutive cycles below 2^14 counts lock it, and a re-lock after a holdover is a jump of its axes
(R60). -/
def execMainsCrossing (m : Fin 2) (ns : Fin 4) (half : Bool) (s : State) : Out :=
  .next (if !s.on F.phsMCfgEn m || !s.domOn .shrew then s
    else
      let l := s.pll m
      let sub := 2 * ns.val + half.toNat
      let now := 2 * s.up + sub
      let ref := s.mainsRef m sub
      let freq := match l.lastAt with
        | none => 0
        | some t => 2 * 10 ^ 12 / (now - t)
      let inBand := decide (40000 ≤ freq) && decide (freq ≤ 70000)
      let ok := decide ((pllDiff l.ang ref).natAbs < 2 ^ 14 * 10 ^ 12) && inBand
      let st := s.get F.phsMStatState m
      let good := if st = 3 then ok.toNat else if ok then l.good + 1 else 0
      let l := { l with ref := ref, lastAt := some now }
      let again := st == 3 || l.again
      let s := if inBand then s.put F.phsMFreq m freq else s
      let s := (s.put F.phsMStatStopped m 0).tmStart (tmMains m)
      let s := if st ≠ 2 then s.put F.phsMStatState m 1 else s
      if st ≠ 2 && decide (8 ≤ good) then
        let t := (s.put F.phsMStatState m 2).setPll m { l with good := 8, again := false }
        if again then
          t.each (t.axesOf (2 + m.val)) (fun t k => ((t.put F.phsPxStatJump k 1).put F.phsPxStatReverse k 0).lateSince s k)
        else t
      else s.setPll m { l with good := good, again := again })

/-- No crossing for 2 expected cycles (R62); HOLD_S = 0 stops the axis at once. -/
def execMainsHoldover (m : Fin 2) (s : State) : Out :=
  .next (if (s.get F.phsMStatState m == 1 || s.get F.phsMStatState m == 2) && s.tmPast (tmMains m) (2 * s.mainsCycle m) then
      let s := ((s.put F.phsMStatState m 3).put F.phsMStatLost m 1).setPll m
        { s.pll m with good := 0, again := true, lastAt := none }
      let s := s.tmStart (tmMains m)
      if s.act F.phsMCfgHoldS m = 0 then s.put F.phsMStatStopped m 1 else s
    else s)
/-- HOLD_S seconds in HOLDOVER (R62). -/
def execMainsStop (m : Fin 2) (s : State) : Out :=
  .next (if s.get F.phsMStatState m == 3 && s.tmPast (tmMains m) (s.act F.phsMCfgHoldS m * 1000000000) then
      s.put F.phsMStatStopped m 1
    else s)

/-! ## Calendar firing on and off, quiet windows -/

/-- A write of PHS_CTRL.RUN (R73): entries that became due while it was 0 are late. -/
def State.runSet (s : State) (v : Bool) : State :=
  let was := s.get F.phsCtrlRun != 0
  let s := s.put F.phsCtrlRun 0 v.toNat
  if v && !was then
    s.each (s.cal.map (·.1)) (fun s e => if s.calDue e then s.setCal e { s.calE e with late := true } else s)
  else s
def execPhsRunSet (v : Bool) (s : State) : Out := .next (s.hostWr (s.domOn .core) 0x02800 (·.runSet v))

/-- The bits of the steps that a loop class allows once per opening (Table 19-5): AVS by domain, DFS, placement. -/
def loopSteps (c : Nat) : Nat :=
  match c with
  | 0 => 1023 | 1 => 1024 | 2 => 2048 | 7 => 4096 | _ => 0
/-- The timer of the quiet window of a class. -/
def tmQw (c : Nat) : Nat := tmKey 4 c
/-- Opening the quiet windows of a mask: not those with PHS_QW_MAXc = 0 (R79). -/
def State.qwStart (s : State) (mask : Nat) : State :=
  let new := (bitsOf mask 8).filter (fun c => s.act F.phsQwMax c != 0 && !hasBit (s.get F.phsQwState) c)
  let m := new.foldl (fun m c => andnN m (loopSteps c)) s.stepMask
  let s := State.put { s with stepMask := m } F.phsQwState 0 (new.foldl setBit (s.get F.phsQwState))
  s.each new (fun s c => s.tmStart (tmQw c))
/-- Closing the quiet windows of a mask (R79). -/
def State.qwEnd (s : State) (mask : Nat) : State :=
  s.put F.phsQwState 0 ((bitsOf mask 8).foldl clrBit (s.get F.phsQwState))
/-- Whether the window of a loop class is open (R78). -/
def State.window (s : State) (c : Nat) : Bool := hasBit (s.get F.phsQwState) c
/-- A window has been open for PHS_QW_MAXc; larger values act as 1,000,000 us (R79). -/
def execQwTimeout (c : Fin 8) (s : State) : Out :=
  .next (if s.window c && s.tmPast (tmQw c) (min 1000000 (s.act F.phsQwMax c) * 1000) then
      (s.qwEnd (2 ^ c.val)).put F.phsQwTimeout 0 (setBit (s.get F.phsQwTimeout) c)
    else s)

end Sys2Proof.Machine
end

