-- ==== Sys2Proof/Machine/Fox.lean ====
section
/-!
DEFINITION. Fox threads: issue, traps, waits, repeats, the multiplier's landing and the core instructions
(03_fox_programming_model.md, 04_fox_instructions_core.md). An instruction row names the thread, the condition code and
the 36 operand bits of its long word; the short forms run through PAIRED_WORD.
Assumption log: 4, 16, 17, 18, 19, 54.
-/
namespace Sys2Proof.Machine

/-! ## Issue order (R89, R90) -/

/-- The thread LE x 4 + t of gateway thread `j`. -/
def State.gwThread (s : State) (j : Nat) : Nat := 4 * s.act F.gwThrLe j + s.act F.gwThrT j
/-- Whether a thread is a designated gateway thread. It runs only the executor (R427), whose words the spec does not give: the
rows of the gateway are its passes, and it issues no word of its own (log 54). -/
def State.isGw (s : State) (k : Nat) : Bool :=
  (List.range 8).any (fun j => s.on F.gwThrEn j && s.gwThread j == k)
/-- Whether thread `t` of logical engine `le` can issue (R89): ready, and not frozen for migration. -/
def State.ready (s : State) (le t : Nat) : Bool := (s.th (4 * le + t)).st == .ready && !s.freezing le && !s.isGw (4 * le + t)

/-- The thread that issues next: the first ready one after the last, cyclically (R90). -/
def State.pick (s : State) (le : Nat) : Option Nat :=
  ((List.range 4).map (fun j => ((s.eng le).last.val + 1 + j) % 4)).find? (fun t => s.ready le t)

/-- Whether the engine runs words: RUNNING, also while it migrates, and carried (R123, R127). -/
def State.runs (s : State) (le : Nat) : Bool :=
  s.carried le && (s.get F.foxStatusState le == 2 || (s.get F.foxStatusState le == 4 && (s.eng le).was == 2))

/-- Whether thread `k` issues the next word of its engine. -/
def State.canIssue (s : State) (k : Fin 64) : Bool := s.runs (k.val / 4) && s.pick (k.val / 4) == some (k.val % 4)

/-- One FCLK cycle of a logical engine: FOX_CYCLES and the multiplies in flight of its threads (R107). -/
def State.fclk (s : State) (le : Nat) : State :=
  (s.incWrap F.foxCycles le).each (List.range 4) (fun s t => s.updTh (4 * le + t) Thread.mulTick)

/-! ## Traps (R112-R115) -/

/-- Taking a trap of cause `c` (R112-R114): multiplies in flight land, PC, FLG and the repeat counter are saved, TM is
set and the thread goes on at the vector; a trap while TM = 1 halts the thread and raises FOX_HALT. -/
def State.trap (s : State) (k c : Nat) : State :=
  let t := (s.th k).landAll
  if t.tm then (s.setTh k { t with st := .halted, blk := .none, wdPend := false }).raise 0x01 k
  else
    let s := s.setTh k { t with trapc := BitVec.ofNat 24 c, trappc := t.pc, traprc := t.rpt, trapfl := t.fl, tm := true,
                                pc := BitVec.ofNat 14 c, rpt := 0, st := .ready, blk := .none, wdPend := false }
    ((s.put F.foxTTrapCause k c).put F.foxTTrapPc k t.pc.toNat).inc F.foxTTrapCnt k

/-- A blocked thread goes on: ready again, or it takes the WATCHDOG that waited for its access (R115). Its multiplies have
landed meanwhile (R107). -/
def State.unblock (s : State) (k : Nat) : State :=
  let t := (s.th k).landAll
  let s := s.setTh k { t with st := .ready, blk := .none }
  if t.wdPend then s.trap k 6 else s

/-- A blocked access ends in a trap: its word has not committed (R113). A WATCHDOG that waited for the access is taken after
it, in trap mode, and halts the thread (R114, R115). -/
def State.unblockTrap (s : State) (k c : Nat) : State :=
  let s' := (s.updTh k (fun t => { t with pc := t.blkPc, rpt := t.blkRpt, defer := none })).trap k c
  if (s.th k).wdPend && (s'.th k).st != .halted then s'.trap k 6 else s'

/-! ## Words -/

/-- What an operation does: it raises a trap, or it commits and changes the state, whose PC and repeat counter have
already moved on. -/
inductive FRes where
  | trap (c : Nat)
  | go (f : State → State)

/-- The PC and the repeat counter after a committed word (R111): an iteration counts down, the last one moves on. -/
def Thread.next (t : Thread) : Thread :=
  if t.rpt.toNat ≤ 1 then { t with pc := t.pc + 1, rpt := 0 } else { t with rpt := t.rpt - 1 }

/-- The thread that issues next has issued (R90): it is the engine's last, and T_ISSUED counts. -/
def State.issued (s : State) (k : Fin 64) : State :=
  (s.setEng (k.val / 4) { s.eng (k.val / 4) with last := ⟨k.val % 4, Nat.mod_lt _ (by decide)⟩ }).incWrap F.foxTIssued k
/-- Issuing a word of thread `k` (R90, R138-R141): ECC_UE on the fetched word, ILLEGAL for a reserved encoding or a word
that may not be repeated (Table 3-5), then the condition, then the operation. A thread that does not issue next is not
changed. -/
def State.issue (s : State) (k : Fin 64) (legal repOk : Bool) (cond : Thread → Bool) (run : Thread → State → FRes) : State :=
  if !s.canIssue k then s
  else
    let le := k.val / 4
    let t := s.th k
    let s := s.issued k
    let s :=
      if s.marked 4 (s.phys le) t.pc.toNat then s.trap k 4
      else if !legal || (t.rpt != 0 && !repOk) then s.trap k 1
      else if !cond t then s.updTh k Thread.next
      else match run t s with
        | .trap c => s.trap k c
        | .go f => f (s.updTh k Thread.next)
    s.fclk le

/-- A long word (R135, R137). -/
def State.long (s : State) (k : Fin 64) (c : Fin 16) (legal : Bool) (run : Thread → State → FRes) (repOk : Bool := true) : State :=
  s.issue k legal repOk (fun t => condHolds c t.fl) run

/-! ## Operations shared by long words and short slots; `fl` says whether N, Z, C, V are written (R104) -/

/-- A flag operation (R143, R144). -/
def aluOp (k : Nat) (op : Alu) (d : Fin 16) (a b : W24) (fl : Bool) (t : Thread) : FRes :=
  let r := op.run a b t.fl
  .go (fun s => s.updTh k (fun u =>
    let u := if op.writes then u.setReg d r.d else u
    if fl then { u with fl := r.fl } else u))

/-- A shift (R146). -/
def shiftOp (k : Nat) (op : Shift) (d : Fin 16) (a : W24) (n : Nat) (fl : Bool) (t : Thread) : FRes :=
  let r := op.run a n t.fl
  .go (fun s => s.updTh k (fun u => let u := u.setReg d r.d; if fl then { u with fl := r.fl } else u))

/-- A plain write of a register. -/
def movOp (k : Nat) (d : Fin 16) (v : W24) : FRes := .go (fun s => s.updTh k (fun u => u.setReg d v))

/-- BTST (R147): TF, and in a long word or slot A also Z. -/
def btstOp (k : Nat) (a : W24) (n : Nat) (fl : Bool) : FRes :=
  .go (fun s => s.updTh k (fun u =>
    { u with fl := { u.fl with tf := a.getLsbD n, z := if fl then !a.getLsbD n else u.fl.z } }))

/-- A multiply (R107, R148): it lands at the end of cycle c + 2. -/
def mulOp (k : Nat) (op : Mul) (a b : W24) (t : Thread) : FRes :=
  .go (fun s => s.updTh k (fun u =>
    { u with muls := u.muls ++ [{ left := 3, wmx := op.wmx, value := op.run a b t.accAfter }] }))

/-- SCALE (R184). -/
def scaleOp (k : Nat) (d : Fin 16) (dv a b : W24) (fl : Bool) (t : Thread) : FRes :=
  let r := scaleRun dv a b t.fl
  .go (fun s => s.updTh k (fun u => let u := u.setReg d r.d; if fl then { u with fl := r.fl } else u))

/-- DM word of a logical engine. -/
def State.dmGet (s : State) (le a : Nat) : W24 := SMap.get 0 s.dm (le * 32768 + a)
def State.dmSet (s : State) (le a : Nat) (v : W24) : State :=
  { s with dm := SMap.set 0 s.dm (le * 32768 + a) v }.setMark 4 (s.phys le) (16384 + a) false

/-- LD and LDI: `inc` is the increment of the base of LDI (R150, R98, R99). -/
def ldOp (k : Nat) (d : Fin 16) (ea : Nat) (inc : Option (Fin 16 × W24)) (s0 : State) : FRes :=
  if 32768 ≤ ea then .trap 3
  else if s0.marked 4 (s0.phys (k / 4)) (16384 + ea) then .trap 4
  else .go (fun s => s.updTh k (fun u =>
    let u := u.setReg d (s0.dmGet (k / 4) ea)
    match inc with
    | some (a, v) => u.setReg a v
    | none => u))

/-- ST and STI (R150). -/
def stOp (k : Nat) (v : W24) (ea : Nat) (inc : Option (Fin 16 × W24)) : FRes :=
  if 32768 ≤ ea then .trap 3
  else .go (fun s =>
    let s := s.dmSet (k / 4) ea v
    match inc with
    | some (a, x) => s.updTh k (fun u => u.setReg a x)
    | none => s)

/-- The watchdog of a thread restarts from INTERVAL_US (R115). -/
def State.wdRestart (s : State) (k : Nat) : State :=
  let n := s.act F.foxTWdgIntervalUs k * 1000
  s.updTh k (fun u => { u with wdk := if s.on F.foxTWdgEn k then n else u.wdk })

/-- MOVS sp, w (R154): Table 3-2; a write of WDK restarts the watchdog and is reported to Owl for a safety thread (R116). -/
def spWriteOp (k : Nat) (sp : Fin 16) (v : W24) : FRes :=
  if sp.val = 13 then
    .go (fun s =>
      let s := s.wdRestart k
      if s.get F.foxTTcfgSafety k ≠ 0 then { s with owlRep := s.owlRep ++ [{ k := k, value := some v }] } else s)
  else .go (fun s => s.updTh k (fun u => u.spWrite sp v))

/-! ## Core instructions, long forms (Table 4-4) -/

/-- NOP. -/
def execFxNop (k : Fin 64) (c : Fin 16) (o : Opnd) (s : State) : Out :=
  .next (s.long k c o.isLN (fun _ _ => .go id))
/-- ADD d, a, b (R143). -/
def execFxAdd (k : Fin 64) (c : Fin 16) (o : Opnd) (s : State) : Out :=
  .next (s.long k c o.isLR (fun t _ => aluOp k .add o.d (t.reg o.a) (t.reg o.b) true t))
/-- ADC d, a, b (R143). -/
def execFxAdc (k : Fin 64) (c : Fin 16) (o : Opnd) (s : State) : Out :=
  .next (s.long k c o.isLR (fun t _ => aluOp k .adc o.d (t.reg o.a) (t.reg o.b) true t))
/-- SUB d, a, b (R143). -/
def execFxSub (k : Fin 64) (c : Fin 16) (o : Opnd) (s : State) : Out :=
  .next (s.long k c o.isLR (fun t _ => aluOp k .sub o.d (t.reg o.a) (t.reg o.b) true t))
/-- SBC d, a, b (R143). -/
def execFxSbc (k : Fin 64) (c : Fin 16) (o : Opnd) (s : State) : Out :=
  .next (s.long k c o.isLR (fun t _ => aluOp k .sbc o.d (t.reg o.a) (t.reg o.b) true t))
/-- AND d, a, b (R143). -/
def execFxAnd (k : Fin 64) (c : Fin 16) (o : Opnd) (s : State) : Out :=
  .next (s.long k c o.isLR (fun t _ => aluOp k .and o.d (t.reg o.a) (t.reg o.b) true t))
/-- OR d, a, b (R143). -/
def execFxOr (k : Fin 64) (c : Fin 16) (o : Opnd) (s : State) : Out :=
  .next (s.long k c o.isLR (fun t _ => aluOp k .or o.d (t.reg o.a) (t.reg o.b) true t))
/-- XOR d, a, b (R143). -/
def execFxXor (k : Fin 64) (c : Fin 16) (o : Opnd) (s : State) : Out :=
  .next (s.long k c o.isLR (fun t _ => aluOp k .xor o.d (t.reg o.a) (t.reg o.b) true t))
/-- ANDN d, a, b (R143). -/
def execFxAndn (k : Fin 64) (c : Fin 16) (o : Opnd) (s : State) : Out :=
  .next (s.long k c o.isLR (fun t _ => aluOp k .andn o.d (t.reg o.a) (t.reg o.b) true t))
/-- MIN d, a, b (R143). -/
def execFxMin (k : Fin 64) (c : Fin 16) (o : Opnd) (s : State) : Out :=
  .next (s.long k c o.isLR (fun t _ => aluOp k .min o.d (t.reg o.a) (t.reg o.b) true t))
/-- MAX d, a, b (R143). -/
def execFxMax (k : Fin 64) (c : Fin 16) (o : Opnd) (s : State) : Out :=
  .next (s.long k c o.isLR (fun t _ => aluOp k .max o.d (t.reg o.a) (t.reg o.b) true t))
/-- MINU d, a, b (R143). -/
def execFxMinu (k : Fin 64) (c : Fin 16) (o : Opnd) (s : State) : Out :=
  .next (s.long k c o.isLR (fun t _ => aluOp k .minu o.d (t.reg o.a) (t.reg o.b) true t))
/-- MAXU d, a, b (R143). -/
def execFxMaxu (k : Fin 64) (c : Fin 16) (o : Opnd) (s : State) : Out :=
  .next (s.long k c o.isLR (fun t _ => aluOp k .maxu o.d (t.reg o.a) (t.reg o.b) true t))
/-- CMP a, b (R143), d = 0. -/
def execFxCmp (k : Fin 64) (c : Fin 16) (o : Opnd) (s : State) : Out :=
  .next (s.long k c (o.isLR && o.d == 0) (fun t _ => aluOp k .cmp o.d (t.reg o.a) (t.reg o.b) true t))
/-- TST a, b (R143), d = 0. -/
def execFxTst (k : Fin 64) (c : Fin 16) (o : Opnd) (s : State) : Out :=
  .next (s.long k c (o.isLR && o.d == 0) (fun t _ => aluOp k .tst o.d (t.reg o.a) (t.reg o.b) true t))
/-- MOV d, a (R143), b = 0. -/
def execFxMov (k : Fin 64) (c : Fin 16) (o : Opnd) (s : State) : Out :=
  .next (s.long k c (o.isLR && o.b == 0) (fun t _ => movOp k o.d (t.reg o.a)))
/-- ADDI d, a, #imm24 (R144). -/
def execFxAddi (k : Fin 64) (c : Fin 16) (o : Opnd) (s : State) : Out :=
  .next (s.long k c o.isLI (fun t _ => aluOp k .add o.d (t.reg o.a) (BitVec.ofNat 24 o.imm) true t))
/-- ADCI d, a, #imm24 (R144). -/
def execFxAdci (k : Fin 64) (c : Fin 16) (o : Opnd) (s : State) : Out :=
  .next (s.long k c o.isLI (fun t _ => aluOp k .adc o.d (t.reg o.a) (BitVec.ofNat 24 o.imm) true t))
/-- SUBI d, a, #imm24 (R144). -/
def execFxSubi (k : Fin 64) (c : Fin 16) (o : Opnd) (s : State) : Out :=
  .next (s.long k c o.isLI (fun t _ => aluOp k .sub o.d (t.reg o.a) (BitVec.ofNat 24 o.imm) true t))
/-- SBCI d, a, #imm24 (R144). -/
def execFxSbci (k : Fin 64) (c : Fin 16) (o : Opnd) (s : State) : Out :=
  .next (s.long k c o.isLI (fun t _ => aluOp k .sbc o.d (t.reg o.a) (BitVec.ofNat 24 o.imm) true t))
/-- ANDI d, a, #imm24 (R144). -/
def execFxAndi (k : Fin 64) (c : Fin 16) (o : Opnd) (s : State) : Out :=
  .next (s.long k c o.isLI (fun t _ => aluOp k .and o.d (t.reg o.a) (BitVec.ofNat 24 o.imm) true t))
/-- ORI d, a, #imm24 (R144). -/
def execFxOri (k : Fin 64) (c : Fin 16) (o : Opnd) (s : State) : Out :=
  .next (s.long k c o.isLI (fun t _ => aluOp k .or o.d (t.reg o.a) (BitVec.ofNat 24 o.imm) true t))
/-- XORI d, a, #imm24 (R144). -/
def execFxXori (k : Fin 64) (c : Fin 16) (o : Opnd) (s : State) : Out :=
  .next (s.long k c o.isLI (fun t _ => aluOp k .xor o.d (t.reg o.a) (BitVec.ofNat 24 o.imm) true t))
/-- ANDNI d, a, #imm24 (R144). -/
def execFxAndni (k : Fin 64) (c : Fin 16) (o : Opnd) (s : State) : Out :=
  .next (s.long k c o.isLI (fun t _ => aluOp k .andn o.d (t.reg o.a) (BitVec.ofNat 24 o.imm) true t))
/-- MINI d, a, #imm24 (R144). -/
def execFxMini (k : Fin 64) (c : Fin 16) (o : Opnd) (s : State) : Out :=
  .next (s.long k c o.isLI (fun t _ => aluOp k .min o.d (t.reg o.a) (BitVec.ofNat 24 o.imm) true t))
/-- MAXI d, a, #imm24 (R144). -/
def execFxMaxi (k : Fin 64) (c : Fin 16) (o : Opnd) (s : State) : Out :=
  .next (s.long k c o.isLI (fun t _ => aluOp k .max o.d (t.reg o.a) (BitVec.ofNat 24 o.imm) true t))
/-- MINUI d, a, #imm24 (R144). -/
def execFxMinui (k : Fin 64) (c : Fin 16) (o : Opnd) (s : State) : Out :=
  .next (s.long k c o.isLI (fun t _ => aluOp k .minu o.d (t.reg o.a) (BitVec.ofNat 24 o.imm) true t))
/-- MAXUI d, a, #imm24 (R144). -/
def execFxMaxui (k : Fin 64) (c : Fin 16) (o : Opnd) (s : State) : Out :=
  .next (s.long k c o.isLI (fun t _ => aluOp k .maxu o.d (t.reg o.a) (BitVec.ofNat 24 o.imm) true t))
/-- CMPI a, #imm24 (R144), d = 0. -/
def execFxCmpi (k : Fin 64) (c : Fin 16) (o : Opnd) (s : State) : Out :=
  .next (s.long k c (o.isLI && o.d == 0) (fun t _ => aluOp k .cmp o.d (t.reg o.a) (BitVec.ofNat 24 o.imm) true t))
/-- TSTI a, #imm24 (R144), d = 0. -/
def execFxTsti (k : Fin 64) (c : Fin 16) (o : Opnd) (s : State) : Out :=
  .next (s.long k c (o.isLI && o.d == 0) (fun t _ => aluOp k .tst o.d (t.reg o.a) (BitVec.ofNat 24 o.imm) true t))
/-- MOVI d, #imm24 (R144), a = 0. -/
def execFxMovi (k : Fin 64) (c : Fin 16) (o : Opnd) (s : State) : Out :=
  .next (s.long k c (o.isLI && o.a == 0) (fun _ _ => movOp k o.d (BitVec.ofNat 24 o.imm)))
/-- LSL d, a, b: count from Wb[4:0] (R146). -/
def execFxLsl (k : Fin 64) (c : Fin 16) (o : Opnd) (s : State) : Out :=
  .next (s.long k c o.isLR (fun t _ => shiftOp k .lsl o.d (t.reg o.a) ((t.reg o.b).toNat % 32) true t))
/-- LSLI d, a, #n: n = 24-31 is ILLEGAL (R146). -/
def execFxLsli (k : Fin 64) (c : Fin 16) (o : Opnd) (s : State) : Out :=
  .next (s.long k c (o.isLH && decide (o.imm < 24)) (fun t _ => shiftOp k .lsl o.d (t.reg o.a) o.imm true t))
/-- LSR d, a, b: count from Wb[4:0] (R146). -/
def execFxLsr (k : Fin 64) (c : Fin 16) (o : Opnd) (s : State) : Out :=
  .next (s.long k c o.isLR (fun t _ => shiftOp k .lsr o.d (t.reg o.a) ((t.reg o.b).toNat % 32) true t))
/-- LSRI d, a, #n: n = 24-31 is ILLEGAL (R146). -/
def execFxLsri (k : Fin 64) (c : Fin 16) (o : Opnd) (s : State) : Out :=
  .next (s.long k c (o.isLH && decide (o.imm < 24)) (fun t _ => shiftOp k .lsr o.d (t.reg o.a) o.imm true t))
/-- ASR d, a, b: count from Wb[4:0] (R146). -/
def execFxAsr (k : Fin 64) (c : Fin 16) (o : Opnd) (s : State) : Out :=
  .next (s.long k c o.isLR (fun t _ => shiftOp k .asr o.d (t.reg o.a) ((t.reg o.b).toNat % 32) true t))
/-- ASRI d, a, #n: n = 24-31 is ILLEGAL (R146). -/
def execFxAsri (k : Fin 64) (c : Fin 16) (o : Opnd) (s : State) : Out :=
  .next (s.long k c (o.isLH && decide (o.imm < 24)) (fun t _ => shiftOp k .asr o.d (t.reg o.a) o.imm true t))
/-- ROR d, a, b: count from Wb[4:0] (R146). -/
def execFxRor (k : Fin 64) (c : Fin 16) (o : Opnd) (s : State) : Out :=
  .next (s.long k c o.isLR (fun t _ => shiftOp k .ror o.d (t.reg o.a) ((t.reg o.b).toNat % 32) true t))
/-- RORI d, a, #n: n = 24-31 is ILLEGAL (R146). -/
def execFxRori (k : Fin 64) (c : Fin 16) (o : Opnd) (s : State) : Out :=
  .next (s.long k c (o.isLH && decide (o.imm < 24)) (fun t _ => shiftOp k .ror o.d (t.reg o.a) o.imm true t))
/-- NEG d, a (R143), b = 0. -/
def execFxNeg (k : Fin 64) (c : Fin 16) (o : Opnd) (s : State) : Out :=
  .next (s.long k c (o.isLR && o.b == 0) (fun t _ => aluOp k .neg o.d (t.reg o.a) 0 true t))
/-- NOT d, a (R143), b = 0. -/
def execFxNot (k : Fin 64) (c : Fin 16) (o : Opnd) (s : State) : Out :=
  .next (s.long k c (o.isLR && o.b == 0) (fun t _ => aluOp k .not o.d (t.reg o.a) 0 true t))
/-- ABS d, a (R143), b = 0. -/
def execFxAbs (k : Fin 64) (c : Fin 16) (o : Opnd) (s : State) : Out :=
  .next (s.long k c (o.isLR && o.b == 0) (fun t _ => aluOp k .abs o.d (t.reg o.a) 0 true t))
/-- CLZ d, a (R143), b = 0. -/
def execFxClz (k : Fin 64) (c : Fin 16) (o : Opnd) (s : State) : Out :=
  .next (s.long k c (o.isLR && o.b == 0) (fun t _ => aluOp k .clz o.d (t.reg o.a) 0 true t))
/-- BSET d, a, #n (R147). -/
def execFxBset (k : Fin 64) (c : Fin 16) (o : Opnd) (s : State) : Out :=
  .next (s.long k c (o.isLH && decide (o.imm < 24)) (fun t _ => movOp k o.d (t.reg o.a ||| BitVec.ofNat 24 (2 ^ o.imm))))
/-- BCLR d, a, #n (R147). -/
def execFxBclr (k : Fin 64) (c : Fin 16) (o : Opnd) (s : State) : Out :=
  .next (s.long k c (o.isLH && decide (o.imm < 24)) (fun t _ => movOp k o.d (t.reg o.a &&& ~~~(BitVec.ofNat 24 (2 ^ o.imm)))))
/-- BTST a, #n (R147), d = 0. -/
def execFxBtst (k : Fin 64) (c : Fin 16) (o : Opnd) (s : State) : Out :=
  .next (s.long k c (o.isLH && o.d == 0 && decide (o.imm < 24)) (fun t _ => btstOp k (t.reg o.a) o.imm true))
/-- TFC #cc (R147). -/
def execFxTfc (k : Fin 64) (c : Fin 16) (o : Opnd) (s : State) : Out :=
  .next (s.long k c o.isLQ (fun t _ => .go (fun s => s.updTh k (fun u => { u with fl := { u.fl with tf := condHolds o.b t.fl } }))))
/-- MUL a, b (R148). -/
def execFxMul (k : Fin 64) (c : Fin 16) (o : Opnd) (s : State) : Out :=
  .next (s.long k c o.isLX (fun t _ => mulOp k .mul (t.reg o.a) (t.reg o.b) t))
/-- MULU a, b (R148). -/
def execFxMulu (k : Fin 64) (c : Fin 16) (o : Opnd) (s : State) : Out :=
  .next (s.long k c o.isLX (fun t _ => mulOp k .mulu (t.reg o.a) (t.reg o.b) t))
/-- MAC a, b (R148). -/
def execFxMac (k : Fin 64) (c : Fin 16) (o : Opnd) (s : State) : Out :=
  .next (s.long k c o.isLX (fun t _ => mulOp k .mac (t.reg o.a) (t.reg o.b) t))
/-- MACU a, b (R148). -/
def execFxMacu (k : Fin 64) (c : Fin 16) (o : Opnd) (s : State) : Out :=
  .next (s.long k c o.isLX (fun t _ => mulOp k .macu (t.reg o.a) (t.reg o.b) t))
/-- MSU a, b (R148). -/
def execFxMsu (k : Fin 64) (c : Fin 16) (o : Opnd) (s : State) : Out :=
  .next (s.long k c o.isLX (fun t _ => mulOp k .msu (t.reg o.a) (t.reg o.b) t))
/-- MACZ a, b (R148). -/
def execFxMacz (k : Fin 64) (c : Fin 16) (o : Opnd) (s : State) : Out :=
  .next (s.long k c o.isLX (fun t _ => mulOp k .macz (t.reg o.a) (t.reg o.b) t))
/-- EXA d, #s: s = 48-63 is ILLEGAL (R149). -/
def execFxExa (k : Fin 64) (c : Fin 16) (o : Opnd) (s : State) : Out :=
  .next (s.long k c (o.isLA && decide (o.imm < 48)) (fun t _ =>
    let r := exaRun t.acc o.imm t.fl
    .go (fun s => s.updTh k (fun u => { u.setReg o.d r.d with fl := r.fl }))))
/-- LD d, [a + off] (R150). -/
def execFxLd (k : Fin 64) (c : Fin 16) (o : Opnd) (s : State) : Out :=
  .next (s.long k c o.isLM (fun t s => ldOp k o.d (((t.reg o.a).toNat + o.imm) % 2 ^ 24) none s))
/-- ST s, [a + off] (R150). -/
def execFxSt (k : Fin 64) (c : Fin 16) (o : Opnd) (s : State) : Out :=
  .next (s.long k c o.isLM (fun t _ => stOp k (t.reg o.d) (((t.reg o.a).toNat + o.imm) % 2 ^ 24) none))
/-- LDI d, [a] + inc: d = a is ILLEGAL (R150). -/
def execFxLdi (k : Fin 64) (c : Fin 16) (o : Opnd) (s : State) : Out :=
  .next (s.long k c (o.isLM && o.d != o.a) (fun t s =>
    ldOp k o.d (t.reg o.a).toNat (some (o.a, t.reg o.a + BitVec.ofNat 24 o.imm)) s))
/-- STI s, [a] + inc (R150). -/
def execFxSti (k : Fin 64) (c : Fin 16) (o : Opnd) (s : State) : Out :=
  .next (s.long k c o.isLM (fun t _ =>
    stOp k (t.reg o.d) (t.reg o.a).toNat (some (o.a, t.reg o.a + BitVec.ofNat 24 o.imm))))
/-- MOVS w, sp (R154). -/
def execFxMovsRead (k : Fin 64) (c : Fin 16) (o : Opnd) (s : State) : Out :=
  .next (s.long k c o.isLP (fun t _ => movOp k o.d (t.spRead k o.b)))
/-- MOVS sp, w (R154): PC and TID are ILLEGAL. -/
def execFxMovsWrite (k : Fin 64) (c : Fin 16) (o : Opnd) (s : State) : Out :=
  .next (s.long k c (o.isLP && o.b != 3 && o.b != 9) (fun t _ => spWriteOp k o.b (t.reg o.d)))

/-! ## Flow control (R155-R158) -/

/-- Going on at an address. -/
def jump (k : Nat) (a : BitVec 14) : FRes := .go (fun s => s.updTh k (fun u => { u with pc := a }))
/-- Saving the return address and going on at an address. -/
def call (k : Nat) (t : Thread) (a : BitVec 14) : FRes := .go (fun s => s.updTh k (fun u => { u with pc := a, lk := t.pc + 1 }))
/-- B target (R155). -/
def execFxB (k : Fin 64) (c : Fin 16) (o : Opnd) (s : State) : Out :=
  .next (s.long k c o.isLT (fun _ _ => jump k (BitVec.ofNat 14 o.imm)) false)
/-- BR a (R155). -/
def execFxBr (k : Fin 64) (c : Fin 16) (o : Opnd) (s : State) : Out :=
  .next (s.long k c o.isLJ (fun t _ => jump k ((t.reg o.a).setWidth 14)) false)
/-- CALL target (R155). -/
def execFxCall (k : Fin 64) (c : Fin 16) (o : Opnd) (s : State) : Out :=
  .next (s.long k c o.isLT (fun t _ => call k t (BitVec.ofNat 14 o.imm)) false)
/-- CALLR a (R155). -/
def execFxCallr (k : Fin 64) (c : Fin 16) (o : Opnd) (s : State) : Out :=
  .next (s.long k c o.isLJ (fun t _ => call k t ((t.reg o.a).setWidth 14)) false)
/-- RET (R155). -/
def execFxRet (k : Fin 64) (c : Fin 16) (o : Opnd) (s : State) : Out :=
  .next (s.long k c o.isLN (fun t _ => jump k t.lk) false)
/-- RETT (R156): ILLEGAL when TM = 0. -/
def execFxRett (k : Fin 64) (c : Fin 16) (o : Opnd) (s : State) : Out :=
  .next (s.long k c o.isLN (fun t _ =>
    if !t.tm then .trap 1
    else .go (fun s => s.updTh k (fun u => { u with pc := t.trappc, fl := t.trapfl, rpt := t.traprc, tm := false }))) false)
/-- DBNZ target (R110, R157). -/
def execFxDbnz (k : Fin 64) (c : Fin 16) (o : Opnd) (s : State) : Out :=
  .next (s.long k c o.isLT (fun t _ => .go (fun s => s.updTh k (fun u =>
    if t.lc = 0 then u
    else { u with lc := t.lc - 1, pc := if t.lc - 1 = 0 then u.pc else BitVec.ofNat 14 o.imm }))) false)
/-- Latching a repeat count: a count of 0 skips the next word (R111). -/
def repOp (k : Nat) (n : W24) : FRes :=
  .go (fun s => s.updTh k (fun u => if n = 0 then { u with pc := u.pc + 1 } else { u with rpt := n }))
/-- REP #count (R158). -/
def execFxRep (k : Fin 64) (c : Fin 16) (o : Opnd) (s : State) : Out :=
  .next (s.long k c o.isLC (fun _ _ => repOp k (BitVec.ofNat 24 o.imm)) false)
/-- REP LC (R158). -/
def execFxRepLc (k : Fin 64) (c : Fin 16) (o : Opnd) (s : State) : Out :=
  .next (s.long k c o.isLN (fun t _ => repOp k t.lc) false)

/-! ## Watchdog, waits and signals -/

/-- Whether a blocked thread is blocked in an access that completes on its own (R115). -/
def Block.access : Block → Bool
  | .none => false
  | .push => false
  | .waitev _ => false
  | .waitph => false
  | _ => true

/-- Whether a thread is frozen for migration (R89, R127): at its safe point in the freeze of its engine. -/
def State.frozen (s : State) (k : Nat) : Bool :=
  s.freezing (k / 4) && (s.th k).started && (s.th k).st != .halted && !(s.th k).blk.access
/-- A thread's watchdog reaches zero (R115, R116): it restarts, is reported to Owl for a safety thread, raises
FOX_WATCHDOG, and the thread takes WATCHDOG at once, or when its access completes. -/
def execFoxWatchdogExpiry (k : Fin 64) (s : State) : Out :=
  .next (let t := s.th k
    if !t.started || t.st == .halted || !s.on F.foxTWdgEn k || t.wdk != 0 || s.frozen k then s
    else
      let s := (s.wdRestart k).raise 0x02 k
      let s := if s.get F.foxTTcfgSafety k ≠ 0 then { s with owlRep := s.owlRep ++ [{ k := k, value := none }] } else s
      if t.blk.access then s.updTh k (fun u => { u with wdPend := true }) else s.trap k 6)

/-- WAITEV d and WAITPH (R117, R188) under event mask `m`: at once when a masked event is pending, else the thread
waits at this word. -/
def waitOp (k : Nat) (t : Thread) (m : W24) (d : Option (Fin 16)) : FRes :=
  let hit := t.evp &&& m
  if hit ≠ 0 then
    .go (fun s => s.updTh k (fun u =>
      let u := { u with evp := u.evp &&& ~~~hit }
      match d with
      | some d => u.setReg d hit
      | none => u))
  else
    .go (fun s => s.updTh k (fun u =>
      { u with pc := t.pc, st := if d.isSome then .waitev else .waitph,
               blk := match d with | some d => .waitev d | none => .waitph }))
/-- WAITPH (R188). -/
def execFxWaitph (k : Fin 64) (c : Fin 16) (o : Opnd) (s : State) : Out :=
  .next (s.long k c o.isLN (fun t _ => waitOp k t 1 none) false)
/-- WAITEV d (R188), a = b = 0. -/
def execFxWaitev (k : Fin 64) (c : Fin 16) (o : Opnd) (s : State) : Out :=
  .next (s.long k c (o.isLR && o.a == 0 && o.b == 0) (fun t _ => waitOp k t t.evm (some o.d)) false)

/-- An event bit releases a waiting thread that is not frozen (R117, R128): it returns and clears the matched bits. -/
def execWaitWake (k : Fin 64) (s : State) : Out :=
  .next (let t := s.th k
    if s.frozen k then s else match t.blk with
    | .waitev d =>
      let hit := t.evp &&& t.evm
      if hit = 0 then s
      else s.setTh k { (t.setReg d hit) with evp := t.evp &&& ~~~hit, pc := t.pc + 1, st := .ready, blk := .none }
    | .waitph =>
      if t.evp.getLsbD 0 then s.setTh k { t with evp := t.evp &&& ~~~1, pc := t.pc + 1, st := .ready, blk := .none } else s
    | _ => s)

/-- The oldest signal on its way to thread `k` arrives (R119). -/
def execSignalDelivery (k : Fin 64) (s : State) : Out :=
  .next (match s.sigs.find? (fun g => g.dst == k.val) with
    | some g => ({ s with sigs := s.sigs.erase g } : State).signal k g.sig
    | none => s)

end Sys2Proof.Machine
end

