-- ==== Sys2Proof/Machine/RegMap.lean ====
section
/-!
DEFINITION. The BAR0 register map as rows: each register with its offset, its strides, the index register that selects
its instance and its fields (Table 21-3, R615). A word of BAR0 is a view of these fields.
Assumption log: 26, 27.
-/
namespace Sys2Proof.Machine

/-- How the instance of a register is chosen beside its offset: by nothing, by a requester's own copy of an index
register (R625), as such a copy itself, or through the FOX window's engine map (R88, R628). -/
inductive Sel where
  | none | copy | cal | fdb | flow | slot | canBuf | canWin | gwRem | owlConn | owlLog | key | chan
  | foxEng | foxThr | foxMap | foxPhys
  deriving DecidableEq, Repr

/-- A register of BAR0: offset of the first instance, two strides with their counts (0 for none), selector, fields. -/
structure Row where
  off : Nat
  s1 : Nat := 0
  n1 : Nat := 0
  s2 : Nat := 0
  n2 : Nat := 0
  sel : Sel := .none
  fields : List Field

/-- Registers from 0x00000 on. -/
def rows00a : List Row := [
  { off := 0x00000, fields := [F.glbMagic] },
  { off := 0x00004, fields := [F.glbVendor] },
  { off := 0x00008, fields := [F.glbDevice] },
  { off := 0x0000C, fields := [F.glbRevRomVer, F.glbRevSilicon] },
  { off := 0x00010, fields := [F.glbOrderTjMax, F.glbOrderCode] },
  { off := 0x00014, fields := [F.glbNodeIdLo] },
  { off := 0x00018, fields := [F.glbNodeIdHi] },
  { off := 0x0001C, fields := [F.glbScratch] },
  { off := 0x00020, fields := [F.glbUptimeS] },
  { off := 0x00024, fields := [F.glbScopes] },
  { off := 0x00028, fields := [F.glbStatusBooted, F.glbStatusProfile, F.glbStatusSession] },
  { off := 0x0002C, fields := [F.glbResetCause, F.glbResetAfterOff] }]

/-- Registers from 0x01000 on. -/
def rows01a : List Row := [
  { off := 0x01000, fields := [F.pwrStateTransit, F.pwrStateDomainsOn, F.pwrStateState] },
  { off := 0x01004, fields := [F.pwrTrimMask] },
  { off := 0x01010, fields := [F.pwrAvsCfgEn, F.pwrAvsCfgVminMv, F.pwrAvsCfgVmaxMv, F.pwrAvsCfgMarginMv] },
  { off := 0x01020, s1 := 0x4, n1 := 10, fields := [F.pwrAvsDStarved, F.pwrAvsDTargetMv, F.pwrAvsDSlack] },
  { off := 0x01050, fields := [F.pwrVcoreAvsTmo, F.pwrVcoreReqMv] },
  { off := 0x01060, fields := [F.pwrBodAon, F.pwrBodSerdes, F.pwrBodCore, F.pwrBodPfail] },
  { off := 0x01070, fields := [F.pwrInsIso, F.pwrInsExtractSeen, F.pwrInsCardPresent, F.pwrInsEarlyPwr] },
  { off := 0x01080, s1 := 0x4, n1 := 4, fields := [F.pwrTemp] },
  { off := 0x01090, fields := [F.pwrThermCfgWarnC, F.pwrThermCfgHotC, F.pwrThermCfgPlaceDt] },
  { off := 0x01094, fields := [F.pwrThermStatTripSeen, F.pwrThermStatHot, F.pwrThermStatWarn] },
  { off := 0x01100, fields := [F.pwrCAvsSteps] },
  { off := 0x01104, fields := [F.pwrCDfsStepsA] },
  { off := 0x01108, fields := [F.pwrCDfsStepsB] },
  { off := 0x0110C, fields := [F.pwrCThermCaps] },
  { off := 0x01110, fields := [F.pwrCPlaceMoves] },
  { off := 0x01114, fields := [F.pwrCMainsThrSteps] },
  { off := 0x01118, fields := [F.pwrCTrimEntries] },
  { off := 0x0111C, fields := [F.pwrCHoldEntries] },
  { off := 0x01800, fields := [F.clkStatusLost, F.clkStatusLocked] },
  { off := 0x01810, s1 := 0x4, n1 := 2, fields := [F.clkDfsEn, F.clkDfsMin, F.clkDfsMax, F.clkDfsUpPct, F.clkDfsDownPct] },
  { off := 0x01820, s1 := 0x4, n1 := 2, fields := [F.clkDfsStatCap, F.clkDfsStatOccPct] },
  { off := 0x01830, s1 := 0x4, n1 := 2, fields := [F.clkMthrAdaptEn, F.clkMthrHystMv, F.clkMthrCurMv, F.clkMthrInitMv] },
  { off := 0x01840, fields := [F.clkPlaceFaultEn, F.clkPlaceEn] }]

/-- Registers from 0x02000 on. -/
def rows02a : List Row := [
  { off := 0x02000, fields := [F.timeCtrlPpsInEdge, F.timeCtrlPpsOutEn, F.timeCtrlSrc, F.timeCtrlLatch] },
  { off := 0x02004, fields := [F.timeStatusSetBad, F.timeStatusSlewBusy, F.timeStatusSoftIgnored, F.timeStatusSrcLost, F.timeStatusValid, F.timeStatusState] },
  { off := 0x02008, fields := [F.timeLatFrac] },
  { off := 0x0200C, fields := [F.timeLatNs] },
  { off := 0x02010, fields := [F.timeLatSecLo] },
  { off := 0x02014, fields := [F.timeLatSecHi] },
  { off := 0x02018, fields := [F.timeRate] },
  { off := 0x0201C, fields := [F.timeSetNs] },
  { off := 0x02020, fields := [F.timeSetSecLo] },
  { off := 0x02024, fields := [F.timeSetSecHi] },
  { off := 0x02028, fields := [F.timeStepNs] },
  { off := 0x0202C, fields := [F.timeSlewNs] },
  { off := 0x02030, fields := [F.timeSlewCfgRatePpm] },
  { off := 0x02034, fields := [F.timeSlewRem] },
  { off := 0x02038, fields := [F.timePpsCfgInTc, F.timePpsCfgOutWidthMs] },
  { off := 0x0203C, fields := [F.timePpsErr] },
  { off := 0x02080, s1 := 0x4, n1 := 14, fields := [F.timeTsTrimTxTrim, F.timeTsTrimRxTrim] },
  { off := 0x020C0, s1 := 0x4, n1 := 12, fields := [F.timePtpDomain, F.timePtpDomainEn, F.timePtpUdp6, F.timePtpUdp4, F.timePtpL2, F.timePtpPdelayResp, F.timePtpPdelayReq, F.timePtpDelayReq, F.timePtpSync] },
  { off := 0x02100, s1 := 0x20, n1 := 8, fields := [F.timeCapCfgAxis, F.timeCapCfgEdge] },
  { off := 0x02104, s1 := 0x20, n1 := 8, fields := [F.timeCapPopValid, F.timeCapPopHalf, F.timeCapPopNs] },
  { off := 0x02108, s1 := 0x20, n1 := 8, fields := [F.timeCapSecEdge, F.timeCapSecSec] },
  { off := 0x0210C, s1 := 0x20, n1 := 8, fields := [F.timeCapAxLo] },
  { off := 0x02110, s1 := 0x20, n1 := 8, fields := [F.timeCapAxHi] },
  { off := 0x02114, s1 := 0x20, n1 := 8, fields := [F.timeCapStatOvf, F.timeCapStatLevel] },
  { off := 0x02400, s1 := 0x40, n1 := 4, fields := [F.phsPxCfgModulo, F.phsPxCfgCaptEdge, F.phsPxCfgSel, F.phsPxCfgSrc] },
  { off := 0x02404, s1 := 0x40, n1 := 4, fields := [F.phsPxModLo] },
  { off := 0x02408, s1 := 0x40, n1 := 4, fields := [F.phsPxModHi] },
  { off := 0x0240C, s1 := 0x40, n1 := 4, fields := [F.phsPxLatLo] },
  { off := 0x02410, s1 := 0x40, n1 := 4, fields := [F.phsPxLatHi] },
  { off := 0x02414, s1 := 0x40, n1 := 4, fields := [F.phsPxSetLo] },
  { off := 0x02418, s1 := 0x40, n1 := 4, fields := [F.phsPxSetHi] },
  { off := 0x0241C, s1 := 0x40, n1 := 4, fields := [F.phsPxStatReverse, F.phsPxStatJump, F.phsPxStatRun] },
  { off := 0x02600, s1 := 0x20, n1 := 2, fields := [F.phsMCfgHoldS, F.phsMCfgBw, F.phsMCfgNom, F.phsMCfgEn] },
  { off := 0x02604, s1 := 0x20, n1 := 2, fields := [F.phsMOfs] },
  { off := 0x02608, s1 := 0x20, n1 := 2, fields := [F.phsMFreq] },
  { off := 0x0260C, s1 := 0x20, n1 := 2, fields := [F.phsMStatStopped, F.phsMStatLost, F.phsMStatState] },
  { off := 0x02800, fields := [F.phsCtrlRun] },
  { off := 0x02804, fields := [F.phsStatusArmed] },
  { off := 0x02808, sel := .copy, fields := [F.phsCalIdx] },
  { off := 0x0280C, sel := .cal, fields := [F.phsCalCtrlEn, F.phsCalCtrlAxis, F.phsCalCtrlDir, F.phsCalCtrlCatchup, F.phsCalCtrlAction, F.phsCalCtrlArg] }]

/-- Registers from 0x02810 on. -/
def rows02b : List Row := [
  { off := 0x02810, sel := .cal, fields := [F.phsCalPhLo] },
  { off := 0x02814, sel := .cal, fields := [F.phsCalPhHi] },
  { off := 0x02818, sel := .cal, fields := [F.phsCalIvLo] },
  { off := 0x0281C, sel := .cal, fields := [F.phsCalIvHi] },
  { off := 0x02820, sel := .cal, fields := [F.phsCalNextLo] },
  { off := 0x02824, sel := .cal, fields := [F.phsCalNextHi] },
  { off := 0x02828, sel := .cal, fields := [F.phsCalFired] },
  { off := 0x0282C, sel := .cal, fields := [F.phsCalMissed] },
  { off := 0x02840, s1 := 0x4, n1 := 8, fields := [F.phsSgrp] },
  { off := 0x02860, fields := [F.phsTrigCfgInit, F.phsTrigCfgOe] },
  { off := 0x02864, fields := [F.phsTrigLevel] },
  { off := 0x02868, fields := [F.phsCollide] },
  { off := 0x02870, fields := [F.phsQwState] },
  { off := 0x02874, fields := [F.phsQwTimeout] },
  { off := 0x02880, s1 := 0x4, n1 := 8, fields := [F.phsQwMax] },
  { off := 0x04000, fields := [F.swHashSeed] },
  { off := 0x04004, fields := [F.swCycle] },
  { off := 0x04008, fields := [F.swCellsTotal] },
  { off := 0x0400C, fields := [F.swCellsFree] },
  { off := 0x04010, fields := [F.swShared] },
  { off := 0x04014, fields := [F.swMirCap] },
  { off := 0x04018, fields := [F.swStageHost] },
  { off := 0x0401C, fields := [F.swStageSup] },
  { off := 0x04020, s1 := 0x4, n1 := 16, fields := [F.swStage] },
  { off := 0x04060, s1 := 0x4, n1 := 8, fields := [F.swAgeEn, F.swAgeLimitUs] },
  { off := 0x04400, s1 := 0x40, n1 := 32, fields := [F.swPCfgDefPort, F.swPCfgMiss, F.swPCfgPcpEn, F.swPCfgDefClass, F.swPCfgGuard, F.swPCfgHoldMs] },
  { off := 0x04404, s1 := 0x40, n1 := 32, fields := [F.swPPcpmap] },
  { off := 0x04408, s1 := 0x40, n1 := 32, fields := [F.swPRes] },
  { off := 0x0440C, s1 := 0x40, n1 := 32, fields := [F.swPShcap] },
  { off := 0x04410, s1 := 0x40, n1 := 32, fields := [F.swPQmaxBe] },
  { off := 0x04414, s1 := 0x40, n1 := 32, fields := [F.swPQmaxSafe] },
  { off := 0x04418, s1 := 0x40, n1 := 32, fields := [F.swPQmaxSched] },
  { off := 0x0441C, s1 := 0x40, n1 := 32, fields := [F.swPMirRxN, F.swPMirTxN] },
  { off := 0x04420, s1 := 0x40, n1 := 32, fields := [F.swPMirdstClass, F.swPMirdstTxDst, F.swPMirdstRxDst] },
  { off := 0x04424, s1 := 0x40, n1 := 32, fields := [F.swPEqmap] },
  { off := 0x04428, s1 := 0x40, n1 := 32, fields := [F.swPStatQcells, F.swPStatResActive, F.swPStatHolding, F.swPStatLinkUp] },
  { off := 0x0442C, s1 := 0x40, n1 := 32, fields := [F.swPUseRes, F.swPUseShared] },
  { off := 0x04430, s1 := 0x40, n1 := 32, fields := [F.swPAonHeld] },
  { off := 0x04C00, sel := .copy, fields := [F.swFdbIdx] },
  { off := 0x04C04, sel := .fdb, fields := [F.swFdbCtrlValid, F.swFdbCtrlAnyVid, F.swFdbCtrlAon, F.swFdbCtrlClassOvr, F.swFdbCtrlClass, F.swFdbCtrlVid] }]

/-- Registers from 0x04C08 on. -/
def rows02c : List Row := [
  { off := 0x04C08, sel := .fdb, fields := [F.swFdbDaLo] },
  { off := 0x04C0C, sel := .fdb, fields := [F.swFdbDaHi] },
  { off := 0x04C10, sel := .fdb, fields := [F.swFdbPorts] },
  { off := 0x04C14, sel := .fdb, fields := [F.swFdbAonDl] },
  { off := 0x05000, s1 := 0x80, n1 := 32, fields := [F.swCRxFrames] },
  { off := 0x05004, s1 := 0x80, n1 := 32, fields := [F.swCTxFrames] },
  { off := 0x05008, s1 := 0x80, n1 := 32, fields := [F.swCFcsErr] },
  { off := 0x0500C, s1 := 0x80, n1 := 32, fields := [F.swCRunt] },
  { off := 0x05010, s1 := 0x80, n1 := 32, fields := [F.swCOversize] },
  { off := 0x05014, s1 := 0x80, n1 := 32, fields := [F.swCNoRoute] },
  { off := 0x05018, s1 := 0x80, n1 := 32, fields := [F.swCReserveFull] },
  { off := 0x0501C, s1 := 0x80, n1 := 32, fields := [F.swCAonExpired] },
  { off := 0x05020, s1 := 0x80, n1 := 32, fields := [F.swCQueueFull] },
  { off := 0x05024, s1 := 0x80, n1 := 32, fields := [F.swCPortDown] },
  { off := 0x05028, s1 := 0x80, n1 := 32, fields := [F.swCFlushed] },
  { off := 0x0502C, s1 := 0x80, n1 := 32, fields := [F.swCAged] },
  { off := 0x05030, s1 := 0x80, n1 := 32, fields := [F.swCPartial] },
  { off := 0x05034, s1 := 0x80, n1 := 32, fields := [F.swCLost] },
  { off := 0x05038, s1 := 0x80, n1 := 32, fields := [F.swCMirrorDrop] },
  { off := 0x0503C, s1 := 0x80, n1 := 32, fields := [F.swCMirSent] },
  { off := 0x05040, s1 := 0x80, n1 := 32, fields := [F.swCLatMax] },
  { off := 0x05044, s1 := 0x80, n1 := 32, fields := [F.swCResEnter] }]

/-- Registers from 0x08000 on. -/
def rows04a : List Row := [
  { off := 0x08000, sel := .copy, fields := [F.flowIdx] },
  { off := 0x08040, sel := .flow, fields := [F.flowCtrlOpen, F.flowCtrlUscEn, F.flowCtrlDir, F.flowCtrlKind, F.flowCtrlClass, F.flowCtrlEngine, F.flowCtrlMatchEn, F.flowCtrlUscIdx] },
  { off := 0x08044, sel := .flow, fields := [F.flowSegOfs] },
  { off := 0x08048, sel := .flow, fields := [F.flowSegLen] },
  { off := 0x0804C, sel := .flow, fields := [F.flowInports] },
  { off := 0x08050, sel := .flow, fields := [F.flowDaLo] },
  { off := 0x08054, sel := .flow, fields := [F.flowDaHiDaEn, F.flowDaHiDa] },
  { off := 0x08058, sel := .flow, fields := [F.flowVidVidEn, F.flowVidVid] },
  { off := 0x0805C, sel := .flow, fields := [F.flowEtypeEtypeEn, F.flowEtypeEtype] },
  { off := 0x08060, sel := .flow, fields := [F.flowTag] },
  { off := 0x08064, sel := .flow, fields := [F.flowTagcfgTagEn, F.flowTagcfgTagOfs] },
  { off := 0x08068, sel := .flow, fields := [F.flowTagMask] },
  { off := 0x0806C, sel := .flow, fields := [F.flowTargets] },
  { off := 0x08070, sel := .flow, fields := [F.flowTmoTmoEn, F.flowTmoTmoUs] },
  { off := 0x08080, sel := .flow, fields := [F.flowStatUscFail, F.flowStatEverStale, F.flowStatStale, F.flowStatActive] },
  { off := 0x08084, sel := .flow, fields := [F.flowRx] },
  { off := 0x08088, sel := .flow, fields := [F.flowDrop] },
  { off := 0x0808C, sel := .flow, fields := [F.flowLastNs] },
  { off := 0x08090, sel := .flow, fields := [F.flowLastSec] }]

/-- Registers from 0x0A000 on. -/
def rows05a : List Row := [
  { off := 0x0A000, fields := [F.imgEpoch] },
  { off := 0x0A004, fields := [F.imgCtrlCommitNow] },
  { off := 0x0A008, fields := [F.imgCommits] },
  { off := 0x0A00C, fields := [F.imgMerged] },
  { off := 0x0A010, fields := [F.imgStageRefused] },
  { off := 0x0A020, fields := [F.imgLeaseOpen] },
  { off := 0x0A024, fields := [F.imgLeaseClose] },
  { off := 0x0A028, fields := [F.imgLeaseStatOpen, F.imgLeaseStatExpired, F.imgLeaseStatZero, F.imgLeaseStatEpoch] },
  { off := 0x0A02C, fields := [F.imgLeaseRem] },
  { off := 0x0A100, fields := [F.imgApplyScope] },
  { off := 0x0A104, fields := [F.imgApplyCtrlGo, F.imgApplyCtrlCancel, F.imgApplyCtrlAxis, F.imgApplyCtrlWhen] },
  { off := 0x0A108, fields := [F.imgApplyPhLo] },
  { off := 0x0A10C, fields := [F.imgApplyPhHi] },
  { off := 0x0A110, fields := [F.imgApplyStatPending, F.imgApplyStatLate, F.imgApplyStatBlock, F.imgApplyStatResult] },
  { off := 0x0A200, fields := [F.imgCsnapCtrlGo, F.imgCsnapCtrlRelease, F.imgCsnapCtrlCancel, F.imgCsnapCtrlWhen, F.imgCsnapCtrlClear] },
  { off := 0x0A204, fields := [F.imgCsnapStatHeld, F.imgCsnapStatPending, F.imgCsnapStatBusy, F.imgCsnapStatEpoch] },
  { off := 0x0A208, fields := [F.imgCsnapNs] },
  { off := 0x0A20C, fields := [F.imgCsnapSecLo] }]

/-- Registers from 0x0C000 on. -/
def rows06a : List Row := [
  { off := 0x0C000, fields := [F.ringCfgEn, F.ringCfgColdEn, F.ringCfgFirstRef, F.ringCfgRank, F.ringCfgNode, F.ringCfgRateMax, F.ringCfgNmax] },
  { off := 0x0C004, fields := [F.ringCycleUnits] },
  { off := 0x0C008, fields := [F.ringGuardGuardNs] },
  { off := 0x0C00C, fields := [F.ringLmaxLmaxNs] },
  { off := 0x0C010, fields := [F.ringListenListenUs] },
  { off := 0x0C014, fields := [F.ringServoKiSh, F.ringServoKpSh] },
  { off := 0x0C018, fields := [F.ringCtrlResync] },
  { off := 0x0C01C, fields := [F.ringFnRate] },
  { off := 0x0C020, fields := [F.ringDaPreLo] },
  { off := 0x0C024, fields := [F.ringDaPreHi] },
  { off := 0x0C028, fields := [F.ringIdLo] },
  { off := 0x0C02C, fields := [F.ringIdHi] },
  { off := 0x0C040, fields := [F.ringStatusState, F.ringStatusHealed, F.ringStatusLocked, F.ringStatusFoldE, F.ringStatusFoldW, F.ringStatusOutside, F.ringStatusFirst, F.ringStatusMembers, F.ringStatusLoCause, F.ringStatusJoinErr] },
  { off := 0x0C044, fields := [F.ringMembers] },
  { off := 0x0C048, fields := [F.ringCycleNo] },
  { off := 0x0C04C, fields := [F.ringOffset] },
  { off := 0x0C050, fields := [F.ringRate] },
  { off := 0x0C054, fields := [F.ringHash] },
  { off := 0x0C058, fields := [F.ringSplicePending, F.ringSpliceCycle] },
  { off := 0x0C060, fields := [F.ringGstatOpen, F.ringGstatInternalOsc, F.ringGstatAligned, F.ringGstatConsec] },
  { off := 0x0C070, s1 := 0x4, n1 := 2, fields := [F.ringLLive, F.ringLLosSeen, F.ringLTrained, F.ringLJoined, F.ringLRate, F.ringLDelay] },
  { off := 0x0C100, s1 := 0x40, n1 := 2, fields := [F.ringLcRelayed] },
  { off := 0x0C104, s1 := 0x40, n1 := 2, fields := [F.ringLcInserted] },
  { off := 0x0C108, s1 := 0x40, n1 := 2, fields := [F.ringLcDelivered] },
  { off := 0x0C10C, s1 := 0x40, n1 := 2, fields := [F.ringLcHdrErr] },
  { off := 0x0C110, s1 := 0x40, n1 := 2, fields := [F.ringLcHopsDrop] },
  { off := 0x0C114, s1 := 0x40, n1 := 2, fields := [F.ringLcInsertCut] },
  { off := 0x0C118, s1 := 0x40, n1 := 2, fields := [F.ringLcCtrlBad] },
  { off := 0x0C11C, s1 := 0x40, n1 := 2, fields := [F.ringLcTrainFail] },
  { off := 0x0C120, s1 := 0x40, n1 := 2, fields := [F.ringLcLosEvents] },
  { off := 0x0C124, s1 := 0x40, n1 := 2, fields := [F.ringLcNofit] },
  { off := 0x0C128, s1 := 0x40, n1 := 2, fields := [F.ringLcCtrlDefer] },
  { off := 0x0C180, fields := [F.ringCGblock] },
  { off := 0x0C184, fields := [F.ringCGalignRej] },
  { off := 0x0C188, fields := [F.ringCCsmMissed] },
  { off := 0x0C18C, fields := [F.ringCSpliceRefused] },
  { off := 0x0C190, fields := [F.ringCListenOnlyEntries] },
  { off := 0x0C200, sel := .copy, fields := [F.ringSlotIdx] },
  { off := 0x0C204, sel := .slot, fields := [F.ringSlotCtrlEn, F.ringSlotCtrlLane, F.ringSlotCtrlOwner, F.ringSlotCtrlStart] },
  { off := 0x0C208, sel := .slot, fields := [F.ringSlotLen] }]

/-- Registers from 0x0C300 on. -/
def rows06b : List Row := [
  { off := 0x0C300, fields := [F.ringLgCfgEn, F.ringLgCfgEtype] },
  { off := 0x0C304, fields := [F.ringLgDaLo] },
  { off := 0x0C308, fields := [F.ringLgDaHi] },
  { off := 0x0C30C, fields := [F.ringLgSaLo] },
  { off := 0x0C310, fields := [F.ringLgSaHi] }]

/-- Registers from 0x10000 on. -/
def rows08a : List Row := [
  { off := 0x10000, s1 := 0x1000, n1 := 8, fields := [F.ethCfgEn, F.ethCfgCompat, F.ethCfgAnEn, F.ethCfgFastLd, F.ethCfgMdix, F.ethCfgForceSpeed, F.ethCfgForceFd] },
  { off := 0x10004, s1 := 0x1000, n1 := 8, fields := [F.ethAnAdvEee1000, F.ethAnAdvEee100, F.ethAnAdvAsmDir, F.ethAnAdvPause, F.ethAnAdvMs, F.ethAnAdvModes] },
  { off := 0x10008, s1 := 0x1000, n1 := 8, fields := [F.ethMaxlen] },
  { off := 0x1000C, s1 := 0x1000, n1 := 8, fields := [F.ethFcTxPauseEn, F.ethFcRxPauseEn, F.ethFcPauseClasses, F.ethFcQuanta] },
  { off := 0x10010, s1 := 0x1000, n1 := 8, fields := [F.ethSaLo] },
  { off := 0x10014, s1 := 0x1000, n1 := 8, fields := [F.ethSaHi] },
  { off := 0x10018, s1 := 0x1000, n1 := 8, fields := [F.ethEeeEn, F.ethEeeGateWake, F.ethEeeLpiIdleUs] },
  { off := 0x1001C, s1 := 0x1000, n1 := 8, fields := [F.ethEeeTw] },
  { off := 0x10020, s1 := 0x1000, n1 := 8, fields := [F.ethCtrlRestartAn] },
  { off := 0x10040, s1 := 0x1000, n1 := 8, fields := [F.ethStatusLink, F.ethStatusAnDone, F.ethStatusAnFail, F.ethStatusFd, F.ethStatusSpeed, F.ethStatusMaster, F.ethStatusMdixAct, F.ethStatusTxPause, F.ethStatusRxPause, F.ethStatusEeeAct, F.ethStatusLpiTx, F.ethStatusLpiRx, F.ethStatusPaused] },
  { off := 0x10044, s1 := 0x1000, n1 := 8, fields := [F.ethPartner] },
  { off := 0x10048, s1 := 0x1000, n1 := 8, fields := [F.ethTwAct] },
  { off := 0x10100, s1 := 0x1000, n1 := 8, fields := [F.ethCRxOctets] },
  { off := 0x10104, s1 := 0x1000, n1 := 8, fields := [F.ethCRxFrames] },
  { off := 0x10108, s1 := 0x1000, n1 := 8, fields := [F.ethCRxBcast] },
  { off := 0x1010C, s1 := 0x1000, n1 := 8, fields := [F.ethCRxMcast] },
  { off := 0x10110, s1 := 0x1000, n1 := 8, fields := [F.ethCRxPause] },
  { off := 0x10114, s1 := 0x1000, n1 := 8, fields := [F.ethCRxCtrlUnk] },
  { off := 0x10118, s1 := 0x1000, n1 := 8, fields := [F.ethCRxSymbolErr] },
  { off := 0x1011C, s1 := 0x1000, n1 := 8, fields := [F.ethCTxOctets] },
  { off := 0x10120, s1 := 0x1000, n1 := 8, fields := [F.ethCTxFrames] },
  { off := 0x10124, s1 := 0x1000, n1 := 8, fields := [F.ethCTxPause] },
  { off := 0x10128, s1 := 0x1000, n1 := 8, fields := [F.ethCCollisions] },
  { off := 0x1012C, s1 := 0x1000, n1 := 8, fields := [F.ethCLateCol] },
  { off := 0x10130, s1 := 0x1000, n1 := 8, fields := [F.ethCExcCol] },
  { off := 0x10134, s1 := 0x1000, n1 := 8, fields := [F.ethCDeferred] },
  { off := 0x10138, s1 := 0x1000, n1 := 8, fields := [F.ethCTxAbort] },
  { off := 0x1013C, s1 := 0x1000, n1 := 8, fields := [F.ethCLinkDown] },
  { off := 0x10140, s1 := 0x1000, n1 := 8, fields := [F.ethCAnFailCnt] },
  { off := 0x10144, s1 := 0x1000, n1 := 8, fields := [F.ethCLpiTxEntries] },
  { off := 0x10148, s1 := 0x1000, n1 := 8, fields := [F.ethCLpiTxUs] },
  { off := 0x1014C, s1 := 0x1000, n1 := 8, fields := [F.ethCLpiRxUs] },
  { off := 0x10150, s1 := 0x1000, n1 := 8, fields := [F.ethCPausedUs] },
  { off := 0x10200, s1 := 0x1000, n1 := 8, fields := [F.ethL1208RuntBad, F.ethL1208RuntGood] },
  { off := 0x10204, s1 := 0x1000, n1 := 8, fields := [F.ethL1208Frag] }]

/-- Registers from 0x18000 on. -/
def rows0Ca : List Row := [
  { off := 0x18000, s1 := 0x1000, n1 := 4, fields := [F.t1sCfgEn, F.t1sCfgCompat, F.t1sCfgPlcaEn, F.t1sCfgNodeId, F.t1sCfgNodeCnt] },
  { off := 0x18004, s1 := 0x1000, n1 := 4, fields := [F.t1sPlcaTmrBurstTmr, F.t1sPlcaTmrBurstCnt, F.t1sPlcaTmrToTmr] },
  { off := 0x18008, s1 := 0x1000, n1 := 4, fields := [F.t1sMaxlen] },
  { off := 0x1800C, s1 := 0x1000, n1 := 4, fields := [F.t1sThrAdaptEn, F.t1sThrCur, F.t1sThrInit] },
  { off := 0x18040, s1 := 0x1000, n1 := 4, fields := [F.t1sStatusLink, F.t1sStatusPlcaAct, F.t1sStatusCoord, F.t1sStatusPhyFault] },
  { off := 0x18100, s1 := 0x1000, n1 := 4, fields := [F.t1sCRxOctets] },
  { off := 0x18104, s1 := 0x1000, n1 := 4, fields := [F.t1sCRxFrames] },
  { off := 0x18108, s1 := 0x1000, n1 := 4, fields := [F.t1sCRxBcast] },
  { off := 0x1810C, s1 := 0x1000, n1 := 4, fields := [F.t1sCRxMcast] },
  { off := 0x18110, s1 := 0x1000, n1 := 4, fields := [F.t1sCTxOctets] },
  { off := 0x18114, s1 := 0x1000, n1 := 4, fields := [F.t1sCTxFrames] },
  { off := 0x18118, s1 := 0x1000, n1 := 4, fields := [F.t1sCCollisions] },
  { off := 0x1811C, s1 := 0x1000, n1 := 4, fields := [F.t1sCLateCol] },
  { off := 0x18120, s1 := 0x1000, n1 := 4, fields := [F.t1sCExcCol] },
  { off := 0x18124, s1 := 0x1000, n1 := 4, fields := [F.t1sCDeferred] },
  { off := 0x18128, s1 := 0x1000, n1 := 4, fields := [F.t1sCTxAbort] },
  { off := 0x1812C, s1 := 0x1000, n1 := 4, fields := [F.t1sCBeaconRx] },
  { off := 0x18130, s1 := 0x1000, n1 := 4, fields := [F.t1sCPlcaFallback] },
  { off := 0x18134, s1 := 0x1000, n1 := 4, fields := [F.t1sCThrSteps] },
  { off := 0x18138, s1 := 0x1000, n1 := 4, fields := [F.t1sCLinkDown] },
  { off := 0x18200, s1 := 0x1000, n1 := 4, fields := [F.t1sL1208RuntBad, F.t1sL1208RuntGood] },
  { off := 0x18204, s1 := 0x1000, n1 := 4, fields := [F.t1sL1208Frag] }]

/-- Registers from 0x1C000 on. -/
def rows0Ea : List Row := [
  { off := 0x1C000, s1 := 0x1000, n1 := 4, fields := [F.canCfgMode, F.canCfgFdEn, F.canCfgXlEn, F.canCfgTdcEn, F.canCfgTxOrder, F.canCfgPex, F.canCfgBank, F.canCfgDbBit] },
  { off := 0x1C004, s1 := 0x1000, n1 := 4, fields := [F.canNbtNtseg2, F.canNbtNtseg1, F.canNbtNsjw, F.canNbtNbrp] },
  { off := 0x1C008, s1 := 0x1000, n1 := 4, fields := [F.canDbtDsjw, F.canDbtDtseg2, F.canDbtDtseg1, F.canDbtTdco, F.canDbtDbrp] },
  { off := 0x1C00C, s1 := 0x1000, n1 := 4, fields := [F.canXbt] },
  { off := 0x1C010, s1 := 0x1000, n1 := 4, fields := [F.canLockEn, F.canLockLockUs] },
  { off := 0x1C014, s1 := 0x1000, n1 := 4, fields := [F.canDetRounds, F.canDetWinMs] },
  { off := 0x1C018, s1 := 0x1000, n1 := 4, s2 := 0x4, n2 := 4, fields := [F.canDetc] },
  { off := 0x1C028, s1 := 0x1000, n1 := 4, fields := [F.canDetResDone, F.canDetResFound, F.canDetResCand] },
  { off := 0x1C030, s1 := 0x1000, n1 := 4, fields := [F.canTtCfgTtEn, F.canTtCfgMaster, F.canTtCfgPrio, F.canTtCfgAxis, F.canTtCfgNtu] },
  { off := 0x1C034, s1 := 0x1000, n1 := 4, fields := [F.canTtRefidIde, F.canTtRefidRefId] },
  { off := 0x1C038, s1 := 0x1000, n1 := 4, fields := [F.canTtCycTxWin, F.canTtCycCycleNtu] },
  { off := 0x1C03C, s1 := 0x1000, n1 := 4, fields := [F.canTtPerLo] },
  { off := 0x1C040, s1 := 0x1000, n1 := 4, fields := [F.canTtPerHi] },
  { off := 0x1C044, s1 := 0x1000, n1 := 4, fields := [F.canTtOfsLo] },
  { off := 0x1C048, s1 := 0x1000, n1 := 4, fields := [F.canTtOfsHi] },
  { off := 0x1C080, s1 := 0x1000, n1 := 4, fields := [F.canStatusEstate, F.canStatusBusoffSeen, F.canStatusTtMasterAct, F.canStatusTtSync, F.canStatusLec, F.canStatusTdcv] },
  { off := 0x1C084, s1 := 0x1000, n1 := 4, fields := [F.canErrcRec, F.canErrcTec] },
  { off := 0x1C088, s1 := 0x1000, n1 := 4, fields := [F.canTtStatCycle, F.canTtStatCtime] },
  { off := 0x1C100, s1 := 0x1000, n1 := 4, fields := [F.canCRxFrames] },
  { off := 0x1C104, s1 := 0x1000, n1 := 4, fields := [F.canCTxFrames] },
  { off := 0x1C108, s1 := 0x1000, n1 := 4, fields := [F.canCNoMatch] },
  { off := 0x1C10C, s1 := 0x1000, n1 := 4, fields := [F.canCOvrCnt] },
  { off := 0x1C110, s1 := 0x1000, n1 := 4, fields := [F.canCChainStored] },
  { off := 0x1C114, s1 := 0x1000, n1 := 4, fields := [F.canCChainLost] },
  { off := 0x1C118, s1 := 0x1000, n1 := 4, fields := [F.canCLockTmo] },
  { off := 0x1C11C, s1 := 0x1000, n1 := 4, fields := [F.canCXlNoSett] },
  { off := 0x1C120, s1 := 0x1000, n1 := 4, fields := [F.canCStuffErr] },
  { off := 0x1C124, s1 := 0x1000, n1 := 4, fields := [F.canCFormErr] },
  { off := 0x1C128, s1 := 0x1000, n1 := 4, fields := [F.canCAckErr] },
  { off := 0x1C12C, s1 := 0x1000, n1 := 4, fields := [F.canCBitErr] },
  { off := 0x1C130, s1 := 0x1000, n1 := 4, fields := [F.canCCrcErr] },
  { off := 0x1C134, s1 := 0x1000, n1 := 4, fields := [F.canCBusoffCnt] },
  { off := 0x1C138, s1 := 0x1000, n1 := 4, fields := [F.canCTtMiss] },
  { off := 0x1C13C, s1 := 0x1000, n1 := 4, fields := [F.canCTxBad] },
  { off := 0x1C140, s1 := 0x1000, n1 := 4, fields := [F.canCRefRx] },
  { off := 0x1C200, s1 := 0x1000, n1 := 4, sel := .copy, fields := [F.canBidx] },
  { off := 0x1C204, s1 := 0x1000, n1 := 4, sel := .canBuf, fields := [F.canBcfgMode, F.canBcfgEvtEn, F.canBcfgEvtHost, F.canBcfgEvtLe, F.canBcfgEvtT, F.canBcfgTrigEn, F.canBcfgFmt, F.canBcfgIde, F.canBcfgNext] },
  { off := 0x1C208, s1 := 0x1000, n1 := 4, sel := .canBuf, fields := [F.canBid] },
  { off := 0x1C20C, s1 := 0x1000, n1 := 4, sel := .canBuf, fields := [F.canBmask] },
  { off := 0x1C210, s1 := 0x1000, n1 := 4, sel := .canBuf, fields := [F.canBtrigRepLog, F.canBtrigOfs, F.canBtrigTrigNtu] }]

/-- Registers from 0x1C220 on. -/
def rows0Eb : List Row := [
  { off := 0x1C220, s1 := 0x1000, n1 := 4, fields := [F.canTxcancel] },
  { off := 0x1C300, s1 := 0x1000, n1 := 4, sel := .copy, fields := [F.canBwinIdx] },
  { off := 0x1C304, s1 := 0x1000, n1 := 4, s2 := 0x4, n2 := 18, sel := .canWin, fields := [F.canBwin] },
  { off := 0x1C350, s1 := 0x1000, n1 := 4, s2 := 0x4, n2 := 4, sel := .canWin, fields := [F.canAux] }]

/-- Registers from 0x20000 on. -/
def rows10a : List Row := [
  { off := 0x20000, s1 := 0x100, n1 := 32, fields := [F.shrCfgLinkRx, F.shrCfgLinkTx, F.shrCfgDir, F.shrCfgCkEn, F.shrCfgCkIdle, F.shrCfgQinv, F.shrCfgWlen, F.shrCfgMlen, F.shrCfgEvtLe, F.shrCfgEvtT, F.shrCfgEvtEn, F.shrCfgCkLane, F.shrCfgTxfMark] },
  { off := 0x20004, s1 := 0x100, n1 := 32, fields := [F.shrLaneaPin0, F.shrLaneaPin1, F.shrLaneaPin2, F.shrLaneaPin3] },
  { off := 0x20008, s1 := 0x100, n1 := 32, fields := [F.shrLanebPin4, F.shrLanebPin5, F.shrLanebPin6, F.shrLanebPin7] },
  { off := 0x2000C, s1 := 0x100, n1 := 32, fields := [F.shrDivRate] },
  { off := 0x20010, s1 := 0x100, n1 := 32, fields := [F.shrTxf] },
  { off := 0x20014, s1 := 0x100, n1 := 32, fields := [F.shrRxfValid, F.shrRxfData] },
  { off := 0x20018, s1 := 0x100, n1 := 32, fields := [F.shrStatState, F.shrStatBank, F.shrStatSwapPend, F.shrStatRlat, F.shrStatTlat, F.shrStatPc, F.shrStatC, F.shrStatTxfLvl, F.shrStatRxfLvl] },
  { off := 0x2001C, s1 := 0x100, n1 := 32, fields := [F.shrErrIllegal, F.shrErrRxfUnf, F.shrErrTxfOvf] },
  { off := 0x20020, s1 := 0x100, n1 := 32, fields := [F.shrCa] },
  { off := 0x20024, s1 := 0x100, n1 := 32, fields := [F.shrCb] },
  { off := 0x20028, s1 := 0x100, n1 := 32, fields := [F.shrSr] },
  { off := 0x2002C, s1 := 0x100, n1 := 32, fields := [F.shrShiftLost] },
  { off := 0x20030, s1 := 0x100, n1 := 32, fields := [F.shrQpos] },
  { off := 0x20034, s1 := 0x100, n1 := 32, fields := [F.shrIrqSet] },
  { off := 0x20038, s1 := 0x100, n1 := 32, fields := [F.shrIrq] },
  { off := 0x2003C, s1 := 0x100, n1 := 32, fields := [F.shrFlushRxf, F.shrFlushTxf] },
  { off := 0x20040, s1 := 0x100, n1 := 32, fields := [F.shrQerr] },
  { off := 0x20044, s1 := 0x100, n1 := 32, fields := [F.shrStartOvr] },
  { off := 0x20048, s1 := 0x100, n1 := 32, fields := [F.shrSwaps] },
  { off := 0x2004C, s1 := 0x100, n1 := 32, fields := [F.shrM] },
  { off := 0x20050, s1 := 0x100, n1 := 32, fields := [F.shrMatchValue] },
  { off := 0x20080, s1 := 0x100, n1 := 32, sel := .copy, fields := [F.shrPmIdx] },
  { off := 0x20084, s1 := 0x100, n1 := 32, fields := [F.shrPmData] }]

/-- Registers from 0x22000 on. -/
def rows11a : List Row := [
  { off := 0x22000, fields := [F.shrStartSet] },
  { off := 0x22004, fields := [F.shrClkRestart] },
  { off := 0x22008, fields := [F.shrStop] },
  { off := 0x2200C, fields := [F.shrSwap] },
  { off := 0x22010, fields := [F.shrFswap] },
  { off := 0x22014, fields := [F.shrFlags] },
  { off := 0x22018, fields := [F.shrFlagsSet] },
  { off := 0x2201C, fields := [F.shrFlagsClr] },
  { off := 0x22100, s1 := 0x4, n1 := 8, fields := [F.shrBankV33, F.shrBankMismatch] },
  { off := 0x22200, s1 := 0x4, n1 := 64, fields := [F.shrPincfgOwner, F.shrPincfgPull, F.shrPincfgDrive, F.shrPincfgOeInit, F.shrPincfgInit, F.shrPincfgFilt] },
  { off := 0x22300, fields := [F.shrPinIn0] },
  { off := 0x22304, fields := [F.shrPinIn1] }]

/-- Registers from 0x24000 on. -/
def rows12a : List Row := [
  { off := 0x24000, fields := [F.gwCfgEn, F.gwCfgBankA, F.gwCfgBankB, F.gwCfgSel] },
  { off := 0x24004, fields := [F.gwStatHandover, F.gwStatActive] },
  { off := 0x24010, s1 := 0x4, n1 := 8, fields := [F.gwThrEn, F.gwThrLe, F.gwThrT, F.gwThrGroups] },
  { off := 0x24040, fields := [F.gwCntAddSel, F.gwCntAddAmount] },
  { off := 0x24080, sel := .copy, fields := [F.gwRidx] },
  { off := 0x24084, sel := .gwRem, fields := [F.gwRcfgEn, F.gwRcfgDbEn, F.gwRcfgDbBit, F.gwRcfgProtoLe, F.gwRcfgThr, F.gwRcfgWidth, F.gwRcfgPeriodMs] },
  { off := 0x24088, sel := .gwRem, fields := [F.gwRstatPending, F.gwRstatLost, F.gwRstatMissRun] },
  { off := 0x2408C, sel := .gwRem, fields := [F.gwRlastNs] },
  { off := 0x24090, fields := [F.gwRackInt, F.gwRackRemote] },
  { off := 0x24100, fields := [F.gwHwqAddrRemote, F.gwHwqAddrOfs] },
  { off := 0x24104, fields := [F.gwHwqDataWidth, F.gwHwqDataValue] },
  { off := 0x24108, fields := [F.gwHwqPush] },
  { off := 0x2410C, fields := [F.gwHwqStatLastSeq, F.gwHwqStatLevel] },
  { off := 0x24110, fields := [F.gwHwqDone] },
  { off := 0x24200, fields := [F.gwCExec] },
  { off := 0x24204, fields := [F.gwCBadEntry] },
  { off := 0x24208, fields := [F.gwCClamped] },
  { off := 0x2420C, fields := [F.gwCBackoff] },
  { off := 0x24210, fields := [F.gwCPassLate] },
  { off := 0x24214, fields := [F.gwCHwqDrop] },
  { off := 0x24218, fields := [F.gwCPollMissed] },
  { off := 0x2421C, fields := [F.gwCWriteFail] },
  { off := 0x24220, fields := [F.gwCBadMsg] },
  { off := 0x24224, fields := [F.gwCPolls] }]

/-- Registers from 0x28000 on. -/
def rows14a : List Row := [
  { off := 0x28000, fields := [F.owlCfgTpMs] },
  { off := 0x28004, fields := [F.owlStatusLocked, F.owlStatusAck, F.owlStatusNopw, F.owlStatusNopwDenOff, F.owlStatusCause] },
  { off := 0x28008, fields := [F.owlCauses] },
  { off := 0x2800C, fields := [F.owlCausesSeen] },
  { off := 0x28010, fields := [F.owlCtrlForceLock] },
  { off := 0x28020, s1 := 0x4, n1 := 4, fields := [F.owlOutEn, F.owlOutSrc, F.owlOutTw] },
  { off := 0x28030, fields := [F.owlDemand] },
  { off := 0x28034, fields := [F.owlOutStatRbB, F.owlOutStatRbA, F.owlOutStatArmed, F.owlOutStatEnergised] },
  { off := 0x28040, s1 := 0x4, n1 := 5, fields := [F.owlSupLoMv, F.owlSupHiMv] },
  { off := 0x28060, fields := [F.owlGuardReact] },
  { off := 0x28070, fields := [F.owlTwAck] },
  { off := 0x28074, fields := [F.owlTwStat] },
  { off := 0x28080, s1 := 0x8, n1 := 16, fields := [F.owlTwEn, F.owlTwLe, F.owlTwT, F.owlTwReact, F.owlTwMaxUs] },
  { off := 0x28084, s1 := 0x8, n1 := 16, fields := [F.owlTwMinUs] },
  { off := 0x28200, sel := .copy, fields := [F.owlCidx] },
  { off := 0x28204, sel := .owlConn, fields := [F.owlCCfgEn, F.owlCCfgMode, F.owlCCfgTstamp, F.owlCCfgReact, F.owlCCfgOutmask, F.owlCCfgAxis, F.owlCCfgDlen] },
  { off := 0x28208, sel := .owlConn, fields := [F.owlCId] },
  { off := 0x2820C, sel := .owlConn, fields := [F.owlCPosSyncN, F.owlCPosChkMax, F.owlCPosSeqWin, F.owlCPosOfs] },
  { off := 0x28210, sel := .owlConn, fields := [F.owlCPathSkewUs, F.owlCPathSingleMax, F.owlCPathPathB, F.owlCPathPathA] },
  { off := 0x28214, sel := .owlConn, fields := [F.owlCTexpLo] },
  { off := 0x28218, sel := .owlConn, fields := [F.owlCTexpHi] },
  { off := 0x2821C, sel := .owlConn, fields := [F.owlCBackstop] },
  { off := 0x28220, sel := .owlConn, fields := [F.owlCAge] },
  { off := 0x28240, sel := .owlConn, fields := [F.owlCStatState, F.owlCStatFault, F.owlCStatDegraded] },
  { off := 0x28244, sel := .owlConn, fields := [F.owlCSeq] },
  { off := 0x28248, sel := .owlConn, fields := [F.owlCAck] },
  { off := 0x28260, sel := .owlConn, fields := [F.owlCcAccepted] },
  { off := 0x28264, sel := .owlConn, fields := [F.owlCcChkFail] },
  { off := 0x28268, sel := .owlConn, fields := [F.owlCcLostMsg] },
  { off := 0x2826C, sel := .owlConn, fields := [F.owlCcStale] },
  { off := 0x28270, sel := .owlConn, fields := [F.owlCcSingle] },
  { off := 0x28274, sel := .owlConn, fields := [F.owlCcDup] },
  { off := 0x28278, sel := .owlConn, fields := [F.owlCcFails] },
  { off := 0x28300, fields := [F.owlLockUnlockErr] },
  { off := 0x28310, s1 := 0x4, n1 := 4, fields := [F.owlNonce] },
  { off := 0x28320, s1 := 0x4, n1 := 4, fields := [F.owlSalt] },
  { off := 0x28340, fields := [F.owlAuthCtrlGo, F.owlAuthCtrlReq] },
  { off := 0x28344, fields := [F.owlAuthStatReady, F.owlAuthStatBadToken] },
  { off := 0x28350, s1 := 0x4, n1 := 4, fields := [F.owlToken] },
  { off := 0x28360, s1 := 0x4, n1 := 4, fields := [F.owlAuthNonce] }]

/-- Registers from 0x28400 on. -/
def rows14b : List Row := [
  { off := 0x28400, fields := [F.owlLogSeq] },
  { off := 0x28410, s1 := 0x4, n1 := 12, fields := [F.owlLogHead] },
  { off := 0x28440, sel := .copy, fields := [F.owlLogIdx] },
  { off := 0x28480, s1 := 0x4, n1 := 32, sel := .owlLog, fields := [F.owlLogWin] }]

/-- Registers from 0x2C000 on. -/
def rows16a : List Row := [
  { off := 0x2C000, fields := [F.mbxHostifRate, F.mbxHostifWidth, F.mbxHostifLink, F.mbxHostifSel] },
  { off := 0x2C004, fields := [F.mbxWtag] },
  { off := 0x2C008, fields := [F.mbxLwinBase] },
  { off := 0x2C010, fields := [F.mbxD2hPend] },
  { off := 0x2C014, fields := [F.mbxD2hMask] },
  { off := 0x2C020, fields := [F.mbxH2dSet] },
  { off := 0x2C024, fields := [F.mbxH2dPend] },
  { off := 0x2C028, fields := [F.mbxH2dMask] },
  { off := 0x2C100, s1 := 0x20, n1 := 8, fields := [F.mbxPtrLo] },
  { off := 0x2C104, s1 := 0x20, n1 := 8, fields := [F.mbxPtrHi] },
  { off := 0x2C108, s1 := 0x20, n1 := 8, fields := [F.mbxPostSpace] },
  { off := 0x2C10C, s1 := 0x20, n1 := 8, fields := [F.mbxStatRefused, F.mbxStatState] },
  { off := 0x2C110, s1 := 0x20, n1 := 8, fields := [F.mbxAckTag, F.mbxAckCode] },
  { off := 0x2C200, fields := [F.mbxPwePopValid, F.mbxPwePopCause, F.mbxPwePopTag] },
  { off := 0x2C204, fields := [F.mbxPweTarget] },
  { off := 0x2C208, fields := [F.mbxPweInfoSpace, F.mbxPweInfoRemote, F.mbxPweInfoWidth] },
  { off := 0x2C20C, fields := [F.mbxPweNs] },
  { off := 0x2C210, fields := [F.mbxPweLevel] },
  { off := 0x2C214, fields := [F.mbxPweOvf] },
  { off := 0x2C218, fields := [F.mbxPweTotal] },
  { off := 0x2C300, fields := [F.mbxHtxAddrLo] },
  { off := 0x2C304, fields := [F.mbxHtxAddrHi] },
  { off := 0x2C308, fields := [F.mbxHtxLenSpace, F.mbxHtxLenClass, F.mbxHtxLenLen] },
  { off := 0x2C30C, fields := [F.mbxHtxPush] },
  { off := 0x2C310, fields := [F.mbxHtxLevel] },
  { off := 0x2C314, fields := [F.mbxHtxcPopValid, F.mbxHtxcPopEgress, F.mbxHtxcPopStatus, F.mbxHtxcPopTag] },
  { off := 0x2C400, fields := [F.mbxHrxBaseLo] },
  { off := 0x2C404, fields := [F.mbxHrxBaseHi] },
  { off := 0x2C408, fields := [F.mbxHrxCfgEn, F.mbxHrxCfgSpace, F.mbxHrxCfgEntries, F.mbxHrxCfgBufSize] },
  { off := 0x2C40C, fields := [F.mbxHrxProd] },
  { off := 0x2C410, fields := [F.mbxHrxCons] },
  { off := 0x2C414, fields := [F.mbxHrxToobig] }]

/-- Registers from 0x30000 on. -/
def rows18a : List Row := [
  { off := 0x30000, fields := [F.denStatusReady, F.denStatusSelftestFail, F.denStatusTrngFail] },
  { off := 0x30004, fields := [F.denOtpRevoked, F.denOtpEnrolled, F.denOtpJtagL2Dis, F.denOtpJtagDis, F.denOtpProfileLockEn, F.denOtpProfileLockSlot] },
  { off := 0x30008, fields := [F.denCfgTrngHost, F.denCfgJtagBlock] },
  { off := 0x30010, fields := [F.denRollbackLo] },
  { off := 0x30014, fields := [F.denRollbackHi] },
  { off := 0x30018, fields := [F.denRollbackLeft] },
  { off := 0x30020, sel := .copy, fields := [F.denKidx] },
  { off := 0x30030, s1 := 0x4, n1 := 12, sel := .key, fields := [F.denKhash] },
  { off := 0x30080, fields := [F.denBootCauseB, F.denBootCauseA, F.denBootSrc, F.denBootCopy, F.denBootSlot] },
  { off := 0x30084, fields := [F.denProfPins] },
  { off := 0x300C0, s1 := 0x4, n1 := 12, fields := [F.denBundleHash] },
  { off := 0x30100, fields := [F.denJtagLevel] },
  { off := 0x30110, fields := [F.denTrng] },
  { off := 0x30120, fields := [F.denSigFail] },
  { off := 0x30124, fields := [F.denJtagFail] }]

/-- Registers from 0x34000 on. -/
def rows1Aa : List Row := [
  { off := 0x34000, s1 := 0x4, n1 := 32, fields := [F.memBankOwnPend, F.memBankOwnClearing, F.memBankOwnRefusedWr, F.memBankOwnClear, F.memBankOwnOwner] },
  { off := 0x34080, s1 := 0x4, n1 := 32, fields := [F.memSettMap] },
  { off := 0x34100, fields := [F.memSettSpares] },
  { off := 0x34110, fields := [F.memScrubEn, F.memScrubPeriodS] },
  { off := 0x34114, fields := [F.memScrubStatLate] },
  { off := 0x34120, fields := [F.memUePopValid, F.memUePopTarget, F.memUePopUnit, F.memUePopWord] },
  { off := 0x34130, fields := [F.memRefusePopValid, F.memRefusePopWr, F.memRefusePopReq, F.memRefusePopBank, F.memRefusePopOffset] },
  { off := 0x34140, fields := [F.memMbistStatBusy, F.memMbistStatMode, F.memMbistStatUnit, F.memMbistStatTarget] },
  { off := 0x34144, fields := [F.memMbistFailLo] },
  { off := 0x34148, fields := [F.memMbistFailHi] },
  { off := 0x34200, fields := [F.memCCeSett] },
  { off := 0x34204, fields := [F.memCCeCram] },
  { off := 0x34208, fields := [F.memCCeImg] },
  { off := 0x3420C, fields := [F.memCCeFlow] },
  { off := 0x34210, fields := [F.memCUeTotal] },
  { off := 0x34214, fields := [F.memCRefused] },
  { off := 0x34218, fields := [F.memCScrubPasses] },
  { off := 0x3421C, fields := [F.memCSettUeTx] },
  { off := 0x34220, fields := [F.memCScrubFixed] }]

/-- Registers from 0x38000 on. -/
def rows1Ca : List Row := [
  { off := 0x38000, fields := [F.evtCfgMaxMs, F.evtCfgHoldUs] },
  { off := 0x38004, fields := [F.evtCtrlFlush] },
  { off := 0x38008, fields := [F.evtStatusOpen, F.evtStatusLevel] },
  { off := 0x38010, s1 := 0x4, n1 := 6, fields := [F.evtThrAuto, F.evtThrCount, F.evtThrWindowMs] },
  { off := 0x38030, s1 := 0x4, n1 := 4, fields := [F.evtMask] },
  { off := 0x38040, fields := [F.evtPopValid, F.evtPopEarly, F.evtPopSat, F.evtPopCause, F.evtPopCount] },
  { off := 0x38044, fields := [F.evtSubjSubject, F.evtSubjPartner] },
  { off := 0x38048, fields := [F.evtDetail] },
  { off := 0x3804C, fields := [F.evtFirstNs] },
  { off := 0x38050, fields := [F.evtFirstSec] },
  { off := 0x38054, fields := [F.evtLastNs] },
  { off := 0x38058, fields := [F.evtLastSec] },
  { off := 0x38080, sel := .copy, fields := [F.evtChselKind, F.evtChselNumber] },
  { off := 0x38084, sel := .chan, fields := [F.evtChstatRetired, F.evtChstatPermSeen, F.evtChstatCause, F.evtChstatInWindow] },
  { off := 0x38088, sel := .chan, fields := [F.evtChfaults] },
  { off := 0x38100, s1 := 0x8, n1 := 6, fields := [F.evtRetLo] },
  { off := 0x38104, s1 := 0x8, n1 := 6, fields := [F.evtRetHi] },
  { off := 0x38200, fields := [F.evtCEvents] },
  { off := 0x38204, fields := [F.evtCRecords] },
  { off := 0x38208, fields := [F.evtCEvtLost] },
  { off := 0x3820C, fields := [F.evtCInLost] },
  { off := 0x38210, fields := [F.evtCEarlyCnt] },
  { off := 0x38214, fields := [F.evtCHlogWrites] },
  { off := 0x38218, fields := [F.evtCHlogFailCnt] },
  { off := 0x3821C, fields := [F.evtCRetirements] }]

/-- Registers from 0x40000 on. -/
def rows20a : List Row := [
  { off := 0x40000, s1 := 0x2000, n1 := 18, sel := .foxPhys, fields := [F.foxIdRole, F.foxIdCluster, F.foxIdPhys, F.foxIdLogical] },
  { off := 0x40004, s1 := 0x2000, n1 := 18, sel := .foxEng, fields := [F.foxStatusFstep, F.foxStatusRunning, F.foxStatusState] },
  { off := 0x40008, s1 := 0x2000, n1 := 18, s2 := 0x4, n2 := 2, sel := .foxEng, fields := [F.foxSewinSize, F.foxSewinBase] },
  { off := 0x40010, s1 := 0x2000, n1 := 18, sel := .foxEng, fields := [F.foxShbind] },
  { off := 0x40014, s1 := 0x2000, n1 := 18, sel := .foxEng, fields := [F.foxCycles] },
  { off := 0x40018, s1 := 0x2000, n1 := 18, sel := .foxEng, fields := [F.foxEccCe] },
  { off := 0x40100, s1 := 0x2000, n1 := 18, s2 := 0x40, n2 := 4, sel := .foxThr, fields := [F.foxTTcfgEn, F.foxTTcfgPriv, F.foxTTcfgSafety, F.foxTTcfgStartPc] },
  { off := 0x40104, s1 := 0x2000, n1 := 18, s2 := 0x40, n2 := 4, sel := .foxThr, fields := [F.foxTTstatState, F.foxTTstatTm, F.foxTTstatPc] },
  { off := 0x40108, s1 := 0x2000, n1 := 18, s2 := 0x40, n2 := 4, sel := .foxThr, fields := [F.foxTTrapCause, F.foxTTrapPc] },
  { off := 0x4010C, s1 := 0x2000, n1 := 18, s2 := 0x40, n2 := 4, sel := .foxThr, fields := [F.foxTTrapCnt] },
  { off := 0x40110, s1 := 0x2000, n1 := 18, s2 := 0x40, n2 := 4, sel := .foxThr, fields := [F.foxTWdgEn, F.foxTWdgIntervalUs] },
  { off := 0x40114, s1 := 0x2000, n1 := 18, s2 := 0x40, n2 := 4, sel := .foxThr, fields := [F.foxTWakeOvr] },
  { off := 0x40118, s1 := 0x2000, n1 := 18, s2 := 0x40, n2 := 4, sel := .foxThr, fields := [F.foxTSigOvr] },
  { off := 0x4011C, s1 := 0x2000, n1 := 18, s2 := 0x40, n2 := 4, sel := .foxThr, fields := [F.foxTEvp] },
  { off := 0x40120, s1 := 0x2000, n1 := 18, s2 := 0x40, n2 := 4, sel := .foxThr, fields := [F.foxTEvm] },
  { off := 0x40124, s1 := 0x2000, n1 := 18, s2 := 0x40, n2 := 4, sel := .foxThr, fields := [F.foxTDbmask] },
  { off := 0x40128, s1 := 0x2000, n1 := 18, s2 := 0x40, n2 := 4, sel := .foxThr, fields := [F.foxTIssued] },
  { off := 0x41F00, s1 := 0x2000, n1 := 18, s2 := 0x4, n2 := 16, sel := .foxMap, fields := [F.foxMapValid, F.foxMapPhys] },
  { off := 0x41F40, s1 := 0x2000, n1 := 18, sel := .foxMap, fields := [F.foxSpares] },
  { off := 0x41F44, s1 := 0x2000, n1 := 18, sel := .foxMap, fields := [F.foxRetired] }]

/-- Every register of BAR0. -/
def regRows : List Row :=
  rows00a ++ rows01a ++ rows02a ++ rows02b ++ rows02c ++ rows04a ++ rows05a ++ rows06a ++ rows06b ++ rows08a ++ rows0Ca ++ rows0Ea ++ rows0Eb ++ rows10a ++ rows11a ++ rows12a ++ rows14a ++ rows14b ++ rows16a ++ rows18a ++ rows1Aa ++ rows1Ca ++ rows20a

end Sys2Proof.Machine
end

