-- ==== Sys2Proof/Machine/Image.lean ====
section
/-!
DEFINITION. Flow contexts, Image RAM, commits, leases and the counter snapshot (07_flows_and_image.md), and host writes
of BAR2 (R617).
Assumption log: 40, 41, 42, 43, 44, 75.
-/
namespace Sys2Proof.Machine

/-! ## Flow contexts -/

/-- The instances at which an S field of width 1 is active. -/
def State.activeAt (s : State) (f : Field) : List Nat :=
  (s.actv.filter (fun e => e.1 / 1048576 == f.id && e.2 != 0)).map (fun e => e.1 % 1048576)
/-- The open flow contexts, ascending (active OPEN). -/
def State.openFlows (s : State) : List Nat := s.activeAt F.flowCtrlOpen
/-- The Image RAM segment of a context: offset and length, at most 65,536 bytes (FLOW_SEG_LEN). -/
def State.seg (s : State) (x : Nat) : Nat × Nat := (s.act F.flowSegOfs x, min (s.act F.flowSegLen x) 65536)
/-- Whether an image offset lies in an open segment whose DIR is OUT or BOTH (R255). -/
def State.inOut (s : State) (a : Nat) : Bool :=
  s.openFlows.any (fun x => decide (2 ≤ s.act F.flowCtrlDir x) &&
    decide ((s.seg x).1 ≤ a) && decide (a < (s.seg x).1 + (s.seg x).2))
/-- Whether a context is bound to a logical engine (R247). -/
def State.bound (s : State) (x le : Nat) : Bool := s.on F.flowCtrlOpen x && s.act F.flowCtrlEngine x == le
/-- Bytes 0x60-0xFF of a context. -/
def State.flowByte (s : State) (x b : Nat) : Byte := SMap.get 0 s.flowMem (x * 256 + b)
def State.setFlowByte (s : State) (x b : Nat) (v : Byte) : State := { s with flowMem := SMap.set 0 s.flowMem (x * 256 + b) v }
/-- The staleness timer of a context, and whether it exists (R253). -/
def tmStale (x : Nat) : Nat := tmKey 6 x
def State.staleTimer (s : State) (x : Nat) : Bool := s.on F.flowCtrlOpen x && s.on F.flowTmoTmoEn x && s.on F.flowCtrlMatchEn x

/-- A staleness timer reaches TMO_US (R253). -/
def execFlowStale (x : Fin 1024) (s : State) : Out :=
  .next (if s.staleTimer x && s.tmPast (tmStale x) (s.act F.flowTmoTmoUs x * 1000) then
      (((s.put F.flowStatStale x 1).put F.flowStatEverStale x 1).tmStop (tmStale x)).raise 0x08 0 x.val
    else s)

/-! ## Image RAM versions (R258-R260, R267) -/

/-- A byte of the back image: the BACK slot, else CUR. -/
def State.backByte (s : State) (a : Nat) : Byte :=
  if SMap.get false s.backBlk (a / 64) then SMap.get 0 s.imgBack a else SMap.get 0 s.imgCur a
/-- A byte of the host's read view: the leased version while a lease is open, else the current one (R267). -/
def State.viewByte (s : State) (a : Nat) : Byte :=
  if s.get F.imgLeaseStatOpen != 0 && SMap.get false s.leaseBlk (a / 64) then SMap.get 0 s.imgLease a
  else SMap.get 0 s.imgCur a
/-- The mark of an image word of 8 bytes in a version: 0 BACK, 1 CUR, 2 LEASED. -/
def State.imgMarked (s : State) (v w : Nat) : Bool := s.marked 2 (2 * v + w / 65536) (w % 65536)
def State.setImgMark (s : State) (v w : Nat) (b : Bool) : State := s.setMark 2 (2 * v + w / 65536) (w % 65536) b
/-- The marks of a block's words go from one version to another. -/
def State.moveMarks (s : State) (b src dst : Nat) : State :=
  s.each (List.range 8) (fun s i => s.setImgMark dst (8 * b + i) (s.imgMarked src (8 * b + i)))
/-- The block of `a` gets a BACK slot with the bytes of CUR, if it has none (R258). -/
def State.openBack (s : State) (a : Nat) : State :=
  let b := a / 64
  if SMap.get false s.backBlk b then s
  else State.moveMarks { s with backBlk := SMap.set false s.backBlk b true,
                                imgBack := SMap.fill 0 s.imgBack (b * 64) (SMap.slice 0 s.imgCur (b * 64) 64) } b 1 0
/-- Writing a byte of the back image. -/
def State.setBack (s : State) (a : Nat) (v : Byte) : State :=
  let s := s.openBack a
  { s with imgBack := SMap.set 0 s.imgBack a v }
/-- Writing bytes of the back image; a word that the write covers whole loses its mark. -/
def State.putBack (s : State) (a : Nat) (l : List Byte) : State :=
  let s := s.each (List.range l.length) (fun s j => s.setBack (a + j) (l.getD j 0))
  s.each ((List.range ((l.length + 7) / 8)).filter (fun i => decide (((a + 7) / 8 + i) * 8 + 8 ≤ a + l.length)))
    (fun s i => s.setImgMark 0 ((a + 7) / 8 + i) false)

/-- One block at a commit edge (R260): BACK becomes CUR; the old CUR becomes LEASED when it holds the leased epoch. -/
def State.commitBlk (s : State) (b : Nat) : State :=
  let old := SMap.slice 0 s.imgCur (b * 64) 64
  let new := SMap.slice 0 s.imgBack (b * 64) 64
  let s := if s.get F.imgLeaseStatOpen != 0 && !SMap.get false s.leaseBlk b then
      State.moveMarks { s with leaseBlk := SMap.set false s.leaseBlk b true, imgLease := SMap.fill 0 s.imgLease (b * 64) old } b 1 2
    else s
  State.moveMarks { s with imgCur := SMap.fill 0 s.imgCur (b * 64) new } b 0 1

/-- An engine that must stop begins to stop; one in migration stops after it (R123, R129). -/
def State.stopping (s : State) (le : Nat) : State :=
  if s.get F.foxStatusState le = 2 then s.put F.foxStatusState le 3
  else if s.get F.foxStatusState le = 4 && (s.eng le).was = 2 then s.setEng le { s.eng le with was := 3 }
  else s
/-- The engines of a mask that run, and those that must be waited for: running, stopping or in migration. -/
def State.running (s : State) (m : Nat) : Nat := maskOf ((bitsOf m 16).filter (fun e =>
  s.get F.foxStatusState e == 2 || (s.get F.foxStatusState e == 4 && (s.eng e).was == 2)))
/-- The commit edge at which a profile switch breaks: every engine begins to stop (R548). -/
def State.switchCut (s : State) : State :=
  match s.switch with
  | some w =>
    if w.stage = .commit then
      let w := { w with stage := .stop, cutAt := s.up, epoch := s.get F.imgEpoch, ran := s.running w.stops }
      State.each { s with switch := some w } (bitsOf w.stops 16) State.stopping
    else s
  | none => s
/-- The counters of R270. -/
def counterIds : List Nat := ((regRows.flatMap (·.fields)).filter (·.counter)).map (·.id)
/-- The counters are copied into their holds, and restart with CLEAR = 1: before the events of the snapshot edge (R272). -/
def State.snapCopy (s : State) : State :=
  { s with held := s.live,
           live := if s.snapClr then s.live.filter (fun e => !counterIds.contains (e.1 / 1048576)) else s.live }
/-- A snapshot that waits for a commit copies the counters as its commit edge comes (R271, R272). -/
def State.snapCommit (s : State) : State :=
  if s.get F.imgCsnapStatPending != 0 && s.snapWhn && !s.snapDue then { s.snapCopy with snapDue := true } else s
/-- The commit edge (R260, R261): a pending APPLY that waits for a commit falls due, and so does the break of a profile
switch. -/
def State.commit (s : State) : State :=
  let s := s.each ((s.backBlk.map (·.1)).filter (fun b => SMap.get false s.backBlk b)) State.commitBlk
  let s := { s with backBlk := [], imgBack := [] }
  let s := (s.incWrap F.imgEpoch).incWrap F.imgCommits
  State.switchCut { s with apply := s.apply.map (fun r => if r.whn = 2 then { r with due := true } else r) }

/-- A request for a commit on the next commit edge (R261). -/
def State.askCommit (s : State) : State := { s with commitReq := s.commitReq + 1 }
/-- A write of 1 to COMMIT_NOW. -/
def execCommitNow (s : State) : Out := .next (s.hostWr (s.domOn .core) 0x0A004 State.askCommit)
/-! ## Leases (R264-R267) -/

/-- Every LEASED slot becomes free. -/
def State.freeLeased (s : State) : State :=
  { s with leaseBlk := [], imgLease := [], poison := s.poison.filter (fun e => e.1 / 65536 != 132 && e.1 / 65536 != 133) }
/-- A write of T to IMG_LEASE_OPEN (R264, R265). -/
def State.leaseOpen (s : State) (v : Nat) : State :=
  let t := v % 2 ^ 14
  if t = 0 then s.put F.imgLeaseStatZero 0 1
  else
    let s := ((s.freeLeased.put F.imgLeaseStatOpen 0 1).put F.imgLeaseStatEpoch 0 (s.get F.imgEpoch)).put F.imgLeaseStatExpired 0 0
    { s with leaseNs := min t 10000 * 1000000, leaseExp := false }
/-- Closing the lease (R267). -/
def State.leaseClose (s : State) : State :=
  if s.get F.imgLeaseStatOpen = 0 then s else { s.freeLeased.put F.imgLeaseStatOpen 0 0 with leaseNs := 0, leaseExp := false }
def execImgLeaseOpen (v : W32) (s : State) : Out := .next (s.hostWr (s.domOn .core) 0x0A020 (·.leaseOpen v.toNat))
def execImgLeaseClose (s : State) : Out := .next (s.hostWr (s.domOn .core) 0x0A024 State.leaseClose)
/-- The lease timer reaches 0 (R267): EXPIRED and doorbell bit 29. -/
def execLeaseExpire (s : State) : Out :=
  .next (if s.get F.imgLeaseStatOpen = 0 ∨ s.leaseNs ≠ 0 then s else State.doorbell (({ s.leaseClose with leaseExp := true } : State).put F.imgLeaseStatExpired 0 1) 29)

/-! ## Counter snapshot (R270-R273) -/


/-- A snapshot request under WHEN and CLEAR (R271): one that is pending keeps its own. -/
def State.snapGo (s : State) (whn clear : Bool) : State :=
  let s := (s.put F.imgCsnapCtrlWhen 0 whn.toNat).put F.imgCsnapCtrlClear 0 clear.toNat
  if s.get F.imgCsnapStatPending ≠ 0 ∨ s.get F.imgCsnapStatHeld ≠ 0 then s.put F.imgCsnapStatBusy 0 1
  else { s.put F.imgCsnapStatPending 0 1 with snapDue := false, snapWhn := whn, snapClr := clear }
/-- RELEASE (R272). -/
def State.snapRelease (s : State) : State :=
  if s.get F.imgCsnapStatHeld = 0 then s else { s.put F.imgCsnapStatHeld 0 0 with held := [] }
/-- CANCEL of a pending snapshot (R271). -/
def State.snapCancel (s : State) : State := { s.put F.imgCsnapStatPending 0 0 with snapDue := false }
def execCsnapGo (whn clear : Bool) (s : State) : Out := .next (s.hostWr (s.domOn .core) 0x0A200 (·.snapGo whn clear))
def execCsnapRelease (s : State) : Out := .next (s.hostWr (s.domOn .core) 0x0A200 State.snapRelease)

/-- The snapshot edge of a pending request (R271, R272): the counters are copied, with WHEN = 1 as its commit came. Nothing
when none is pending or its commit has not come. -/
def State.snapEdge (s : State) : State :=
  if s.get F.imgCsnapStatPending = 0 ∨ (s.snapWhn ∧ !s.snapDue) then s
  else
    let s := if s.snapWhn then { s with snapDue := false } else s.snapCopy
    let s := (s.put F.imgCsnapStatPending 0 0).put F.imgCsnapStatHeld 0 1
    ((s.put F.imgCsnapStatEpoch 0 (s.get F.imgEpoch)).put F.imgCsnapNs 0 s.time.ns).put F.imgCsnapSecLo 0 s.time.sec

/-! ## Common RAM ownership and host writes of BAR2 (R561-R564, R617) -/

/-- The owner code of the bank of a Common RAM address; 31 for a retired bank (R564). -/
def State.bankOwner (s : State) (a : Nat) : Nat :=
  if s.retired 3 (a / 65536) then 31 else s.get F.memBankOwnOwner (a / 65536)
/-- The first of `n` Common RAM bytes from `a` on that a requester does not own. -/
def State.refusedAt (s : State) (owns : Nat → Bool) (a n : Nat) : Option Nat :=
  ((List.range n).map (a + ·)).find? (fun x => !owns (s.bankOwner x))
/-- Whether the host owns every byte. -/
def State.hostOwns (s : State) (a n : Nat) : Bool := decide (a + n ≤ 0x200000) && (s.refusedAt (· == 16) a n).isNone

/-- Whether the bank of an address is being cleared at its handover (R563). -/
def State.clearing (s : State) (a : Nat) : Bool := s.get F.memBankOwnClearing (a / 65536) != 0
/-- A permitted host write of Common RAM: it waits while a bank it touches is being cleared. -/
def State.hostPut (s : State) (a : Nat) (l : List Byte) : State :=
  if (List.range l.length).any (fun j => s.clearing (a + j)) then
    { s with waitWr := s.waitWr ++ (List.range l.length).map (fun j => (a + j, l.getD j 0)) }
  else s.putCram a l
/-- A Common RAM byte as a read with the host's rights shows it: what a clearing and the writes waiting for it will leave
(R563), zero in a word marked uncorrectable (R559). -/
def State.hostCram (s : State) (a : Nat) : Byte :=
  if s.clearing a then (match s.waitWr.reverse.find? (fun p => p.1 == a) with | some p => p.2 | none => 0)
  else if s.marked 1 (a / 65536) (a % 65536 / 8) then 0
  else SMap.get 0 s.cram a

/-- A host write of BAR2 (R617, R255, R562): refused as a whole and logged, or written. -/
def State.bar2Write (s : State) (a : Nat) (l : List Byte) : State :=
  if !s.domOn .host || l.isEmpty then s
  else if a < 0x200000 then
    match s.refusedAt (· == 16) a l.length with
    | some x => (s.logRefuse true 16 x).logPwe 3 a 1 (min l.length 4)
    | none => s.hostPut a l
  else if 0x400000 ≤ a ∧ a < 0x500000 then s.logPwe 4 a 1 (min l.length 4)
  else if 0x800000 ≤ a ∧ a < 0x900000 then
    if ((List.range l.length).all (fun j => s.inOut (a - 0x800000 + j))) then s.putBack (a - 0x800000) l
    else (s.inc F.imgStageRefused).logPwe 2 a 1 (min l.length 4)
  else s
/-- The merge read of a Common RAM write that covers the word of `a` only in part found an uncorrectable error: the new
bytes are written and the word is marked poisoned (R558, R559). -/
def State.mergeUe (s : State) (a : Nat) : State :=
  (s.memUe 1 (a / 65536) (a % 65536 / 8) (some (3, a / 65536))).setMark 1 (a / 65536) (a % 65536 / 8) true
/-- A host read of BAR2 (R617): no side effect; bytes the host may not read are zero (R562). -/
def State.bar2Byte (s : State) (a : Nat) : Byte :=
  if a < 0x200000 then (if s.bankOwner a = 16 then s.hostCram a else 0)
  else if 0x400000 ≤ a ∧ a < 0x500000 then
    let o := a - 0x400000
    let v := if s.get F.imgLeaseStatOpen != 0 && SMap.get false s.leaseBlk (o / 64) then 2 else 1
    if s.imgMarked v (o / 8) then 0 else s.viewByte o
  else if 0x800000 ≤ a ∧ a < 0x900000 then
    let o := a - 0x800000
    if s.imgMarked (if SMap.get false s.backBlk (o / 64) then 0 else 1) (o / 8) then 0 else s.backByte o
  else 0
/-- A host read of `n` bytes of BAR2: the data, and a refused read of Common RAM in the log. -/
def State.bar2Read (s : State) (a n : Nat) : State :=
  let s' := match s.refusedAt (· == 16) a (min n (0x200000 - a)) with
    | some x => s.logRefuse false 16 x
    | none => s
  { s' with rdata := (List.range n).map (fun j => (s.bar2Byte (a + j)).toNat) }

end Sys2Proof.Machine
end

