-- ==== Sys2Proof/Machine/Fabric.lean ====
section
/-!
DEFINITION. The switch fabric and Sett (06_switch_fabric.md): parsing, lookup, buffer accounting, the verdict, the
queues of the two stages, drops, completions and mirroring, as operations the ports and engines use.
Assumption log: 10, 15, 22, 45, 47, 48, 89.
-/
namespace Sys2Proof.Machine

/-! ## Parsing (R202, R654, R211) -/

/-- The header fields the parser finds in the parse window. -/
structure Hdr where
  da : Nat
  sa : Nat
  tagged : Bool
  vid : Nat
  pcp : Nat
  etype : Nat
  deriving DecidableEq, Repr

/-- Two bytes in network order at an offset. -/
def be16 (l : List Byte) (a : Nat) : Nat := (l.getD a 0).toNat * 256 + (l.getD (a + 1) 0).toNat
/-- Whether two bytes are a VLAN tag protocol identifier (R654). -/
def isTpid (x : Nat) : Bool := x == 0x8100 || x == 0x88A8

/-- Parsing up to two VLAN tags and the EtherType (R654). -/
def parseHdr (l : List Byte) : Hdr :=
  let t1 := isTpid (be16 l 12)
  let t2 := t1 && isTpid (be16 l 16)
  { da := beBytes (l.take 6), sa := beBytes ((l.drop 6).take 6), tagged := t1,
    vid := if t1 then be16 l 14 % 4096 else 0, pcp := if t1 then be16 l 14 / 8192 else 0,
    etype := be16 l (if t2 then 20 else if t1 then 16 else 12) }

/-- The flow hash of a header (R211). -/
def flowHash (seed : Nat) (h : Hdr) : Nat :=
  [h.da / 2 ^ 24, h.da % 2 ^ 24, h.sa / 2 ^ 24, h.sa % 2 ^ 24, h.vid, h.etype].foldl hashStep seed

/-! ## Flow match and forwarding database (R250, R208-R210) -/

/-- Whether a context matches a frame of input `i` (R250). -/
def State.flowHit (s : State) (i : Nat) (h : Hdr) (l : List Byte) (x : Nat) : Bool :=
  s.on F.flowCtrlMatchEn x && hasBit (s.act F.flowInports x) i &&
  (!s.on F.flowDaHiDaEn x || h.da == s.act F.flowDaLo x + 2 ^ 32 * s.act F.flowDaHiDa x) &&
  (!s.on F.flowVidVidEn x || (h.tagged && h.vid == s.act F.flowVidVid x)) &&
  (!s.on F.flowEtypeEtypeEn x || h.etype == s.act F.flowEtypeEtype x) &&
  (!s.on F.flowTagcfgTagEn x ||
    (let o := s.act F.flowTagcfgTagOfs x
     decide (o + 4 ≤ l.length) &&
     Nat.land (beBytes ((l.drop o).take 4)) (s.act F.flowTagMask x) == Nat.land (s.act F.flowTag x) (s.act F.flowTagMask x)))

/-- The flow a frame matches: the lowest open context. -/
def State.flowMatch (s : State) (i : Nat) (h : Hdr) (l : List Byte) : Option Nat :=
  s.openFlows.find? (s.flowHit i h l)

/-- The FDB entry a frame matches: the lowest valid entry (R208). -/
def State.fdbMatch (s : State) (h : Hdr) : Option Nat :=
  (s.activeAt F.swFdbCtrlValid).find? (fun e =>
    h.da == s.act F.swFdbDaLo e + 2 ^ 32 * s.act F.swFdbDaHi e &&
    (s.on F.swFdbCtrlAnyVid e || (h.tagged && h.vid == s.act F.swFdbCtrlVid e)))

/-- What the lookup gives a frame. -/
structure Look where
  targets : List Nat
  cls : Nat
  flow : Option Nat := none
  aon : Bool := false
  dl : Nat := 0
  deriving DecidableEq, Repr

/-- Class by PCP or DEF_CLASS of the input, unless a push gives one (R210, 3-5). -/
def State.portClass (s : State) (i : Nat) (h : Hdr) (push : Option Nat) : Nat :=
  match push with
  | some c => c
  | none => if s.on F.swPCfgPcpEn i && h.tagged then bitsAt (s.act F.swPPcpmap i) (3 * h.pcp) 3 else s.act F.swPCfgDefClass i

/-- Lookup of a frame of input `i` (R208-R210): targets without the input itself. -/
def State.lookup (s : State) (i : Nat) (h : Hdr) (l : List Byte) (push : Option Nat) : Look :=
  match s.flowMatch i h l with
  | some x => { targets := (bitsOf (s.act F.flowTargets x) 32).filter (· != i), cls := s.act F.flowCtrlClass x, flow := some x }
  | none =>
    match s.fdbMatch h with
    | some e =>
      { targets := (bitsOf (s.act F.swFdbPorts e) 32).filter (· != i),
        cls := if s.on F.swFdbCtrlClassOvr e then s.act F.swFdbCtrlClass e else s.portClass i h push,
        aon := s.on F.swFdbCtrlAon e, dl := s.act F.swFdbAonDl e }
    | none =>
      { targets := if s.on F.swPCfgMiss i && s.act F.swPCfgDefPort i != i then [s.act F.swPCfgDefPort i] else [],
        cls := s.portClass i h push }

/-! ## Ports -/

/-- The maximum frame of a fabric port (R206, R330, Table 1-2). -/
def State.maxFrame (s : State) (p : Nat) : Nat :=
  if p < 8 then s.act F.ethMaxlen p else if p < 12 then s.act F.t1sMaxlen (p - 8) else 9600
/-- Whether a port is up; internal ports always are (R238, R240). -/
def State.linkUp (s : State) (p : Nat) : Bool := decide (14 ≤ p) || s.get F.swPStatLinkUp p != 0

/-- Cells of a frame of `n` bytes (R224). -/
def cellsFor (n : Nat) : Nat := max 1 ((n + 255) / 256)
/-- All cells a frame holds. -/
def Frame.cells (f : Frame) : Nat := f.cShared + f.cRes + f.cStage

/-- Whether the frame waits at output `o` in a class of the group of `c` (R229). -/
def sameGroup (c d : Nat) : Bool := if c ≤ 5 then decide (d ≤ 5) else c == d
/-- Cells that frames other than `h` have queued at an output in the class group of `c`. -/
def State.queued (s : State) (h o c : Nat) : Nat :=
  (s.frames.filter (fun e => e.1 != h && e.2.todo.contains o && SMap.get 0 s.txing o != e.1 && sameGroup c e.2.cls)).foldl
    (fun n e => n + cellsFor e.2.len) 0
/-- Cells queued at an output in all classes (STAT.QCELLS). -/
def State.queuedAll (s : State) (o : Nat) : Nat :=
  (s.frames.filter (fun e => e.2.todo.contains o && SMap.get 0 s.txing o != e.1)).foldl (fun n e => n + cellsFor e.2.len) 0
/-- The limit of a class group at an output (R229). -/
def State.qmax (s : State) (o c : Nat) : Nat :=
  if c = 7 then s.act F.swPQmaxSched o else if c = 6 then s.act F.swPQmaxSafe o else s.act F.swPQmaxBe o

/-! ## Cells (R226-R229) -/

/-- Use of the shared ingress pool by all inputs. -/
def State.sharedUse (s : State) : Nat := (List.range 14).foldl (fun n i => n + s.get F.swPUseShared i) 0
/-- Cells of an external frame of `n` cells at input `i` that find room (R227): to S, then to the reserve. -/
def State.charge (s : State) (i n : Nat) : Nat × Nat :=
  let sh := min n (min (s.act F.swPShcap i - s.get F.swPUseShared i) (s.get F.swShared - s.sharedUse))
  (sh, min (n - sh) (s.act F.swPRes i - s.get F.swPUseRes i))

/-- A port of FP0-FP13. -/
def State.port (s : State) (p : Nat) : Port := SMap.get {} s.ports p
def State.setPort (s : State) (p : Nat) (x : Port) : State := { s with ports := SMap.set {} s.ports p x }
def State.updPort (s : State) (p : Nat) (g : Port → Port) : State := s.setPort p (g (s.port p))
/-- The wake time of a port in ns (R345). -/
def State.wakeNs (s : State) (n : Nat) : Nat :=
  max (s.get F.ethEeeTw n) (if s.get F.ethStatusSpeed n = 2 then 16500 else 30000)
/-- Transmit LPI ends (R344, R345): the wake time in use is taken anew and its duration counted. -/
def State.lpiExit (s : State) (n : Nat) : State :=
  if s.get F.ethStatusLpiTx n = 0 then s
  else ((s.put F.ethStatusLpiTx n 0).put F.ethTwAct n (s.wakeNs n)).inc F.ethCLpiTxUs n ((s.up - (s.port n).lpiAt) / 1000)

/-- The bytes of a PAUSE frame (R341): DA, SA, EtherType, opcode, quanta, padding, FCS. -/
def State.pauseBytes (s : State) (n q : Nat) : List Byte :=
  let l := toBe 0x0180C2000001 6 ++ toBe (s.act F.ethSaLo n + 2 ^ 32 * s.act F.ethSaHi n) 6 ++ toBe 0x8808 2 ++ toBe 1 2 ++
    toBe q 2 ++ List.replicate 42 0
  l ++ toLe (crc32 l) 4
/-- The timer between repeated PAUSE frames (R341). -/
def tmPause (n : Nat) : Nat := tmKey 8 n
/-- A waiting PAUSE frame leaves when no frame is in progress, ahead of every class; it ends LPI and counts as a frame the MAC
starts (R341, R344). -/
def State.pauseGo (s : State) (n : Nat) : State :=
  match (s.port n).pauseDue with
  | none => s
  | some q =>
    if SMap.get 0 s.txing n != 0 then s
    else
      let s := (((s.lpiExit n).inc F.ethCTxPause n).inc F.ethCTxFrames n).inc F.ethCTxOctets n 64
      (s.updPort n (fun x => { x with pauseDue := none, pauseSent := some q, pauseWire := s.pauseBytes n q })).tmStart (tmPause n)
/-- Port Pn sends a PAUSE frame with the quanta that assert or release flow control (R341). -/
def State.flowCtl (s : State) (n : Nat) (on : Bool) : State :=
  if n < 8 ∧ s.on F.ethFcTxPauseEn n ∧ s.get F.ethStatusTxPause n ≠ 0 ∧ s.get F.ethStatusFd n ≠ 0 ∧ s.get F.ethStatusLink n ≠ 0 then
    (s.updPort n (fun x => { x with pauseDue := some (if on then s.act F.ethFcQuanta n else 0) })).pauseGo n
  else s

/-- Taking cells of an external input; RES_ENTER and RES_ACTIVE when the reserve use rises from 0. -/
def State.takeExt (s : State) (i : Nat) (c : Nat × Nat) : State :=
  let r := s.get F.swPUseRes i
  let s := (s.put F.swPUseShared i (s.get F.swPUseShared i + c.1)).put F.swPUseRes i (r + c.2)
  let s := s.put F.swCellsFree 0 (s.get F.swCellsFree - (c.1 + c.2))
  if r = 0 ∧ c.2 ≠ 0 then ((s.inc F.swCResEnter i).put F.swPStatResActive i 1).flowCtl i true else s

/-- The staging share of an internal source (R228): 0-15 LEn, 16 host, 17 supervisor. -/
def State.stageCap (s : State) (k : Nat) : Nat :=
  if k < 16 then s.act F.swStage k else if k = 16 then s.act F.swStageHost else s.act F.swStageSup
def State.stageUse (s : State) (k : Nat) : Nat := SMap.get 0 s.stage k
def State.stageTake (s : State) (k n : Nat) : State :=
  { s with stage := SMap.set 0 s.stage k (s.stageUse k + n) }.put F.swCellsFree 0 (s.get F.swCellsFree - n)

/-- The cells of a frame go back to the partitions that hold them (R227, R229). -/
def State.freeCells (s : State) (f : Frame) : State :=
  let i := f.chargeTo
  let s := if f.mirror then { s with mirUse := s.mirUse - 1 } else s
  let s := if f.cShared + f.cRes = 0 then s
    else
      let r := s.get F.swPUseRes i
      let s := (s.put F.swPUseShared i (s.get F.swPUseShared i - f.cShared)).put F.swPUseRes i (r - f.cRes)
      if r ≠ 0 ∧ r - f.cRes = 0 then (s.put F.swPStatResActive i 0).flowCtl i false else s
  let s := if f.cStage = 0 then s else { s with stage := SMap.set 0 s.stage f.stageOf (s.stageUse f.stageOf - f.cStage) }
  s.put F.swCellsFree 0 (s.get F.swCellsFree + f.cells + f.mirror.toNat)

/-- The handle the device assigns: the one named when it is nonzero and free, else the lowest free one (R162). -/
def State.handle (s : State) (h : Nat) : Nat :=
  let used := s.frames.map (·.1)
  if h ≠ 0 ∧ !used.contains h then h
  else (((List.range (used.length + 1)).map (· + 1)).find? (fun x => !used.contains x)).getD 1

/-- Removing a frame from Sett (R173). -/
def State.dropFrame (s : State) (h : Nat) : State :=
  let s := s.freeCells (s.frame h)
  { s with frames := SMap.del h s.frames }

/-- Whether a logical bank of a group of cells has left service (R225). -/
def State.groupOut (s : State) (g : Nat) : Bool := (List.range 8).any (fun j => hasBit s.settOut (g * 8 + j))
/-- Cells of a group in use: 8,192 lie in each (R224). -/
def State.groupUse (s : State) (g : Nat) : Nat := s.frames.foldl (fun n e => n + e.2.groups.count g) 0
/-- The bank groups of `n` new cells: which free cell is taken is left open (R224), so each is a free value among the groups
in service that have a free cell. -/
def State.newGroups (s : State) (n : Nat) : List Nat :=
  (List.range n).foldl (fun acc i =>
    let av := (List.range 4).filter (fun g => !s.groupOut g && decide (s.groupUse g + acc.count g < 8192))
    acc ++ [av.getD (Config.cellGroup s.fresh i % av.length) 0]) []
/-- A new frame with the groups of the cells it takes. -/
def State.withGroups (s : State) (f : Frame) : Frame := { f with groups := s.newGroups (f.cells + f.mirror.toNat) }

/-! ## Drops and completions (R176, R207, R232, R242) -/

/-- A completion enters a thread's completion queue and sets TXC (R176). -/
def State.complete (s : State) (k : Nat) (c : Completion) : State :=
  (s.updTh k (fun t => { t with comps := t.comps ++ [c], outst := t.outst - 1 })).setEvp k 2
/-- A host transmit completion (R503). -/
def State.hostComplete (s : State) (tag status egress : Nat) : State :=
  State.doorbell { s with htxc := s.htxc ++ [(tag, status, egress)] } 28

/-- Status and egress port of a frame that has left or been dropped everywhere (R176). -/
def Frame.outcome (f : Frame) : Nat × Nat :=
  match f.sent, f.drops with
  | [], [] => (3, 0)
  | [], d :: r => let m := r.foldl (fun a b => if b.1 < a.1 then b else a) d; (m.2, m.1)
  | x :: r, [] => (0, r.foldl min x)
  | x :: r, _ => (6, r.foldl min x)

/-- The completions a finished frame owes (R176, R503). -/
def State.owe (s : State) (f : Frame) : State :=
  let r := f.outcome
  let s := match f.cpl with
    | some (k, tag) => s.complete k { tag := tag, status := r.1, egress := r.2, txts := if r.1 = 0 then f.txts else none }
    | none => s
  match f.hcpl with
  | some tag => s.hostComplete tag r.1 r.2
  | none => s

/-- A frame of the fabric with no output left to wait for: its completions are given and its cells return. -/
def State.finish (s : State) (h : Nat) : State :=
  let f := s.frame h
  if !f.todo.isEmpty || f.owner.isSome then s
  else if s.txing.any (fun e => e.2 == h) then s
  else (s.owe f).dropFrame h

/-- Frames that wait at an output under its hold (R238): all-or-none frames that have not been released do not. -/
def State.heldAt (s : State) (o : Nat) : List Nat :=
  (s.frames.filter (fun e => e.2.todo.contains o && !e.2.aon && SMap.get 0 s.txing o != e.1)).map (·.1)
/-- HOLDING ends with the last held frame (R238, STAT). -/
def State.holdShow (s : State) (o : Nat) : State :=
  if s.get F.swPStatHolding o != 0 && (s.heldAt o).isEmpty then s.put F.swPStatHolding o 0 else s

/-- Dropping a frame at one output: its counter and the completion status of the cause (Table 6-3). -/
def State.dropAt (s : State) (h o status : Nat) (ctr : Field) : State :=
  let f := s.frame h
  (s.setFrame h { f with todo := f.todo.filter (· != o), drops := f.drops ++ [(o, status)] }).inc ctr o

/-! ## The queues of the fabric (R201, R212, R219) -/

/-- Removing the first descriptor of a queue that satisfies `p`. -/
def takeFirst (p : Desc → Bool) : List Desc → Option (Desc × List Desc)
  | [] => none
  | d :: r => if p d then some (d, r) else match takeFirst p r with
    | some (x, q) => some (x, d :: q)
    | none => none

/-- Removing every descriptor of a frame for output `o`: in the output FIFO and in the intermediates. -/
def State.unqueue (s : State) (h o : Nat) : State :=
  { s with midQ := s.midQ.filter (fun d => !(d.h == h && d.b == o)),
           outQ := s.outQ.filter (fun d => !(d.h == h && d.a == o)) }

/-- A descriptor whose frame waits at no output leaves the pin queues. -/
def State.unpin (s : State) (h : Nat) : State :=
  if (s.frame h).todo.isEmpty then { s with pinQ := s.pinQ.filter (fun d => d.h != h) } else s

/-! ## Mirroring (R235-R237) -/

/-- Cells of the mirror partition that can be used: it shrinks when Sett has lost cells (R225). -/
def State.mirCap (s : State) : Nat :=
  let parts := (List.range 14).foldl (fun n i => n + s.act F.swPRes i) 0 +
    (List.range 18).foldl (fun n k => n + s.stageCap k) 0
  min (s.act F.swMirCap) (s.get F.swCellsTotal - parts)

/-- A mirror copy of a frame at port `n` to an internal output in MIRDST.CLASS, with the original's pin. A copy of TX_N enters
the pin queue of the input with the sampled output's number, which the spec leaves open (R236; DESIGN CHOICE, log 45). -/
def State.mirrorCopy (s : State) (n dst : Nat) (f : Frame) (runt : Bool) (mh : Nat) : State :=
  if s.mirCap ≤ s.mirUse then s.inc F.swCMirrorDrop n
  else
    let h := s.handle mh
    let c : Frame := { f with
      data := SMap.keep (fun a => decide (a < 128)) f.data, len := min f.len 128, mirror := true,
      trunc := decide (128 < f.len), runt := runt, origlen := f.len, cls := s.act F.swPMirdstClass n, owner := none,
      cShared := 0, cRes := 0, cStage := 0, chargeTo := 0, todo := [dst], sent := [], drops := [], cpl := none, hcpl := none, aon := false }
    let c := s.withGroups c
    let s := { s.tookFree with mirUse := s.mirUse + 1 }
    let s := (s.put F.swCellsFree 0 (s.get F.swCellsFree - 1)).inc F.swCMirSent n
    { s.setFrame h c with pinQ := s.pinQ ++ [{ a := n, b := f.hash % 32, h := h }] }

/-- Numbering a frame at an input (RX_N) and sampling it (R235). -/
def State.mirrorRx (s : State) (i : Nat) (f : Frame) (runt : Bool) (mh : Nat) : State :=
  let n := s.act F.swPMirRxN i
  if n = 0 || f.mirror then s
  else
    let c := SMap.get 0 s.rxNum i + 1
    let s := { s with rxNum := SMap.set 0 s.rxNum i c }
    if c % n = 0 then s.mirrorCopy i (s.act F.swPMirdstRxDst i) f runt mh else s
/-- Numbering a frame at an output (TX_N) and sampling it. -/
def State.mirrorTx (s : State) (o : Nat) (f : Frame) (mh : Nat) : State :=
  let n := s.act F.swPMirTxN o
  if n = 0 || f.mirror then s
  else
    let c := SMap.get 0 s.txNum o + 1
    let s := { s with txNum := SMap.set 0 s.txNum o c }
    if c % n = 0 then s.mirrorCopy o (s.act F.swPMirdstTxDst o) f false mh else s

/-! ## The verdict (R204-R209, R231-R234, R251) -/

/-- How an output judges a frame on its verdict edge: refused, down or too short for it (R229, R232, R206). Where several
hold, the spec does not say which cause counts: OVERSIZE, then PORT_DOWN, then QUEUE_FULL (DESIGN CHOICE, log 45). -/
inductive Judge where
  | accept | full | down | big
  deriving DecidableEq, Repr
def State.judge (s : State) (h : Nat) (ext : Bool) (o cls len : Nat) : Judge :=
  if s.maxFrame o < len then .big
  else if !s.linkUp o then .down
  else if ext && decide (s.qmax o cls < s.queued h o cls + cellsFor len) then .full
  else .accept

/-- Counters and status of a refused target (Table 6-3, R232). -/
def State.refuseAt (s : State) (h o : Nat) : Judge → State
  | .accept => s
  | .full => s.dropAt h o 9 F.swCQueueFull
  | .down => s.dropAt h o 4 F.swCPortDown
  | .big => s.dropAt h o 2 F.swCOversize

/-- FLOW_RX, the staleness timer and the last-frame time of a released matched frame (R251, R253). -/
def State.flowReleased (s : State) (x : Option Nat) : State :=
  match x with
  | none => s
  | some x =>
    let s := s.when (s.staleTimer x) (·.tmStart (tmStale x))
    (((s.incWrap F.flowRx x).put F.flowStatStale x 0).put F.flowLastNs x s.time.ns).put F.flowLastSec x s.time.sec
/-- A released frame of a flow with USC_EN active goes to Owl's tap (R448). -/
def State.tapUsc (s : State) (i : Nat) (x : Option Nat) (f : Frame) : State :=
  match x with
  | none => s
  | some x =>
    if !s.on F.flowCtrlUscEn x then s
    else
      let c := s.act F.flowCtrlUscIdx x
      let o := s.act F.owlCPosOfs c
      { s with taps := s.taps ++ [{ c := c, port := i, len := f.len, msg := f.bytes o 80,
                                    ax := s.axVal (s.act F.owlCCfgAxis c) }] }
/-- FLOW_DROP of a cancelled matched frame. -/
def State.flowCancelled (s : State) (x : Option Nat) : State :=
  match x with
  | none => s
  | some x => s.incWrap F.flowDrop x

/-- Held all-or-none frames of an input. -/
def State.aonHeld (s : State) (i : Nat) : Nat := (s.pinQ.filter (fun d => d.a == i && (s.frame d.h).aon)).length

/-- What a release counts at the input (R235, R242, R251, R448): RX_FRAMES, the flow, Owl's tap, the mirror. -/
def State.passed (s : State) (i h mh : Nat) : State :=
  let f := s.frame h
  (((s.inc F.swCRxFrames i).flowReleased f.flow).tapUsc i f.flow f).mirrorRx i f false mh

/-- Release of a frame that has passed its input's checks (R205, R231-R234): per-target drops, or the hold of an
all-or-none frame, which is released later or never; the descriptor goes to the tail of pin queue k. -/
def State.release (s : State) (i h : Nat) (lk : Look) (ext : Bool) (mh : Nat) : State :=
  let f := { s.frame h with cls := lk.cls, flow := lk.flow, todo := lk.targets }
  let js := lk.targets.map (fun o => (o, s.judge h ext o lk.cls f.len))
  let ok := js.all (fun j => j.2 == .accept)
  let d : Desc := { a := i, b := f.hash % 32, h := h }
  if lk.aon && !ok then
    if lk.dl = 0 || decide (64 ≤ s.aonHeld i) then
      ((s.setFrame h { f with todo := [], drops := lk.targets.map (fun o => (o, 7)) }).inc F.swCAonExpired i).finish h
    else
      let s := s.setFrame h { f with aon := true, aonDl := f.rxAt + lk.dl * 1000 }
      { s with pinQ := s.pinQ ++ [d] }
  else
    let s := (s.setFrame h f).passed i h mh
    let left := (js.filter (fun j => j.2 == .accept)).length
    let s := s.each js (fun s j =>
      if j.2 == .accept then s
      else
        let s := s.refuseAt h j.1 j.2
        if left ≠ 0 then s.inc F.swCPartial j.1 else s)
    if left = 0 then s.finish h else { s with pinQ := s.pinQ ++ [d] }

/-- Cancelling a frame at its input under one cause (R205, R207). -/
def State.cancel (s : State) (i h : Nat) (flow : Option Nat) (status : Nat) (ctr : Field) : State :=
  let f := s.frame h
  let s := s.setFrame h { f with todo := [], drops := if status = 3 then [] else [(0, status)] }
  ((s.inc ctr i).flowCancelled flow).finish h

/-- A frame taken whole on external input `i` (R204-R207): `fcs` whether its FCS is right, `lost` whether a bank it lies
in was retired while it arrived; `sfd` and `hdr` the times of its SFD and of step 3 of Table 6-1; `h` and `mh` the handles the
device assigns to it and to a mirror copy. Cells that find room are charged whether or not the rest does (R227). -/
def State.receiveExt (s : State) (i : Nat) (l : List Byte) (fcs lost : Bool) (rxts : Option Stamp) (sfd hdr h mh : Nat) : State :=
  let w := l.take 48
  let hd := parseHdr w
  let lk := (s.asOf hdr).lookup i hd w none
  let n := l.length
  let max := (s.asOf sfd).maxFrame i
  let stored := l.take max
  let need := cellsFor stored.length
  let c := s.charge i need
  let h := s.handle h
  let f : Frame := { Frame.ofBytes stored with
    inport := i, cls := lk.cls, flow := lk.flow, vlan := hd.tagged, rxAt := s.up,
    hash := flowHash ((s.asOf (hdr + 24)).act F.swHashSeed) hd, rxts := rxts, lost := lost, cShared := c.1, cRes := c.2,
    chargeTo := i }
  let f := s.withGroups f
  let s := (s.tookFree.takeExt i c).setFrame h f
  if n < 64 then (s.mirrorRx i f true mh).cancel i h lk.flow 2 F.swCRunt
  else if max < n then s.cancel i h lk.flow 2 F.swCOversize
  else if !fcs then s.cancel i h lk.flow 2 F.swCFcsErr
  else if lost then s.cancel i h lk.flow 8 F.swCLost
  else if c.1 + c.2 < need then s.cancel i h lk.flow 2 F.swCReserveFull
  else if lk.targets.isEmpty then s.cancel i h lk.flow 3 F.swCNoRoute
  else s.release i h lk true mh

/-- An internal input accepts a frame (R203): t_T lies 20 CCLK later with a lookup, 4 CCLK without. -/
def State.submit (s : State) (i h spec : Nat) : State :=
  let s := s.setFrame h { s.frame h with rxAt := s.up + (if hasBit spec 10 then 40 else 8) }
  { s with subm := s.subm ++ [{ a := i, b := spec, h := h }] }
/-- The verdict of a frame that internal input `i` has accepted (R203, R209, R210): by lookup, or to the port the push
names. -/
def State.verdictInt (s : State) (i h spec mh : Nat) : State :=
  let f := s.frame h
  let w := f.bytes 0 (min f.len 48)
  let hd := parseHdr w
  let tA := f.rxAt - (if hasBit spec 10 then 40 else 8)
  let f := { f with vlan := hd.tagged, hash := flowHash ((s.asOf (tA + 34)).act F.swHashSeed) hd, inport := i }
  let s := s.setFrame h f
  let lk : Look := if hasBit spec 10 then (s.asOf (tA + 10)).lookup i hd w (some (bitsAt spec 5 3))
    else { targets := [spec % 32], cls := bitsAt spec 5 3 }
  if f.lost then s.cancel i h lk.flow 8 F.swCLost
  else if lk.targets.isEmpty then s.cancel i h lk.flow 3 F.swCNoRoute
  else s.release i h lk false mh

/-! ## Moving through the fabric -/

/-- Stage 1: the head descriptor of pin queue `k` of input `i` crosses to intermediate `k`, one copy per target (R231);
a held all-or-none frame at the head blocks the queue (R234). -/
def execStage1Transfer (i k : Fin 32) (s : State) : Out :=
  .next (match takeFirst (fun d => d.a == i.val && d.b == k.val) s.pinQ with
    | none => s
    | some (d, q) =>
      if (s.frame d.h).aon then s
      else { s with pinQ := q, midQ := s.midQ ++ (s.frame d.h).todo.map (fun o => { a := k.val, b := o, h := d.h }) })

/-- The head of the class FIFO of an output. -/
def State.headOf (s : State) (o c : Nat) : Option Nat := ((s.outQ.find? (fun d => d.a == o && d.b == c)).map (·.h))

/-- Whether PLCA holds back a T1S port now (R348). -/
def State.plcaHolds (s : State) (o : Nat) : Bool :=
  8 ≤ o && o < 12 && s.get F.t1sStatusPlcaAct (o - 8) != 0 &&
  !((s.port o).plca == s.act F.t1sCfgNodeId (o - 8) && decide ((s.port o).burst ≤ s.act F.t1sPlcaTmrBurstCnt (o - 8)))
/-- A frame that leaves a T1S port's queue is no longer released to its next opportunity (R351). -/
def State.unrel (s : State) (o h : Nat) : State :=
  if (s.port o).rel = h then s.updPort o (fun p => { p with rel := 0 }) else s
/-- A class 7 gate closes; where PLCA holds a T1S port back, the frame at the head stays released into the port's next
opportunity (R351). -/
def State.gateShut (s : State) (o : Nat) : State :=
  if s.plcaHolds o && hasBit s.gates o then
    State.updPort { s with gates := clrBit s.gates o } o (fun p => { p with rel := (s.headOf o 7).getD 0 })
  else { s with gates := clrBit s.gates o }

/-- Dropping a frame that waits at an output (AGED, LOST, FLUSHED). -/
def State.dropHead (s : State) (h o status : Nat) (ctr : Field) : State :=
  (((((s.unqueue h o).dropAt h o status ctr).unpin h).unrel o h).finish h).holdShow o

/-- Frames with lost cells that stand at the head of a FIFO of the output are dropped (R225), at most `n`. -/
def State.purgeN (s : State) (o : Nat) : Nat → State
  | 0 => s
  | n + 1 =>
    match ((List.range 8).filterMap (fun c => s.headOf o c)).find? (fun h => (s.frame h).lost) with
    | none => s
    | some h => (s.dropHead h o 8 F.swCLost).purgeN o n
/-- Every such frame. -/
def State.purge (s : State) (o : Nat) : State := s.purgeN o s.outQ.length

/-- Stage 2: the head descriptor of intermediate `k` for output `o` enters the output's FIFO of its class. -/
def execStage2Transfer (k o : Fin 32) (s : State) : Out :=
  .next (match takeFirst (fun d => d.a == k.val && d.b == o.val) s.midQ with
    | none => s
    | some (d, q) => ({ s with midQ := q, outQ := s.outQ ++ [{ a := o.val, b := (s.frame d.h).cls, h := d.h }] } : State).purge o)

/-- Whether a frame's age exceeds its class limit now (R222). -/
def State.tooOld (s : State) (f : Frame) : Bool :=
  s.on F.swAgeEn f.cls && decide (min (s.act F.swAgeLimitUs f.cls) 1000000 * 1000 < s.up - f.rxAt)

/-- A head frame older than its class limit is dropped with AGED at an idle output (R222). -/
def execFrameAged (o : Fin 32) (c : Fin 8) (s : State) : Out :=
  .next (match s.headOf o c with
    | some h => if s.tooOld (s.frame h) && SMap.get 0 s.txing o == 0 then (s.dropHead h o 5 F.swCAged).purge o else s
    | none => s)

/-- The held all-or-none frames of a pin queue, in order (R233, R234). -/
def State.aonAt (s : State) (i k : Nat) : List Nat :=
  (s.pinQ.filter (fun d => d.a == i && d.b == k && (s.frame d.h).aon)).map (·.h)
/-- A re-evaluation edge (R233): each held frame of the pin queue is released when every target accepts. -/
def execAonReevaluate (i k : Fin 32) (s : State) : Out :=
  .next (s.each (s.aonAt i k) (fun s h =>
    let f := s.frame h
    if f.todo.all (fun o => s.judge h (decide (i.val < 14)) o f.cls f.len == .accept) then
      (s.setFrame h { f with aon := false }).passed i h 0
    else s))

/-- AON_DL passes without a release (R233): dropped on every target, counted AON_EXPIRED at the input. -/
def execAonExpire (i k : Fin 32) (s : State) : Out :=
  .next (s.each ((s.aonAt i k).filter (fun h => decide ((s.frame h).aonDl ≤ s.up))) (fun s h =>
    let f := s.frame h
    let s := s.setFrame h { f with aon := false, todo := [], drops := f.todo.map (fun o => (o, 7)) }
    (State.inc { s with pinQ := s.pinQ.filter (fun e => e.h != h) } F.swCAonExpired i).finish h))

/-- Flushing the frames held for an output that satisfy `p` (R238, R239): FLUSHED each. All-or-none frames that have not been
released are judged again instead (R233). -/
def State.flush (s : State) (o : Nat) (p : Frame → Bool) : State :=
  s.each ((s.heldAt o).filter (fun h => p (s.frame h))) (fun s h => s.dropHead h o 4 F.swCFlushed)

end Sys2Proof.Machine
end

