-- ==== Sys2Proof/Machine/Shrew.lean ====
section
/-!
DEFINITION. The Shrew pin engines (11_shrew_pin_engines.md). An instruction row names the engine, what the engine sees
on the tick and the operand bits of its word.
Assumption log: 16, 52, 53.
-/
namespace Sys2Proof.Machine

/-- A Shrew engine. -/
def State.shr (s : State) (e : Nat) : Shrew := SMap.get {} s.shrews e
def State.setShr (s : State) (e : Nat) (x : Shrew) : State := { s with shrews := SMap.set {} s.shrews e x }
def State.updShr (s : State) (e : Nat) (g : Shrew → Shrew) : State := s.setShr e (g (s.shr e))

/-- The GP pin that lane `l` of an engine names (R398). -/
def State.lanePin (s : State) (e l : Nat) : Nat :=
  match l with
  | 0 => s.act F.shrLaneaPin0 e | 1 => s.act F.shrLaneaPin1 e | 2 => s.act F.shrLaneaPin2 e | 3 => s.act F.shrLaneaPin3 e
  | 4 => s.act F.shrLanebPin4 e | 5 => s.act F.shrLanebPin5 e | 6 => s.act F.shrLanebPin6 e | _ => s.act F.shrLanebPin7 e
/-- The level of a lane as the engine sees it (R395). -/
def State.lane (s : State) (x : ShTick) (e l : Nat) : Bool := decide (l < 8) && x.pins.getLsbD (s.lanePin e l)
/-- Writing one bit of a mask. -/
def putBitN (m i : Nat) (b : Bool) : Nat := if b then setBit m i else clrBit m i
/-- Driving the level of a lane: only on a pin the engine owns (R413). -/
def State.driveRaw (s : State) (e l : Nat) (b : Bool) : State :=
  let p := s.lanePin e l
  if s.act F.shrPincfgOwner p = e then { s with gpLvl := putBitN s.gpLvl p b } else s
/-- A level write by an instruction: ignored on CK_LANE while CK_EN = 1 (R405). -/
def State.drive (s : State) (e l : Nat) (b : Bool) : State :=
  if s.on F.shrCfgCkEn e && s.act F.shrCfgCkLane e == l then s else s.driveRaw e l b
/-- Setting the output enable of a lane (R413). -/
def State.driveOe (s : State) (e l : Nat) (b : Bool) : State :=
  let p := s.lanePin e l
  if s.act F.shrPincfgOwner p = e then { s with gpOe := putBitN s.gpOe p b } else s
/-- The end of a K pulse: CK_LANE returns to CK_IDLE (R405). -/
def State.kEnd (s : State) (e : Nat) : State :=
  if (s.shr e).kLeft = 0 then s
  else (s.driveRaw e (s.act F.shrCfgCkLane e) (s.on F.shrCfgCkIdle e)).updShr e (fun r => { r with kLeft := 0 })
/-- The strobe of an executing instruction with K = 1 (R405): half the length of this tick spacing. -/
def State.strobe (s : State) (e : Nat) (k : Bool) : State :=
  if k && s.on F.shrCfgCkEn e then
    let rate := s.act F.shrDivRate e
    let n := (rate - (s.shr e).phase % 256 + 255) / 256 / 2
    (s.driveRaw e (s.act F.shrCfgCkLane e) (!s.on F.shrCfgCkIdle e)).updShr e (fun r => { r with kLeft := n })
  else s

/-! ## Events of the FIFOs (R417) -/

/-- Raising SHRX or SHTX in the thread the engine names (R417): whenever EVT_EN = 1, with no test of FOX_SHBIND. DESIGN CHOICE
(assumption log 53): Table 3-7 speaks of a bound engine, R417 of EVT_EN alone. -/
def State.shrEvt (s : State) (e b : Nat) : State :=
  if s.on F.shrCfgEvtEn e then s.setEvp (4 * s.act F.shrCfgEvtLe e + s.act F.shrCfgEvtT e) b else s
/-- A word enters RXF. -/
def State.rxfPush (s : State) (e : Nat) (w : W24) : State :=
  let r := s.shr e
  let s := s.setShr e { r with rxf := r.rxf ++ [w] }
  if r.rxf.isEmpty then s.shrEvt e 3 else s
/-- TXF becomes `q`: SHTX when its free entries rise to TXF_MARK. -/
def State.txfShrink (s : State) (e : Nat) (q : List W24) : State :=
  let r := s.shr e
  let mark := s.act F.shrCfgTxfMark e
  let s := s.setShr e { r with txf := q }
  if mark ≠ 0 ∧ 8 - r.txf.length < mark ∧ mark ≤ 8 - q.length then s.shrEvt e 4 else s
/-- A push to TXF: whether it was taken. -/
def State.txfPush (s : State) (e : Nat) (w : W24) : Bool × State :=
  let r := s.shr e
  if r.txf.length < 8 then (true, s.setShr e { r with txf := r.txf ++ [w] }) else (false, s)
/-- A pop of RXF. -/
def State.rxfPop (s : State) (e : Nat) : Option W24 × State :=
  let r := s.shr e
  match r.rxf with
  | [] => (none, s)
  | w :: q => (some w, s.setShr e { r with rxf := q })

/-! ## Running -/

/-- Whether an engine executes on ticks. -/
def ShSt.live : ShSt → Bool
  | .running => true
  | .waiting => true
  | .stalled => true
  | _ => false
/-- Whether an engine is at a safe point (R422). -/
def Shrew.safe (r : Shrew) : Bool := if r.st.live then r.c == 0 && (r.pc == 0 || r.st == .waiting) else true
/-- FAULT (R409): pins stay, ILLEGAL, SHR_FAULT. -/
def State.shFault (s : State) (e : Nat) : State :=
  ((s.updShr e (fun r => { r with st := .fault, armed := false })).put F.shrErrIllegal e 1).raise 0x30 e
/-- An uncorrectable error in a program word: the channel's fault, hard at the second one at the same word (R571). -/
def State.shUe (s : State) (e : Nat) : State :=
  let r := s.shr e
  let word := (if r.bank then 128 else 0) + r.pc
  let s := (s.shFault e).chFault 5 e
  let k := 5 * 64 + e
  if (s.chan k).ueWords.contains word then s.hard 5 e 3 word
  else s.setChan k { s.chan k with ueWords := word :: (s.chan k).ueWords }

/-- A tick of a running engine (R394): nothing while the engine does not run or a pending swap comes first (R423); FAULT
on an uncorrectable word or an illegal instruction; else the instruction. -/
def State.shTick (s : State) (e : Nat) (x : ShTick) (legal : Bool) (run : Shrew → State → State) : State :=
  let r := s.shr e
  if !r.st.live || !s.domOn .shrew || (r.swapPend && r.safe) then s
  else
    let s := (s.put F.shrPinIn0 0 x.pins.toNat).put F.shrPinIn1 0 (x.pins.toNat / 2 ^ 32)
    match x.ecc with
    | .uncorrectable => s.shUe e
    | .corrected => if legal then run r (s.chFault 5 e) else (s.chFault 5 e).shFault e
    | .ok => if legal then run r s else s.shFault e

/-- The instruction completes: the next word is at `pc`. -/
def State.shGo (s : State) (e pc : Nat) : State := s.updShr e (fun r => { r with st := .running, pc := pc % 128, armed := false })
/-- The instruction completes and the next word follows. -/
def State.shNext (s : State) (e : Nat) : State := s.shGo e ((s.shr e).pc + 1)
/-- The instruction waits or stalls and is executed again on the next tick (R394). -/
def State.shAgain (s : State) (e : Nat) (st : ShSt) : State := s.updShr e (fun r => { r with st := st })

/-- The conditions of Table 11-2. -/
def State.shCond (s : State) (x : ShTick) (e cond : Nat) : Bool :=
  let r := s.shr e
  let m := s.act F.shrCfgMlen e
  match cond with
  | 0 => true
  | 1 => r.ca == 0
  | 2 => r.cb == 0
  | 3 => r.c == 0
  | 4 => decide (s.act F.shrCfgWlen e ≤ r.c)
  | 5 => r.txf.isEmpty && r.tlat.isNone
  | 6 => r.rlat.isSome
  | 7 => r.sr.toNat % 2 ^ m == r.m.toNat % 2 ^ m
  | n => s.lane x e (n - 8)

/-- BR cond, target (R399). -/
def execShrewBr (e : Fin 32) (x : ShTick) (o : BitVec 12) (s : State) : Out :=
  .next (s.shTick e x true (fun r s =>
    s.shGo e (if s.shCond x e (bitsAt o.toNat 7 4) != o.getLsbD 11 then bitsAt o.toNat 0 7 else r.pc + 1)))

/-- WAIT (R400). -/
def execWait (e : Fin 32) (x : ShTick) (o : BitVec 12) (s : State) : Out :=
  let v := o.toNat
  let pol := hasBit v 11
  let kind := bitsAt v 9 2
  let ix := bitsAt v 0 4
  let legal := bitsAt v 4 5 == 0 && (kind == 2 || decide (ix < 8)) && (kind != 3 || pol)
  .next (s.shTick e x legal (fun r s =>
    match kind with
    | 0 => if s.lane x e ix == pol then s.shNext e else s.shAgain e .waiting
    | 1 => if r.armed && x.edge then s.shNext e else s.updShr e (fun r => { r with st := .waiting, armed := true, lvl := s.lane x e ix })
    | 2 => if hasBit s.shrFlags ix == pol then s.shNext e else s.shAgain e .waiting
    | _ => if hasBit (s.get F.shrIrq e) ix then (s.put F.shrIrq e (clrBit (s.get F.shrIrq e) ix)).shNext e
           else s.shAgain e .waiting))

/-- SET (R402). -/
def execSet (e : Fin 32) (x : ShTick) (o : BitVec 12) (s : State) : Out :=
  let v := o.toNat
  let g := 4 * bitAt v 9
  .next (s.shTick e x (!hasBit v 8) (fun _ s =>
    let s := s.each (bitsOf (bitsAt v 4 4) 4) (fun s i =>
      if hasBit v 11 then s.driveOe e (g + i) (hasBit v i) else s.drive e (g + i) (hasBit v i))
    (s.strobe e (hasBit v 10)).shNext e))

/-- The counter CA (0) or CB (1). -/
def Shrew.cnt (r : Shrew) (b : Bool) : BitVec 16 := if b then r.cb else r.ca
def Shrew.setCnt (r : Shrew) (b : Bool) (v : BitVec 16) : Shrew := if b then { r with cb := v } else { r with ca := v }

/-- LDC (R402). -/
def execLdc (e : Fin 32) (x : ShTick) (o : BitVec 12) (s : State) : Out :=
  .next (s.shTick e x true (fun _ s =>
    ((s.updShr e (fun r => r.setCnt (o.getLsbD 11) (BitVec.ofNat 16 (bitsAt o.toNat 0 10)))).strobe e (o.getLsbD 10)).shNext e))

/-- After an execution of IN or OUT: by REP it is executed again or the next word follows (R401). -/
def State.shRep (s : State) (e rep : Nat) (untilDone : Bool) : State :=
  match rep with
  | 0 => s.shNext e
  | 3 => if untilDone then s.shNext e else s.shAgain e .running
  | n =>
    let b := n == 2
    let c := (s.shr e).cnt b
    if c = 0 then s.shNext e else (s.updShr e (fun r => r.setCnt b (c - 1))).shAgain e .running

/-- The word of `n` bits SR holds for a handover (R404). -/
def shWord (dir : Bool) (sr : W24) (n : Nat) : W24 :=
  if dir then BitVec.ofNat 24 (sr.toNat / 2 ^ (24 - n)) else BitVec.ofNat 24 (sr.toNat % 2 ^ n)
/-- A transmit word placed in SR (R404). -/
def shPlace (dir : Bool) (w : W24) (n : Nat) : W24 := if dir then w else BitVec.ofNat 24 (w.toNat * 2 ^ (24 - n))

/-- OUT lane, n (R403, R404). -/
def execOut (e : Fin 32) (x : ShTick) (o : BitVec 12) (s : State) : Out :=
  let v := o.toNat
  let n := bitsAt v 0 5
  .next (s.shTick e x (!hasBit v 8 && decide (n ≤ 24)) (fun r s =>
    let dir := s.on F.shrCfgDir e
    let wl := s.act F.shrCfgWlen e
    let need := s.on F.shrCfgLinkTx e && r.c == 0
    match need, r.tlat with
    | true, none => s.shAgain e .stalled
    | _, _ =>
      let r := match need, r.tlat with
        | true, some w => { r with sr := shPlace dir w wl, c := wl, tlat := none }
        | _, _ => r
      let data := if dir then r.sr.toNat % 2 ^ n else r.sr.toNat / 2 ^ (24 - n)
      let sr := if dir then BitVec.ofNat 24 (r.sr.toNat / 2 ^ n) else BitVec.ofNat 24 (r.sr.toNat * 2 ^ n)
      let s := s.setShr e { r with sr := sr, c := r.c - n }
      let lane := bitsAt v 5 3
      let s := s.each ((List.range n).filter (fun j => decide (lane + j ≤ 7))) (fun s j => s.drive e (lane + j) (hasBit data j))
      (s.strobe e (hasBit v 11)).shRep e (bitsAt v 9 2) (r.c - n == 0)))

/-- IN src, n (R403, R404). -/
def execShIn (e : Fin 32) (x : ShTick) (o : BitVec 12) (s : State) : Out :=
  let v := o.toNat
  let n := bitsAt v 0 5
  .next (s.shTick e x (decide (n ≤ 24)) (fun r s =>
    let dir := s.on F.shrCfgDir e
    let wl := s.act F.shrCfgWlen e
    let link := s.on F.shrCfgLinkRx e
    let lane := bitsAt v 5 3
    let data := if hasBit v 8 then 0 else maskOf ((List.range n).filter (fun j => s.lane x e (lane + j)))
    let sr : W24 := BitVec.ofNat 24 (if dir then r.sr.toNat / 2 ^ n + data * 2 ^ (24 - n) else r.sr.toNat * 2 ^ n + data)
    let c := min 24 (r.c + n)
    let hand := link && n != 0 && decide (wl ≤ c)
    if hand && r.rlat.isSome then s.shAgain e .stalled
    else
      let s := s.setShr e (if hand then { r with rlat := some (shWord dir sr wl), sr := 0, c := 0 } else { r with sr := sr, c := c })
      (s.strobe e (hasBit v 11)).shRep e (bitsAt v 9 2) (if link then hand else c == 24)))

/-- SHIFT PUSH (R406). -/
def execShiftPush (e : Fin 32) (x : ShTick) (o : BitVec 10) (s : State) : Out :=
  .next (s.shTick e x (bitsAt o.toNat 0 9 == 0) (fun r s =>
    if r.c = 0 then (s.updShr e (fun r => { r with sr := 0 })).shNext e
    else if r.rlat.isSome then (if o.getLsbD 9 then s.shNext e else s.shAgain e .stalled)
    else (s.setShr e { r with rlat := some (shWord (s.on F.shrCfgDir e) r.sr r.c), sr := 0, c := 0 }).shNext e))
/-- SHIFT PULL (R406). -/
def execShiftPull (e : Fin 32) (x : ShTick) (o : BitVec 10) (s : State) : Out :=
  .next (s.shTick e x (bitsAt o.toNat 0 9 == 0) (fun r s =>
    match r.tlat with
    | none => if o.getLsbD 9 then s.shNext e else s.shAgain e .stalled
    | some w =>
      let wl := s.act F.shrCfgWlen e
      (s.setShr e { r with sr := shPlace (s.on F.shrCfgDir e) w wl, c := wl, tlat := none }).shNext e))
/-- SHIFT CLR (R406). -/
def execShiftClr (e : Fin 32) (x : ShTick) (o : BitVec 10) (s : State) : Out :=
  .next (s.shTick e x (bitsAt o.toNat 0 9 == 0) (fun _ s => (s.updShr e (fun r => { r with sr := 0, c := 0 })).shNext e))

/-- The levels of the eight lanes as a byte. -/
def State.lanes (s : State) (x : ShTick) (e : Nat) : Nat := maskOf ((List.range 8).filter (fun l => s.lane x e l))

/-- MOV dst, src (R407). -/
def execShrewMov (e : Fin 32) (x : ShTick) (o : BitVec 12) (s : State) : Out :=
  let v := o.toNat
  let dst := bitsAt v 9 3
  let src := bitsAt v 6 3
  let op := bitsAt v 4 2
  .next (s.shTick e x (decide (dst < 6) && src != 7 && op != 3 && bitsAt v 0 4 == 0) (fun r s =>
    let a : W24 := match src with
      | 0 => r.sr
      | 1 => r.ca.setWidth 24
      | 2 => r.cb.setWidth 24
      | 3 => r.m
      | 4 => BitVec.ofNat 24 (s.lanes x e)
      | 5 => 0
      | _ => r.qpos.setWidth 24
    let b := match op with
      | 0 => a
      | 1 => ~~~a
      | _ => a ^^^ r.m
    let s := match dst with
      | 0 => s.setShr e { r with sr := b, c := 24 }
      | 1 => s.setShr e { r with ca := b.setWidth 16 }
      | 2 => s.setShr e { r with cb := b.setWidth 16 }
      | 3 => s.setShr e { r with m := b }
      | 4 => s.each (List.range 8) (fun s l => s.drive e l (b.getLsbD l))
      | _ => s.each (List.range 8) (fun s l => s.driveOe e l (b.getLsbD l))
    s.shNext e))

/-- LOOP cnt, target (R399). -/
def execLoop (e : Fin 32) (x : ShTick) (o : BitVec 12) (s : State) : Out :=
  .next (s.shTick e x (bitsAt o.toNat 7 4 == 0) (fun r s =>
    let b := o.getLsbD 11
    let c := r.cnt b
    if c = 0 then s.shNext e
    else (s.setShr e (r.setCnt b (c - 1))).shGo e (if c - 1 = 0 then r.pc + 1 else bitsAt o.toNat 0 7)))

/-- FLAG (R408). -/
def execFlag (e : Fin 32) (x : ShTick) (o : BitVec 12) (s : State) : Out :=
  let op := bitsAt o.toNat 10 2
  let f := bitsAt o.toNat 0 4
  .next (s.shTick e x (op != 3 && bitsAt o.toNat 4 6 == 0) (fun _ s =>
    State.shNext { s with shrFlags := putBitN s.shrFlags f (if op = 2 then !hasBit s.shrFlags f else op == 1) } e))

/-- Posting a signed step (R412): to QPOS and to every SHREW axis that names the engine. -/
def State.post (s : State) (e : Nat) (n : Int) : State :=
  let s := s.updShr e (fun r => { r with qpos := r.qpos + BitVec.ofInt 32 n })
  s.each ((s.axesOf 4).filter (fun k => s.act F.phsPxCfgSel k == e)) (fun s k => s.count k n)

/-- The place of a lane pair BA in forward Gray order 00, 01, 11, 10. -/
def grayIx (p : Nat) : Nat := match p with | 0 => 0 | 1 => 1 | 3 => 2 | _ => 3

/-- QSTEP (R411). -/
def execQstep (e : Fin 32) (x : ShTick) (o : BitVec 12) (s : State) : Out :=
  .next (s.shTick e x (bitsAt o.toNat 6 6 == 0) (fun r s =>
    let p := (s.lane x e (bitsAt o.toNat 0 3)).toNat + 2 * (s.lane x e (bitsAt o.toNat 3 3)).toNat
    let s := s.setShr e { r with qprev := some p }
    let inv := s.on F.shrCfgQinv e
    let s := match r.qprev with
      | none => s
      | some q =>
        match (grayIx p + 4 - grayIx q) % 4 with
        | 1 => s.post e (if inv then -1 else 1)
        | 3 => s.post e (if inv then 1 else -1)
        | 2 => s.inc F.shrQerr e
        | _ => s
    s.shNext e))

/-- AXP (R412). -/
def execAxp (e : Fin 32) (x : ShTick) (o : BitVec 12) (s : State) : Out :=
  .next (s.shTick e x (bitsAt o.toNat 8 3 == 0) (fun r s =>
    (s.post e (if o.getLsbD 11 then r.ca.toInt else sgn 8 o.toNat)).shNext e))

/-- HALT (R420): the engine stops after its tick; SR and C are discarded. -/
def execHalt (e : Fin 32) (x : ShTick) (o : BitVec 12) (s : State) : Out :=
  .next (s.shTick e x (o == 0) (fun _ s =>
    (s.shNext e).updShr e (fun r => { r with st := .halted, sr := 0, c := 0 })))

/-! ## Latches and FIFOs (R404, R416) -/

/-- The receive latch passes its word to RXF when RXF has room. -/
def execRxLatchPass (e : Fin 32) (s : State) : Out :=
  .next (match (s.shr e).rlat with
    | some w =>
      if (s.shr e).rxf.length < 8 ∧ s.domOn .shrew then (s.updShr e (fun r => { r with rlat := none })).rxfPush e w else s
    | none => s)
/-- The empty transmit latch takes the oldest TXF word. -/
def execTxLatchTake (e : Fin 32) (s : State) : Out :=
  .next (match (s.shr e).tlat, (s.shr e).txf with
    | none, w :: q =>
      if s.domOn .shrew then (s.txfShrink e q).updShr e (fun r => { r with tlat := some w }) else s
    | _, _ => s)

/-- A write of SHR_TXF: a push, or TXF_OVF. -/
def State.shrTxf (s : State) (e v : Nat) : State :=
  let p := s.txfPush e (BitVec.ofNat 24 v)
  if p.1 then p.2 else s.put F.shrErrTxfOvf e 1
/-- A delivered read of SHR_RXF: VALID and the oldest word, or RXF_UNF. -/
def State.shrRxf (s : State) (e : Nat) : State :=
  match s.rxfPop e with
  | (some w, s) => { s with rdata := [2 ^ 31 + w.toNat] }
  | (none, s) => { s.put F.shrErrRxfUnf e 1 with rdata := [0] }
/-- A write of SHR_FLUSH: each FIFO named is emptied with its latch. -/
def State.shrFlush (s : State) (e : Nat) (tx rx : Bool) : State :=
  let s := if tx then (s.txfShrink e []).updShr e (fun r => { r with tlat := none }) else s
  if rx then s.updShr e (fun r => { r with rxf := [], rlat := none }) else s
/-- The Shrew registers' domain is on (R35). -/
def State.shOn (s : State) : Bool := s.domOn .shrew
def execShrTxf (e : Fin 32) (v : W24) (s : State) : Out := .next (s.hostWr s.shOn (0x20010 + 0x100 * e) (·.shrTxf e v.toNat))
def execShrRxf (e : Fin 32) (s : State) : Out := .next (if s.shOn then s.shrRxf e else { s with rdata := [0] })
def execFlushTxf (e : Fin 32) (s : State) : Out := .next (s.hostWr s.shOn (0x2003C + 0x100 * e) (·.shrFlush e true false))
def execFlushRxf (e : Fin 32) (s : State) : Out := .next (s.hostWr s.shOn (0x2003C + 0x100 * e) (·.shrFlush e false true))

/-! ## Starting, stopping, swapping (R396, R418-R424) -/

/-- Counting a swap and exchanging the banks. -/
def State.shSwapNow (s : State) (e : Nat) : State :=
  (s.updShr e (fun r => { r with bank := !r.bank, swapPend := false })).inc F.shrSwaps e
/-- The divider restarts: the next tick is the next SCLK edge; a K pulse ends (R396). -/
def State.shDivide (s : State) (e : Nat) : State :=
  let rate := s.act F.shrDivRate e
  (s.kEnd e).updShr e (fun r => { r with phase := rate - 256 })
/-- A start (R418, R419, Table 11-3): a pending swap applies first. -/
def State.shStart (s : State) (e : Nat) : State :=
  let r := s.shr e
  if r.st == .retired || !s.shOn then s
  else if r.st.live then s.inc F.shrStartOvr e
  else
    let s := if r.swapPend then s.shSwapNow e else s
    let s := s.updShr e (fun r => { r with st := .running, pc := 0, sr := 0, c := 0, ca := 0, cb := 0, qprev := none, armed := false,
                                           m := BitVec.ofNat 24 (s.act F.shrMatchValue e) })
    (s.put F.shrIrq e 0).shDivide e
/-- A stop (R420). -/
def State.shStop (s : State) (e : Nat) : State :=
  if (s.shr e).st == .retired then s else s.updShr e (fun r => { r with st := .stopped, sr := 0, c := 0, armed := false })
/-- A forced swap (R424). -/
def State.shFswap (s : State) (e : Nat) : State :=
  let r := s.shr e
  let s := (s.put F.shrShiftLost e r.c).shSwapNow e
  let s := s.updShr e (fun r => { r with sr := 0, c := 0 })
  if r.st.live then (s.shGo e 0).shDivide e else s

/-- The Shrew engines of a mask. -/
def State.eachShr (s : State) (m : Nat) (g : State → Nat → State) : State := s.each (bitsOf m 32) g
def execShrStartSet (m : W32) (s : State) : Out := .next (s.hostWr s.shOn 0x22000 (·.eachShr m.toNat State.shStart))
def execShrStop (m : W32) (s : State) : Out := .next (s.hostWr s.shOn 0x22008 (·.eachShr m.toNat State.shStop))
def execShrFswap (m : W32) (s : State) : Out := .next (s.hostWr s.shOn 0x22010 (·.eachShr m.toNat State.shFswap))
def execShrClkRestart (m : W32) (s : State) : Out := .next (s.hostWr s.shOn 0x22004 (·.eachShr m.toNat State.shDivide))
/-- SHR_SWAP: SWAP_PEND for each engine of the mask (R423). -/
def State.shSwapReq (s : State) (e : Nat) : State := s.updShr e (fun r => { r with swapPend := true })
def execShrSwap (m : W32) (s : State) : Out := .next (s.hostWr s.shOn 0x2200C (·.eachShr m.toNat State.shSwapReq))
/-- A pending swap at a safe point (R422, R423). -/
def execSwapAtSafePoint (e : Fin 32) (s : State) : Out :=
  .next (let r := s.shr e
    if r.swapPend && r.safe && s.shOn then
      let s := s.shSwapNow e
      if r.st.live then s.shGo e 0 else s
    else s)

/-! ## Flags, event latches, program memory, banks -/

/-- SHR_FLAGS_SET and SHR_FLAGS_CLR (R408). -/
def State.flagsSet (s : State) (v : Nat) : State := { s with shrFlags := Nat.lor s.shrFlags (v % 65536) }
def State.flagsClr (s : State) (v : Nat) : State := { s with shrFlags := andnN s.shrFlags (Nat.land s.shrFlags v) }
def execShrFlagsSet (v : BitVec 16) (s : State) : Out := .next (s.hostWr s.shOn 0x22018 (·.flagsSet v.toNat))
def execShrFlagsClr (v : BitVec 16) (s : State) : Out := .next (s.hostWr s.shOn 0x2201C (·.flagsClr v.toNat))
/-- SHR_IRQ_SET (R410). -/
def State.irqSet (s : State) (e v : Nat) : State := s.put F.shrIrq e (Nat.lor (s.get F.shrIrq e) v)
def execShrIrqSet (e : Fin 32) (v : BitVec 8) (s : State) : Out :=
  .next (s.hostWr s.shOn (0x20034 + 0x100 * e) (·.irqSet e v.toNat))
/-- Event latch `b` of every engine is set by a TRIG action (R410). -/
def State.trigLatch (s : State) (b : Nat) : State := s.each (List.range 32) (fun s e => s.irqSet e (2 ^ b))

/-- The instance of SHR_PM_IDX of a requester's copy. -/
def pmIdx (e copy : Nat) : Nat := e * 18 + copy
/-- An access of SHR_PM_DATA (R421): the shadow word at the requester's SHR_PM_IDX, which then moves on. -/
def State.pmData (s : State) (copy e : Nat) (wr : Option Nat) : State :=
  let i := s.get F.shrPmIdx (pmIdx e copy)
  let a := e * 256 + (if (s.shr e).bank then 0 else 128) + i
  let s := match wr with
    | some v => { s with shrPm := SMap.set 0 s.shrPm a (BitVec.ofNat 16 v) }
    | none => { s with rdata := [(SMap.get 0 s.shrPm a).toNat] }
  s.put F.shrPmIdx (pmIdx e copy) ((i + 1) % 128)
def execShrPmData (r : Req) (e : Fin 32) (wr : Option (BitVec 16)) (s : State) : Out :=
  .next (if s.shOn then s.pmData r.copy e (wr.map (·.toNat))
    else match wr with
      | some _ => s.hostWr (decide (r = .sup)) (0x20084 + 0x100 * e) id
      | none => { s with rdata := [0] })

/-- The comparison of the declared and the measured VDDIO of a bank (R414): SHR_BANK_MISMATCH when they begin to differ. -/
def State.bankCheck (s : State) (k : Nat) : State :=
  let bad := s.on F.shrBankV33 k != hasBit s.vddio33 k
  let was := s.get F.shrBankMismatch k != 0
  let s := s.put F.shrBankMismatch k bad.toNat
  if bad && !was then s.raise 0x31 k else s
/-- A measurement of a bank's VDDIO (R414). -/
def execBankMismatch (k : Fin 8) (v33 : Bool) (s : State) : Out :=
  .next (if s.shOn then State.bankCheck { s with vddio33 := putBitN s.vddio33 k v33 } k
    else { s with vddio33 := putBitN s.vddio33 k v33 })

/-- The pins that are at high impedance or not driven: what the device drives on GPp, none for high impedance (R413-R415). -/
def State.gpDrive (s : State) (p : Nat) : Option Bool :=
  if s.shOn && !s.iso && hasBit s.gpOe p && s.get F.shrBankMismatch (p / 8) == 0 then some (hasBit s.gpLvl p) else none

end Sys2Proof.Machine
end

