-- ==== Sys2Proof/Machine/FoxIo.lean ====
section
/-!
DEFINITION. The frame, signal, event, global and privileged instructions of the Fox engines
(05_fox_instructions_io.md, R151-R153, R96-R102), and the completion of the accesses that block a thread.
Assumption log: 15, 16, 20, 21, 22, 23, 31.
-/
namespace Sys2Proof.Machine

/-! ## Rights and frames -/

/-- Whether a thread is privileged (R122). -/
def State.isPriv (s : State) (k : Nat) : Bool := s.get F.foxTTcfgPriv k != 0
/-- Whether the logical engine of thread `k` owns frame `h` (R163). -/
def State.ownsF (s : State) (k h : Nat) : Bool := h != 0 && (s.frame h).owner == some (k / 4)
/-- The frames a logical engine owns. -/
def State.owned (s : State) (le : Nat) : List Nat := (s.frames.filter (fun e => e.2.owner == some le)).map (·.1)
/-- ALIGN before PRIV (R140): an access of `n` frame bytes at `a` in the frame FH (R163, R164). -/
def State.frameTrap (s : State) (k : Nat) (t : Thread) (a n : Nat) : Option Nat :=
  if n ≠ 0 ∧ 9600 < a + n then some 3 else if !s.ownsF k t.fh.toNat then some 5 else none
/-- A checked operation on the frame FH. -/
def onFrame (s : State) (k : Nat) (t : Thread) (a n : Nat) (r : FRes) : FRes :=
  match s.frameTrap k t a n with
  | some c => .trap c
  | none => r

/-- The cells of a frame follow its length (R224): more are charged to the staging share of the engine that makes it grow
(R228); those beyond a shorter length go back, the last taken first. -/
def State.fitCells (s : State) (h le : Nat) : State :=
  let f := s.frame h
  let have_ := f.cells + f.mirror.toNat
  let need := cellsFor f.len
  if have_ < need then
    let n := need - have_
    let o := if f.cStage = 0 then le else f.stageOf
    ((s.stageTake o n).setFrame h { f with cStage := f.cStage + n, stageOf := o, groups := f.groups ++ s.newGroups n }).tookFree
  else if need < have_ then
    let n := have_ - need
    let a := min n f.cStage
    let b := min (n - a) f.cRes
    let c := min (n - a - b) f.cShared
    let back : Frame := { f with cStage := a, cRes := b, cShared := c, mirror := false }
    (s.freeCells back).setFrame h { f with cStage := f.cStage - a, cRes := f.cRes - b, cShared := f.cShared - c,
                                           groups := f.groups.take need }
  else s
/-- A write to a frame: discarded when its bank is lost (R178). -/
def State.frameWrite (s : State) (h le : Nat) (g : Frame → Frame) : State :=
  if (s.frame h).lost then s else (s.setFrame h (g (s.frame h))).fitCells h le
/-- The bytes a frame read returns: zero when the frame is lost (R178). -/
def State.frameBytes (s : State) (h a n : Nat) : List Byte :=
  if (s.frame h).lost then List.replicate n 0 else (s.frame h).bytes a n

/-! ## The frame write buffer (R167) -/

/-- One posted write taking effect in Sett: in the frame it names, also when another thread has pushed or released it since,
which the spec leaves open (R167; DESIGN CHOICE, log 20). -/
def State.doWrite (s : State) (k : Nat) (w : FWrite) : State :=
  s.frameWrite w.handle (k / 4) (fun f =>
    match w.ins with
    | none => f.write w.off w.bytes
    | some (p, spec, v) =>
      let sp := FSpec.of spec
      let a := p / 8
      let n := (p + sp.len - 1) / 8 - a + 1
      f.write a (finsRun sp (f.bytes a n) (p % 8) v))
/-- Every posted write of a thread takes effect, in program order. -/
def State.drainAll (s : State) (k : Nat) : State :=
  (s.each (s.th k).wbuf (fun s w => s.doWrite k w)).updTh k (fun t => { t with wbuf := [] })
/-- Posting a frame write: a full buffer blocks the thread at this word's end until one entry drains. -/
def postWrite (k : Nat) (t : Thread) (w : FWrite) (b : Block) : FRes :=
  .go (fun s => s.updTh k (fun u =>
    if u.wbuf.length < 8 then { u with wbuf := u.wbuf ++ [w] }
    else { u with st := .global, blk := b, blkPc := t.pc, blkRpt := t.rpt, blkFh := t.fh }))
/-- The posted write a thread blocked by a full buffer still owes. -/
def owedWrite (h : Nat) : Block → Option FWrite
  | .fwr a l => some { handle := h, off := a, bytes := l, ins := none }
  | .fins sp p v => some { handle := h, off := 0, bytes := [], ins := some (p, sp, v) }
  | _ => none
/-- The oldest posted write drains; a thread blocked by the full buffer posts its write and goes on. -/
def execFrameWriteDrain (k : Fin 64) (s : State) : Out :=
  .next (match (s.th k).wbuf with
    | [] => s
    | w :: q =>
      let s := (s.doWrite k w).updTh k (fun t => { t with wbuf := q })
      match owedWrite (s.th k).blkFh.toNat (s.th k).blk with
      | some x => (s.updTh k (fun t => { t with wbuf := t.wbuf ++ [x] })).unblock k
      | none => s)

/-- A blocking access: the word has committed, the thread waits for the completion (R100, R166). -/
def blockOp (k : Nat) (t : Thread) (b : Block) : FRes :=
  .go (fun s => s.updTh k (fun u => { u with st := .global, blk := b, blkPc := t.pc, blkRpt := t.rpt, blkFh := t.fh }))

/-! ## Global accesses (R95-R102, R151-R153, R659) -/

/-- Whether thread `k` may reach a byte of the global space (Table 3-4, R97, R247). -/
def State.gaOk (s : State) (k : Nat) (wr : Bool) (a : Nat) : Bool :=
  let le := k / 4
  let p := s.isPriv k
  if a < 0x200000 then s.bankOwner a == le || (p && s.isGw k && s.bankOwner a == 18)
  else if a < 0x300000 then !wr
  else if a < 0x400000 then true
  else if a < 0x440000 then
    let x := (a - 0x400000) / 256
    let b := a % 256
    (p || s.bound x le) &&
    !(wr && s.bound x le && (decide (b < 0x60) || (decide (b < 0xA0) && s.on F.flowCtrlUscEn x))) &&
    !(wr && p && !s.bound x le && decide (b < 0x60))
  else if 0x800000 ≤ a ∧ a < 0x900000 then
    let o := a - 0x800000
    if p then true
    else if 0x20000 ≤ o ∧ o < 0x22000 then
      hasBit (s.act F.foxShbind le) ((o - 0x20000) / 0x100) &&
      decide (0x10 ≤ o % 0x100) && decide (o % 0x100 < 0x18)
    else !wr && decide (0x40000 + 0x2000 * s.phys le ≤ o) && decide (o < 0x42000 + 0x2000 * s.phys le)
  else false

/-- Whether an address lies in the BAR0 mirror. -/
def inMirror (a : Nat) : Bool := decide (0x800000 ≤ a) && decide (a < 0x900000)
/-- Whether a global access of `w` at `a` takes ALIGN (R98, R153). -/
def gaAlign (w a : Nat) : Bool :=
  a % widthAlign w != 0 || (w != 5 && (List.range (widthBytes w)).any (fun j => inMirror (a + j)))
/-- The trap of a global access, or none (R98, R96, R152). -/
def State.gaTrap (s : State) (k : Nat) (wr : Bool) (w a : Nat) : Option Nat :=
  if gaAlign w a then some 3
  else if (List.range (widthBytes w)).all (fun j => s.gaOk k wr (a + j)) then none else some 5
/-- A refusal of a Common RAM access enters the refusal log (R562). -/
def State.gaRefuse (s : State) (k : Nat) (wr : Bool) (w a : Nat) : State :=
  match ((List.range (widthBytes w)).map (a + ·)).find? (fun b => decide (b < 0x200000) && !s.gaOk k wr b) with
  | some b => s.logRefuse wr (k / 4) b
  | none => s

/-- GLD and GST: the checks, then the access that blocks the thread. A refused access is logged before its trap. -/
def State.gaIssue (s : State) (k : Fin 64) (c : Fin 16) (o : Opnd) (wr : Bool) : State :=
  let legal := decide (o.b.val ≤ 5) && (o.b.val != 5 || evenReg o.d)
  let t := s.th k
  let a := ((t.reg o.a).toNat + o.imm) % 2 ^ 24
  let refused := s.canIssue k && !s.marked 4 (s.phys (k.val / 4)) t.pc.toNat && legal && condHolds c t.fl &&
    s.gaTrap k wr o.b.val a == some 5
  let s' := s.long k c legal (fun t s =>
    match s.gaTrap k wr o.b.val a with
    | some x => .trap x
    | none => blockOp k t (if wr then .gst a o.b.val (t.srcWidth o.b.val o.d) else .gld o.d a o.b.val))
  if refused then s'.gaRefuse k wr o.b.val a else s'
/-- GLD.width d, [a + off] (R151). -/
def execFxGld (k : Fin 64) (c : Fin 16) (o : Opnd) (s : State) : Out := .next (s.gaIssue k c o false)
/-- GST.width s, [a + off] (R151). -/
def execFxGst (k : Fin 64) (c : Fin 16) (o : Opnd) (s : State) : Out := .next (s.gaIssue k c o true)

/-! ## Frame access -/

/-- FRD.width d, [a + off] (R165). -/
def execFxFrd (k : Fin 64) (c : Fin 16) (o : Opnd) (s : State) : Out :=
  .next (s.long k c (decide (o.b.val ≤ 9) && (!widthPair o.b.val || evenReg o.d)) (fun t s =>
    let a := ((t.reg o.a).toNat + o.imm) % 2 ^ 24
    onFrame s k t a (widthBytes o.b.val) (blockOp k t (.frd o.d a o.b.val))))
/-- FWR.width s, [a + off] (R165, R167). -/
def execFxFwr (k : Fin 64) (c : Fin 16) (o : Opnd) (s : State) : Out :=
  .next (s.long k c (decide (o.b.val ≤ 9) && (!widthPair o.b.val || evenReg o.d)) (fun t s =>
    let a := ((t.reg o.a).toNat + o.imm) % 2 ^ 24
    let l := widthStore o.b.val (t.srcWidth o.b.val o.d)
    onFrame s k t a (widthBytes o.b.val)
      (postWrite k t { handle := t.fh.toNat, off := a, bytes := l, ins := none } (.fwr a l))))
/-- FSETL a (R169). -/
def execFxFsetl (k : Fin 64) (c : Fin 16) (o : Opnd) (s : State) : Out :=
  .next (s.long k c o.isLJ (fun t s =>
    let l := (t.reg o.a).toNat
    onFrame s k t 0 l (.go (fun s => (s.drainAll k).frameWrite t.fh.toNat (k.val / 4) (·.setLen l)))))

/-- The value of a descriptor field (Table 5-3). -/
def State.finfo (s : State) (k : Nat) (f : Frame) (sel : Nat) : Nat :=
  match sel with
  | 0 => f.len
  | 1 => f.inport
  | 2 => f.cls
  | 3 => f.flow.getD 0xFFFFFF
  | 4 => f.mirror.toNat + 2 * f.trunc.toNat + 4 * f.runt.toNat + 8 * f.rxts.isSome.toNat + 16 * f.loc.toNat +
         32 * f.vlan.toNat + 64 * f.lost.toNat
  | 5 => if f.loc then 0 else min ((s.up - f.rxAt) / 1000) 16777215
  | 6 => f.hash
  | 7 => if f.trunc then f.origlen else f.len
  | _ => (s.owned (k / 4)).length
/-- FINFO d, #sel (R171). -/
def execFxFinfo (k : Fin 64) (c : Fin 16) (o : Opnd) (s : State) : Out :=
  .next (s.long k c (o.isLI && o.a == 0 && decide (o.imm < 9)) (fun t s =>
    let h := t.fh.toNat
    movOp k o.d (BitVec.ofNat 24 (if s.ownsF k h then s.finfo k (s.frame h) o.imm else 0))))

/-- Setting Z. -/
def Thread.setZ (t : Thread) (b : Bool) : Thread := { t with fl := { t.fl with z := b } }
/-- DPOP d (R170). -/
def execFxDpop (k : Fin 64) (c : Fin 16) (o : Opnd) (s : State) : Out :=
  .next (s.long k c (o.isLR && o.a == 0 && o.b == 0) (fun t s =>
    match t.rxq, decide ((s.owned (k.val / 4)).length < 256) with
    | h :: q, true =>
      .go (fun s =>
        let f := s.frame h
        (s.setFrame h { f with owner := some (k.val / 4) }).updTh k (fun u =>
          { (u.setReg o.d (BitVec.ofNat 24 f.len)).setZ false with fh := BitVec.ofNat 24 h, rxq := q }))
    | _, _ => .go (fun s => s.updTh k (fun u => (u.setReg o.d 0).setZ true))))
/-- FNEW (R172). -/
def execFxFnew (k : Fin 64) (c : Fin 16) (o : Opnd) (s : State) : Out :=
  .next (s.long k c o.isLN (fun t _ => blockOp k t .fnew))
/-- Releasing a frame that an engine owns. -/
def State.releaseOwned (s : State) (k h : Nat) : State := if s.ownsF k h then s.dropFrame h else s
/-- FREL (R173). -/
def execFxFrel (k : Fin 64) (c : Fin 16) (o : Opnd) (s : State) : Out :=
  .next (s.long k c o.isLN (fun t _ =>
    .go (fun s => ((s.drainAll k).releaseOwned k t.fh.toNat).updTh k (fun u => { u with fh := 0 }))))

/-! ## Pushes and completions (R174-R178) -/

/-- A completion at once: the push took effect on no target. -/
def State.pushDone (s : State) (k : Nat) (cpl : Bool) (tag : W24) (status egress : Nat) : State :=
  if cpl then s.complete k { tag := tag, status := status, egress := egress, txts := none } else s
/-- The push of the frame FH with a specification (Table 5-4). A completion given at once as ZERO_LEN or LOST names egress port
0 also where the specification names a port, which the spec leaves open (R176, R178; DESIGN CHOICE, log 21). -/
def State.push (s : State) (k : Nat) (tag : W24) (spec : Nat) : State :=
  let s := s.drainAll k
  let h := (s.th k).fh.toNat
  let f := s.frame h
  let cpl := hasBit spec 11
  let s := s.updTh k (fun u => { u with fh := 0, outst := if cpl then u.outst + 1 else u.outst })
  let port := spec % 32
  if f.len = 0 then (s.dropFrame h).pushDone k cpl tag 1 0
  else if f.lost then (s.dropFrame h).pushDone k cpl tag 8 0
  else if !hasBit spec 10 && decide (s.maxFrame port < f.len) then
    ((s.inc F.swCOversize port).dropFrame h).pushDone k cpl tag 2 port
  else
    let s := s.setFrame h { f with owner := none, cls := bitsAt spec 5 3, cpl := if cpl then some (k, tag) else none,
                                   todo := [], sent := [], drops := [], txts := none }
    s.submit (16 + k / 4) h (spec % 2048)
/-- The push word: PRIV without an owned frame; at the completion limit the thread blocks on the word (R177). -/
def pushOp (k : Nat) (t : Thread) (tag : W24) (spec : Nat) (s : State) : FRes :=
  if !s.ownsF k t.fh.toNat then .trap 5
  else if hasBit spec 11 && decide (64 ≤ t.comps.length + t.outst) then
    .go (fun s => s.updTh k (fun u => { u with pc := t.pc, rpt := t.rpt, st := .global, blk := .push }))
  else .go (fun s => s.push k tag spec)
/-- DPUSH a, #spec (R174). -/
def execFxDpush (k : Fin 64) (c : Fin 16) (o : Opnd) (s : State) : Out :=
  .next (s.long k c (o.isLI && o.d == 0 && decide (o.imm < 4096) && bitsAt o.imm 8 2 == 0) (fun t s =>
    pushOp k t (t.reg o.a) o.imm s))
/-- DPUSHR a, b (R174). -/
def execFxDpushr (k : Fin 64) (c : Fin 16) (o : Opnd) (s : State) : Out :=
  .next (s.long k c (o.isLR && o.d == 0) (fun t s => pushOp k t (t.reg o.a) (t.reg o.b).toNat s))
/-- CPOP d (R176). -/
def execFxCpop (k : Fin 64) (c : Fin 16) (o : Opnd) (s : State) : Out :=
  .next (s.long k c (o.isLR && o.a == 0 && o.b == 0 && evenReg o.d) (fun t _ =>
    .go (fun s => s.updTh k (fun u =>
      match t.comps with
      | x :: q =>
        { ((u.setReg o.d x.tag).setReg (upper o.d) (BitVec.ofNat 24 (x.status + 256 * x.egress))).setZ false with
          comps := q, lastTx := if x.status = 0 then x.txts else none }
      | [] => ((u.setReg o.d 0).setReg (upper o.d) 0).setZ true))))

/-! ## CRC, checksum, hash (R179-R181) -/

/-- CRCF d, a, b (R179). -/
def execFxCrcf (k : Fin 64) (c : Fin 16) (o : Opnd) (s : State) : Out :=
  .next (s.long k c (o.isLR && evenReg o.d) (fun t s =>
    let a := (t.reg o.a).toNat
    let n := (t.reg o.b).toNat % 2 ^ 14
    if 9600 < n then .trap 3
    else onFrame s k t a n (blockOp k t (.crcf o.d a n (bitsAt (t.reg o.b).toNat 16 2)))))
/-- The bytes CRCR feeds (R179). -/
def crcrBytes (v : W24) (n : Nat) : List Byte := (toBe v.toNat 3).drop (3 - n)
/-- A CRC register after bytes, cut to the polynomial's width. -/
def crcReg (sel v : Nat) (l : List Byte) : Nat := let p := crcPoly sel; crcFeed p (v % 2 ^ p.w) l
/-- CRCR d, a, #n (R179): n[4] must be zero. -/
def execFxCrcr (k : Fin 64) (c : Fin 16) (o : Opnd) (s : State) : Out :=
  .next (s.long k c (o.isLH && decide (o.imm < 16) && evenReg o.d) (fun t _ =>
    .go (fun s => s.updTh k (fun u =>
      if o.imm % 4 = 0 then u else u.setPair32 o.d (crcReg (o.imm / 4) (t.pair32 o.d) (crcrBytes (t.reg o.a) (o.imm % 4)))))))
/-- CSUMF d, a, b (R180). -/
def execFxCsumf (k : Fin 64) (c : Fin 16) (o : Opnd) (s : State) : Out :=
  .next (s.long k c o.isLR (fun t s =>
    let a := (t.reg o.a).toNat
    let n := (t.reg o.b).toNat % 2 ^ 14
    if 9600 < n then .trap 3 else onFrame s k t a n (blockOp k t (.csumf o.d a n))))
/-- HASH d, a, b (R181). -/
def execFxHash (k : Fin 64) (c : Fin 16) (o : Opnd) (s : State) : Out :=
  .next (s.long k c o.isLR (fun t _ => movOp k o.d (BitVec.ofNat 24 (hashStep (t.reg o.a).toNat (t.reg o.b).toNat))))

/-! ## Fields and scaling (R182-R184) -/

/-- Whether a specification is legal with its a field (R161, R182). -/
def specLegal (o : Opnd) : Bool :=
  let sp := FSpec.of o.imm
  decide (sp.len ≤ 24) && (!sp.src || (evenReg o.a && decide (sp.bofs + sp.len ≤ 48)))
/-- The first bit position of a frame field. -/
def specPos (sp : FSpec) (a : W24) : Nat := (a.toNat + sp.bofs) % 2 ^ 24
/-- First byte and length of a frame field. -/
def specSpan (sp : FSpec) (p : Nat) : Nat × Nat := (p / 8, if sp.len = 0 then 0 else (p + sp.len - 1) / 8 - p / 8 + 1)
/-- FEXT d, a, #spec (R182). -/
def execFxFext (k : Fin 64) (c : Fin 16) (o : Opnd) (s : State) : Out :=
  .next (s.long k c (o.isLI && specLegal o) (fun t s =>
    let sp := FSpec.of o.imm
    if sp.src || sp.len == 0 then
      let r := fextRun sp (toLe (t.pair o.a) 6) sp.bofs t.fl
      .go (fun s => s.updTh k (fun u => { u.setReg o.d r.d with fl := r.fl }))
    else
      let p := specPos sp (t.reg o.a)
      onFrame s k t (specSpan sp p).1 (specSpan sp p).2 (blockOp k t (.fext o.d o.imm p))))
/-- FINS s, a, #spec (R183). -/
def execFxFins (k : Fin 64) (c : Fin 16) (o : Opnd) (s : State) : Out :=
  .next (s.long k c (o.isLI && specLegal o) (fun t s =>
    let sp := FSpec.of o.imm
    let v := t.reg o.d
    let flags : FRes := .go (fun s => s.updTh k (fun u => { u with fl := finsFl sp v t.fl }))
    if sp.src then
      .go (fun s => s.updTh k (fun u =>
        { u.setPair o.a (leBytes (finsRun sp (toLe (t.pair o.a) 6) sp.bofs v.toNat)) with fl := finsFl sp v t.fl }))
    else if sp.len = 0 then flags
    else
      let p := specPos sp (t.reg o.a)
      onFrame s k t (specSpan sp p).1 (specSpan sp p).2
        (match postWrite k t { handle := t.fh.toNat, off := 0, bytes := [], ins := some (p, o.imm, v.toNat) }
            (.fins o.imm p v.toNat) with
         | .go f => .go (fun s => (f s).updTh k (fun u => { u with fl := finsFl sp v t.fl }))
         | x => x)))
/-- SCALE d, a, b (R184). -/
def execFxScale (k : Fin 64) (c : Fin 16) (o : Opnd) (s : State) : Out :=
  .next (s.long k c o.isLR (fun t _ => scaleOp k o.d (t.reg o.d) (t.reg o.a) (t.reg o.b) true t))

/-! ## Timestamps (R185-R187) -/

/-- A timestamp in a form: LIN 0, SEC 1, NS 2. -/
def Stamp.form (x : Stamp) (f : Nat) : Nat :=
  match f with
  | 0 => (x.sec * 1000000000 + x.ns) % 2 ^ 48
  | 1 => x.sec % 2 ^ 48
  | _ => x.ns
/-- The timestamp of a source 0-4 (Table 5-7). -/
def State.tsrSrc (s : State) (k : Nat) (t : Thread) (src : Nat) : Stamp :=
  match src with
  | 0 => s.stamp
  | 1 => if s.ownsF k t.fh.toNat then (s.frame t.fh.toNat).rxts.getD {} else {}
  | 2 => t.lastTx.getD {}
  | 3 => { sec := s.get F.timeLatSecLo + 2 ^ 32 * s.get F.timeLatSecHi, ns := s.get F.timeLatNs,
           half := hasBit (s.get F.timeLatFrac) 15 }
  | _ => t.hold
/-- TSR d, #sel (R185, R186). -/
def execFxTsr (k : Fin 64) (c : Fin 16) (o : Opnd) (s : State) : Out :=
  let src := o.imm % 16
  let form := o.imm / 16
  .next (s.long k c (o.isLA && evenReg o.d && ((decide (src < 5) && decide (form < 3)) || (decide (8 ≤ src) && decide (src < 12) && form == 0)))
    (fun t s =>
      if 8 ≤ src then
        .go (fun x => x.updTh k (fun u => { u.setPair o.d (s.axVal (src - 8)) with fl := { u.fl with tf := false } }))
      else
        let v := s.tsrSrc k t src
        .go (fun x => x.updTh k (fun u =>
          { u.setPair o.d (v.form form) with fl := { u.fl with tf := v.half }, hold := if src = 0 then v else u.hold }))))
/-- FRXTS a (R187). -/
def execFxFrxts (k : Fin 64) (c : Fin 16) (o : Opnd) (s : State) : Out :=
  .next (s.long k c (o.isLJ && evenReg o.a) (fun t s =>
    onFrame s k t 0 0 (.go (fun s =>
      let v := t.pair o.a
      let h := t.fh.toNat
      s.setFrame h { s.frame h with
        rxts := if v = 0 ∧ !t.fl.tf then none
                else some { sec := v / 1000000000, ns := v % 1000000000, half := t.fl.tf } }))))

/-! ## Signals and doorbells (R189, R190) -/

/-- Sending a signal after every earlier frame write (R189). -/
def signalOp (k v : Nat) : FRes :=
  .go (fun s =>
    let s := s.drainAll k
    { s with sigs := s.sigs ++ [{ dst := 4 * bitsAt v 6 4 + bitsAt v 4 2, sig := bitsAt v 0 3 }] })
/-- SIGNAL #spec (R189). -/
def execFxSignal (k : Fin 64) (c : Fin 16) (o : Opnd) (s : State) : Out :=
  .next (s.long k c (o.isLI && o.d == 0 && o.a == 0 && decide (o.imm < 1024) && !hasBit o.imm 3) (fun _ _ => signalOp k o.imm))
/-- SIGNALR a (R189). -/
def execFxSignalr (k : Fin 64) (c : Fin 16) (o : Opnd) (s : State) : Out :=
  .next (s.long k c o.isLJ (fun t _ => signalOp k (t.reg o.a).toNat))
/-- DOORBELL #bit (R190). -/
def execFxDoorbell (k : Fin 64) (c : Fin 16) (o : Opnd) (s : State) : Out :=
  .next (s.long k c (o.isLI && o.d == 0 && o.a == 0 && decide (o.imm < 32)) (fun _ _ =>
    .go (fun s => (s.drainAll k).doorbell o.imm)))
/-- DOORBELLR a (R190). -/
def execFxDoorbellr (k : Fin 64) (c : Fin 16) (o : Opnd) (s : State) : Out :=
  .next (s.long k c o.isLJ (fun t _ => .go (fun s => (s.drainAll k).doorbell ((t.reg o.a).toNat % 32))))

/-! ## Shrew FIFOs (R191) -/

/-- Whether thread `k` may reach the FIFOs of a Shrew engine. -/
def State.shBound (s : State) (k e : Nat) : Bool := s.isPriv k || hasBit (s.act F.foxShbind (k / 4)) e
/-- SHPUT s, #n. -/
def execFxShput (k : Fin 64) (c : Fin 16) (o : Opnd) (s : State) : Out :=
  .next (s.long k c (o.isLI && o.a == 0 && decide (o.imm < 32)) (fun t s =>
    if s.shBound k o.imm then blockOp k t (.shput o.imm (t.reg o.d).toNat) else .trap 5))
/-- SHGET d, #n. -/
def execFxShget (k : Fin 64) (c : Fin 16) (o : Opnd) (s : State) : Out :=
  .next (s.long k c (o.isLI && o.a == 0 && decide (o.imm < 32)) (fun t s =>
    if s.shBound k o.imm then blockOp k t (.shget o.d o.imm) else .trap 5))

/-! ## Privileged instructions (R193-R196) -/

/-- PRIV in an unprivileged thread (R193). -/
def privOp (s : State) (k : Nat) (r : FRes) : FRes := if s.isPriv k then r else .trap 5
/-- XLD d, a, b (R194). -/
def execFxXld (k : Fin 64) (c : Fin 16) (o : Opnd) (s : State) : Out :=
  .next (s.long k c o.isLR (fun t s =>
    if 32768 ≤ (t.reg o.a).toNat then .trap 3
    else privOp s k (blockOp k t (.xld o.d ((t.reg o.b).toNat % 16) (t.reg o.a).toNat))))
/-- XST s, a, b (R194). -/
def execFxXst (k : Fin 64) (c : Fin 16) (o : Opnd) (s : State) : Out :=
  .next (s.long k c o.isLR (fun t s =>
    if 32768 ≤ (t.reg o.a).toNat then .trap 3
    else privOp s k (blockOp k t (.xst ((t.reg o.b).toNat % 16) (t.reg o.a).toNat (t.reg o.d).toNat))))
/-- TWAKE #spec (R195). -/
def execFxTwake (k : Fin 64) (c : Fin 16) (o : Opnd) (s : State) : Out :=
  .next (s.long k c (o.isLI && o.d == 0 && o.a == 0 && decide (o.imm < 64)) (fun _ s =>
    privOp s k (.go (fun s => s.wake (4 * (o.imm % 16) + o.imm / 16)))))
/-- FADOPT a (R196): a frame that a CAN controller holds is owned by no engine. -/
def execFxFadopt (k : Fin 64) (c : Fin 16) (o : Opnd) (s : State) : Out :=
  .next (s.long k c o.isLJ (fun t s =>
    let h := (t.reg o.a).toNat
    privOp s k (if (s.frame h).owner.any (fun e => decide (e < 16)) && h != 0 && decide ((s.owned (k.val / 4)).length < 256) then
        .go (fun s => (s.setFrame h { s.frame h with owner := some (k.val / 4) }).updTh k (fun u =>
          { u.setZ false with fh := BitVec.ofNat 24 h }))
      else .go (fun s => s.updTh k (fun u => u.setZ true)))))

/-! ## Paired words (R103-R106, R136, R159, R160, R197) -/

/-- The fields of a slot (R136). -/
def slCond (x : Nat) : Nat := bitsAt x 20 3
def slOp (x : Nat) : Nat := bitsAt x 14 6
def slReg (x lo : Nat) : Fin 16 := ⟨bitsAt x lo 4 % 16, Nat.mod_lt _ (by decide)⟩
def slD (x : Nat) : Fin 16 := slReg x 10
def slA (x : Nat) : Fin 16 := slReg x 6
def slB (x : Nat) : Fin 16 := slReg x 2
/-- The SH count, the unsigned and signed off6 and the sign-extended imm10. -/
def slN (x : Nat) : Nat := bitsAt x 1 5
def slOff (x : Nat) : Nat := bitsAt x 0 6
def slInc (x : Nat) : W24 := BitVec.ofInt 24 (sgn 6 x)
def slImm (x : Nat) : W24 := BitVec.ofInt 24 (sgn 10 x)

/-- Whether a slot is a legal word half (R136, R145, R146, R147, R150, R154, R160). -/
def slotLegal (isA : Bool) (x : Nat) : Bool :=
  let op := slOp x
  let sr := bitsAt x 0 2 == 0
  if op = 0 then bitsAt x 0 14 == 0
  else if op ≤ 0x0C then sr
  else if op ≤ 0x0E then isA && sr && slD x == 0
  else if op = 0x0F then sr && slB x == 0
  else if op = 0x10 then false
  else if op ≤ 0x1C then true
  else if op ≤ 0x1E then isA
  else if op = 0x1F then true
  else if op ≤ 0x23 then sr
  else if op ≤ 0x27 then bitAt x 0 == 0 && decide (slN x < 24)
  else if op ≤ 0x2B then sr && slB x == 0
  else if op ≤ 0x2D then bitAt x 0 == 0 && decide (slN x < 24)
  else if op = 0x2E then bitAt x 0 == 0 && decide (slN x < 24) && slD x == 0
  else if op = 0x2F then false
  else if op ≤ 0x35 then sr && slD x == 0
  else if op ≤ 0x37 then false
  else if op = 0x3A then slD x != slA x
  else if op ≤ 0x3B then true
  else if op = 0x3C then bitsAt x 0 6 == 0
  else if op = 0x3D then bitsAt x 0 6 == 0 && slA x != 3 && slA x != 9
  else if op = 0x3E then sr
  else true

/-- Whether a slot is a memory access (R106, R160, R197). -/
def slotMem (x : Nat) : Bool := (decide (0x38 ≤ slOp x) && decide (slOp x ≤ 0x3B)) || slOp x == 0x3F

/-- Destination codes: W registers 0-15, special registers 16-31 (FLG 16), the multiplier result 40, TF 41. -/
def spDest (sp : Nat) : List Nat := if sp = 0 then [16, 41] else if 6 ≤ sp ∧ sp ≤ 8 then [40] else [16 + sp]
/-- The destinations a slot names (Table 4-6, R197). -/
def slotDests (isA : Bool) (x : Nat) : List Nat :=
  let op := slOp x
  let d := (slD x).val
  let fl := if isA then [16] else []
  if op = 0 then []
  else if op = 0x0D ∨ op = 0x0E ∨ op = 0x1D ∨ op = 0x1E then fl
  else if op = 0x0F ∨ op = 0x1F ∨ op = 0x2C ∨ op = 0x2D ∨ op = 0x38 ∨ op = 0x3F ∨ op = 0x3C then [d]
  else if op = 0x2E then 41 :: fl
  else if 0x30 ≤ op ∧ op ≤ 0x35 then [40]
  else if op = 0x39 then []
  else if op = 0x3A then [d, (slA x).val]
  else if op = 0x3B then [(slA x).val]
  else if op = 0x3D then spDest (slA x).val
  else d :: fl

/-- The flag operation of an opcode 0x01-0x0E (or its immediate form less 0x10) and 0x28-0x2B. -/
def aluOfCode (op : Nat) : Alu :=
  match op with
  | 1 => .add | 2 => .adc | 3 => .sub | 4 => .sbc | 5 => .and | 6 => .or | 7 => .xor | 8 => .andn | 9 => .min | 10 => .max
  | 11 => .minu | 12 => .maxu | 13 => .cmp | 14 => .tst | 0x28 => .neg | 0x29 => .not | 0x2A => .abs | _ => .clz
/-- The shift of the low two bits of a shift opcode. -/
def shiftOfCode (op : Nat) : Shift := match op % 4 with | 0 => .lsl | 1 => .lsr | 2 => .asr | _ => .ror
/-- The multiply of the opcodes 0x30-0x35. -/
def mulOfCode (op : Nat) : Mul :=
  match op with | 0x30 => .mul | 0x31 => .mulu | 0x32 => .mac | 0x33 => .macu | 0x34 => .msu | _ => .macz

/-- The operation of a legal slot, but for FRD.UB; slot B writes no N, Z, C, V (R104). -/
def slotRun (k : Nat) (isA : Bool) (x : Nat) (t : Thread) (s : State) : FRes :=
  let op := slOp x
  let d := slD x
  let a := t.reg (slA x)
  let b := t.reg (slB x)
  if op = 0 then .go id
  else if op ≤ 0x0E then aluOp k (aluOfCode op) d a b isA t
  else if op = 0x0F then movOp k d a
  else if op ≤ 0x1E then aluOp k (aluOfCode (op - 0x10)) d (t.reg d) (slImm x) isA t
  else if op = 0x1F then movOp k d (slImm x)
  else if op ≤ 0x23 then shiftOp k (shiftOfCode op) d a (b.toNat % 32) isA t
  else if op ≤ 0x27 then shiftOp k (shiftOfCode op) d a (slN x) isA t
  else if op ≤ 0x2B then aluOp k (aluOfCode op) d a 0 isA t
  else if op = 0x2C then movOp k d (a ||| BitVec.ofNat 24 (2 ^ slN x))
  else if op = 0x2D then movOp k d (a &&& ~~~(BitVec.ofNat 24 (2 ^ slN x)))
  else if op = 0x2E then btstOp k a (slN x) isA
  else if op ≤ 0x35 then mulOp k (mulOfCode op) a b t
  else if op = 0x38 then ldOp k d ((a.toNat + slOff x) % 2 ^ 24) none s
  else if op = 0x39 then stOp k (t.reg d) ((a.toNat + slOff x) % 2 ^ 24) none
  else if op = 0x3A then ldOp k d a.toNat (some (slA x, a + slInc x)) s
  else if op = 0x3B then stOp k (t.reg d) a.toNat (some (slA x, a + slInc x))
  else if op = 0x3C then movOp k d (t.spRead k (slA x))
  else if op = 0x3D then spWriteOp k (slA x) (t.reg d)
  else scaleOp k d (t.reg d) a b isA t

/-- The half of a pair that blocks with FRD.UB, and the other half, which takes effect when the read completes. -/
def pairFrd (k : Nat) (t : Thread) (s : State) (x : Nat) (other : Option (Bool × Nat)) : FRes :=
  let a := ((t.reg (slA x)).toNat + slOff x) % 2 ^ 24
  match onFrame s k t a 1 (blockOp k t (.frd (slD x) a 0)) with
  | .go f => .go (fun s => (f s).updTh k (fun u =>
      { u with defer := other.map (fun o => (o.1, BitVec.ofNat 23 o.2, t.acc)) }))
  | r => r

/-- A paired word: bits 46:24 are slot A, 23:1 slot B (R136); both halves read before either writes (R103). -/
def execFxPair (k : Fin 64) (w : BitVec 47) (s : State) : Out :=
  let xa := bitsAt w.toNat 24 23
  let xb := bitsAt w.toNat 1 23
  let legal := slotLegal true xa && slotLegal false xb && !(slotMem xa && slotMem xb) && !w.getLsbD 0
  .next (s.issue k legal true (fun _ => true) (fun t s =>
    if (slotDests true xa).any (fun d => (slotDests false xb).contains d) then .trap 2
    else
      let ca := shortCond (slCond xa) t.fl
      let cb := shortCond (slCond xb) t.fl
      if slOp xa = 0x3F ∧ ca then pairFrd k t s xa (if cb then some (false, xb) else none)
      else if slOp xb = 0x3F ∧ cb then pairFrd k t s xb (if ca then some (true, xa) else none)
      else
        match (if ca then slotRun k true xa t s else .go id), (if cb then slotRun k false xb t s else .go id) with
        | .trap c, _ => .trap c
        | _, .trap c => .trap c
        | .go f, .go g => .go (fun s => g (f s))))

/-- The other half of a pair takes effect with the completed FRD.UB; operands are those at the issue of the word. -/
def State.runDefer (s : State) (k : Nat) : State :=
  let t := s.th k
  match t.defer with
  | none => s
  | some (isA, x, acc) =>
    let t := if slOp x.toNat = 0x3C then { t with acc := acc } else t
    let s := s.updTh k (fun u => { u with defer := none })
    match slotRun k isA x.toNat { t with pc := t.blkPc } s with
    | .go f => f s
    | .trap _ => s

/-! ## Completion of blocking accesses (R166, R172, R191, R194) -/

/-- FNEW takes effect (R172). Its class, hash and VLAN read 0 until it crosses the fabric, which the spec leaves open (R171;
DESIGN CHOICE, log 15). -/
def State.fnew (s : State) (k h : Nat) : State :=
  let le := k / 4
  if s.stageCap le ≤ s.stageUse le || decide (256 ≤ (s.owned le).length) then s.updTh k (fun u => u.setZ true)
  else
    let h := s.handle h
    let f : Frame := { inport := 16 + le, loc := true, owner := some le, cStage := 1, stageOf := le, rxAt := s.up }
    let s := ((s.setFrame h (s.withGroups f)).tookFree).stageTake le 1
    s.updTh k (fun u => { u.setZ false with fh := BitVec.ofNat 24 h })

/-- What a frame read writes (R165, R179, R180, R182). -/
def State.frameRead (s : State) (t : Thread) (b : Block) : Thread → Thread :=
  let h := t.blkFh.toNat
  match b with
  | .frd d a w => fun u => u.setWidth w d (widthValue w (s.frameBytes h a (widthBytes w)))
  | .crcf d a n sel => fun u => u.setPair32 d (crcReg sel (t.pair32 d) (s.frameBytes h a n))
  | .csumf d a n => fun u => u.setReg d (BitVec.ofNat 24 (csum ((t.reg d).toNat % 65536) (s.frameBytes h a n)))
  | .fext d spec p => fun u =>
    let sp := FSpec.of spec
    let sn := specSpan sp p
    let r := fextRun sp (s.frameBytes h sn.1 sn.2) (p % 8) u.fl
    { u.setReg d r.d with fl := r.fl }
  | _ => id

/-- A frame read, FNEW, Shrew FIFO access, XLD or XST of thread `k` completes: XLD and XST not in the freeze of the engine they
reach (R194), and one that reaches a domain that is off as R35 says; `h` is the handle for FNEW, and ECC and
the physical bank and word tell what a read of Sett met (R166, R168, R559). -/
def execFrameAccessComplete (k : Fin 64) (h : W24) (ecc : Ecc) (bank : Fin 34) (word : BitVec 13) (s : State) : Out :=
  .next (let t := s.th k
    let read : State :=
      let s := s.drainAll k
      match ecc with
      | .ok => ((s.runDefer k).updTh k (s.frameRead t t.blk)).unblock k
      | .corrected => ((((s.inc F.memCCeSett).chFault 2 bank).runDefer k).updTh k (s.frameRead t t.blk)).unblock k
      | .uncorrectable => (s.memUe 0 bank word.toNat (some (2, bank.val))).unblockTrap k 4
    match t.blk with
    | .frd .. => read
    | .crcf .. => read
    | .csumf .. => read
    | .fext .. => read
    | .fnew => (s.fnew k h.toNat).unblock k
    | .shput e v =>
      let p := if s.shOn then s.txfPush e (BitVec.ofNat 24 v) else (false, s.logPwe 1 (0x20010 + 0x100 * e) 0 4)
      (p.2.updTh k (fun u => { u with fl := { u.fl with tf := p.1 } })).unblock k
    | .shget d e =>
      let p := if s.shOn then s.rxfPop e else (none, s)
      (p.2.updTh k (fun u => { u.setReg d (p.1.getD 0) with fl := { u.fl with tf := p.1.isSome } })).unblock k
    | .xld d le a =>
      if s.freezing le then s
      else if !s.carried le || !s.domOn (foxDom (s.phys le)) then (s.updTh k (fun u => u.setReg d 0)).unblock k
      else if s.marked 4 (s.phys le) (16384 + a) then s.unblockTrap k 4
      else (s.updTh k (fun u => u.setReg d (s.dmGet le a))).unblock k
    | .xst le a v =>
      if s.freezing le then s
      else (if !s.carried le then s
        else if s.domOn (foxDom (s.phys le)) then s.dmSet le a (BitVec.ofNat 24 v)
        else s.logPwe 1 (0x40000 + 0x2000 * s.phys le) 0 4).unblock k
    | _ => s)

end Sys2Proof.Machine
end

