-- ==== Sys2Proof/Machine/Calendar.lean ====
section
/-!
DEFINITION. The firing of calendar entries (R64-R79 of 02_phase_and_time.md).
Assumption log: 35, 36, 41, 89.
-/
namespace Sys2Proof.Machine

/-- The interval of an entry. -/
def State.calIv (s : State) (e : Nat) : Nat := s.act F.phsCalIvLo e + 2 ^ 32 * s.act F.phsCalIvHi e
/-- The running p of an entry `n` intervals on in its direction (R65, R66). -/
def State.calStep (s : State) (e n : Nat) : Nat :=
  let m := s.axMod (s.act F.phsCalCtrlAxis e)
  let p := (s.calE e).p % m
  let i := n * s.calIv e % m
  if s.on F.phsCalCtrlDir e then (p + m - i) % m else (p + i) % m

/-- A TRIG action (R71, R75, R653): 0 rise, 1 fall, 2 toggle; `same` when a lower-indexed edge of the pin falls into the
same interpolation slot. -/
def State.trig (s : State) (arg : Nat) (same : Bool) : State :=
  let b := arg % 8
  let l := s.get F.phsTrigLevel
  let v := match bitsAt arg 3 2 with | 0 => true | 1 => false | _ => !hasBit l b
  let s := (s.put F.phsTrigLevel 0 (putBitN l b v)).trigLatch b
  if same then s.inc F.phsCollide else s

/-- The action of a firing entry (Table 2-4). -/
def State.calAct (s : State) (action arg : Nat) (same : Bool) : State :=
  match action with
  | 1 => s.trig arg same
  | 2 => s.eachShr (s.act F.phsSgrp (arg % 8)) State.shStart
  | 3 => s.wake (4 * (arg % 16) + bitsAt arg 4 2)
  | 4 => { s with gates := setBit s.gates (arg % 32) }
  | 5 => s.gateShut (arg % 32)
  | 6 => s.askCommit
  | 7 => s.qwStart (arg % 256)
  | 8 => s.qwEnd (arg % 256)
  | 9 => s.doorbell (arg % 32)
  | _ => s

/-- How far a gate entry on a TIME axis is advanced, in counts of its axis: the port's TX latency and TX_TRIM, to the nearest
CCLK edge (R72). -/
def State.calAdv (s : State) (e : Nat) : Int :=
  let a := s.act F.phsCalCtrlAction e
  if (a == 4 || a == 5) && s.act F.phsPxCfgSrc (s.act F.phsCalCtrlAxis e) == 1 then
    let p := s.act F.phsCalCtrlArg e
    ((((s.phyLat p).2 : Int) + sgn 16 (s.act F.timeTsTrimTxTrim p) + 2) / 4) * 2
  else 0
/-- d of R64 at the instant at which the action of an entry falls: of its axis moved on by the advance. -/
def State.calDAct (s : State) (e : Nat) : Nat :=
  let m := s.axMod (s.act F.phsCalCtrlAxis e)
  let adv := s.calAdv e
  (((s.calD e : Int) + (if s.on F.phsCalCtrlDir e then -adv else adv)) % (m : Int)).toNat
/-- Whether an armed entry is to act (R64, R72). -/
def State.calActs (s : State) (e : Nat) : Bool :=
  (s.calE e).armed && decide (2 * s.calDAct e < s.axMod (s.act F.phsCalCtrlAxis e))
/-- Due repetitions of an entry (R64). -/
def State.calN (s : State) (e : Nat) : Nat := if s.calIv e = 0 then 1 else 1 + s.calDAct e / s.calIv e
/-- Whether an entry is late (R66): marked so, or several repetitions are due. -/
def State.calLate (s : State) (e : Nat) : Bool := (s.calE e).late || decide (2 ≤ s.calN e)
/-- The CCLK edges, or for TRIG the ns, since the instant at which an entry on a TIME axis fell due; 0 for the others and for
late ones, which act now (R69, R71). -/
def State.calAge (s : State) (e : Nat) : Nat :=
  if s.calLate e || s.act F.phsPxCfgSrc (s.act F.phsCalCtrlAxis e) != 1 then 0
  else if s.act F.phsCalCtrlAction e = 1 then s.calDAct e else s.calDAct e / 2
/-- Entries between which the order of R70 or R75 holds: TRIG edges of one pin; other actions on TIME axes; other actions on
the other axes. -/
def State.calSame (s : State) (e f : Nat) : Bool :=
  if s.act F.phsCalCtrlAction e = 1 ∨ s.act F.phsCalCtrlAction f = 1 then
    s.act F.phsCalCtrlAction e == s.act F.phsCalCtrlAction f && s.act F.phsCalCtrlArg e % 8 == s.act F.phsCalCtrlArg f % 8
  else (s.act F.phsPxCfgSrc (s.act F.phsCalCtrlAxis e) == 1) == (s.act F.phsPxCfgSrc (s.act F.phsCalCtrlAxis f) == 1)
/-- Whether entry `f` acts before entry `e`: on an earlier edge, or on the same with a lower index (R70, R75). -/
def State.calBefore (s : State) (f e : Nat) : Bool :=
  f != e && s.calActs f && s.calSame e f &&
    (decide (s.calAge e < s.calAge f) || (s.calAge e == s.calAge f && decide (f < e)))
/-- Whether it is an entry's turn: no entry acts before it. -/
def State.calTurn (s : State) (e : Nat) : Bool := (s.cal.map (·.1)).all (fun f => !s.calBefore f e)

/-- An entry fires: PHS_CAL_FIRED and its action. -/
def State.calFire (s : State) (e : Nat) (same : Bool) : State :=
  (s.incWrap F.phsCalFired e).calAct (s.act F.phsCalCtrlAction e) (s.act F.phsCalCtrlArg e) same

/-- An armed entry that is due while the calendar runs (R64-R66, R70, R72, R73). -/
def execCalEntryFire (e : Fin 512) (same : Bool) (s : State) : Out :=
  .next (if s.get F.phsCtrlRun = 0 ∨ !s.calActs e ∨ !s.calTurn e then s
    else
      let c := s.calE e
      let n := s.calN e
      let once := s.act F.phsCalCtrlCatchup e == 0
      let p := s.calStep e n
      let late := s.calLate e
      let s := s.setCal e { c with p := p, late := false, armed := s.calIv e != 0 }
      if late then
        if once then (s.inc F.phsCalMissed e (n - 1)).calFire e same else s.inc F.phsCalMissed e n
      else s.calFire e same)

/-- Time in ns until the earliest armed GATE_OPEN entry of a port on a TIME axis acts (R72, R221, R346). -/
def State.nextGate (s : State) (p : Nat) : Option Nat :=
  let l := (s.cal.map (·.1)).filter (fun e => (s.calE e).armed && s.act F.phsCalCtrlAction e == 4 &&
    s.act F.phsCalCtrlArg e == p && s.act F.phsPxCfgSrc (s.act F.phsCalCtrlAxis e) == 1)
  let ts := l.map (fun e => let m := s.axMod (s.act F.phsCalCtrlAxis e); (m - s.calDAct e) % m)
  match ts with
  | [] => none
  | t :: r => some (r.foldl min t)

end Sys2Proof.Machine
end

