-- ==== Sys2Proof/Machine/Ports.lean ====
section
/-!
DEFINITION. The outputs of the fabric and the ports P0-P7 and T0-T3 (R219-R223, R238-R241, 09_ethernet_ports.md).
Assumption log: 45, 46, 47, 48, 49, 87, 88, 89.
-/
namespace Sys2Proof.Machine

/-! ## Port counters and timestamps -/

/-- A counter of a P or T port. -/
def State.incPort (s : State) (p : Nat) (eth t1s : Field) (n : Nat := 1) : State :=
  if p < 8 then s.inc eth p n else if p < 12 then s.inc t1s (p - 8) n else s

/-! ## IEEE 1588 treatment (R52-R56) -/

/-- Bytes replaced from an offset on. -/
def setBytes (l : List Byte) (a : Nat) (b : List Byte) : List Byte := l.take a ++ b ++ l.drop (a + b.length)
/-- Byte of a list as a number. -/
def byteAt (l : List Byte) (a : Nat) : Nat := (l.getD a 0).toNat

/-- Where the IEEE 1588 header lies, with the offset of the UDP checksum, if the encapsulation is recognised. -/
def State.ptpAt (s : State) (p : Nat) (l : List Byte) : Option (Nat × Option Nat) :=
  let t := if isTpid (be16 l 12) then (if isTpid (be16 l 16) then 8 else 4) else 0
  let et := be16 l (12 + t)
  let a := 14 + t
  if et = 0x88F7 ∧ s.on F.timePtpL2 p then some (a, none)
  else if et = 0x0800 ∧ s.on F.timePtpUdp4 p then
    let u := a + byteAt l a % 16 * 4
    if byteAt l (a + 9) = 17 ∧ be16 l (u + 2) = 319 then some (u + 8, some (u + 6)) else none
  else if et = 0x86DD ∧ s.on F.timePtpUdp6 p then
    let u := a + 40
    if byteAt l (a + 6) = 17 ∧ be16 l (u + 2) = 319 then some (u + 8, some (u + 6)) else none
  else none

/-- The treatment of an event message type: 0 NONE, 1 ONE_STEP, 2 TC, 3 BOTH. -/
def State.ptpTreat (s : State) (p ty : Nat) : Nat :=
  match ty with
  | 0 => s.act F.timePtpSync p
  | 1 => s.act F.timePtpDelayReq p
  | 2 => s.act F.timePtpPdelayReq p
  | 3 => s.act F.timePtpPdelayResp p
  | _ => 0

/-- An incremental update of a UDP checksum for bytes replaced at an even offset (R55); 0 means none. -/
def udpFix (c : Nat) (old new : List Byte) : Nat :=
  if c = 0 then 0
  else
    let x := 65535 - csum (csum (65535 - c) (old.map (fun b => ~~~b))) new
    if x = 0 then 65535 else x

/-- The frame as it leaves port `p` with transmit timestamp `tx` (R52-R56). -/
def State.ptpOut (s : State) (p : Nat) (f : Frame) (tx : Stamp) : List Byte :=
  let l := f.all
  if 12 ≤ p then l
  else
    match s.ptpAt p l with
    | none => l
    | some (a, ck) =>
      let tr := s.ptpTreat p (byteAt l a % 16)
      if s.on F.timePtpDomainEn p && byteAt l (a + 4) != s.act F.timePtpDomain p then l
      else if l.length < a + 48 then l
      else
        let cf : Nat := beBytes ((l.drop (a + 8)).take 8)
        let edit : Option (Int × Option (List Byte)) :=
          match f.rxts with
          | none => if hasBit tr 0 then some (if tx.half then 0x8000 else 0, some (toBe tx.sec 6 ++ toBe tx.ns 4)) else none
          | some r => if hasBit tr 1 then some (((tx.halves : Int) - r.halves) * 32768, none) else none
        match edit with
        | none => l
        | some (d, org) =>
          let m := setBytes l (a + 8) (toBe (wrapI 64 ((cf : Int) + d)) 8)
          let m := match org with | some b => setBytes m (a + 34) b | none => m
          let m := match ck with
            | some u =>
              setBytes m u (toBe (udpFix (be16 l u) ((l.drop (a + 8)).take 36) ((m.drop (a + 8)).take 36)) 2)
            | none => m
          let body := m.take (m.length - 4)
          body ++ toLe (crc32 body) 4

/-! ## Starting frames at outputs (R219-R223) -/

/-- ps per byte on the wire of a port (R296: 0.8 ns at 10.3125 Gbaud). -/
def State.psPerByte (s : State) (p : Nat) : Nat :=
  if p < 8 then (match s.get F.ethStatusSpeed p with | 2 => 8000 | 1 => 80000 | _ => 800000)
  else if p < 12 then 800000
  else match s.laneRate (p - 12) with | 0 => 800 | 1 => 1600 | _ => 3200
/-- The transmission time of a frame with preamble and inter-frame gap, rounded up, in ns. -/
def State.wireNs (s : State) (p len : Nat) : Nat := ((len + 20) * s.psPerByte p + 999) / 1000

/-- Whether a logical engine takes frames (R223): it runs, also while it migrates, and is not frozen (R128). -/
def State.takesFrames (s : State) (le : Nat) : Bool := s.runs le && !s.freezing le

/-- Whether a gate released the class 7 frame at the head of a T1S port into its next opportunity (R351). -/
def State.gateRel (s : State) (o : Nat) : Bool := (s.port o).rel != 0 && s.headOf o 7 == some (s.port o).rel
/-- Whether class `c` of an output is eligible for a frame of `len` bytes (R219-R221, R342, R351). -/
def State.eligible (s : State) (o c len : Nat) : Bool :=
  if 16 ≤ o then s.takesFrames (o - 16)
  else if 14 ≤ o then true
  else
    s.linkUp o &&
    (c != 7 || hasBit s.gates o || s.gateRel o) &&
    (8 ≤ o || s.get F.ethStatusPaused o == 0 || !hasBit (s.act F.ethFcPauseClasses o) c) &&
    (c == 7 || !s.on F.swPCfgGuard o ||
      (match s.nextGate o with | none => true | some t => decide (s.wireNs o len < t)))

/-- The frame an output would start: the head of its highest eligible class. -/
def State.pickFrame (s : State) (o : Nat) : Option Nat :=
  ([7, 6, 5, 4, 3, 2, 1, 0].filterMap (fun c => s.headOf o c)).find? (fun h =>
    s.eligible o (s.frame h).cls (s.frame h).len)

/-- The frame to start after frames that are too old or lost have been dropped on the way (R222, Table 6-3). -/
def State.takeHead (s : State) (o : Nat) : Nat → State × Option Nat
  | 0 => (s, none)
  | n + 1 =>
    match s.pickFrame o with
    | none => (s, none)
    | some h =>
      if s.tooOld (s.frame h) then (s.dropHead h o 5 F.swCAged).takeHead o n
      else if (s.frame h).lost then (s.dropHead h o 8 F.swCLost).takeHead o n
      else (s, some h)

/-- What every started frame does at its output: it leaves the FIFO, TX_FRAMES, LAT_MAX and mirroring (R235, R245); its first
preamble bit leaves in `wait` ns. -/
def State.started (s : State) (o h wait mh : Nat) : State :=
  let f := s.frame h
  let s := ({ s with outQ := s.outQ.filter (fun d => !(d.h == h && d.a == o)) } : State).inc F.swCTxFrames o
  let lat := (s.up + wait - f.rxAt) / 2
  let s := if s.get F.swCLatMax o < lat then s.put F.swCLatMax o lat else s
  (s.mirrorTx o f mh).purge o

/-- A frame has left an output (R176): its completions are given when it waits nowhere else. -/
def State.sentAt (s : State) (o h : Nat) : State :=
  let f := s.frame h
  let s := (s.setFrame h { f with todo := f.todo.filter (· != o), sent := f.sent ++ [o] }).unpin h
  s.finish h

/-- The bytes and timestamp of an attempt of the frame in transmission (R55). The completion of a frame with several targets
carries the timestamp of the attempt that began last, which the spec leaves open (R51, R176; DESIGN CHOICE, log 45). -/
def State.attempt (s : State) (o h mac : Nat) : State :=
  let tx := s.txStamp o mac
  let f := s.frame h
  let s := s.updPort o (fun x => { x with wire := s.ptpOut o f tx })
  s.setFrame h { f with txts := some tx }

/-- An external output starts frame `h` (R219, R49, R337, R559). -/
def State.startWire (s : State) (o h : Nat) (x : TxInfo) : State :=
  let wait := if o < 8 ∧ s.get F.ethStatusLpiTx o ≠ 0 then s.wakeNs o else 0
  let s := (if o < 8 then s.lpiExit o else s).started o h wait x.mirror.toNat
  let s := State.unrel { s with txing := SMap.set 0 s.txing o h } o h
  let s := (s.incPort o F.ethCTxFrames F.t1sCTxFrames).incPort o F.ethCTxOctets F.t1sCTxOctets (s.frame h).len
  let s := if x.deferred then s.incPort o F.ethCDeferred F.t1sCDeferred else s
  let s := (s.attempt o h x.mac).updPort o (fun p => { p with badFcs := false, att := 0, slots := none })
  match x.ecc with
  | .ok => s
  | .corrected => (s.inc F.memCCeSett).chFault 2 x.bank
  | .uncorrectable =>
    ((s.updPort o (fun p => { p with badFcs := true })).inc F.memCSettUeTx).memUe 0 x.bank x.word.toNat (some (2, x.bank.val))

/-- The descriptor of frame `h` enters the receive queue of a thread (R223, Table 3-7); while other targets remain, the
thread takes a copy under handle `ch`. -/
def State.deliver (s : State) (o h : Nat) (x : TxInfo) : State :=
  let s := s.started o h 0 x.mirror.toNat
  let f := s.frame h
  let k := 4 * (o - 16) + bitsAt (s.act F.swPEqmap o) (2 * f.cls) 2
  let todo := f.todo.filter (· != o)
  let f := { f with todo := todo, sent := f.sent ++ [o] }
  let g := { f with todo := [], cpl := none, hcpl := none }
  let (s, q) :=
    if todo.isEmpty then (((s.setFrame h f).owe f |>.setFrame h g).unpin h, h)
    else
      let ch := s.handle x.copy.toNat
      ((s.setFrame h f).setFrame ch { g with cShared := 0, cRes := 0, cStage := 0, mirror := f.mirror }, ch)
  (s.updTh k (fun t => { t with rxq := t.rxq ++ [q] })).setEvp k 1

/-- A frame in transmission leaves its output (R176, R337); a PAUSE frame that waited for it follows (R341). -/
def State.txDone (s : State) (o : Nat) : State :=
  let h := SMap.get 0 s.txing o
  if h = 0 then s
  else
    let s := { s with txing := SMap.set 0 s.txing o 0 }
    ((s.updPort o (fun p => { p with wire := [], slots := none, att := 0, badFcs := false })).sentAt o h).pauseGo o
/-- The timers of a T1S port: its opportunity, BEACONs, threshold steps; the back-off of a port (R338, R348, R350, R353). -/
def tmOpp (o : Nat) : Nat := tmKey 9 o
def tmBeacon (t : Nat) : Nat := tmKey 10 t
def tmThr (t : Nat) : Nat := tmKey 11 t
def tmBack (p : Nat) : Nat := tmKey 13 p
/-- The PLCA opportunity passes to the next node; after the last one the coordinator starts a cycle (R348). -/
def State.plcaNext (s : State) (o : Nat) : State :=
  let c := (s.port o).plca + 1
  let last := decide (s.act F.t1sCfgNodeCnt (o - 8) ≤ c) && s.get F.t1sStatusCoord (o - 8) != 0
  (s.updPort o (fun p => { p with plca := if last then 0 else c, burst := 0 })).tmStart (tmOpp o)
/-- A frame of the node whose opportunity it is has ended: the burst goes on, or the opportunity passes (R348). -/
def State.plcaUsed (s : State) (o : Nat) : State :=
  if 8 ≤ o ∧ o < 12 ∧ s.get F.t1sStatusPlcaAct (o - 8) ≠ 0 then
    if s.act F.t1sPlcaTmrBurstCnt (o - 8) < (s.port o).burst then s.plcaNext o else s.tmStart (tmOpp o)
  else s
def execTransmitComplete (o : Fin 32) (s : State) : Out :=
  .next (if SMap.get 0 s.txing o ≠ 0 ∧ (s.port o).slots = none then
      let s := (s.txDone o).plcaUsed o
      if o.val = 12 ∨ o.val = 13 then s.put F.ringGstatConsec 0 0 else s
    else s)

/-! ## Receiving (R204, R343, R354, R355) -/

/-- A received PAUSE frame (R342, R343). -/
def State.pauseRx (s : State) (n q : Nat) : State :=
  let s := s.inc F.ethCRxPause n
  if s.on F.ethFcRxPauseEn n && s.get F.ethStatusRxPause n != 0 && s.get F.ethStatusFd n != 0 then
    let s := if s.get F.ethStatusPaused n = 0 then s
      else s.inc F.ethCPausedUs n ((s.up - (s.port n).pausedAt) / 1000)
    (s.put F.ethStatusPaused n (if q = 0 then 0 else 1)).updPort n (fun p => { p with pausedQ := q, pausedAt := s.up })
  else s

/-- Whether a port has LVX-1208 runt mode. -/
def State.compat (s : State) (p : Nat) : Bool :=
  if p < 8 then s.on F.ethCfgCompat p else if p < 12 then s.on F.t1sCfgCompat (p - 8) else false

/-- MAC counters of a received frame. -/
def State.macRx (s : State) (p : Nat) (f : RxFrame) : State :=
  let s := (s.incPort p F.ethCRxOctets F.t1sCRxOctets f.bytes.length).incPort p F.ethCRxFrames F.t1sCRxFrames
  let s := if f.sym && p < 8 then s.inc F.ethCRxSymbolErr p else s
  if f.bytes.length < 6 then s
  else if (f.bytes.take 6).all (· == 0xFF) then s.incPort p F.ethCRxBcast F.t1sCRxBcast
  else if (f.bytes.getD 0 0).getLsbD 0 then s.incPort p F.ethCRxMcast F.t1sCRxMcast
  else s

/-- A frame that ends before its 64th byte in compatibility mode (R355). -/
def State.l1208 (s : State) (p : Nat) (f : RxFrame) : State :=
  if f.bytes.length < 8 then s.incPort p F.ethL1208Frag F.t1sL1208Frag
  else if f.fcs then s.incPort p F.ethL1208RuntGood F.t1sL1208RuntGood
  else s.incPort p F.ethL1208RuntBad F.t1sL1208RuntBad

/-- A frame taken from the wire at P0-P7 or T0-T3, or the terminating payload of a ring lane, stamped at port `q` where its
start block arrived (R49, R289). -/
def State.portRxAt (s : State) (p q : Nat) (f : RxFrame) : State :=
  let s := s.macRx p f
  let n := f.bytes.length
  let sfd := s.asOf (s.up - f.sfdAgo)
  let at_ := if isTpid (be16 f.bytes 12) then (if isTpid (be16 f.bytes 16) then 22 else 18) else 14
  if sfd.compat p && decide (n < 64) then s.l1208 p f
  else if p < 12 ∧ (parseHdr f.bytes).etype = 0x8808 ∧ f.fcs ∧ 64 ≤ n ∧ n ≤ sfd.maxFrame p then
    if 8 ≤ p then s
    else if be16 f.bytes at_ = 1 then s.pauseRx p (be16 f.bytes (at_ + 2))
    else s.inc F.ethCRxCtrlUnk p
  else s.receiveExt p f.bytes f.fcs f.lost (some (s.rxStamp q f.mac)) (s.up - f.sfdAgo) (s.up - f.hdrAgo) f.handle.toNat f.mirror.toNat

/-- A frame taken from the wire at its own port. -/
def State.portRx (s : State) (p : Nat) (f : RxFrame) : State := s.portRxAt p p f

/-- The oldest frame an internal input has accepted reaches its verdict (R203). -/
def State.intRx (s : State) (i : Nat) (mh : Nat) : State :=
  match takeFirst (fun d => d.a == i) s.subm with
  | none => s
  | some (d, q) => ({ s with subm := q } : State).verdictInt i d.h d.b mh

/-- The domain of an external port. -/
def portDom (p : Nat) : Dom := if p < 8 then .phyg else if p < 12 then .phyt else .ring
/-- The frame in reception at a port. -/
def State.setArriving (s : State) (p : Nat) (f : Option RxFrame) : State := { s with arriving := SMap.set none s.arriving p f }
/-- A frame of another node on a T1S segment is in its PLCA opportunity (R348). -/
def State.plcaHeard (s : State) (p : Nat) : State :=
  if 8 ≤ p ∧ p < 12 ∧ s.get F.t1sStatusPlcaAct (p - 8) ≠ 0 then
    (s.updPort p (fun x => { x with burst := x.burst + 1 })).plcaUsed p
  else s
/-- A frame arrives on an input (R204): from the wire while the link is up, or from an internal source. -/
def execFrameReceived (i : Fin 32) (f : RxFrame) (s : State) : Out :=
  .next (if 14 ≤ i.val then s.intRx i f.mirror.toNat
    else if s.linkUp i && s.domOn (portDom i) then
      (if f.tail then ((s.setArriving i none).portRx i f).plcaHeard i else s.setArriving i (some f))
    else s)

/-! ## Links (R238-R241, R334-R337) -/

/-- The negotiated mode of a port (R239). -/
def State.portMode (s : State) (p : Nat) : Nat :=
  if p < 8 then s.get F.ethStatusSpeed p * 2 + s.get F.ethStatusFd p
  else if p < 12 then s.act F.t1sCfgPlcaEn (p - 8) * 256 + s.act F.t1sCfgNodeId (p - 8)
  else s.laneRate (p - 12)
/-- The hold time of an output in ms. -/
def State.holdMs (s : State) (o : Nat) : Nat := min (s.act F.swPCfgHoldMs o) 100

/-- The timer of an output's hold. -/
def tmHold (o : Nat) : Nat := tmKey 7 o
/-- The link-loss edge at the fabric (R238): class 6 is flushed, other classes are held or flushed at once. -/
def State.fabricDown (s : State) (o : Nat) (hold : Bool) : State :=
  let s := s.put F.swPStatLinkUp o 0
  let s := s.flush o (fun f => f.cls == 6)
  if hold && s.holdMs o != 0 then (s.put F.swPStatHolding o (!(s.heldAt o).isEmpty).toNat).tmStart (tmHold o)
  else ((s.put F.swPStatHolding o 0).tmStop (tmHold o)).flush o (fun _ => true)
/-- The link-up edge at the fabric (R239): held frames leave, or are flushed when the mode has changed. -/
def State.fabricUp (s : State) (o : Nat) : State :=
  let same := (s.port o).mode == s.portMode o
  let s := ((s.put F.swPStatLinkUp o 1).put F.swPStatHolding o 0).tmStop (tmHold o)
  (if same then s else s.flush o (fun _ => true)).updPort o (fun p => { p with mode := s.portMode o })

/-- A frame that the link-loss edge ends on the wire (R337). -/
def State.txAbort (s : State) (p : Nat) : State :=
  if SMap.get 0 s.txing p = 0 then s else (s.incPort p F.ethCTxAbort F.t1sCTxAbort).txDone p

/-- A PAUSE stop ends: the paused time is counted (R342). -/
def State.pauseEnd (s : State) (n : Nat) : State :=
  if s.get F.ethStatusPaused n = 0 then s
  else (s.put F.ethStatusPaused n 0).inc F.ethCPausedUs n ((s.up - (s.port n).pausedAt) / 1000)
/-- Receive LPI begins or ends (R347): LPI_RX_US counts its time. -/
def State.lpiRx (s : State) (n : Nat) (on : Bool) : State :=
  if on then
    (if s.get F.ethStatusLpiRx n != 0 then s
     else (s.put F.ethStatusLpiRx n 1).updPort n (fun p => { p with lpiRxAt := s.up }))
  else if s.get F.ethStatusLpiRx n = 0 then s
  else (s.put F.ethStatusLpiRx n 0).inc F.ethCLpiRxUs n ((s.up - (s.port n).lpiRxAt) / 1000)
/-- Loss of link at a P or T port (R335): the frame in transmission is aborted, the frame in reception ends in error. -/
def State.linkLoss (s : State) (p : Nat) (hold : Bool) (part : Option RxFrame) : State :=
  if !s.linkUp p then s
  else
    let s := match part, SMap.get none s.arriving p with
      | some f, _ => (s.setArriving p none).portRx p { f with fcs := false }
      | none, some f => (s.setArriving p none).portRx p { f with fcs := false }
      | none, none => s
    let s := if p < 8 then (s.put F.ethStatusLink p 0).pauseEnd p else s.put F.t1sStatusLink (p - 8) 0
    let s := if p < 8 then ((s.lpiExit p).lpiRx p false).updPort p (fun x => { x with pauseDue := none }) else s
    let s := (s.incPort p F.ethCLinkDown F.t1sCLinkDown).txAbort p
    let s := s.updPort p (fun x => { x with lostAt := some s.up })
    (s.fabricDown p hold).raise 0x20 p
def execLinkLoss (p : Fin 12) (part : Option RxFrame) (s : State) : Out := .next (s.linkLoss p true part)

/-- HOLD_MS passes (R239). -/
def execHoldExpire (p : Fin 14) (s : State) : Out :=
  .next (if s.tmPast (tmHold p) (s.holdMs p * 1000000) then
      ((s.put F.swPStatHolding p 0).tmStop (tmHold p)).flush p (fun _ => true)
    else s)

/-- A link returns within 1 s of its loss: a transient fault of the port (Table 18-1). -/
def State.linkFault (s : State) (p : Nat) : State :=
  match (s.port p).lostAt with
  | some t => if s.up ≤ t + 1000000000 then s.chFault 0 p else s
  | none => s
/-- The pairing in use (R333): as MDIX forces it, else as auto MDI/MDI-X found it. -/
def State.pairing (s : State) (n : Nat) (auto : Bool) : Nat :=
  match s.act F.ethCfgMdix n with
  | 1 => 0
  | 2 => 1
  | _ => auto.toNat
/-- The link-up edge (R336): enabled, not retired, negotiated where negotiation is on, without a PHY fault on a T port. -/
def State.linkUpEdge (s : State) (p : Nat) (mdix : Bool) : State :=
  let ready := if p < 8 then s.on F.ethCfgEn p && (!s.on F.ethCfgAnEn p || s.get F.ethStatusAnDone p != 0)
    else s.on F.t1sCfgEn (p - 8) && !(s.port p).fault
  if s.linkUp p || !ready || s.retired 0 p || !s.domOn (portDom p) || s.iso then s
  else
    let s := if p < 8 then
        let s := s.put F.ethStatusLink p 1
        if s.on F.ethCfgAnEn p then s
        else ((s.put F.ethStatusSpeed p (s.act F.ethCfgForceSpeed p)).put F.ethStatusFd p (s.act F.ethCfgForceFd p)).put
          F.ethStatusMdixAct p (s.pairing p mdix)
      else s.put F.t1sStatusLink (p - 8) 1
    ((s.fabricUp p).linkFault p).raise 0x21 p
def execLinkUp (l : LinkIn) (s : State) : Out := .next (s.linkUpEdge l.port l.mdix)

/-! ## Negotiation (R331, R332, R334) -/

/-- The highest common mode: speed and full duplex. -/
def anMode (m : Nat) : Option (Nat × Bool) :=
  if hasBit m 4 then some (2, true) else if hasBit m 3 then some (1, true) else if hasBit m 2 then some (1, false)
  else if hasBit m 1 then some (0, true) else if hasBit m 0 then some (0, false) else none
/-- PAUSE resolution: send, honour (Annex 28B). -/
def anPause (lp la rp ra : Bool) : Bool × Bool :=
  if lp && rp then (true, true)
  else if !lp && la && rp && ra then (true, false)
  else if lp && la && !rp && ra then (false, true)
  else (false, false)

/-- Master/slave at 1000BASE-T (R332, Clause 40) from the two ends' ADV.MS, 0 prefer master, 1 prefer slave, 2 force master,
3 force slave: whether this end is master, or a fault where both force the same; `tie` decides equal preferences. -/
def msResolve (own partner : Nat) (tie : Bool) : Option Bool :=
  if 2 ≤ own then (if own = partner then none else some (own == 2))
  else if 2 ≤ partner then some (partner == 3)
  else if own = partner then some tie
  else some (own == 0)
/-- A failed resolution (R331): AN_FAIL, its counter, ETH_AN_FAIL and a transient fault. -/
def State.anFail (s : State) (n : Nat) : State :=
  ((((s.put F.ethStatusAnFail n 1).put F.ethStatusAnDone n 0).inc F.ethCAnFailCnt n).raise 0x22 n).chFault 0 n

/-- Negotiation resolves (R331, R332). -/
def execAnResolution (n : Fin 8) (r : AnResult) (s : State) : Out :=
  .next (if !s.on F.ethCfgEn n || !s.on F.ethCfgAnEn n || s.retired 0 n || !s.domOn .phyg then s
    else
      let adv := s.act F.ethAnAdvModes n
      let a := r.abil.toNat
      let s := s.put F.ethPartner n (if r.neg then a else 0)
      let m := if r.neg then anMode (Nat.land adv a)
        else if r.pd100 then (if hasBit adv 2 then some (1, false) else none)
        else (if hasBit adv 0 then some (0, false) else none)
      match m with
      | none => s.anFail n
      | some (sp, fd) =>
        let ms := msResolve (s.act F.ethAnAdvMs n) (bitsAt a 7 2) r.master
        if sp = 2 ∧ (r.msFault ∨ ms = none) then s.anFail n
        else
          let ps := if fd && r.neg then anPause (s.on F.ethAnAdvPause n) (s.on F.ethAnAdvAsmDir n) (hasBit a 9) (hasBit a 10)
            else (false, false)
          let eee := r.neg && ((sp == 2 && s.on F.ethAnAdvEee1000 n && hasBit a 12) ||
            (sp == 1 && fd && s.on F.ethAnAdvEee100 n && hasBit a 11))
          let s := (s.put F.ethStatusSpeed n sp).put F.ethStatusFd n fd.toNat
          let s := (s.put F.ethStatusTxPause n ps.1.toNat).put F.ethStatusRxPause n ps.2.toNat
          let s := (s.put F.ethStatusEeeAct n eee.toNat).put F.ethStatusMaster n (sp == 2 && ms == some true).toNat
          (s.put F.ethStatusMdixAct n (s.pairing n r.mdix)).put F.ethStatusAnDone n 1)

/-- Negotiation restarts (R334): a port whose link is up takes a link-loss edge. -/
def State.restartAn (s : State) (n : Nat) : State :=
  let s := s.linkLoss n true none
  ((s.put F.ethStatusAnDone n 0).put F.ethStatusEeeAct n 0).put F.ethStatusTxPause n 0 |>.put F.ethStatusRxPause n 0
def execRestartAn (n : Fin 8) (s : State) : Out :=
  .next (s.hostWr (s.domOn .phyg) (0x10020 + 0x1000 * n) (·.restartAn n))

/-! ## Half duplex, PAUSE, LPI (R338-R347) -/

/-- A collision with the frame in transmission (R338): late, the 16th, or a back-off of `r` slot times below its limit. -/
def execCollision (p : Fin 12) (late : Bool) (r : BitVec 10) (s : State) : Out :=
  .next (let h := SMap.get 0 s.txing p
    let half := 8 ≤ p.val || s.get F.ethStatusFd p == 0
    if h = 0 ∨ !half ∨ (s.port p).slots.isSome then s
    else if late then (s.incPort p F.ethCLateCol F.t1sCLateCol).txDone p
    else
      let s := s.incPort p F.ethCCollisions F.t1sCCollisions
      let n := (s.port p).att + 1
      if 16 ≤ n then (s.incPort p F.ethCExcCol F.t1sCExcCol).txDone p
      else (s.updPort p (fun x => { x with att := n, slots := some (r.toNat % 2 ^ min n 10) })).tmStart (tmBack p))
/-- The back-off ends and the frame is sent again, modified anew (R338, R55). -/
def execBackoffExpire (p : Fin 12) (mac : Nat) (s : State) : Out :=
  .next (let h := SMap.get 0 s.txing p
    let wait := match (s.port p).slots with | some r => r * 512 * s.psPerByte p / 8000 | none => 0
    if h = 0 ∨ (s.port p).slots = none ∨ !s.tmPast (tmBack p) wait then s
    else (s.attempt p h mac).updPort p (fun x => { x with slots := none }))

/-- ns of `n` bit times of a port. -/
def State.bitNs (s : State) (p n : Nat) : Nat := n * s.psPerByte p / 8000
/-- A PAUSE frame is repeated every QUANTA x 256 bit times while flow control stays asserted (R341); QUANTA = 0 is not
repeated. -/
def execPauseRepeat (n : Fin 8) (s : State) : Out :=
  .next (if s.get F.swPStatResActive n ≠ 0 ∧ s.act F.ethFcQuanta n ≠ 0 ∧
      s.tmPast (tmPause n) (s.bitNs n (s.act F.ethFcQuanta n * 256)) then s.flowCtl n true else s)
/-- A PAUSE frame of 64 bytes arrives (R342, R343). -/
def execPauseFrame (n : Fin 8) (q : BitVec 16) (s : State) : Out :=
  .next (if s.linkUp n then
      (((s.inc F.ethCRxOctets n 64).inc F.ethCRxFrames n).inc F.ethCRxMcast n).pauseRx n q.toNat
    else s)
/-- The pause time, q x 512 bit times, ends (R342). -/
def execPauseExpire (n : Fin 8) (s : State) : Out :=
  .next (if (s.port n).pausedAt + s.bitNs n ((s.port n).pausedQ * 512) ≤ s.up then s.pauseEnd n else s)

/-- Whether a port's class queues are empty and it sends nothing. -/
def State.portIdle (s : State) (n : Nat) : Bool := !s.outQ.any (fun d => d.a == n) && SMap.get 0 s.txing n == 0
/-- Transmit LPI is asserted (R344, R346): EEE active, queues empty for LPI_IDLE_US, and no gate open or due soon with
GATE_WAKE. With `rx`, the partner begins or ends LPI on the receive path (R347). -/
def State.lpiEnter (s : State) (n : Nat) : State :=
  let empty := s.portIdle n && decide ((s.port n).busyAt + s.act F.ethEeeLpiIdleUs n * 1000 ≤ s.up)
  let near := s.on F.ethEeeGateWake n && (hasBit s.gates n ||
    (match s.nextGate n with | none => false | some t => decide (t ≤ 250000 + s.wakeNs n)))
  if s.get F.ethStatusEeeAct n ≠ 0 ∧ s.on F.ethEeeEn n ∧ s.linkUp n ∧ empty ∧ !near ∧ s.get F.ethStatusLpiTx n = 0 then
    ((s.put F.ethStatusLpiTx n 1).inc F.ethCLpiTxEntries n).updPort n (fun p => { p with lpiAt := s.up })
  else s
def execLpiEnter (x : LpiIn) (s : State) : Out :=
  .next (match x.rx with
    | none => s.lpiEnter x.port
    | some on => if on && !(s.get F.ethStatusEeeAct x.port != 0 && s.linkUp x.port) then s else s.lpiRx x.port on)
/-- The port ends LPI Tw + 1 us ahead of a gate opening (R346). -/
def execLpiGateWake (n : Fin 8) (s : State) : Out :=
  .next (let due := match s.nextGate n with | none => false | some t => decide (t ≤ s.wakeNs n + 1000)
    if s.on F.ethEeeGateWake n && due then s.lpiExit n else s)

/-! ## T1S (R348-R353, R336) -/

/-- A BEACON at a node that is not the coordinator (R348, R350): a PLCA cycle starts and a fallback ends. -/
def execPlcaBeacon (t : Fin 4) (s : State) : Out :=
  .next (if !s.on F.t1sCfgPlcaEn t || !s.linkUp (8 + t) || s.act F.t1sCfgNodeId t == 0 then s
    else ((((s.inc F.t1sCBeaconRx t).put F.t1sStatusPlcaAct t 1).updPort (8 + t) (fun p => { p with plca := 0, burst := 0 })).tmStart
      (tmOpp (8 + t))).tmStart (tmBeacon t))
/-- No BEACON for 4,000 bit times, 400 us (R350). -/
def execPlcaFallback (t : Fin 4) (s : State) : Out :=
  .next (if s.get F.t1sStatusPlcaAct t = 0 ∨ s.act F.t1sCfgNodeId t = 0 ∨ !s.tmPast (tmBeacon t) 400000 then s
    else (((s.put F.t1sStatusPlcaAct t 0).tmStop (tmBeacon t)).inc F.t1sCPlcaFallback t).raise 0x24 (8 + t.val))
/-- An opportunity not used within TO_TMR bit times, or a burst that does not go on within BURST_TMR, passes to the next node
(R348). -/
def execPlcaOpportunityTimeout (t : Fin 4) (s : State) : Out :=
  .next (let p := s.port (8 + t)
    let n := if p.burst = 0 then s.act F.t1sPlcaTmrToTmr t else s.act F.t1sPlcaTmrBurstTmr t
    if s.get F.t1sStatusPlcaAct t = 0 ∨ SMap.get 0 s.txing (8 + t) ≠ 0 ∨ !s.tmPast (tmOpp (8 + t)) (s.bitNs (8 + t) n) then s
    else s.plcaNext (8 + t))
/-- A step of the threshold loop (R353): in its window, between frames, at most once in 10 us. -/
def execT1sThresholdStep (t : Fin 4) (rise : Bool) (s : State) : Out :=
  .next (let c := s.get F.t1sThrCur t
    let v := if rise then min 31 (c + 1) else c - 1
    let free := SMap.get 0 s.txing (8 + t) == 0 && (SMap.get none s.arriving (8 + t)).isNone &&
      (!s.tmOn (tmThr t) || s.tmPast (tmThr t) 10000)
    if s.on F.t1sThrAdaptEn t && s.window 5 && free && v != c then
      ((s.put F.t1sThrCur t v).inc F.t1sCThrSteps t).tmStart (tmThr t)
    else s)
/-- The line monitor finds a short or open (R336): PHY_FAULT, T1S_PHY_FAULT, a transient fault and loss of link; or, `gone`,
that it has gone: the port is up again while its EN is active. -/
def execT1sPhyFault (x : LineIn) (s : State) : Out :=
  .next (let p : Nat := 8 + x.port.val
    if x.gone then (s.updPort p (fun q => { q with fault := false })).linkUpEdge p false
    else
      let s := s.updPort p (fun q => { q with fault := true })
      if !s.on F.t1sCfgEn x.port then s
      else (((s.put F.t1sStatusPhyFault x.port 1).raise 0x23 p).chFault 0 p).linkLoss p true none)

/-- A delivered read of an L1208 register (R354, R356): zero in native mode, else its counters; they clear in both. -/
def State.l1208Read (s : State) (p : Nat) (frag : Bool) : State :=
  let n := if p < 8 then p else p - 8
  let b := if p < 8 then F.ethL1208RuntBad else F.t1sL1208RuntBad
  let g := if p < 8 then F.ethL1208RuntGood else F.t1sL1208RuntGood
  let f := if p < 8 then F.ethL1208Frag else F.t1sL1208Frag
  let on := s.compat p
  if frag then { s.taken f n with rdata := [if on then s.shown f n else 0] }
  else { (s.taken b n).taken g n with rdata := [if on then s.shown b n * 65536 + s.shown g n else 0] }
def execL1208Read (p : Fin 12) (frag : Bool) (s : State) : Out :=
  .next (if s.domOn (portDom p) then s.l1208Read p frag else { s with rdata := [0] })

end Sys2Proof.Machine
end

