-- ==== Sys2Proof/Machine/Owl.lean ====
section
/-!
DEFINITION. Owl (13_safety.md): the lock-out latch, the safe outputs, thread entries, safe-channel connections, the
unlock sequence, the change log and the authorisation of a configuration.
Assumption log: 12, 13, 56, 57, 58, 59, 60, 61, 62, 88.
-/
namespace Sys2Proof.Machine

/-! ## Bytes, tokens and Den -/

/-- The bytes of words 0 to n-1 of a field, least significant byte first. -/
def State.fieldBytes (s : State) (f : Field) (n : Nat) : List Byte := (List.range n).flatMap (fun i => toLe (s.get f i) 4)
/-- Words of a field from bytes. -/
def State.putBytes (s : State) (f : Field) (l : List Byte) : State :=
  s.each (List.range (l.length / 4)) (fun s i => s.put f i (leBytes ((l.drop (4 * i)).take 4)))
/-- SHA-384 as 48 bytes. -/
def sha384 (l : List Byte) : List Byte := (List.range 48).map (Config.sha384 l)
/-- The next 16 random bytes of Den (R471, R475). -/
def State.nonce (s : State) : List Byte := (List.range 4).flatMap (fun i => toLe (Config.trng (s.trngN + i)).toNat 4)
def State.tookNonce (s : State) : State := { s with trngN := s.trngN + 4 }
/-- The stored hash H (R472). -/
def State.pwH (s : State) : List Byte :=
  match s.pwHash with
  | some l => l
  | none => (List.range 48).map Config.pwHash
/-- A token: the first 16 bytes of SHA-384(H, nonce, suffix, extra) (R472, R475). -/
def State.token (s : State) (nonce suffix extra : List Byte) : List Byte :=
  (sha384 (s.pwH ++ nonce ++ suffix ++ extra)).take 16
/-- The token a GO or PASSWORD_CHANGE expects: zero while no password is set (R658). -/
def State.expect (s : State) (suffix extra : List Byte) : List Byte :=
  if s.get F.owlStatusNopw ≠ 0 then List.replicate 16 0 else s.token (s.fieldBytes F.owlAuthNonce 4) suffix extra

/-! ## The change log (R476, R477) -/

/-- Bytes 0-123 of an entry. -/
def State.logBody (s : State) (kind detail : Nat) (content : List Byte) : List Byte :=
  toLe (s.get F.owlLogSeq + 1) 4 ++ toLe s.time.sec 6 ++ toLe s.time.ns 4 ++ toLe kind 1 ++ [0] ++ toLe detail 8 ++
    (if content.isEmpty then List.replicate 48 0 else content) ++ s.fieldBytes F.owlLogHead 12 ++ List.replicate 4 0
/-- A new entry: into the cache of 64 and on its way to flash. -/
def State.logAppend (s : State) (kind : Nat) (detail : Nat := 0) (content : List Byte := []) : State :=
  let b := s.logBody kind detail content
  let e := b ++ toLe (crc32 b) 4
  let s := (s.put F.owlLogSeq 0 (s.get F.owlLogSeq + 1)).putBytes F.owlLogHead (sha384 b)
  { s with owl := { s.owl with log := (e :: s.owl.log).take 64,
                               toFlash := s.owl.toFlash ++ [(s.get F.owlLogSeq, e)] } }

/-! ## Safe outputs (R451-R454) -/

/-- The state of a thread entry: 0 none, 1 RUN, 2 FAILED, 3 WAIT_ACK (R656). -/
def State.twSt (s : State) (k : Nat) : Nat := bitsAt (s.get F.owlTwStat) (2 * k) 2
def State.setTwSt (s : State) (k v : Nat) : State :=
  let w := s.get F.owlTwStat
  s.put F.owlTwStat 0 (w - bitsAt w (2 * k) 2 * 4 ^ k + v * 4 ^ k)
/-- A thread entry and a connection. -/
def State.tw (s : State) (k : Nat) : TwEnt := SMap.get {} s.tws k
def State.setTw (s : State) (k : Nat) (x : TwEnt) : State := { s with tws := SMap.set {} s.tws k x }
def State.conn (s : State) (c : Nat) : Conn := SMap.get {} s.conns c
def State.setConn (s : State) (c : Nat) (x : Conn) : State := { s with conns := SMap.set {} s.conns c x }

/-- Every condition of R451 other than the demand. -/
def State.outFree (s : State) (k : Nat) : Bool :=
  s.get F.owlStatusLocked == 0 && !s.owl.halted && s.on F.owlOutEn k &&
  (s.activeAt F.owlCCfgEn).all (fun c => !hasBit (s.act F.owlCCfgOutmask c) k || s.get F.owlCStatState c == 2) &&
  (let t := s.act F.owlOutTw k
   !(s.on F.owlTwEn t && s.act F.owlTwReact t == 1 && decide (2 ≤ s.twSt t)))
/-- The demand of an output from its source (R453). -/
def State.outDem (s : State) (k : Nat) : Bool :=
  if s.on F.owlOutSrc k then
    let t := s.act F.owlOutTw k
    s.on F.owlTwEn t && hasBit (s.tw t).dem k
  else hasBit (s.get F.owlDemand) k
/-- The outputs that are high (R451). -/
def State.outHigh (s : State) : Nat :=
  maskOf ((List.range 4).filter (fun k => s.outFree k && s.outDem k && hasBit (s.get F.owlOutStatArmed) k))
/-- Owl drives its outputs anew: what arms a demand, what disarms it, which outputs are high (R451, R454). -/
def State.owlDrive (s : State) : State :=
  let dem := maskOf ((List.range 4).filter s.outDem)
  let arm := maskOf ((List.range 4).filter (fun k =>
    s.outFree k && (hasBit (s.get F.owlOutStatArmed) k || (hasBit dem k && !hasBit s.owl.dem k))))
  let s := State.put { s with owl := { s.owl with dem := dem } } F.owlOutStatArmed 0 arm
  let h := s.outHigh
  ((s.put F.owlOutStatEnergised 0 h).put F.owlOutStatRbA 0 h).put F.owlOutStatRbB 0 h

/-- The lock-out latch is set with a cause (R470, R657); the first cause since it was set is kept and logged. -/
def State.lockout (s : State) (cause : Nat) : State :=
  let s := (s.put F.owlCauses 0 (setBit (s.get F.owlCauses) (cause - 1))).put F.owlCausesSeen 0
    (setBit (s.get F.owlCausesSeen) (cause - 1))
  let s := if s.get F.owlStatusLocked = 0 then
      ((s.put F.owlStatusLocked 0 1).put F.owlStatusCause 0 cause).logAppend (if cause = 5 then 5 else 4) (if cause = 5 then 0 else cause)
    else if cause = 5 then s.logAppend 5
    else s
  s.owlDrive

/-- A write of 1 to FORCE_LOCK. -/
def execForceLock (s : State) : Out := .next (s.hostWr true 0x28010 (·.lockout 9))
/-! ## Demands and safety threads (R453, R656) -/

/-- Whether a value carries demand bits and their complement and nothing else (R453). -/
def demandOk (v : Nat) : Bool := v == v % 16 + (15 - v % 16) * 256
/-- A host write of OWL_DEMAND, 12 bits wide (R453, R7). -/
def State.demandSet (s : State) (w : Nat) : State :=
  let v := w % 4096
  if s.owl.halted then s
  else if demandOk v then (s.put F.owlDemand 0 v).owlDrive
  else if (List.range 4).any (fun k => !s.on F.owlOutSrc k) then (s.raise 0x41 0).lockout 10
  else s
def execOwlDemand (v : W32) (s : State) : Out := .next (s.hostWr true 0x28030 (·.demandSet v.toNat))

/-- The timers of Owl: MAX_US of a thread entry, test pulses of an output and the time since an APPLY of OWL, backstop and
copy window of a connection, the unlock window, SAFE_ACK_N high after ACK_STUCK (R455, R462, R463, R471, R656). -/
def tmTw (k : Nat) : Nat := tmKey 29 k
def tmTp (k : Nat) : Nat := tmKey 27 k
def tmOwlApply : Nat := tmKey 28 0
def tmBackstop (c : Nat) : Nat := tmKey 30 c
def tmSkew (c : Nat) : Nat := tmKey 31 c
def tmUnlock : Nat := tmKey 32 0
def tmAckHigh : Nat := tmKey 33 0

/-- A fault of a thread entry (R656): a new MAX_US interval runs. -/
def State.twFault (s : State) (k : Nat) : State :=
  let s := (((s.setTwSt k 2).setTw k { s.tw k with n := 0 }).tmStart (tmTw k)).raise 0x39 k
  if s.act F.owlTwReact k = 0 then s.lockout 2 else s.owlDrive
/-- A restart of the watchdog seen by an entry (R456, R656): sooner than MIN_US, or with a demand that breaks the format,
it is a fault; four restarts without a fault lead from FAILED to WAIT_ACK. -/
def State.twRestart (s : State) (k v : Nat) : State :=
  let e := s.tw k
  let soon := match e.last with
    | some t => decide (s.up < t + s.act F.owlTwMinUs k * 1000)
    | none => false
  let bad := !demandOk v
  let s := (s.setTw k { e with last := some s.up, dem := if bad then e.dem else v % 16 }).tmStart (tmTw k)
  if soon || bad then s.twFault k
  else if s.twSt k = 2 then
    let s := s.setTw k { s.tw k with n := e.n + 1 }
    (if 4 ≤ e.n + 1 then s.setTwSt k 3 else s).owlDrive
  else s.owlDrive
/-- The oldest report of a safety thread reaches Owl (R116, R453): taken by the entries that name the thread. -/
def execOwlThreadReport (s : State) : Out :=
  .next (match s.owlRep with
    | [] => s
    | r :: q =>
      let s := { s with owlRep := q }
      if s.owl.halted then s
      else s.each ((List.range 16).filter (fun k => s.on F.owlTwEn k && 4 * s.act F.owlTwLe k + s.act F.owlTwT k == r.k))
        (fun s k => match r.value with
          | some v => s.twRestart k v.toNat
          | none => s.twFault k))
/-- An entry sees no restart within MAX_US (R656). -/
def execOwlThreadTimeout (k : Fin 16) (s : State) : Out :=
  .next (if s.on F.owlTwEn k && !s.owl.halted && s.tmPast (tmTw k) (s.act F.owlTwMaxUs k * 1000) then s.twFault k else s)
/-- A write of OWL_TW_ACK: the entries of the mask that are in WAIT_ACK run again (R656). -/
def State.twAck (s : State) (m : Nat) : State :=
  (s.each ((bitsOf m 16).filter (fun k => s.twSt k == 3)) (fun s k => s.setTwSt k 1)).owlDrive
def execOwlTwAck (m : BitVec 16) (s : State) : Out := .next (s.hostWr true 0x28070 (·.twAck m.toNat))

/-! ## Safe-channel connections (R458-R469) -/

/-- The open flow that a connection serves (R248). -/
def State.uscFlow (s : State) (c : Nat) : Option Nat :=
  s.openFlows.find? (fun x => s.on F.flowCtrlUscEn x && s.act F.flowCtrlUscIdx x == c)
/-- The copy of the connection in bytes 0x60-0x9F of its flow context (R469). -/
def State.uscCopy (s : State) (c : Nat) : State :=
  match s.uscFlow c with
  | none => s
  | some x =>
    let w := [s.get F.owlCStatState c * 2 ^ 29 + s.get F.owlCStatFault c * 2 ^ 24 + s.get F.owlCStatDegraded c * 2 ^ 23,
      s.get F.owlCSeq c, s.get F.owlCcAccepted c, s.get F.owlCcChkFail c, s.get F.owlCcLostMsg c, s.get F.owlCcStale c,
      s.get F.owlCcSingle c, s.get F.owlCcDup c, s.get F.owlCcFails c]
    { s with flowMem := SMap.fill 0 s.flowMem (x * 256 + 0x60) (w.flatMap (fun v => toLe v 4)) }
/-- USC_FAIL of the connection's flow. -/
def State.uscFail (s : State) (c v : Nat) : State :=
  match s.uscFlow c with
  | none => s
  | some x => s.put F.flowStatUscFail x v
/-- The mode: 1 USC-B, 2 USC-D, 3 USC-BD. -/
def State.uscMode (s : State) (c : Nat) : Nat := s.act F.owlCCfgMode c
/-- M: the bytes of a message (Table 13-5). -/
def State.uscLen (s : State) (c : Nat) : Nat :=
  7 + 4 * s.act F.owlCCfgTstamp c + s.act F.owlCCfgDlen c + (if s.uscMode c = 2 then 0 else 4)

/-- A fault of a connection (R467, R468). In FAILED a message that a check fails is a fault again (DESIGN CHOICE, log 59). -/
def State.connFault (s : State) (c code : Nat) : State :=
  let s := s.setConn c { s.conn c with first := true, chk := 0, cnt := 0, dl := none, late := false, back := false, win := none }
  let s := (((s.put F.owlCStatFault c code).put F.owlCStatState c 3).inc F.owlCcFails c).uscFail c 1
  let s := s.raise 0x38 0 c
  let s := if s.act F.owlCCfgReact c = 0 then s.lockout 1 else s.owlDrive
  s.uscCopy c

/-- A failure of check 1 or 2 (Table 13-6). -/
def State.chkFail (s : State) (c : Nat) : State :=
  let n := (s.conn c).chk + 1
  let s := (s.inc F.owlCcChkFail c).setConn c { s.conn c with chk := n }
  if s.act F.owlCPosChkMax c ≤ n then s.connFault c 1 else s.uscCopy c

/-- An accepted message with sequence `q` at axis value `ax` (R460-R462, R467). -/
def State.uscAccept (s : State) (c q d ax : Nat) : State :=
  let k := s.conn c
  let m := s.axMod (s.act F.owlCCfgAxis c)
  -- D counts as reached while the axis is within half its modulus after it (DESIGN CHOICE, log 59)
  let reached : Bool := match k.dl with
    | some t => decide (2 * ((ax + m - t % m) % m) < m)
    | none => false
  let st := s.get F.owlCStatState c
  let s := (s.tmStart (tmBackstop c)).setConn c { k with
    first := false, chk := 0, cnt := k.cnt + 1, late := k.late || reached, back := true,
    dl := some ((ax + s.act F.owlCTexpLo c + 2 ^ 32 * s.act F.owlCTexpHi c) % m) }
  let s := ((s.put F.owlCSeq c (q + 1)).inc F.owlCcAccepted c).inc F.owlCcLostMsg c d
  let s := if s.act F.owlCPosSyncN c ≤ k.cnt + 1 then
      (if st = 1 then s.put F.owlCStatState c 2 else if st = 3 then s.put F.owlCStatState c 4 else s)
    else s
  s.owlDrive.uscCopy c

/-- Checks 3 to 5 of Table 13-6 on a message of M bytes (R460, R461). -/
def State.uscCheck (s : State) (c ax : Nat) (l : List Byte) : State :=
  let k := s.conn c
  let st := s.get F.owlCStatState c
  let q := beBytes ((l.drop 4).take 3)
  let sync := st == 1 || st == 3
  let d := if sync && k.first then 0 else (q + 2 ^ 24 - s.get F.owlCSeq c) % 2 ^ 24
  if beBytes (l.take 4) ≠ s.act F.owlCId c then s.connFault c 2
  else if s.act F.owlCPosSeqWin c ≤ d then
    if sync then s.setConn c { k with first := true, cnt := 0 }
    else s.connFault c (if 2 ^ 23 ≤ d then 3 else 4)
  else if s.on F.owlCCfgTstamp c && decide (s.act F.owlCAge c ≤ (ax % 2 ^ 32 + 2 ^ 32 - beBytes ((l.drop 7).take 4)) % 2 ^ 32) then
    (s.inc F.owlCcStale c).uscCopy c
  else s.uscAccept c q d ax

/-- Whether the check value of a message is right (R459). -/
def uscCrcOk (l : List Byte) : Bool := beBytes (l.drop (l.length - 4)) == crc32c (l.take (l.length - 4))

/-- Whether a path of a two-copy connection shares the links of a healed ring (R465). -/
def State.healedPath (s : State) (c : Nat) : Bool :=
  s.get F.ringStatusHealed != 0 &&
  [s.act F.owlCPathPathA c, s.act F.owlCPathPathB c].any (fun p => p == 12 || p == 13)
/-- DEGRADED after a change of the window counts or of the ring (R465): it clears after 16 windows with two copies since the
ring is intact. For SINGLE_MAX = 0 the spec does not say when a connection degrades: the first window with one copy sets
DEGRADED, as for 1 (DESIGN CHOICE, log 59). -/
def State.degrade (s : State) (c : Nat) : State :=
  let s := if s.healedPath c then s.setConn c { s.conn c with duals := 0 } else s
  let k := s.conn c
  let bad := s.healedPath c || (s.act F.owlCPathSingleMax c ≤ k.singles && k.singles != 0)
  if s.uscMode c < 2 || s.get F.owlCStatState c == 0 then s
  else if bad then
    if s.get F.owlCStatDegraded c = 0 then ((s.put F.owlCStatDegraded c 1).raise 0x40 0 c).uscCopy c else s
  else if 16 ≤ k.duals then (s.put F.owlCStatDegraded c 0).uscCopy c
  else s

/-- The copy window of a connection closes with one copy (R464). -/
def State.skewClose (s : State) (c : Nat) : State :=
  let k := s.conn c
  match k.win with
  | none => s
  | some (_, l) =>
    let s := (s.setConn c { k with win := none, singles := k.singles + 1, duals := 0 }).inc F.owlCcSingle c
    (if s.uscMode c = 3 then s.uscCheck c (s.axVal (s.act F.owlCCfgAxis c)) l else s.uscCopy c).degrade c
/-- Whether SKEW_US have passed since the window opened. -/
def State.skewPast (s : State) (c : Nat) : Bool := s.tmPast (tmSkew c) (s.act F.owlCPathSkewUs c * 1000)
/-- A copy of a message in USC-D or USC-BD (R463, R464). -/
def State.uscCopyIn (s : State) (c path ax : Nat) (l : List Byte) : State :=
  let s := if s.skewPast c then s.skewClose c else s
  let k := s.conn c
  if s.uscMode c = 3 && !uscCrcOk l then s.chkFail c
  else
    match k.win with
    | none => (s.setConn c { k with win := some (path, l) }).tmStart (tmSkew c)
    | some (p, m) =>
      if p = path then (s.inc F.owlCcDup c).uscCopy c
      else
        let s := s.setConn c { k with win := none, singles := 0, duals := k.duals + 1 }
        (if m = l then s.uscCheck c ax l else s.connFault c 5).degrade c

/-- The oldest tapped message is checked (R448, R460). -/
def State.uscMessage (s : State) (t : Tap) : State :=
  let c := t.c
  let m := s.uscLen c
  let l := t.msg.take m
  if s.get F.owlCStatState c = 0 ∨ s.owl.halted then s
  else if s.uscMode c = 1 then
    if t.len < s.act F.owlCPosOfs c + m then s.chkFail c
    else if !uscCrcOk l then s.chkFail c
    else s.uscCheck c t.ax l
  else if t.port ≠ s.act F.owlCPathPathA c ∧ t.port ≠ s.act F.owlCPathPathB c then s
  else if t.len < s.act F.owlCPosOfs c + m then s.chkFail c
  else s.uscCopyIn c (if t.port = s.act F.owlCPathPathA c then 0 else 1) t.ax l
def execUscMessage (s : State) : Out :=
  .next (match s.taps with
    | [] => s
    | t :: q => ({ s with taps := q } : State).uscMessage t)

/-- An expiry of the deadline or backstop (R462, R467): a fault but in FAILED, where the count of accepted messages
returns to 0 and both stop. -/
def State.uscExpire (s : State) (c code : Nat) : State :=
  if s.get F.owlCStatState c = 3 then s.setConn c { s.conn c with cnt := 0, dl := none, late := false, back := false }
  else s.connFault c code
/-- The axis of a connection reaches D without a timely message (R462). -/
def execUscDeadline (c : Fin 256) (s : State) : Out :=
  .next (let k := s.conn c
    let a := s.act F.owlCCfgAxis c
    let m := s.axMod a
    if s.get F.owlCStatState c = 0 ∨ s.owl.halted then s
    else match k.dl with
      | none => s
      | some d => if k.late || decide (2 * ((s.axVal a + m - d % m) % m) < m) then s.uscExpire c 6 else s)
/-- The backstop expires on OCLK (R462). -/
def execUscBackstop (c : Fin 256) (s : State) : Out :=
  .next (if s.get F.owlCStatState c = 0 ∨ s.owl.halted ∨ !(s.conn c).back ∨ !s.tmPast (tmBackstop c) (s.act F.owlCBackstop c * 1000) then s
    else s.uscExpire c 7)
/-- SKEW_US passes with one copy (R464). -/
def execUscSkewClose (c : Fin 256) (s : State) : Out := .next (if s.owl.halted || !s.skewPast c then s else s.skewClose c)
/-- A write of 1 to OWL_C_ACK for a connection (R467). -/
def State.connAck (s : State) (c : Nat) : State :=
  if s.get F.owlCStatState c = 4 then (((s.put F.owlCStatState c 2).uscFail c 0).owlDrive).uscCopy c else s
def execOwlCAck (c : Fin 256) (s : State) : Out := .next (s.hostWr true 0x28248 (·.connAck c))

/-! ## Monitors (R450, R455, R456) -/

/-- A supply leaves its window (Table 13-4). -/
def execSupplyFault (m : Fin 5) (s : State) : Out :=
  .next (let s := { s with supOut := setBit s.supOut m }
    if s.owl.halted then s else (s.raise 0x3A m).lockout 3)
/-- A supply is back in its window (R657): its SUPPLY condition ends, and the count to reset release starts (R590). -/
def execSupplyReturn (k : Fin 5) (s : State) : Out := .next { s with supOut := clrBit s.supOut k }
/-- Whether a monitored clock runs (R457): FCLK A, FCLK B and SCLK stop with their domains. -/
def State.clockOn (s : State) (k : Nat) : Bool :=
  match k with
  | 2 => s.domOn .foxa
  | 3 => s.domOn .foxb
  | 5 => s.domOn .shrew
  | _ => !s.off
/-- A clock deviates by more than 5 %: REFCLK, CCLK, FCLK A, FCLK B, TCLK, SCLK. -/
def execClockFault (k : Fin 6) (s : State) : Out :=
  .next (if s.owl.halted || !s.clockOn k then s else (s.raise 0x3B k).lockout 4)
/-- A driver's readback differs from its command for 5 us: output, and the levels read back. -/
def State.readback (s : State) (k : Nat) : State := (s.raise 0x3E k).lockout 7
def execReadbackFault (k : Fin 4) (a b : BitVec 4) (s : State) : Out :=
  .next (let want := hasBit (s.get F.owlOutStatEnergised) k
    if s.owl.halted || (a.getLsbD k == want && b.getLsbD k == want) then s
    else ((s.readback k).put F.owlOutStatRbA 0 a.toNat).put F.owlOutStatRbB 0 b.toNat)
/-- Whether a test pulse of an output falls due (R455): once in TP_MS, not within 1 ms of an APPLY of OWL. -/
def State.tpDue (s : State) (k : Nat) : Bool :=
  (!s.tmOn (tmTp k) || s.tmPast (tmTp k) (min 1000 (s.act F.owlCfgTpMs) * 1000000)) &&
  (!s.tmOn tmOwlApply || s.tmPast tmOwlApply 1000000)
/-- A test pulse of one driver of an energised output (R455); it fails when the readback does not show low. -/
def execTestPulse (k : Fin 4) (fail : Bool) (s : State) : Out :=
  .next (if s.act F.owlCfgTpMs = 0 ∨ !hasBit (s.get F.owlOutStatEnergised) k ∨ s.owl.halted ∨ !s.tpDue k then s
    else
      let s := State.tmStart { s with owl := { s.owl with tpB := putBitN s.owl.tpB k (!hasBit s.owl.tpB k) } } (tmTp k)
      if fail then s.readback k else s)
/-- A lock-step mismatch, an uncorrectable error of Owl's memories or its watchdog (R450): outputs low, latch, restart; a
second one within 1 s halts Owl. -/
def execOwlInternalFault (s : State) : Out :=
  .next (if s.owl.halted then s
    else
      let again := match s.owl.intAt with | some t => decide (s.up < t + 1000000000) | none => false
      let s := (s.raise 0x3F 0).lockout 8
      State.owlDrive { s with owl := { s.owl with intAt := some s.up, halted := again } })
/-- A report of the guardian (Table 13-3): LOCKOUT or REPORT under OWL_GUARD.REACT. -/
def State.owlGuard (s : State) : State :=
  if s.owl.halted then s
  else
    let s := s.raise 0x3D 0
    if s.act F.owlGuardReact = 0 then s.lockout 6 else s
/-- The guardian sees the transmitter enabled while its gate is closed. -/
def execTxEnabledGateClosed (s : State) : Out := .next s.owlGuard

/-! ## Leaving lock-out (R657, R471, R472) -/

/-- The causes whose condition still holds (R657); clocks are what the environment shows. -/
def State.causeHolds (s : State) (clk : Bool) : Nat :=
  maskOf ((if s.supOut != 0 then [2] else []) ++ (if clk then [3] else []) ++
    (if (s.activeAt F.owlCCfgEn).any (fun c => s.act F.owlCCfgReact c == 0 && decide (3 ≤ s.get F.owlCStatState c)) then [0] else []) ++
    (if (List.range 16).any (fun k => s.on F.owlTwEn k && s.act F.owlTwReact k == 0 && decide (2 ≤ s.twSt k)) then [1] else []))
/-- The acknowledge state. -/
def State.setAck (s : State) (v : Nat) : State := s.put F.owlStatusAck 0 v
/-- The nonce of the unlock sequence is discarded. -/
def State.noNonce (s : State) : State := s.putBytes F.owlNonce (List.replicate 16 0)

/-- SAFE_ACK_N goes low, after its filter (step 1). -/
def execSafeAckFall (s : State) : Out :=
  .next (if s.owl.halted then s
    else if s.get F.owlStatusAck = 3 then s.tmStop tmAckHigh
    else State.noNonce (State.setAck { s with owl := { s.owl with ackAt := s.up, win := false } } 1))
/-- Whether SAFE_ACK_N has been low for more than 30 s. -/
def State.ackLong (s : State) : Bool := s.get F.owlStatusAck == 1 && decide (s.owl.ackAt + 30000000000 < s.up)
/-- SAFE_ACK_N goes high (step 2): within 100 ms to 30 s, causes end that hold no more and a nonce is placed; after more than
30 s it is no acknowledge, and the pin must be high for 1 s. -/
def execSafeAckRise (clk : Bool) (s : State) : Out :=
  .next (if s.owl.halted then s
    else if s.get F.owlStatusAck = 3 ∨ s.ackLong then (s.setAck 3).tmStart tmAckHigh
    else if s.get F.owlStatusAck ≠ 1 then s
    else if s.up < s.owl.ackAt + 100000000 then s.setAck 0
    else
      let s := s.put F.owlCauses 0 (Nat.land (s.get F.owlCauses) (s.causeHolds clk))
      let s := (State.setAck { s with owl := { s.owl with win := true } } 2).tmStart tmUnlock
      if s.denOk then (s.putBytes F.owlNonce s.nonce).tookNonce else s)
/-- SAFE_ACK_N stays low for more than 30 s. -/
def execAckStuck (s : State) : Out := .next (if s.ackLong && !s.owl.halted then s.setAck 3 else s)
/-- After ACK_STUCK, SAFE_ACK_N has been high for 1 s. -/
def execAckStuckClear (s : State) : Out :=
  .next (if s.get F.owlStatusAck = 3 ∧ s.tmPast tmAckHigh 1000000000 = true then (s.setAck 0).tmStop tmAckHigh else s)
/-- Whether the window of step 3 is still open. -/
def State.unlockOpen (s : State) : Bool := s.owl.win && !s.tmPast tmUnlock 10000000001
/-- 10 s after step 2. -/
def execUnlockWindowExpire (s : State) : Out :=
  .next (if s.get F.owlStatusAck = 2 ∧ s.tmPast tmUnlock 10000000000 = true then
      State.noNonce { s with owl := { s.owl with win := false } }
    else s)

/-- The first reason to refuse an unlock, 0 for none (R471). -/
def State.unlockErr (s : State) (tok : List Byte) : Nat :=
  if s.get F.owlStatusAck ≠ 2 then 1
  else if !s.unlockOpen then 2
  else if !s.denOk then 6
  else if s.get F.owlStatusNopw ≠ 0 then 5
  else if tok.take 16 ≠ s.token (s.fieldBytes F.owlNonce 4) [0x55, 0x4E, 0x4C, 0x4B] [] then 3
  else if s.get F.owlCauses ≠ 0 then 4
  else 0
/-- Step 3 and step 4 (R471, R472, R523): the answer is UNLOCK_ERR. A latch that is clear stays so. -/
def State.unlock (s : State) (tok : List Byte) : State :=
  if s.get F.owlStatusLocked = 0 then s
  else
    let e := s.unlockErr tok
    let s := (s.put F.owlLockUnlockErr 0 e).noNonce
    let s := if s.get F.owlStatusAck = 3 then s else State.setAck { s with owl := { s.owl with win := false } } 0
    if e = 0 ∧ !s.owl.halted then ((s.logAppend 3 (s.get F.owlStatusCause)).put F.owlStatusLocked 0 0).owlDrive else s

/-! ## Authorising a configuration (R474, R475, R658) -/

/-- The pending values of the S fields of a register. -/
def State.pendWord (s : State) (fs : List Field) (i : Nat) : Nat :=
  fs.foldl (fun n f => if f.staged then n + s.get f i * 2 ^ f.lo else n) 0
/-- The words of OWL registers with S fields, in register order, instances of a register in order. -/
def State.owlContent (s : State) : List Byte :=
  let w : List (List Field) → Nat → List Byte := fun l i => l.flatMap (fun fs => toLe (s.pendWord fs i) 4)
  w [[F.owlCfgTpMs]] 0 ++
  (List.range 4).flatMap (w [[F.owlOutEn, F.owlOutSrc, F.owlOutTw]]) ++
  (List.range 5).flatMap (w [[F.owlSupLoMv, F.owlSupHiMv]]) ++ w [[F.owlGuardReact]] 0 ++
  (List.range 16).flatMap (w [[F.owlTwEn, F.owlTwLe, F.owlTwT, F.owlTwReact, F.owlTwMaxUs], [F.owlTwMinUs]]) ++
  [[F.owlCCfgEn, F.owlCCfgMode, F.owlCCfgTstamp, F.owlCCfgReact, F.owlCCfgOutmask, F.owlCCfgAxis, F.owlCCfgDlen], [F.owlCId],
    [F.owlCPosSyncN, F.owlCPosChkMax, F.owlCPosSeqWin, F.owlCPosOfs],
    [F.owlCPathSkewUs, F.owlCPathSingleMax, F.owlCPathPathB, F.owlCPathPathA], [F.owlCTexpLo], [F.owlCTexpHi],
    [F.owlCBackstop], [F.owlCAge]].flatMap (fun fs => (List.range 256).flatMap (fun c => toLe (s.pendWord fs c) 4))
/-- The content hash. -/
def State.contentHash (s : State) : List Byte := sha384 s.owlContent

/-- A write of 1 to REQ: content hash and nonce (R475). -/
def State.authReq (s : State) : State :=
  if !s.denOk || s.owl.halted then s
  else
    let s := (s.putBytes F.owlAuthNonce s.nonce).tookNonce
    State.put { s with owl := { s.owl with nonceOk := true, req := true, hash := s.contentHash, want := false } }
      F.owlAuthStatReady 0 0
def execOwlAuthReq (s : State) : Out := .next (s.hostWr true 0x28340 State.authReq)
/-- A write to any OWL S field after REQ (R475). -/
def State.authWritten (s : State) : State :=
  State.put { s with owl := { s.owl with req := false, want := false } } F.owlAuthStatReady 0 0
/-- A write of 1 to GO (R475, R658). -/
def State.authGo (s : State) : State :=
  if s.owl.halted then s
  else
    let ok := s.owl.nonceOk && s.owl.req && s.denOk &&
      s.fieldBytes F.owlToken 4 == s.expect [0x43, 0x4F, 0x4E, 0x46] s.owl.hash
    let s := { s with owl := { s.owl with nonceOk := false, req := false, want := ok } }
    if ok then s.logAppend 1 (s.get F.denBootSlot) s.owl.hash else s.put F.owlAuthStatBadToken 0 1
def execOwlAuthGo (s : State) : Out := .next (s.hostWr true 0x28340 State.authGo)
/-- The oldest log entry under way has been written to flash and read back (R475, R477). -/
def execLogEntryWritten (s : State) : Out :=
  .next (if s.pfail then s else match s.owl.toFlash with
    | [] => s
    | (n, e) :: q =>
      let config := e.getD 14 0 == 1 && s.owl.want
      let s := { s with flashLog := SMap.set [] s.flashLog (n % 4096) e, owl := { s.owl with toFlash := q } }
      if config then State.put { s with owl := { s.owl with want := false, readyAt := s.up } } F.owlAuthStatReady 0 1 else s)
/-- Whether the OWL block accepts an APPLY (R474). -/
def State.authOk (s : State) : Bool :=
  s.get F.owlAuthStatReady != 0 && s.owl.hash == s.contentHash && decide (s.up ≤ s.owl.readyAt + 10000000000)

/-! ## APPLY of OWL (R458, R462, R467, R468, R479, Table 13-4) -/

/-- A connection whose pending values a block refuses. -/
def State.connBad (s : State) (c : Nat) : Bool :=
  let r := s.get F.owlCCfgReact c
  let mode := s.get F.owlCCfgMode c
  let m := 7 + 4 * s.get F.owlCCfgTstamp c + s.get F.owlCCfgDlen c + (if mode = 2 then 0 else 4)
  s.get F.owlCCfgEn c != 0 &&
  (r == 3 || (r == 2 && s.get F.owlCCfgOutmask c != 0) || mode == 0 || decide (64 < s.get F.owlCCfgDlen c) ||
   decide (9600 < s.get F.owlCPosOfs c + m) || (s.get F.owlCTexpLo c == 0 && s.get F.owlCTexpHi c == 0) ||
   s.get F.owlCBackstop c == 0 || s.get F.owlCPosSyncN c == 0 || s.get F.owlCPosChkMax c == 0 ||
   s.get F.owlCPosSeqWin c == 0 || (s.get F.owlCCfgTstamp c != 0 && s.get F.owlCAge c == 0) ||
   (decide (2 ≤ mode) && s.get F.owlCPathSkewUs c == 0))
/-- Whether the OWL block refuses its pending values. -/
def State.owlVals (s : State) : Bool :=
  (List.range 256).any s.connBad ||
  (List.range 16).any (fun k => s.get F.owlTwReact k == 3 || (s.get F.owlTwEn k != 0 && s.get F.owlTwMaxUs k == 0)) ||
  (List.range 5).any (fun m => decide (s.get F.owlSupLoMv m < s.act F.owlSupLoMv m) || decide (s.act F.owlSupHiMv m < s.get F.owlSupHiMv m))
/-- Whether the OWL block refuses an APPLY: a value, or no authorisation (R474). -/
def State.owlBad (s : State) : Bool := s.owlVals || !s.authOk

/-- A connection after the APPLY edge; `was` whether it was enabled (R467). -/
def State.connApplied (s : State) (c : Nat) (was : Bool) : State :=
  let en := s.on F.owlCCfgEn c
  if en && !was then ((s.setConn c {}).put F.owlCStatState c 1).uscCopy c
  else if was && !en then
    (((s.setConn c {}).put F.owlCStatState c 0).put F.owlCSeq c 0).put F.owlCStatDegraded c 0 |>.uscFail c 0 |>.uscCopy c
  else s
/-- The values of a thread entry's fields that decide whether an APPLY has changed it. -/
def State.twWords (s : State) (k : Nat) : List Nat :=
  [s.act F.owlTwEn k, s.act F.owlTwLe k, s.act F.owlTwT k, s.act F.owlTwReact k, s.act F.owlTwMaxUs k, s.act F.owlTwMinUs k]
/-- A thread entry after the APPLY edge (R656): afresh in RUN. It has no demand until the thread it names writes one, but for
the same thread the demand stays (DESIGN CHOICE, log 57). -/
def State.twApplied (s old : State) (k : Nat) : State :=
  if s.twWords k = old.twWords k then s
  else
    let same := old.on F.owlTwEn k && (s.act F.owlTwLe k, s.act F.owlTwT k) == (old.act F.owlTwLe k, old.act F.owlTwT k)
    let s := (s.setTwSt k (s.act F.owlTwEn k)).setTw k { n := 0, last := none, dem := if same then (s.tw k).dem else 0 }
    if s.on F.owlTwEn k then s.tmStart (tmTw k) else s.tmStop (tmTw k)
/-- Owl after an accepted APPLY (R474). -/
def State.owlApplied (s old : State) : State :=
  let s := s.each (List.range 256) (fun s c => s.connApplied c (old.on F.owlCCfgEn c))
  let s := s.each (List.range 16) (fun s k => s.twApplied old k)
  ((State.put { s with owl := { s.owl with hash := [], want := false, req := false } } F.owlAuthStatReady 0 0).owlDrive).tmStart
    tmOwlApply

/-- Whether the change log holds a CONFIG or PROFILE entry with the content hash of the pending values (R544). -/
def State.owlInLog (s : State) : Bool :=
  let h := s.contentHash
  (s.owl.log ++ s.flashLog.map (·.2)).any (fun e => (e.getD 14 0 == 1 || e.getD 14 0 == 6) && (e.drop 24).take 48 == h)
/-- Whether Owl accepts the OWL scope of a profile APPLY (R544). -/
def State.owlProfile (s : State) : Bool := !s.owl.halted && !s.owlVals && s.owlInLog

end Sys2Proof.Machine
end

