-- ==== Sys2Proof/Machine/Ring.lean ====
section
/-!
DEFINITION. The Voleyx ring (08_voleyx_ring.md): lanes, relay and copies, control blocks and frames, the cycle and its
slots, starting and joining, the follower's clock, the guardian, healing and splicing.
Assumption log: 82, 83, 84, 85, 88.
-/
namespace Sys2Proof.Machine

/-! ## Lanes and the path (R285, R299, R316) -/

def State.rLane (s : State) (p : Nat) : Lane := SMap.get {} s.ringLanes p
def State.setLane (s : State) (p : Nat) (x : Lane) : State := { s with ringLanes := SMap.set {} s.ringLanes p x }
def State.updLane (s : State) (p : Nat) (g : Lane → Lane) : State := s.setLane p (g (s.rLane p))
/-- The state of Table 8-4. -/
def State.rst (s : State) : Nat := s.get F.ringStatusState
def State.setRst (s : State) (v : Nat) : State := s.put F.ringStatusState 0 v
def State.rnode (s : State) : Nat := s.act F.ringCfgNode
/-- The identity of the device. -/
def State.rid (s : State) : Nat := s.get F.ringIdLo + 2 ^ 32 * s.get F.ringIdHi
def State.laneLive (s : State) (p : Nat) : Bool := s.get F.ringLLive p != 0
def State.joined (s : State) (p : Nat) : Bool := s.get F.ringLJoined p != 0
/-- The node's ring block is on: EN active, the RING domain up and the card not isolated (R287, R606). -/
def State.ringOn (s : State) : Bool := s.on F.ringCfgEn && s.domOn .ring && s.rst != 0 && !s.iso
/-- MEMBER, FIRST or LISTEN_ONLY, and not outside: a node of the path. -/
def State.inRing (s : State) : Bool := decide (5 ≤ s.rst) && s.get F.ringStatusOutside == 0
/-- The other lane. -/
def otherLane (p : Nat) : Nat := 1 - p
/-- The node has exactly one joined port (R285). -/
def State.folds (s : State) : Bool := s.joined 0 != s.joined 1
/-- The lane on which a frame that arrived on `p` leaves. -/
def State.exitLane (s : State) (p : Nat) : Nat := if s.folds then p else otherLane p

/-- FOLD_E, FOLD_W and HEALED after a change of the path: healed while this node folds or a member reports a fold. -/
def State.foldUpd (s : State) : State :=
  let e := !s.joined 0 && s.joined 1
  let w := !s.joined 1 && s.joined 0
  let h := e || w || s.ring.stat.any (fun x => x.2 % 4 != 0)
  let s := ((s.put F.ringStatusFoldE 0 e.toNat).put F.ringStatusFoldW 0 w.toNat).put F.ringStatusHealed 0 h.toNat
  s.each (s.activeAt F.owlCCfgEn) State.degrade
/-- A live port joins the path: the link-up edge of its fabric port. -/
def State.joinLane (s : State) (p : Nat) : State := ((s.put F.ringLJoined p 1).fabricUp (12 + p)).foldUpd
/-- An insert that has passed the gate whole resets CONSEC (R313). -/
def State.settle (s : State) (p : Nat) : State :=
  if (s.rLane p).ends.any (fun e => decide (e ≤ s.up * 10)) then
    (s.updLane p (fun l => { l with ends := l.ends.filter (fun e => decide (s.up * 10 < e)) })).put F.ringGstatConsec 0 0
  else s
/-- Whether an insert of this node is under way on a lane. -/
def State.inserting (s : State) (p : Nat) : Bool :=
  SMap.get 0 s.txing (12 + p) != 0 || (s.rLane p).ends.any (fun e => decide (s.up * 10 < e))
/-- When the transmitter of a lane is free of control inserts and of relayed frames (R286), in 0.1 ns of `up`. -/
def State.laneFree (s : State) (p : Nat) : Nat := (s.rLane p).ends.foldl max (max (s.up * 10) (s.rLane p).relTo)
/-- Running inserts are ended with an error terminate block. -/
def State.cutInsert (s : State) (p : Nat) : State :=
  let s := (s.settle p).updLane p (fun l => { l with ends := [] })
  if SMap.get 0 s.txing (12 + p) = 0 then s else s.txDone (12 + p)
/-- A port leaves the path: the link-loss edge of its fabric port (R316, R238). -/
def State.unjoinLane (s : State) (p : Nat) : State :=
  if !s.joined p then s
  else (((((s.put F.ringLJoined p 0).cutInsert p).fabricDown (12 + p) true).updLane p
    (fun l => { l with fresh := false, endAt := 0 }))).foldUpd

/-- The transmitter of a lane falls idle and its link is gone. -/
def State.laneOff (s : State) (p : Nat) : State :=
  let s := (s.unjoinLane p).put F.ringLLive p 0
  (s.put F.ringLTrained p 0).updLane p (fun l =>
    { l with training := false, nbr := none, echo := none, samples := [], joinId := none, req := none })

/-- The timers of the ring: COLDSTART, no CSM (R300, R301), no CSM of the first node (R310), control blocks of a port
(Table 8-1), no STATUS of a member (R326), training of a port (R284), the CSM after a splice (R324). -/
def tmCold : Nat := tmKey 19 0
def tmListen : Nat := tmKey 20 0
def tmCsm : Nat := tmKey 21 0
def tmEcho (p : Nat) : Nat := tmKey 22 p
def tmStat (n : Nat) : Nat := tmKey 23 n
def tmTrain (p : Nat) : Nat := tmKey 24 p
def tmFresh (p : Nat) : Nat := tmKey 25 p

/-- An attempt to train a link starts. -/
def State.train (s : State) (p : Nat) : State := (s.updLane p (fun l => { l with training := true })).tmStart (tmTrain p)
/-- A ring port detects signal: LOS ends and training starts (R284). -/
def execRingSignalDetected (p : Fin 2) (s : State) : Out :=
  .next (if s.ringOn && !s.laneLive p && !s.retired 0 (12 + p) && !(s.rLane p).training then s.train p else s)

/-- Whether a node outside a ring joins a port that goes live: not one whose neighbour is a member (R299). -/
def State.nbrMember (s : State) (p : Nat) : Bool := match (s.rLane p).nbr with | some (m, _) => m | none => false
/-- OUTSIDE of a node that is no member: it has a live port that it did not join because the neighbour is a member (R299).
A port that the node has joined stays joined when its neighbour becomes a member later, as at the end of a cold start
(R301, R303; DEDUCED, log 82). -/
def State.outsideUpd (s : State) : State :=
  s.put F.ringStatusOutside 0 (!s.inRing && [0, 1].any (fun p => s.laneLive p && !s.joined p && s.nbrMember p)).toNat
/-- The node enters COLDSTART (R300). -/
def State.coldstart (s : State) : State := (s.setRst 3).tmStart tmCold
/-- The node enters LISTEN, and COLDSTART at once where LISTEN_US = 0 and it may (R300). -/
def State.listen (s : State) : State :=
  let s := (s.setRst 2).tmStart tmListen
  if s.on F.ringCfgColdEn && s.act F.ringListenListenUs == 0 then s.coldstart else s

/-- A training attempt ends (R284, R299, R319): the equaliser codes it adapted to, and the rate in use, or a failure that
counts against the lane; an attempt that lasts longer than 20 ms has failed. -/
def execRingTrainEnd (p : Fin 2) (ok : Bool) (x : TrainIn) (s : State) : Out :=
  .next (if !s.ringOn || !(s.rLane p).training then s
    else
     let ok := ok && !s.tmPast (tmTrain p) 20000001
     let s := s.updLane p (fun l => { l with ctle := x.ctle.toNat, dfe := x.dfe.toNat })
     if ok then
      let s := (s.updLane p (fun l => { l with training := false, fails := 0 })).tmStop (tmTrain p)
      let s := (s.put F.ringLTrained p 1).put F.ringLLive p 1
      let s := s.put F.ringLRate p (max x.rate.val (s.act F.ringCfgRateMax))
      let s := if s.rst = 1 then s.listen else s
      (if s.inRing || s.nbrMember p then s else s.joinLane p).outsideUpd
    else
      let n := (s.rLane p).fails + 1
      let s := ((s.inc F.ringLcTrainFail p).updLane p (fun l => { l with training := false, fails := n })).tmStart (tmTrain p)
      let s := s.chFault 0 (12 + p)
      if n = 5 then s.hard 0 (12 + p) 4 else s)
/-- 100 ms after a failed attempt the link trains again (R284). -/
def execRingTrainRetry (p : Fin 2) (s : State) : Out :=
  .next (if s.ringOn && !s.laneLive p && !s.retired 0 (12 + p) && !(s.rLane p).training && s.tmPast (tmTrain p) 100000000 then
      s.train p
    else s)

/-- LOS on a port (R316): link loss, fold at the other joined port, a fault of the lane, event RING_HEAL. -/
def State.los (s : State) (p : Nat) : State :=
  if !s.laneLive p && !(s.rLane p).training then s
  else
    let was := s.joined p
    let s := ((s.put F.ringLLosSeen p 1).inc F.ringLcLosEvents p).laneOff p
    let s := if was then s.chFault 0 (12 + p) else s
    let s := if was && s.inRing && s.folds then s.raise 0x10 s.rnode else s
    s.outsideUpd
def execRingLos (p : Fin 2) (s : State) : Out := .next (if s.ringOn then s.los p else s)

/-- A step of equalisation inside the window of the lane (R284, R599). -/
def execRingEqStep (p : Fin 2) (dfe : Bool) (code : BitVec 8) (s : State) : Out :=
  .next (if s.window (3 + p) && s.get F.ringLTrained p != 0 then
      s.updLane p (fun l => if dfe then { l with dfe := code.toNat } else { l with ctle := code.toNat })
    else s)

/-! ## LISTEN_ONLY and the guardian's reports (R310-R315) -/

/-- The node enters LISTEN_ONLY with a cause: from MEMBER and FIRST, with cause CLOCK from JOIN too (R310). -/
def State.listenOnly (s : State) (cause : Nat) : State :=
  if s.rst = 5 ∨ s.rst = 6 ∨ (s.rst = 7 ∧ cause = 5) ∨ (s.rst = 4 ∧ cause = 3) then
    let first := s.rst = 6
    let s := ((s.setRst 7).put F.ringStatusLoCause 0 cause).inc F.ringCListenOnlyEntries
    let s := s.raise 0x14 cause
    let s := { s with ring := { s.ring with good := 0, held := false, known := s.ring.known && !first } }
    (s.updLane 0 (fun l => { l with endAt := 0, ctl := [] })).updLane 1 (fun l => { l with endAt := 0, ctl := [] })
  else s
/-- An insert met a closed gate (R313). -/
def State.gblock (s : State) (p : Nat) : State :=
  let n := min 3 (s.get F.ringGstatConsec + 1)
  let s := ((s.inc F.ringCGblock).put F.ringGstatConsec 0 n).raise 0x15 p
  if n = 3 then (s.listenOnly 1).owlGuard else s
/-- A write of 1 to RESYNC (R314). -/
def State.ringResync (s : State) : State := s.listenOnly 5
def execRingResync (s : State) : Out := .next (s.hostWr (s.domOn .ring) 0x0C018 State.ringResync)
/-- GUARD_CLK shows no edge for 1 us (R315, Table 13-3). -/
def State.guardClkLoss (s : State) : State :=
  if s.get F.ringGstatInternalOsc ≠ 0 then s
  else ((s.put F.ringGstatInternalOsc 0 1).raise 0x18 0).raise 0x3C 0
def execGuardClkLoss (s : State) : Out := .next s.guardClkLoss

/-! ## The cycle (R294, R298) -/

/-- Tc in ns. -/
def State.tcNs (s : State) : Nat := s.act F.ringCycleUnits * 31250
/-- The active slots of this node on a lane. -/
def State.ownSlots (s : State) (p : Nat) : List Nat :=
  (s.activeAt F.ringSlotCtrlEn).filter (fun i => s.act F.ringSlotCtrlOwner i == s.rnode && s.act F.ringSlotCtrlLane i == p)
/-- The slot-table hash over the active values (R298). -/
def State.slotHash (s : State) : Nat :=
  crc32 ((s.activeAt F.ringSlotCtrlEn).flatMap (fun i =>
      toLe (2 ^ 31 + s.act F.ringSlotCtrlLane i * 2 ^ 30 + s.act F.ringSlotCtrlOwner i * 2 ^ 24 + s.act F.ringSlotCtrlStart i) 4 ++
      toLe (s.act F.ringSlotLen i) 4) ++
    toLe (s.act F.ringCycleUnits) 4 ++ toLe (s.act F.ringCfgNmax) 4 ++ toLe (s.act F.ringLmaxLmaxNs) 4 ++
    toLe (s.act F.ringGuardGuardNs) 4)
/-- Members, with their count. -/
def State.setMembers (s : State) (m : Nat) : State := (s.put F.ringMembers 0 m).put F.ringStatusMembers 0 (popCount m 32)
/-- The node becomes MEMBER or FIRST. -/
def State.becomeNode (s : State) (st : Nat) : State :=
  let s := ((s.setRst st).put F.ringStatusOutside 0 0).setMembers (setBit (s.get F.ringMembers) s.rnode)
  (s.put F.ringStatusLoCause 0 0).put F.ringStatusJoinErr 0 0
/-- The node goes back to JOIN under a first node, or to LISTEN without one; its clock must lock anew, and its time base
enters HOLDOVER where the ring steers it (R41, R310). -/
def State.rejoin (s : State) (st : Nat) : State :=
  let s := if st = 2 then s.listen else (s.setRst st).tmStart tmListen
  let s := if s.act F.timeCtrlSrc = 1 then s.srcLost else s
  let s := if st = 2 then s.tmStop tmCsm else s.tmStart tmCsm
  let s := (s.put F.ringStatusLocked 0 0).put F.ringStatusLoCause 0 0
  let s := (s.put F.ringStatusJoinErr 0 0).setMembers (if st = 2 then 0 else clrBit (s.get F.ringMembers) s.rnode)
  let s := { s with ring := { s.ring with
    stepped := false, acc := 0, near := 0, good := 0, ann := none, other := none, otherAnn := none, yields := false,
    known := decide (st = 4), plan := none, sp := none, got := [] } }
  ((s.put F.ringSplicePending 0 0).updLane 0 (fun l => { l with endAt := 0, ctl := [] })).updLane 1 (fun l => { l with endAt := 0, ctl := [] })

/-! ## Ring frames (Tables 8-2, 8-3) -/

/-- HCRC over bytes 0-7 (Table 8-2). -/
def hcrc (h : List Byte) : Nat := crcFeed (crcPoly 2) 0xFFFF (h.take 8)
/-- A ring header. -/
def ringHdr (ty dir folds hops src : Nat) (dst : Option Nat) (slot cycle : Nat) : List Byte :=
  let h := toBe (64 + ty * 16 + dir * 8 + folds * 2) 1 ++ toBe hops 1 ++ toBe src 1 ++
    toBe (match dst with | none => 128 | some d => d) 1 ++ toBe slot 1 ++ toBe cycle 3
  h ++ toBe (hcrc h) 2
/-- The header of a frame this node inserts on a lane now. -/
def State.newHdr (s : State) (ty p : Nat) (dst : Option Nat) : List Byte :=
  ringHdr ty p 0 0 s.rnode dst (s.rLane p).slot (s.get F.ringCycleNo)
/-- A control frame body of 60 bytes with its CRC, most significant byte first (R293, R5). -/
def State.ctlFrame (s : State) (op : Nat) (rest : List Byte) : List Byte :=
  let b := toBe op 1 ++ toBe s.rnode 1 ++ toBe s.rid 6 ++ rest
  let b := b ++ List.replicate (60 - b.length) 0
  b ++ toBe (crc32 b) 4
/-- Bit b of a byte when a condition holds. -/
def bitIf (c : Bool) (b : Nat) : Nat := if c then 2 ^ b else 0
/-- STATUS. -/
def State.statusBody (s : State) : List Byte :=
  s.ctlFrame 1 (toBe s.rst 1 ++
    toBe (s.get F.ringStatusHealed + s.get F.ringStatusFoldE * 2 + s.get F.ringStatusFoldW * 4 + s.get F.ringStatusLocked * 8 +
      s.get F.ringGstatInternalOsc * 16) 1 ++
    toBe (s.get F.ringHash) 4 ++ toBe (s.get F.ringLDelay 0) 2 ++ toBe (s.get F.ringLDelay 1) 2)
/-- The start of the current cycle in ns of device time. -/
def State.cycleStart (s : State) : Nat := if s.tcNs = 0 then 0 else s.time.lin / s.tcNs * s.tcNs
/-- TIME_ANN, with the splice it announces. -/
def State.annBody (s : State) (sp : Option Splice) : List Byte :=
  let t := s.cycleStart
  let v (x : Option Nat) : List Byte := toBe (match x with | some n => 128 + n | none => 0) 1
  s.ctlFrame 2 (toBe (t / 1000000000) 6 ++ toBe (t % 1000000000) 4 ++ toBe (s.get F.ringCycleNo) 3 ++
    toBe (s.act F.ringCycleUnits) 1 ++ toBe (s.get F.ringHash) 4 ++ toBe (s.act F.ringCfgNmax) 1 ++
    v (sp.map (·.a)) ++ v (sp.bind (·.b)) ++ v (sp.bind (·.j)) ++
    toBe (match sp with | some x => x.ks | none => 0) 3 ++ toBe (s.act F.ringCfgRank) 1)
/-- CSTART. -/
def State.cstartBody (s : State) : List Byte := s.ctlFrame 3 (toBe (s.act F.ringCfgRank) 1)
/-- SPLICE_REQ. -/
def State.spliceBody (s : State) (r : SpliceReq) : List Byte :=
  s.ctlFrame 4 (toBe r.id 6 ++ toBe r.node 1 ++ toBe r.west.toNat 1 ++ toBe r.hash 4 ++ toBe r.delay 2)

/-- A frame leaves a lane: it is what left last. -/
def State.emitFrame (s : State) (p : Nat) (l : List Byte) : State := s.updLane p (fun x => { x with out := l })
def State.emitBlocks (s : State) (p : Nat) (l : List Block66) : State := s.updLane p (fun x => { x with blocks := l })
/-- An insert of this node starts (INSERTED). -/
def State.insert (s : State) (p : Nat) (l : List Byte) : State := (s.emitFrame p l).inc F.ringLcInserted p
/-- Tenths of a ns per byte at the lane's rate (R296). -/
def State.byteTime (s : State) (p : Nat) : Nat := 8 * 2 ^ s.laneRate p
/-- An insert of 84 bytes on the wire (R297): it starts when the transmitter is free (R286) and runs to its end. -/
def State.insertCtl (s : State) (p : Nat) (l : List Byte) : State :=
  let s := s.settle p
  let e := s.laneFree p + 84 * s.byteTime p
  (s.insert p l).updLane p (fun x => { x with ends := x.ends ++ [e] })

/-! ## Splices (R319-R324) -/

/-- The modulus of cycle numbers. -/
def cycMod : Nat := 2 ^ 24
/-- The lane on which this member asks for a splice. -/
def State.spliceLane (s : State) : Option Nat := [0, 1].find? (fun p => (s.rLane p).req.isSome)

/-- Whether a splice request fails R321, under a slot-table hash. -/
def State.spliceBad (s : State) (r : SpliceReq) (hash : Nat) : Bool :=
  (r.id != 0 && hasBit (s.get F.ringMembers) r.node) || r.hash != hash || decide (s.act F.ringLmaxLmaxNs * 16 < r.delay) ||
    (r.id != 0 && decide (s.act F.ringCfgNmax ≤ s.get F.ringStatusMembers))
/-- The first node judges a splice request of node `m` (R321, R322). -/
def State.spliceAsk (s : State) (m : Nat) (r : SpliceReq) : State :=
  if s.rst ≠ 6 then s
  else
    if s.spliceBad r (s.get F.ringHash) then (s.inc F.ringCSpliceRefused).raise 0x12 r.node
    else match s.ring.plan with
      | some sp =>
        if sp.id = r.id ∧ r.id ≠ 0 ∧ sp.a ≠ m ∧ sp.b = none then { s with ring := { s.ring with plan := some { sp with b := some m } } }
        else s
      | none =>
        let sp : Splice := { ks := (s.get F.ringCycleNo + 3) % cycMod, a := m, b := if r.id = 0 then some r.node else none,
                             j := if r.id = 0 then none else some r.node, id := r.id }
        { s with ring := { s.ring with missed := false, plan := some sp } }

/-- What a TIME_ANN of cycle `c` announces: the splice, in cycles k_s - 2 and k_s - 1. -/
def Splice.inCycle (sp : Splice) (c : Nat) : Bool := (c + 2) % cycMod == sp.ks || (c + 1) % cycMod == sp.ks
/-- An announcement of a splice in cycle `c` is known to this node. -/
def State.announced (s : State) (sp : Splice) (c : Nat) : State :=
  let got := if s.ring.sp.map (·.ks) = some sp.ks then s.ring.got else []
  let s := { s with ring := { s.ring with sp := some sp, got := if got.contains c then got else c :: got } }
  let s := (s.put F.ringSplicePending 0 1).put F.ringSpliceCycle 0 sp.ks
  (s.updLane 0 (fun l => { l with req := none })).updLane 1 (fun l => { l with req := none })

/-- T_F in ns (R295). -/
def State.tfNs (s : State) : Nat := 2 * (s.act F.ringCfgNmax - 1) * (64 + s.act F.ringLmaxLmaxNs)
/-- Whether ring time has come to k_s x Tc - 200 ns, less its tolerance of 25 ns (R323). -/
def State.spliceDue (s : State) (ks : Nat) : Bool :=
  s.tcNs != 0 && decide (((s.time.lin + 225) / s.tcNs % cycMod + cycMod - ks) % cycMod < 2 ^ 23)
/-- At ring time k_s x Tc - 200 ns (R323): the announced members unfold, the joining node joins its ports. A first node that
could not announce the splice in both cycles plans it anew (R297). -/
def execSpliceSwitch (s : State) : Out :=
  .next (match s.ring.sp.filter (fun sp => s.spliceDue sp.ks) with
    | none => s
    | some sp =>
      let both := s.ring.got.contains ((sp.ks + cycMod - 2) % cycMod) && s.ring.got.contains ((sp.ks + cycMod - 1) % cycMod)
      let joins := (s.inRing && (sp.a == s.rnode || sp.b == some s.rnode)) ||
        (s.get F.ringStatusOutside != 0 && sp.j == some s.rnode)
      let plan := if both then none else s.ring.plan
      let s := State.put { s with ring := { s.ring with
        sp := none, got := [], plan := plan, missed := s.ring.missed || plan.isSome } } F.ringSplicePending 0 0
      if !both || !joins then s
      else
        let new := !s.inRing
        let s := s.each ([0, 1].filter (fun p => s.laneLive p && !s.joined p))
          (fun s p => ((s.joinLane p).updLane p (fun l => { l with fresh := true })).tmStart (tmFresh p))
        let s := if new then s.becomeNode 5 else s
        s.raise 0x11 (sp.j.getD (sp.b.getD 0)))
/-- No CSM of k_s on a newly joined port within T_F of the start of k_s, 200 ns after the switch (R324). -/
def execSpliceFoldback (p : Fin 2) (s : State) : Out :=
  .next (if (s.rLane p).fresh && s.tmPast (tmFresh p) (200 + s.tfNs) then s.unjoinLane p else s)

/-! ## Control blocks (Table 8-1, R299, R306, R320, R321) -/

/-- A received ECHO_REQ is answered with the residence. -/
def execEchoReq (p : Fin 2) (q : BitVec 8) (res : W32) (s : State) : Out :=
  .next (if s.ringOn && s.get F.ringLTrained p != 0 then s.emitBlocks p [.echoResp q.toNat res.toNat] else s)
/-- A received ECHO_RESP (R306): the mean of the last 64 values in 1/16 ns. -/
def execEchoResp (p : Fin 2) (q : BitVec 8) (res : W32) (t4 : Nat) (s : State) : Out :=
  .next (match (s.rLane p).echo with
    | none => s
    | some (sq, t1) =>
      if !s.ringOn || sq != q.toNat then s
      else
        let v : Int := ((t4 * 8 : Nat) - (t1 * 8 : Nat) - (res.toNat : Int)) / 2
        let l := (v :: (s.rLane p).samples).take 64
        let s := s.updLane p (fun x => { x with echo := none, samples := l })
        s.put F.ringLDelay p (l.foldl (· + ·) 0 / (l.length : Int)).toNat)
/-- The low 32 bits of the identity of this ring's first node. -/
def State.ringId (s : State) : Nat :=
  (if s.rst = 6 then s.rid else match s.ring.ann with | some a => a.id | none => 0) % 2 ^ 32
/-- A received LINK_STATE (R299, R321): a port whose neighbour is a member when the port goes live is not joined, and keeps a
node that is no member outside; a member that sees a repaired link to a member of its own ring asks for a splice. -/
def execLinkState (p : Fin 2) (member : Bool) (node : Fin 32) (id : W32) (s : State) : Out :=
  .next (if !s.ringOn || !s.laneLive p then s
    else
      let fresh := (s.rLane p).nbr.isNone
      let s := s.updLane p (fun l => { l with nbr := some (member, node.val, id.toNat) })
      if !s.inRing then
        let s := if fresh && member then s.unjoinLane p else if !member && !s.joined p then s.joinLane p else s
        s.outsideUpd
      else if member && !s.joined p && s.rst != 7 && id.toNat == s.ringId && (s.rLane p).req.isNone then
        let r : SpliceReq := { id := 0, node := node, west := p == 1, hash := s.get F.ringHash, delay := s.get F.ringLDelay p }
        if s.rst = 6 then s.spliceAsk s.rnode r else s.updLane p (fun l => { l with req := some r })
      else s)
/-- A received JOIN-A. -/
def execJoinA (p : Fin 2) (id : BitVec 48) (s : State) : Out :=
  .next (if s.ringOn && s.inRing && s.laneLive p then s.updLane p (fun l => { l with joinId := some id.toNat }) else s)
/-- A received JOIN-B completes a join request (R321). -/
def execJoinB (p : Fin 2) (node : Fin 32) (hash : W32) (s : State) : Out :=
  .next (match (s.rLane p).joinId with
    | none => s
    | some id =>
      if !s.ringOn || s.joined p || (s.rst != 5 && s.rst != 6) then s
      else
        let r : SpliceReq := { id := id, node := node, west := p == 1, hash := hash.toNat, delay := s.get F.ringLDelay p }
        let s := s.updLane p (fun l => { l with joinId := none })
        if s.rst = 6 then s.spliceAsk s.rnode r else s.updLane p (fun l => { l with req := some r }))

/-- Why a node outside the path may not ask to be spliced: JOIN_ERR (R321). -/
def State.joinErr (s : State) : Nat :=
  if hasBit (s.get F.ringMembers) s.rnode then 1
  else if s.ring.ann.map (·.hash) ≠ some (s.get F.ringHash) then 2
  else if [0, 1].any (fun p => s.laneLive p && (decide (s.act F.ringLmaxLmaxNs * 16 < s.get F.ringLDelay p) || (s.rLane p).samples.isEmpty)) then 3
  else if s.act F.ringCfgNmax ≤ s.get F.ringStatusMembers then 4
  else 0
/-- The 125 us timer of a trained port (Table 8-1), within its tolerance of 1 us; a node outside the path that is ready adds
JOIN-A and JOIN-B. JOIN_ERR keeps REFUSED while nothing else hinders it (R321; DESIGN CHOICE, log 82). -/
def execControlBlockSend (p : Fin 2) (t1 : Nat) (s : State) : Out :=
  .next (if !s.ringOn || s.get F.ringLTrained p == 0 || (s.tmOn (tmEcho p) && !s.tmPast (tmEcho p) 124000) then s
    else
      let q := ((s.rLane p).seq + 1) % 256
      let s := (s.updLane p (fun l => { l with seq := q, echo := some (q, t1) })).tmStart (tmEcho p)
      let b : List Block66 := [.echoReq q, .linkState s.inRing s.rnode s.ringId]
      if s.get F.ringStatusOutside ≠ 0 ∧ s.get F.ringStatusLocked ≠ 0 then
        let e := s.joinErr
        let s := if e = 0 ∧ s.get F.ringStatusJoinErr = 5 then s else s.put F.ringStatusJoinErr 0 e
        s.emitBlocks p (if e = 0 then b ++ [.joinA s.rid, .joinB s.rnode (s.get F.ringHash)] else b)
      else s.emitBlocks p b)
/-- A control block of a reserved type (R288). -/
def execReservedControlBlock (p : Fin 2) (ty : Fin 16) (s : State) : Out :=
  .next (if s.ringOn && s.laneLive p && (ty.val = 0 || decide (8 ≤ ty.val)) then s.inc F.ringLcCtrlBad p else s)

/-! ## Control frames (Table 8-3) -/

/-- `n` bytes of a body from `a` on, in network order. -/
def beAt (l : List Byte) (a n : Nat) : Nat := beBytes ((l.drop a).take n)
/-- (rank, identity) of one beats the other's (R301). -/
def beats (ra ia rb ib : Nat) : Bool := decide (ra < rb) || (ra == rb && decide (ia < ib))

/-- A FIRST node that knows another first node's announcement yields to it when that beats it (R302). -/
def State.dualCheck (s : State) : State :=
  match s.ring.other, s.ring.otherAnn with
  | some n, some a =>
    if s.rst = 6 ∧ a.node = n ∧ beats a.rank a.id (s.act F.ringCfgRank) s.rid then { s with ring := { s.ring with yields := true } }
    else s
  | _, _ => s

/-- STATUS (R321, R326): membership and folds. A node of the path meets its own number in its own frames only; a node
outside meets it in those of a member that bears it too. -/
def State.statusRx (s : State) (b : List Byte) : State :=
  let n := byteAt b 1 % 32
  if n = s.rnode ∧ s.get F.ringStatusOutside = 0 then s
  else
    let s := s.tmStart (tmStat n)
    let fl := byteAt b 9
    let s := { s with ring := { s.ring with stat := SMap.set 0 s.ring.stat n (4 + bitAt fl 1 + 2 * bitAt fl 2) } }
    (s.setMembers (setBit (s.get F.ringMembers) n)).foldUpd
/-- TIME_ANN (R308, R298, R322, R302). -/
def State.annRx (s : State) (b : List Byte) : State :=
  let n := byteAt b 1 % 32
  let a : Ann := { node := n, ns := beAt b 8 6 * 1000000000 + beAt b 14 4, cycle := beAt b 18 3, hash := beAt b 22 4,
                   rank := byteAt b 33 % 16, id := beAt b 2 6 }
  if n = s.rnode then s
  else if s.rst = 6 ∨ (s.ring.known ∧ s.get F.ringStatusFirst ≠ n) then
    State.dualCheck { s with ring := { s.ring with otherAnn := some a } }
  else
    let s := { s with ring := { s.ring with ann := some a } }
    let s := if a.hash ≠ s.get F.ringHash ∧ s.rst = 5 then s.listenOnly 4 else s
    let v (i : Nat) : Option Nat := if 128 ≤ byteAt b i then some (byteAt b i % 32) else none
    match v 27 with
    | none => s
    | some m => s.announced { ks := beAt b 30 3, a := m, b := v 28, j := v 29 } a.cycle
/-- CSTART (R301): a node in COLDSTART that is beaten enters JOIN. -/
def State.cstartRx (s : State) (b : List Byte) : State :=
  if s.rst = 3 ∧ beats (byteAt b 8 % 16) (beAt b 2 6) (s.act F.ringCfgRank) s.rid then (State.setRst { s with ring := { s.ring with stepped := false } } 4).tmStart tmListen
  else s
/-- SPLICE_REQ (R322). A node outside that overhears a request for itself which the first node must refuse sets JOIN_ERR to
REFUSED (R321; DESIGN CHOICE, log 82: the spec gives the joiner no message of the refusal). -/
def State.spliceRx (s : State) (b : List Byte) : State :=
  let r : SpliceReq :=
    { id := beAt b 8 6, node := byteAt b 14 % 32, west := byteAt b 15 % 2 == 1, hash := beAt b 16 4, delay := beAt b 20 2 }
  let s := if s.get F.ringStatusOutside ≠ 0 ∧ r.id = s.rid ∧ s.ring.ann.any (fun a => s.spliceBad r a.hash) then
      s.put F.ringStatusJoinErr 0 5 else s
  s.spliceAsk (byteAt b 1 % 32) r

/-- The listed bytes of an OP; the others are reserved. -/
def ctlLen (op : Nat) : Nat := match op with | 1 => 18 | 2 => 34 | 3 => 9 | 4 => 22 | _ => 0
/-- A control frame with its CRC that a lane receives (R293). -/
def State.ctlRx (s : State) (p : Nat) (l : List Byte) : State :=
  let b := l.take 60
  let op := byteAt b 0
  if l.length ≠ 64 ∨ l.drop 60 ≠ toBe (crc32 b) 4 ∨ ctlLen op = 0 ∨ (b.drop (ctlLen op)).any (· != 0) then
    s.inc F.ringLcCtrlBad p
  else match op with
    | 1 => s.statusRx b
    | 2 => s.annRx b
    | 3 => s.cstartRx b
    | _ => s.spliceRx b
/-- Control frames as the ring MAC consumes them; a body with another OP has no such effect. -/
def State.ctlOp (s : State) (p op : Nat) (b : List Byte) (g : State → State) : State :=
  if s.ringOn && s.laneLive p && byteAt b 0 == op then g s else s
def execStatus (p : Fin 2) (b : List Byte) (s : State) : Out := .next (s.ctlOp p 1 b (·.statusRx b))
def execTimeAnn (p : Fin 2) (b : List Byte) (s : State) : Out := .next (s.ctlOp p 2 b (·.annRx b))
def execCstart (p : Fin 2) (b : List Byte) (s : State) : Out := .next (s.ctlOp p 3 b (·.cstartRx b))
def execSpliceReq (p : Fin 2) (b : List Byte) (s : State) : Out := .next (s.ctlOp p 4 b (·.spliceRx b))

/-! ## Relay and copies (R285, R291, R292, R320) -/

/-- A terminating copy enters the fabric by its direction (R283): FP12 for DIR = 1, FP13 for DIR = 0; its timestamp is that
of the lane on which it arrived (R289). -/
def State.terminate (s : State) (p : Nat) (west : Bool) (f : RxFrame) : State :=
  (s.portRxAt (if west then 12 else 13) (12 + p) f).inc F.ringLcDelivered p
/-- A relayed frame reaches the transmitter: an insert under way is cut (R286). The transmitter is taken until the frame,
delayed by 64 ns, has left. -/
def State.relayOut (s : State) (p q ago : Nat) (l : List Byte) : State :=
  let s := if s.inserting q then (s.inc F.ringLcInsertCut q).cutInsert q else s
  let rel := (s.up + 64 - ago) * 10 + (l.length + 10) * s.byteTime q
  let s := ((s.emitFrame q l).updLane q (fun x => { x with relTo := rel })).inc F.ringLcRelayed p
  let r := otherLane p
  if s.folds && s.inRing && s.laneLive r && !s.joined r then s.updLane r (fun x => { x with feed := l }) else s

/-- A ring frame arrives (R289-R293): header and what follows it. -/
def State.ringFrame (s : State) (p : Nat) (hdr : List Byte) (f : RxFrame) : State :=
  let b0 := byteAt hdr 0
  let ty := bitsAt b0 4 2
  let fo := bitsAt b0 1 2
  let src := byteAt hdr 2 % 32
  let own := src == s.rnode
  if !s.ringOn || !s.laneLive p || s.rst < 2 then s
  else if hdr.length ≠ 10 ∨ b0 / 64 ≠ 1 ∨ beAt hdr 8 2 ≠ hcrc hdr then s.inc F.ringLcHdrErr p
  else if !s.joined p then
    if s.get F.ringStatusOutside ≠ 0 ∧ ty = 1 then s.ctlRx p f.bytes else s
  else
    let healed := s.get F.ringStatusHealed != 0
    let fold := s.folds
    let strip := own && (if healed then fo == 2 || (fo == 1 && fold) else true)
    let hops := byteAt hdr 1 % 64 + 1
    let toMe := byteAt hdr 3 / 128 == 1 || byteAt hdr 3 % 32 == s.rnode
    let copy := !own && toMe && (!healed || fo == 1 || (fo == 0 && fold))
    let s := if ty = 1 then (if own then s else s.ctlRx p f.bytes)
      else if copy && ty != 3 then
        let s := s.terminate p (hasBit b0 3) f
        if ty = 2 then s.raise 0x17 src else s
      else s
    if strip then s
    else if 63 < hops then s.inc F.ringLcHopsDrop p
    else
      let h := toBe (b0 - fo * 2 + (fo + fold.toNat) % 4 * 2) 1 ++ toBe hops 1 ++ (hdr.drop 2).take 6
      s.relayOut p (s.exitLane p) f.sfdAgo (h ++ toBe (hcrc h) 2 ++ f.bytes)
def execRingFrame (p : Fin 2) (hdr : List Byte) (f : RxFrame) (s : State) : Out := .next (s.ringFrame p hdr f)
/-- A LASTGASP frame that the node copies (R325): delivered, with event RING_LASTGASP. -/
def execLastgaspRx (p : Fin 2) (src : Fin 32) (west : Bool) (f : RxFrame) (s : State) : Out :=
  .next (if s.ringOn && s.joined p && src.val != s.rnode then (s.terminate p west f).raise 0x17 src else s)

/-! ## The follower's clock (R307-R311) -/

/-- 16 cycles in 1/16 ns of the guardian's ticks: as it calibrated them, nominal before (R311). -/
def State.gspan (s : State) : Nat := if s.ring.gspan = 0 then s.tcNs * 256 else s.ring.gspan
/-- The guardian's own prediction of the start of cycle `c`, from the start it keeps and its cycle count (R311). -/
def State.gpred (s : State) (c : Nat) (r : Int) : Int :=
  r + ((c + cycMod - s.ring.gcyc) % cycMod * s.gspan / 16 : Nat)
/-- The guardian takes `v` as the start of cycle `c`; it calibrates its ticks over 16 cycles (R311). -/
def State.galign (s : State) (v : Int) (c : Nat) : State :=
  let s := { s with ring := { s.ring with rej := 0, gref := some v, gcyc := c } }
  match s.ring.gcal with
  | none => { s with ring := { s.ring with gcal := some (v, c) } }
  | some (v0, c0) =>
    if (c + cycMod - c0) % cycMod = 16 then
      { s with ring := { s.ring with gspan := (v - v0).toNat, gcal := some (v, c) } }
    else if 16 < (c + cycMod - c0) % cycMod then { s with ring := { s.ring with gcal := some (v, c) } }
    else s
/-- The guardian judges `v`, the start of cycle `c` in 1/16 ns of its ticks, by its distance from its prediction (R311). With
no start kept yet there is no prediction, and it accepts (DESIGN CHOICE, log 84). -/
def State.guardAlign (s : State) (v : Int) (c : Nat) : State :=
  if s.ring.rej ≥ 3 ∨ s.ring.gref.all (fun r => decide (2 * (v - s.gpred c r).natAbs ≤ 16 * s.act F.ringGuardGuardNs)) then
    (s.galign v c).put F.ringGstatAligned 0 1
  else
    let n := s.ring.rej + 1
    let s := State.put { s with ring := { s.ring with rej := n } } F.ringGstatAligned 0 0
    let s := s.inc F.ringCGalignRej
    if n = 3 then s.listenOnly 2 else s

/-- The rate correction in use (R309, TIME_RATE). -/
def State.setRate (s : State) (v : Int) : State :=
  let c := if v > 1073741824 then 1073741824 else if v < -1073741824 then -1073741824 else v
  (s.put F.ringRate 0 (wrapI 32 c)).put F.timeRate 0 (wrapI 32 c)

/-- The servo, once per cycle, on the offset of the chosen copy (R309, R310). A node that cleared `stepped` in LISTEN_ONLY
with cause CLOCK joins anew (R310), so it steps there as in JOIN. -/
def State.servo (s : State) (o : Int) : State :=
  let s := s.put F.ringOffset 0 (wrapI 32 (clampS 32 o))
  let near := if o.natAbs < 320 then s.ring.near + 1 else 0
  let good := if decide (2 * o.natAbs < 16 * s.act F.ringGuardGuardNs) && s.get F.ringGstatAligned != 0 then s.ring.good + 1 else 0
  let s := { s with ring := { s.ring with near := near, good := good } }
  let ring := s.act F.timeCtrlSrc == 1
  let s : State := if (s.rst = 4 ∨ s.rst = 7) ∧ !s.ring.stepped then
      let s : State := { s with ring := { s.ring with stepped := true, acc := 0 } }
      if ring then
        let x := (s.time.frac : Int) - o * 2 ^ 44
        let t := s.time.addNs (x / 2 ^ 48)
        s.setTime { t with frac := (x % 2 ^ 48).toNat } (fun _ _ _ => decide (0 < o))
      else s
    else
      let acc := s.ring.acc + o
      let s := { s with ring := { s.ring with acc := acc } }
      if ring then
        s.setRate (sgn 32 (s.get F.ringRate) - o / 2 ^ s.act F.ringServoKpSh - acc / 2 ^ s.act F.ringServoKiSh)
      else s
  if s.get F.ringStatusLocked ≠ 0 ∧ 16000 ≤ o.natAbs then
    let s := (s.listenOnly 3).put F.ringStatusLocked 0 0
    let s := if ring then s.srcLost else s
    { s with ring := { s.ring with stepped := false, near := 0 } }
  else if 16 ≤ near then
    let s := s.put F.ringStatusLocked 0 1
    if ring then s.srcLocked else s
  else s

/-- The offset of a CSM copy in 1/16 ns (R308). -/
def State.csmOffset (s : State) (p : Nat) (x : CsmIn) : Option Int :=
  s.ring.ann.map (fun a =>
    let t : Nat := a.ns + (x.cycle.toNat + cycMod - a.cycle) % cycMod * s.tcNs
    ((s.rxStamp (12 + p) x.mac).halves * 8 : Nat) - ((t * 16 + x.corr.toNat : Nat) : Int))
/-- The better of two copies: fewest hops, RINGW on equal hops (R308). -/
def betterCopy (b : Option (Nat × Nat × Int)) (h p : Nat) (o : Int) : Option (Nat × Nat × Int) :=
  match b with
  | none => some (h, p, o)
  | some (bh, bp, bo) => if h < bh ∨ (h = bh ∧ p = 1) then some (h, p, o) else some (bh, bp, bo)

/-- A follower takes a CSM of its first node (R308-R311). -/
def State.csmTake (s : State) (p : Nat) (x : CsmIn) : State :=
  let s := (s.guardAlign ((x.gtk * 80 : Nat) - (x.corr.toNat : Int)) x.cycle.toNat).put F.ringCycleNo 0 x.cycle.toNat
  let s := (s.tmStart tmCsm).tmStart tmListen
  let best := match s.csmOffset p x with
    | some o => betterCopy s.ring.best x.hops.toNat p o
    | none => s.ring.best
  let s := { s with ring := { s.ring with seen := true, best := best } }
  if x.last then
    match best with
    | some (_, _, o) => State.servo { s with ring := { s.ring with best := none } } o
    | none => s
  else s

/-- The relay of a CSM (R307): correction, hops, folds; the listen feed gets a copy. -/
def State.csmRelay (s : State) (p : Nat) (cyc corr hops folds : Nat) (dir : Bool) (first res : Nat) : State :=
  if !s.joined p || decide (63 < hops + 1) then s
  else
    let b : List Block66 := [.csmA cyc ((corr + s.get F.ringLDelay p + res) % 2 ^ 28),
      .csmB (hops + 1) ((folds + s.folds.toNat) % 4) dir.toNat first]
    let s := s.emitBlocks (s.exitLane p) b
    let r := otherLane p
    if s.folds && s.inRing && s.laneLive r && !s.joined r then s.emitBlocks r b else s

/-- A CSM arrives (R301, R302, R305-R311, R320, R324). -/
def State.csm (s : State) (p : Nat) (x : CsmIn) : State :=
  if !s.ringOn || !s.laneLive p || s.rst < 2 then s
  else if s.rst = 6 ∧ x.first.val = s.rnode then s.updLane p (fun l => { l with fresh := false })
  else
    let s := (s.csmRelay p x.cycle.toNat x.corr.toNat x.hops.toNat x.folds.toNat x.dir x.first x.res.toNat).updLane p
      (fun l => { l with fresh := false })
    if s.rst = 6 then
      State.dualCheck ({ s with ring := { s.ring with other := some x.first.val } }.raise 0x16 x.first)
    else
      let s := if s.rst = 2 ∨ s.rst = 3 ∨ !s.ring.known then
          let s := (if s.rst = 2 ∨ s.rst = 3 then (s.setRst 4).tmStart tmListen else s).put F.ringStatusFirst 0 x.first
          { s with ring := { s.ring with known := true } }
        else s
      if s.get F.ringStatusFirst ≠ x.first.val then { s with ring := { s.ring with other := some x.first.val } }
      else s.csmTake p x
def execCsmA (p : Fin 2) (x : CsmIn) (s : State) : Out := .next (s.csm p x)
/-- The CSM-B block alone: it is relayed with its CSM-A (R288, R307). -/
def execCsmB (p : Fin 2) (hops : BitVec 6) (folds : BitVec 2) (dir : Bool) (first : Fin 32) (s : State) : Out :=
  .next (if !s.ringOn || !s.joined p || s.rst < 2 || (s.rst == 6 && first.val == s.rnode) || decide (63 < hops.toNat + 1) then s
    else s.updLane (s.exitLane p) (fun l =>
      { l with blocks := l.blocks.filter (fun b => match b with | .csmB .. => false | _ => true) ++
        [.csmB (hops.toNat + 1) ((folds.toNat + s.folds.toNat) % 4) dir.toNat first] }))

/-- No CSM for 3 cycles (R302, R310). -/
def execCsmLoss (s : State) : Out :=
  .next (if !s.ringOn || !(s.rst == 4 || s.rst == 5 || s.rst == 7) || !s.tmPast tmCsm (3 * s.tcNs) then s
    else match s.ring.other with
      | some n => (s.rejoin 4).put F.ringStatusFirst 0 n
      | none => s.rejoin 2)
/-- No STATUS of a member for 3 cycles (R326). -/
def execNodeLost (n : Fin 32) (s : State) : Out :=
  .next (if s.ringOn && (n.val != s.rnode || s.get F.ringStatusOutside != 0) && s.tmPast (tmStat n) (3 * s.tcNs) && hasBit (s.get F.ringMembers) n then
      let s := { s with ring := { s.ring with stat := SMap.del n s.ring.stat } }
      ((s.setMembers (clrBit (s.get F.ringMembers) n)).foldUpd).raise 0x13 n
    else s)

/-! ## Cold start (R300, R301) -/

/-- LISTEN_US without a CSM. -/
def execListenTimeout (s : State) : Out :=
  .next (if !s.ringOn || !s.tmPast tmListen (s.act F.ringListenListenUs * 1000) then s
    else if s.rst = 2 ∧ s.on F.ringCfgColdEn then s.coldstart
    else if s.rst = 4 then s.rejoin 2
    else s)
/-- The guardian passes one insert of 84 bytes per 10 us and port in LISTEN and COLDSTART; another is suppressed (R312,
R313). -/
def State.startInsert (s : State) (p : Nat) (l : List Byte) : State :=
  if (s.rLane p).lastIns.any (fun u => decide (s.up < u + 10000)) then s.gblock p
  else (s.insertCtl p l).updLane p (fun x => { x with lastIns := some s.up })
/-- A CSTART leaves on each joined port. -/
def execCstartSend (s : State) : Out :=
  .next (if s.ringOn && s.rst == 3 then
      s.each ([0, 1].filter s.joined) (fun s p => s.startInsert p (s.newHdr 1 p none ++ s.cstartBody))
    else s)
/-- A first node with FIRST_REF = 0 runs at the rate of RING_FN_RATE (R304). -/
def State.fnSteer (s : State) : State :=
  if s.rst = 6 ∧ !s.on F.ringCfgFirstRef ∧ s.act F.timeCtrlSrc = 1 then s.setRate (sgn 32 (s.get F.ringFnRate)) else s
/-- The node becomes FIRST (R301, R304). -/
def State.becomeFirst (s : State) : State :=
  let s := (s.becomeNode 6).put F.ringStatusFirst 0 s.rnode
  State.fnSteer { s with ring := { s.ring with known := true, ann := none, other := none, otherAnn := none, held := false } }
/-- 300 us unbeaten and without a CSM: the node becomes FIRST. -/
def execColdstartEnd (s : State) : Out :=
  .next (if s.ringOn && s.rst == 3 && s.tmPast tmCold 300000 then s.becomeFirst else s)
/-- A write of RING_FN_RATE (R304): saturates; it steers the time base of a first node with FIRST_REF = 0. -/
def State.fnRate (s : State) (v : Nat) : State := (s.put F.ringFnRate 0 (satRate v)).fnSteer

/-! ## Cycle starts and slots (R296, R297, R303, R305, R312-R314, R325) -/

/-- Whether a node in JOIN, or in LISTEN_ONLY with cause CLOCK, meets R303. -/
def State.joinOk (s : State) : Bool :=
  s.get F.ringStatusLocked != 0 && s.ring.ann.map (·.hash) == some (s.get F.ringHash) &&
  s.get F.ringStatusOutside == 0 &&
  [0, 1].all (fun p => !s.laneLive p || (!(s.rLane p).samples.isEmpty && decide (s.get F.ringLDelay p ≤ s.act F.ringLmaxLmaxNs * 16)))
/-- Whether a node in LISTEN_ONLY returns (R314); not while the device is in HOLD (R595), and not with a slot table other than
that of the first node, whatever the cause was (R298). -/
def State.returnOk (s : State) : Bool :=
  s.get F.pwrStateState != 2 && decide (16 ≤ s.ring.good) && s.ring.known && s.get F.ringStatusOutside == 0 &&
  s.ring.ann.map (·.hash) == some (s.get F.ringHash) && (s.get F.ringStatusLoCause != 3 || s.joinOk)

/-- Control frames of a lane that fitted in no slot are deferred; those of the new cycle are offered (R297). -/
def State.offerCtl (s : State) (p : Nat) : State :=
  let n := (s.rLane p).ctl.length
  let lost := (s.rLane p).ctl.contains 2 && (match s.ring.plan with
    | some sp => sp.inCycle ((s.get F.ringCycleNo + cycMod - 1) % cycMod)
    | none => false)
  let s := if n = 0 then s else s.inc F.ringLcCtrlDefer p n
  let s := if lost then { s with ring := { s.ring with missed := true } } else s
  let l := if (s.ownSlots p).isEmpty || !s.joined p then []
    else [1] ++ (if s.rst = 6 then [2] else []) ++ (if s.spliceLane.isSome then [4] else [])
  s.updLane p (fun x => { x with ctl := l, endAt := 0 })

/-- CSM leaves on every joined port (R305), when the guardian's window is open; one that passes resets CONSEC (R312, R313). -/
def State.sendCsm (s : State) (k : Nat) : State :=
  if !s.ring.csmGate then s.gblock 0
  else s.each ([0, 1].filter s.joined)
    (fun s p => (s.emitBlocks p [.csmA k 0, .csmB 0 0 p s.rnode]).put F.ringGstatConsec 0 0)

/-- A node that was FIRST when it entered HOLD resumes FIRST in RUN when no other first node exists (Table 20-2). -/
def State.resumeFirst (s : State) : State :=
  if s.rst == 7 && s.ring.held && !s.ring.known && s.get F.pwrStateState != 2 then s.becomeFirst
  else s
/-- A FIRST node that lost the comparison yields (R302). -/
def State.yieldFirst (s : State) : State :=
  if s.rst == 6 && s.ring.yields then
    match s.ring.other with
    | some n => (s.rejoin 4).put F.ringStatusFirst 0 n
    | none => s
  else s
/-- A follower at a cycle start: a missed CSM counts and breaks the runs of cycles (R310, R314), and it joins or returns when it
may (R303, R314); a node outside that left JOIN for LISTEN_ONLY goes back to JOIN when its clock has locked again. -/
def State.followCycle (s : State) : State :=
  let s := if s.ring.seen then s
    else State.inc { s with ring := { s.ring with near := 0, good := 0 } } F.ringCCsmMissed
  let s := { s with ring := { s.ring with seen := false, best := none } }
  if s.rst == 4 && s.joinOk then s.becomeNode 5
  else if s.rst == 7 && s.returnOk then (s.becomeNode 5).put F.ringGstatConsec 0 0
  else if s.rst == 7 && s.get F.ringStatusOutside != 0 && s.get F.ringStatusLocked != 0 then
    (s.setRst 4).put F.ringStatusLoCause 0 0
  else s
/-- The cycle `k` starts; the first node's guardian takes the instant at which its own CSM leaves (R311). -/
def State.turnCycle (s : State) (k gtk : Nat) : State :=
  if s.rst == 6 then (s.guardAlign (gtk * 80 : Nat) k).sendCsm k else s.followCycle
/-- Control frames of the new cycle are offered on both lanes. -/
def State.offerCtls (s : State) : State := if s.rst == 5 || s.rst == 6 then (s.offerCtl 0).offerCtl 1 else s
/-- A cycle start (R294): pending changes of state, CSM of the first node, control frames offered anew. -/
def execCycleStart (gtk : Nat) (s : State) : Out :=
  .next (if !s.ringOn || s.rst < 4 || s.tcNs == 0 then s
    else
      let k := (s.time.lin + s.tcNs / 2) / s.tcNs % cycMod
      (((s.yieldFirst.put F.ringCycleNo 0 k).resumeFirst).turnCycle k gtk).offerCtls)

/-- The last-gasp frame of a cause, detected now, encapsulated (R325). -/
def State.gaspFrame (s : State) (cause : Nat) : List Byte :=
  let da := s.act F.ringLgDaLo + 2 ^ 32 * s.act F.ringLgDaHi
  let sa := s.act F.ringLgSaLo + 2 ^ 32 * s.act F.ringLgSaHi
  let b := toBe da 6 ++ toBe sa 6 ++ toBe (s.act F.ringLgCfgEtype) 2 ++ toBe s.rid 6 ++ toBe s.rnode 1 ++ toBe cause 1 ++
    toBe s.time.sec 4 ++ toBe s.time.ns 4 ++ toBe (s.get F.imgEpoch) 3
  let b := b ++ List.replicate (60 - b.length) 0
  b ++ toLe (crc32 b) 4
/-- The last gasp due at the start of an own slot (R325). -/
def State.gaspDue (s : State) : Option (Nat × List Byte) :=
  s.ring.gasp.filter (fun g => decide (g.1 ≤ s.up) && decide (s.up ≤ g.1 + s.tcNs))

/-- Inserting one of the control frames at the head of a lane's list, or the last gasp (0). -/
def State.sendCtl (s : State) (p c : Nat) : State :=
  match c with
  | 0 => match s.gaspDue with
    | some g => s.insertCtl p (s.newHdr 2 p none ++ g.2)
    | none => s
  | 1 => s.insertCtl p (s.newHdr 1 p none ++ s.statusBody)
  | 2 =>
    let c := s.get F.ringCycleNo
    let s := match s.ring.plan with
      | some sp =>
        if s.ring.missed then { s with ring := { s.ring with missed := false, plan := some { sp with ks := (c + 3) % cycMod } } }
        else s
      | none => s
    let sp := s.ring.plan.filter (fun x => x.inCycle c)
    let s := s.insertCtl p (s.newHdr 1 p none ++ s.annBody sp)
    match sp with | some x => s.announced x c | none => s
  | _ =>
    match s.spliceLane with
    | some q => match (s.rLane q).req with
      | some r => s.insertCtl p (s.newHdr 1 p none ++ s.spliceBody r)
      | none => s
    | none => s
/-- Control frames while they fit whole in what is left of the slot (R296, R297): each takes 84 bytes. -/
def State.sendCtls (s : State) (p : Nat) : List Nat → State
  | [] => s.updLane p (fun l => { l with ctl := [] })
  | c :: r =>
    if (s.rLane p).endAt < s.laneFree p + 84 * s.byteTime p then s.updLane p (fun l => { l with ctl := (c :: r).filter (· != 0) })
    else State.sendCtls (s.sendCtl p c) p r

/-- The ring destination of an encapsulated frame (R290). -/
def State.ringDst (s : State) (l : List Byte) : Option Nat :=
  let da := beBytes (l.take 6)
  if da / 256 = s.act F.ringDaPreLo + 2 ^ 32 * s.act F.ringDaPreHi ∧ da / 32 % 8 = 0 then some (da % 32) else none
/-- The next data frame of an own slot under way (R296), when the transmitter is free (R286): it fits by the slot end, or the
lane stays idle. -/
def State.ringNext (s : State) (p : Nat) (x : TxInfo) : State :=
  if (s.rLane p).endAt ≤ s.up * 10 ∨ SMap.get 0 s.txing (12 + p) ≠ 0 ∨ s.up * 10 < s.laneFree p ∨ !s.joined p ∨
    !(s.rst = 5 ∨ s.rst = 6) then s
  else
    match s.takeHead (12 + p) (s.outQ.length + 1) with
    | (s, none) => s
    | (s, some h) =>
      let need := ((s.frame h).len + 20) * s.byteTime p
      if (s.rLane p).endAt < s.up * 10 + need then (s.inc F.ringLcNofit p).updLane p (fun l => { l with endAt := 0 })
      else if !(s.rLane p).gate then s.gblock p
      else
        let s := s.startWire (12 + p) h x
        let w := (s.port (12 + p)).wire
        s.insert p (s.newHdr 0 p (s.ringDst w) ++ w)

/-- Device time in its cycle, in ns (R294). -/
def State.inCycle (s : State) : Nat := s.time.lin - s.cycleStart
/-- Whether device time is in an active own slot, and the slot does not run yet (R296). -/
def State.slotDue (s : State) (i : Nat) : Bool :=
  let b := s.act F.ringSlotCtrlStart i * 10
  let l := s.rLane (s.act F.ringSlotCtrlLane i)
  s.on F.ringSlotCtrlEn i && s.act F.ringSlotCtrlOwner i == s.rnode && decide (b ≤ s.inCycle) &&
    decide (s.inCycle < b + s.act F.ringSlotLen i * 10) && !(l.slot == i && decide (s.up * 10 < l.endAt))
/-- What is left of a slot, in 0.1 ns. -/
def State.slotLeft (s : State) (i : Nat) : Nat := (s.act F.ringSlotCtrlStart i * 10 + s.act F.ringSlotLen i * 10 - s.inCycle) * 10
/-- A control frame that meets a closed gate is suppressed; a TIME_ANN that should have announced a splice is missed (R297,
R313). -/
def State.suppress (s : State) (p c : Nat) (r : List Nat) : State :=
  let lost := c == 2 && (match s.ring.plan with | some sp => sp.inCycle (s.get F.ringCycleNo) | none => false)
  let s := if lost then { s with ring := { s.ring with missed := true } } else s
  (s.updLane p (fun l => { l with ctl := r })).gblock p
/-- An own slot starts (R296, R297, R313, R325): its bounds hold to its end, whatever an APPLY changes (R328). -/
def execSlotStart (i : Fin 256) (x : TxInfo) (s : State) : Out :=
  .next (let p := s.act F.ringSlotCtrlLane i
    if !s.ringOn || !(s.rst == 5 || s.rst == 6) || !s.joined p || !s.slotDue i then s
    else
      let s := s.updLane p (fun l => { l with slot := i, endAt := s.up * 10 + s.slotLeft i })
      let l := (if s.gaspDue.isSome then [0] else []) ++ (s.rLane p).ctl
      if (s.rLane p).gate then (s.sendCtls p l).ringNext p x
      else match l with
        | [] => s.ringNext p x
        | c :: r => s.suppress p c r)

/-- OPEN of the guardian: some gate is open. -/
def State.gateShow (s : State) : State :=
  s.put F.ringGstatOpen 0 ((s.rLane 0).gate || (s.rLane 1).gate || s.ring.csmGate).toNat
/-- Where the guardian stands in its cycle at `gtk` of its ticks, in ns (R311); none before its first alignment. -/
def State.gpos (s : State) (gtk : Nat) : Option Nat :=
  s.ring.gref.map (fun r =>
    if s.gspan = 0 then 0 else ((((gtk * 80 : Nat) - r) * 16) % (s.gspan : Int)).toNat * s.tcNs / s.gspan)
/-- The guardian opens: within [start - g, end + g] of a slot of its own copy, or [-g, +g] around a cycle start on the first
node (R312, R328), by its own clock. Before its first alignment it has no clock of the cycle and lets its rows decide
(DESIGN CHOICE, log 84). -/
def execGuardGateOpen (x : GateIn) (s : State) : Out :=
  .next (let g := s.act F.ringGuardGuardNs
    match x.slot with
    | none =>
      if s.ringOn && s.rst == 6 && (s.gpos x.gtk).all (fun n => decide (n ≤ g) || decide (s.tcNs ≤ n + g)) then
        State.gateShow { s with ring := { s.ring with csmGate := true } }
      else s
    | some i =>
      match s.ring.gown.find? (fun e => e.1 == i.val) with
      | none => s
      | some (_, p, b, n) =>
        if s.ringOn && (s.gpos x.gtk).all (fun t => decide (b * 10 ≤ t + g) && decide (t ≤ (b + n) * 10 + g)) then
          (s.updLane p (fun l => { l with gate := true, gateIx := i.val })).gateShow
        else s)
/-- The guardian closes the gate that it opened for a slot (R312, R313, R328): an insert still running is cut. -/
def execGuardGateClose (i : Option (Fin 256)) (s : State) : Out :=
  .next (match i with
    | none => State.gateShow { s with ring := { s.ring with csmGate := false } }
    | some i =>
      match [0, 1].find? (fun p => (s.rLane p).gate && (s.rLane p).gateIx == i.val) with
      | none => s
      | some p =>
        let s := (s.updLane p (fun l => { l with gate := false, endAt := 0 })).gateShow
        if s.inserting p then (s.cutInsert p).gblock p else s.settle p)

/-- An idle output starts the head frame of its highest eligible class, or delivers it (R219). A ring lane starts it in
its own slot; FP14 delivers through the host receive ring. -/
def execTransmitStart (o : Fin 32) (x : TxInfo) (s : State) : Out :=
  .next (if o.val = 12 ∨ o.val = 13 then s.ringNext (o.val - 12) x
    else if o.val = 14 ∨ SMap.get 0 s.txing o ≠ 0 ∨ s.plcaHolds o then s
    else
      match s.takeHead o (s.outQ.length + 1) with
      | (s, none) => s
      | (s, some h) =>
        if o.val < 12 then
          (s.startWire o h x).updPort o (fun p => { p with burst := p.burst + 1 })
        else if o.val = 15 then (s.started o h 0 x.mirror.toNat).sentAt o h
        else s.deliver o h x)

/-! ## APPLY of RING, power loss, retirement (R295, R298, R299, R325, R328) -/

/-- T_F for pending values in ns (R295). -/
def State.pendTf (s : State) : Nat := 2 * (s.get F.ringCfgNmax - 1) * (64 + s.get F.ringLmaxLmaxNs)
/-- Whether the RING block refuses an APPLY (R295). -/
def State.ringBad (s : State) : Bool :=
  let tf := s.pendTf
  let g := s.get F.ringGuardGuardNs
  let tc := s.get F.ringCycleUnits * 31250
  let sl := (List.range 256).filter (fun i => s.get F.ringSlotCtrlEn i != 0)
  let b (i : Nat) : Nat := s.get F.ringSlotCtrlStart i * 10
  let e (i : Nat) : Nat := b i + s.get F.ringSlotLen i * 10
  decide (tc < 2 * tf) ||
  sl.any (fun i => decide (b i < tf + g) || decide (tc < e i + tf + g + 200) || decide (s.get F.ringSlotLen i * 10 < 300)) ||
  sl.any (fun i => sl.any (fun j => (decide (b i < b j) || (b i == b j && decide (i < j))) && decide (b j < e i + tf + 2 * g))) ||
  (s.get F.ringCfgEn != 0 && !sl.any (fun i => s.get F.ringSlotCtrlOwner i == s.get F.ringCfgNode)) ||
  s.get F.ringCycleUnits == 0 || decide (128 < s.get F.ringCycleUnits) || decide (s.get F.ringCfgNmax < 2) ||
  decide (32 < s.get F.ringCfgNmax) || s.get F.ringCfgRateMax == 3 || decide (g < 40) || decide (2000 < g) || g % 5 != 0

/-- The ring node stops: both transmitters idle, state DISABLED (R287). -/
def State.ringOff (s : State) : State :=
  let s := ((s.laneOff 0).laneOff 1).rejoin 2
  let s := { s with ring := { s.ring with known := false, stat := [] } }
  (((s.setRst 0).put F.ringStatusOutside 0 0).setMembers 0).foldUpd
/-- The own slots: index, lane, START and LEN. -/
def State.ownSlotTable (s : State) : List (Nat × Nat × Nat × Nat) :=
  ((s.activeAt F.ringSlotCtrlEn).filter (fun i => s.act F.ringSlotCtrlOwner i == s.rnode)).map
    (fun i => (i, s.act F.ringSlotCtrlLane i, s.act F.ringSlotCtrlStart i, s.act F.ringSlotLen i))
/-- The RING block after an APPLY edge: the hash is recomputed, the guardian takes its copy of the own slots, EN starts or
stops the node (R299, R328), a first node that FIRST_REF no longer steers takes RING_FN_RATE (R304). -/
def State.ringApplied (s old : State) : State :=
  let s := s.put F.ringHash 0 s.slotHash
  let tc := s.tcNs == old.tcNs
  let s := { s with ring := { s.ring with
    gown := s.ownSlotTable, gspan := if tc then s.ring.gspan else 0, gcal := if tc then s.ring.gcal else none } }
  let s := if old.on F.ringCfgFirstRef then s.fnSteer else s
  let was := old.on F.ringCfgEn
  if s.on F.ringCfgEn && !was then (if s.domOn .ring && !s.iso then s.setRst 1 else s)
  else if was && !s.on F.ringCfgEn then s.ringOff
  else s
/-- PFAIL_N or a brown-out is detected (R325): a last gasp is built once, with its cause; a later detection builds another in
its place. -/
def State.lastGasp (s : State) (cause : Nat) : State :=
  if s.on F.ringLgCfgEn && s.ringOn then
    { s with ring := { s.ring with gasp := some (s.up, s.gaspFrame cause) } }
  else s

end Sys2Proof.Machine
end

