-- ==== Sys2Proof/Machine/Can.lean ====
section
/-!
DEFINITION. The CAN controllers C0-C3 (10_can_controllers.md): buffers in Common RAM, the buffer lock, receiving and
overflow chains, transmitting, error confinement, detection and time-triggered operation.
Assumption log: 10, 50, 51.
-/
namespace Sys2Proof.Machine

/-! ## Controllers and buffers (R369-R371) -/

def State.can (s : State) (n : Nat) : Can := SMap.get {} s.cans n
def State.setCan (s : State) (n : Nat) (x : Can) : State := { s with cans := SMap.set {} s.cans n x }
def State.updCan (s : State) (n : Nat) (g : Can → Can) : State := s.setCan n (g (s.can n))
/-- The mode of a controller; a retired one is held as OFF (R392). -/
def State.canMode (s : State) (n : Nat) : Nat :=
  if s.retired 4 n || (SMap.get {} s.cans n).lost then 0 else s.act F.canCfgMode n
/-- The Common RAM address of buffer `b`, and of its auxiliary record. -/
def State.canBuf (s : State) (n b : Nat) : Nat := s.act F.canCfgBank n * 65536 + 72 * b
def State.canAuxAt (s : State) (n b : Nat) : Nat := s.act F.canCfgBank n * 65536 + 0x4800 + 16 * b
/-- Word `w` of a buffer. -/
def State.canWord (s : State) (n b w : Nat) : Nat := leBytes (s.cramBytes (s.canBuf n b + 4 * w) 4)
def State.putCanWord (s : State) (n b w v : Nat) : State := s.putCram (s.canBuf n b + 4 * w) (toLe v 4)
/-- The configuration instance of buffer `b`. -/
def canI (n b : Nat) : Nat := n * 256 + b
/-- FULL of a buffer. -/
def State.canFull (s : State) (n b : Nat) : Bool := hasBit (s.canWord n b 0) 31
/-- The holder of a buffer's lock, 0 for none. -/
def State.canHolder (s : State) (n b : Nat) : Nat := SMap.get 0 s.canLocks (canI n b)
def State.setHolder (s : State) (n b h : Nat) : State := { s with canLocks := SMap.set 0 s.canLocks (canI n b) h }
/-- The requester as the lock names it: the host window 1, thread k as 2 + k, the supervisor 66 (R376). -/
def holderOf : Req → Nat
  | .host => 1
  | .sup => 66
  | .le k => 2 + k.val
/-- The buffers of a controller in a mode, ascending. -/
def State.canBufs (s : State) (n mode : Nat) : List Nat :=
  ((s.activeAt F.canBcfgMode).filter (fun i => i / 256 == n && s.act F.canBcfgMode i == mode)).map (· % 256)

/-! ## Bit times, integration, timers (R362, R365) -/

/-- ns of `k` nominal bits (R362). -/
def State.canBits (s : State) (n k : Nat) : Nat :=
  k * ((1 + s.act F.canNbtNtseg1 n + s.act F.canNbtNtseg2 n) * s.act F.canNbtNbrp n * 2)
/-- Timers: integration, the window of a candidate, recovery, the last reference message; the lock of a buffer. -/
def tmCanInt (n : Nat) : Nat := tmKey 14 n
def tmCanDet (n : Nat) : Nat := tmKey 15 n
def tmCanLock (i : Nat) : Nat := tmKey 16 i
def tmCanRec (n : Nat) : Nat := tmKey 17 n
def tmCanRef (n : Nat) : Nat := tmKey 18 n
/-- Whether a controller still integrates (R365): 11 consecutive recessive bits have not passed. -/
def State.canInt (s : State) (n : Nat) : Bool := s.tmOn (tmCanInt n) && !s.tmPast (tmCanInt n) (s.canBits n 11)

/-! ## The buffer lock (R376-R378) -/

/-- A delivered read that touches word 0. -/
def State.canLock (s : State) (h n b : Nat) : State :=
  if s.canHolder n b = 0 then (s.setHolder n b h).tmStart (tmCanLock (canI n b)) else s
/-- A delivered read that touches word 17: by the holder it releases and frees the buffer. -/
def State.canRelease (s : State) (h n b : Nat) : State :=
  if s.canHolder n b = h ∧ h ≠ 0 then (s.setHolder n b 0).putCanWord n b 0 (clrBit (clrBit (s.canWord n b 0) 31) 30) else s
/-- A delivered read of `len` Common RAM bytes at `a` by a thread, or through the host window: what it locks and releases,
in ascending word order. -/
def State.canTouch (s : State) (h a len : Nat) : State :=
  s.each ((List.range 4).filter (fun n => s.canMode n != 0 && s.act F.canCfgBank n == a / 65536)) (fun s n =>
    let o := a % 65536
    let b := o / 72
    let hit (w : Nat) : Bool := decide (o < 72 * b + 4 * w + 4) && decide (72 * b + 4 * w < o + len)
    if 256 ≤ b then s
    else
      let s := if hit 0 then s.canLock h n b else s
      let s := if hit 17 then s.canRelease h n b else s
      if b + 1 < 256 ∧ 72 * (b + 1) < o + len then s.canLock h n (b + 1) else s)
def execCanBufferLock (r : Req) (n : Fin 4) (b : Fin 256) (s : State) : Out :=
  .next (if s.canMode n = 0 then s else s.canLock (holderOf r) n b)
def execCanBufferRelease (r : Req) (n : Fin 4) (b : Fin 256) (s : State) : Out :=
  .next (if s.canMode n = 0 then s else s.canRelease (holderOf r) n b)
/-- A lock has been held for LOCK_US (R378). -/
def execCanLockTimeout (n : Fin 4) (b : Fin 256) (s : State) : Out :=
  .next (if s.on F.canLockEn n && s.canHolder n b != 0 && s.tmPast (tmCanLock (canI n b)) (s.act F.canLockLockUs n * 1000) then (s.setHolder n b 0).inc F.canCLockTmo n else s)
/-- Locks released: those of the controller that satisfy `p` on buffer and holder. -/
def State.canUnlock (s : State) (n : Nat) (p : Nat → Nat → Bool) : State :=
  { s with canLocks := s.canLocks.filter (fun e => !(e.1 / 256 == n && p (e.1 % 256) e.2)) }
/-- The locks a logical engine holds are released when it stops (R378). -/
def State.canEngineStop (s : State) (le : Nat) : State :=
  s.each (List.range 4) (fun s n => s.canUnlock n (fun _ h => decide (2 ≤ h) && (h - 2) / 4 == le && decide (h < 66)))

/-! ## Events of a buffer, error states (R384, R385) -/

/-- The event of buffer `b` (R384). -/
def State.canEvent (s : State) (n b : Nat) : State :=
  let i := canI n b
  if !s.on F.canBcfgEvtEn i then s
  else if s.on F.canBcfgEvtHost i then s.doorbell (s.act F.canCfgDbBit n)
  else s.setEvp (4 * s.act F.canBcfgEvtLe i + s.act F.canBcfgEvtT i) 5

/-- Attempts of triggered buffers that satisfy `p` have failed (R389). -/
def State.ttMissed (s : State) (n : Nat) (p : Nat → Bool) : State :=
  let l := (s.can n).trig.filter p
  if l.isEmpty then s
  else (s.inc F.canCTtMiss n l.length).updCan n (fun c => { c with trig := c.trig.filter (fun b => !p b) })
/-- The attempt of the buffer whose frame is under way has failed (R389). -/
def State.ttMiss (s : State) (n : Nat) : State := s.ttMissed n (fun b => (s.can n).cur == some (.buf b))

/-- The error state after TEC or REC changed (R385): passive from 128, bus-off when TEC exceeds 255. -/
def State.canConfine (s : State) (n : Nat) : State :=
  let e := s.get F.canStatusEstate n
  if 2 ≤ e then s
  else if 255 < s.get F.canErrcTec n then
    let s := ((s.put F.canStatusEstate n 2).put F.canStatusBusoffSeen n 1).inc F.canCBusoffCnt n
    (((s.ttMissed n (fun _ => true)).updCan n (fun c => { c with cur := none })).raise 0x2A n).chFault 4 n
  else if 128 ≤ s.get F.canErrcTec n ∨ 128 ≤ s.get F.canErrcRec n then
    if e = 1 then s else (s.put F.canStatusEstate n 1).raise 0x2B n
  else s.put F.canStatusEstate n 0

/-- Whether a controller takes part in the bus, and may drive CANn_TX dominant: NORMAL, integrated, and not in bus-off or
recovering (R365, R385). In every other state it holds CANn_TX recessive. -/
def State.canActive (s : State) (n : Nat) : Bool :=
  s.canMode n == 1 && decide (s.get F.canStatusEstate n < 2) && !s.canInt n

/-- A bus error (R385): its kind 1-6, whether the controller was transmitting, and what ISO 11898-1 adds to the count. -/
def State.canErr (s : State) (n kind : Nat) (tx : Bool) (inc : Nat) : State :=
  if s.canMode n = 0 ∨ 2 ≤ s.get F.canStatusEstate n ∨ s.canInt n then s
  else
    let s := s.put F.canStatusLec n kind
    let s := match kind with
      | 1 => s.inc F.canCStuffErr n
      | 2 => s.inc F.canCFormErr n
      | 3 => s.inc F.canCAckErr n
      | 6 => s.inc F.canCCrcErr n
      | _ => s.inc F.canCBitErr n
    if s.canMode n ≠ 1 then s
    else
      let s := if tx then (s.ttMiss n).updCan n (fun c => { c with cur := none }) else s
      let s := if tx then s.put F.canErrcTec n (min 511 (s.get F.canErrcTec n + inc))
        else s.put F.canErrcRec n (min 511 (s.get F.canErrcRec n + inc))
      s.canConfine n
def execCanError (n : Fin 4) (kind : Fin 6) (tx : Bool) (inc : BitVec 4) (s : State) : Out :=
  .next (s.canErr n (kind.val + 1) tx inc.toNat)

/-! ## Receiving (R366, R368, R373-R375, R383, R387) -/

/-- Whether a frame matches buffer `b` (R373). -/
def State.canHit (s : State) (n : Nat) (f : CanFrame) (b : Nat) : Bool :=
  let i := canI n b
  Nat.land (xorN f.id.toNat (s.act F.canBid i)) (s.act F.canBmask i) == 0 &&
  f.ide == s.on F.canBcfgIde i && (s.act F.canBcfgFmt i == 0 || s.act F.canBcfgFmt i == f.fmt.val + 1)
/-- The overflow chain from a buffer on (R374). -/
def State.canChain (s : State) (n b : Nat) : Nat → List Nat
  | 0 => []
  | k + 1 =>
    let x := s.act F.canBcfgNext (canI n b)
    if x = b ∨ s.act F.canBcfgMode (canI n x) ≠ 3 then [] else x :: State.canChain s n x k

/-- The bytes of a frame's payload in words 2-17. -/
def State.canData (s : State) (n b : Nat) (f : CanFrame) (h : Option Nat) : State :=
  s.putCram (s.canBuf n b + 8) (match h with
    | some h => toLe h 4
    | none => f.data.take 64)
/-- Storing a frame in buffer `b` for target `t` (R370, R371, R375, R384); `h` its Sett frame. -/
def State.canStore (s : State) (n t b : Nat) (f : CanFrame) (h : Option Nat) : State :=
  let old := s.canWord n b 0
  let ovr := hasBit old 31
  let w0 := 2 ^ 31 + bitIf ovr 30 + f.fmt.val * 2 ^ 28 + bitIf f.ide 27 + bitIf f.rtr 26 + bitIf f.brs 25 + bitIf f.esi 24 +
    f.data.length * 2 ^ 12 + bitIf h.isSome 11 + (s.can n).seq
  let s := if ovr then s.inc F.canCOvrCnt n else s
  let s := ((s.putCanWord n b 1 f.id.toNat).canData n b f h).putCanWord n b 0 w0
  let xl := f.fmt.val == 2
  let tt := s.on F.canTtCfgTtEn n
  let ntu := max 1 (s.act F.canTtCfgNtu n)
  let ct := (f.sof / 2 / ntu + 65536 - (s.can n).mark / 2 / ntu % 65536) % 65536
  let w3 := (if tt then s.get F.canTtStatCycle n * 2 ^ 26 + ct * 2 ^ 10 else 0) + (if xl then f.sdt.toNat else 0)
  let s := s.putCram (s.canAuxAt n b)
    (toLe f.ns.toNat 4 ++ toLe f.sec.toNat 4 ++ toLe (if xl then f.af.toNat else 0) 4 ++ toLe w3 4)
  let s := (s.inc F.canCRxFrames n).updCan n (fun c => { c with seq := (c.seq + 1) % 256 })
  s.canEvent n t
/-- The Sett frame of a long XL payload (R383): none when the target's event goes to the host, or the staging share or
the frame limit of EVT_LE is exhausted. -/
def State.canSett (s : State) (n t : Nat) (f : CanFrame) : Option State :=
  let i := canI n t
  let le := s.act F.canBcfgEvtLe i
  let c := cellsFor f.data.length
  if s.on F.canBcfgEvtHost i ∨ s.stageCap le < s.stageUse le + c ∨ 256 ≤ (s.owned le).length then none
  else
    let g : Frame := { Frame.ofBytes f.data with
      inport := 16 + le, loc := true, owner := some le, cStage := c, stageOf := le, rxAt := s.up,
      rxts := some { sec := f.sec.toNat, ns := f.ns.toNat } }
    some (((s.setFrame (s.handle f.handle.toNat) (s.withGroups g)).tookFree).stageTake le c)
/-- A matching frame finds its buffer (R374). -/
def State.canPlace (s : State) (n t : Nat) (f : CanFrame) : State :=
  let at_ (s : State) (b : Nat) (g : State → State) : State :=
    if f.fmt.val = 2 ∧ 64 < f.data.length then
      match s.canSett n t f with
      | some s' => (g s').canStore n t b f (some (s.handle f.handle.toNat))
      | none => s.inc F.canCXlNoSett n
    else (g s).canStore n t b f none
  if s.canHolder n t = 0 then at_ s t id
  else
    match (s.canChain n t 256).find? (fun b => !s.canFull n b && s.canHolder n b == 0) with
    | some b => at_ s b (·.inc F.canCChainStored n)
    | none => (s.inc F.canCChainLost n).raise 0x29 n

/-- The cycle time: local time since the reference mark, in NTU (R387). -/
def State.ttTime (s : State) (n : Nat) : Nat :=
  let ntu := max 1 (s.act F.canTtCfgNtu n)
  if s.on F.canTtCfgTtEn n then (s.up / 2 / ntu + 65536 - (s.can n).mark / 2 / ntu % 65536) % 65536 else 0
/-- Whether a frame of triggered buffer `b` that starts now has its SOF within TX_WIN NTU after TRIG_NTU (R389). -/
def State.ttIn (s : State) (n b : Nat) : Bool :=
  let g := s.act F.canBtrigTrigNtu (canI n b)
  decide (g ≤ s.ttTime n) && decide (s.ttTime n ≤ g + s.act F.canTtCycTxWin n)

/-- A reference message begins a new cycle: its mark, and an attempt that has not started is missed (R387-R389). -/
def State.ttMark (s : State) (n sof : Nat) : State :=
  ((s.ttMissed n (fun _ => true)).updCan n (fun c => { c with mark := sof, tried := [] })).tmStart (tmCanRef n)
/-- A reference message (R387, R388). -/
def State.ttRef (s : State) (n : Nat) (f : CanFrame) : State :=
  if !s.on F.canTtCfgTtEn n || f.ide != s.on F.canTtRefidIde n || f.id.toNat / 8 != s.act F.canTtRefidRefId n / 8 then s
  else
    let s := (s.inc F.canCRefRx n).ttMark n f.sof
    let s := (s.put F.canTtStatCycle n ((f.data.getD 0 0).toNat % 64)).put F.canStatusTtSync n 1
    if s.get F.canStatusTtMasterAct n ≠ 0 ∧ f.id.toNat % 8 < s.act F.canTtCfgPrio n then
      ((s.put F.canStatusTtMasterAct n 0).updCan n (fun c => { c with due := none })).raise 0x2D n
    else s

/-- A frame received without error lowers REC (ISO 11898-1); above 127 it goes to a value from 119 to 127. -/
def State.canRecDown (s : State) (n : Nat) : State :=
  let r := s.get F.canErrcRec n
  if s.canMode n ≠ 1 then s
  else if 127 < r then (s.put F.canErrcRec n (119 + s.free % 9)).tookFree.canConfine n
  else (s.put F.canErrcRec n (r - 1)).canConfine n

/-- Whether a format is enabled (R361): 0 classical, 1 FD, 2 XL. -/
def State.canFmt (s : State) (n fmt : Nat) : Bool :=
  match fmt with
  | 0 => true
  | 1 => s.on F.canCfgFdEn n
  | 2 => s.on F.canCfgXlEn n
  | _ => false
/-- A valid frame on the bus (R366, R368, R373, R374). A frame in a format that is not enabled makes the controller integrate
anew, or is a form error (R366; for XL with FD_EN = 1 and XL_EN = 0, which R366 does not name, the same: DEDUCED, log 50).
A frame during integration is not taken; its end brings the 11 recessive bits. -/
def execCanFrameReceive (n : Fin 4) (f : CanFrame) (s : State) : Out :=
  .next (if s.canMode n = 0 ∨ 2 ≤ s.get F.canStatusEstate n then s
    else if s.canInt n then s.tmStop (tmCanInt n)
    else if !s.canFmt n f.fmt.val then
      if s.on F.canCfgPex n then s.tmStart (tmCanInt n) else s.canErr n 2 false 1
    else
      let s := s.updCan n (fun c => { c with ack := s.canMode n == 1 })
      let s := if s.canMode n = 3 ∧ s.get F.canDetResDone n = 0 then
          (((s.put F.canDetResDone n 1).put F.canDetResFound n 1).put F.canDetResCand n (s.can n).cand).raise 0x28 n
        else s
      let s := if (s.can n).cur.isSome then (s.ttMiss n).updCan n (fun c => { c with cur := none }) else s
      let s := (s.canRecDown n).ttRef n f
      match (s.canBufs n 1).find? (s.canHit n f) with
      | some t => s.canPlace n t f
      | none => s.inc F.canCNoMatch n)

/-! ## Transmitting (R379-R382) -/

/-- Who owns a frame that a controller sends: a code above the logical engines. -/
def canOwner (n : Nat) : Nat := 32 + n
/-- FULL and LEN of a buffer whose handle or length is bad are cleared (R382). -/
def State.canTxBad (s : State) (n b : Nat) : State :=
  let w := s.canWord n b 0
  (s.putCanWord n b 0 (clrBit w 31 - bitsAt w 12 12 * 4096)).inc F.canCTxBad n
/-- Whether a buffer's payload is in Sett (R382). -/
def State.canIsSett (s : State) (n b : Nat) : Bool := let w := s.canWord n b 0; hasBit w 11 && bitsAt w 28 2 == 2
/-- The handle in word 2. -/
def State.canHandle (s : State) (n b : Nat) : Nat := s.canWord n b 2 % 2 ^ 24
/-- A buffer is armed (R379, R382): for a payload in Sett, ownership of the frame passes to the controller. -/
def State.canArm (s : State) (n b : Nat) : State :=
  if s.act F.canBcfgMode (canI n b) ≠ 2 ∨ !s.canFull n b ∨ !s.canIsSett n b then s
  else
    let h := s.canHandle n b
    let f := s.frame h
    if f.owner = some (canOwner n) ∧ h ≠ 0 then s
    else if h = 0 ∨ f.owner ≠ some (s.act F.canBcfgEvtLe (canI n b)) ∨ f.len = 0 ∨ 2048 < f.len then s.canTxBad n b
    else s.setFrame h { f with owner := some (canOwner n) }
/-- A write of `len` Common RAM bytes at `a`: each TX buffer whose FULL it leaves set is armed (R379). -/
def State.canWrote (s : State) (a len : Nat) : State :=
  s.each ((List.range 4).filter (fun n => s.canMode n != 0 && s.act F.canCfgBank n == a / 65536)) (fun s n =>
    let o := a % 65536
    let hit (b : Nat) : Bool := decide (b < 256) && decide (o < 72 * b + 4) && decide (72 * b < o + len)
    s.each ((List.range ((len + 71) / 72 + 1)).map (o / 72 + ·)) (fun s b => if hit b then s.canArm n b else s))
/-- A host write of BAR2, and what it arms (R379, R617). -/
def State.hostWrite (s : State) (a : Nat) (l : List Byte) : State :=
  let t := s.bar2Write a l
  if s.hostOwns a l.length then t.canWrote a l.length else t
def execCanArm (n : Fin 4) (b : Fin 256) (s : State) : Out := .next (if s.canMode n = 0 then s else s.canArm n b)

/-- The identifier with which a buffer takes part (R380). -/
def State.canTxId (s : State) (n b : Nat) : Nat :=
  if bitsAt (s.canWord n b 0) 28 2 = 2 then s.canWord n b 1 % 2048 else s.canWord n b 1 % 2 ^ 29
/-- Whether buffer `b` may be sent: in an enabled format (R361), a triggered buffer only in its attempt and window (R389). -/
def State.canMay (s : State) (n b : Nat) : Bool :=
  s.canFull n b && s.canFmt n (bitsAt (s.canWord n b 0) 28 2) && (!(s.on F.canTtCfgTtEn n && s.on F.canBcfgTrigEn (canI n b)) || ((s.can n).trig.contains b && s.ttIn n b))
/-- The buffer to send first (R380). -/
def State.canPick (s : State) (n : Nat) : Option Nat :=
  match (s.canBufs n 2).filter (s.canMay n) with
  | [] => none
  | b :: r => some (if s.on F.canCfgTxOrder n then b
      else r.foldl (fun x y => if s.canTxId n y < s.canTxId n x then y else x) b)
/-- The loop delay measured in an FD or XL frame of buffer `b`, and with TDC_EN = 1 the secondary sample point of its data
phase: that delay plus TDCO, or XTDCO for XL (R364). -/
def State.canTdc (s : State) (n b : Nat) (tdcv : Option (BitVec 8)) : State :=
  let fmt := bitsAt (s.canWord n b 0) 28 2
  match tdcv with
  | some v =>
    if fmt = 0 then s
    else
      let ofs := if fmt = 2 then bitsAt (s.act F.canXbt n) 8 8 else s.act F.canDbtTdco n
      (s.put F.canStatusTdcv n v.toNat).updCan n (fun x => { x with ssp := if s.on F.canCfgTdcEn n then some (v.toNat + ofs) else none })
  | none => s
/-- Arbitration begins (R380, R364); attempts whose windows have passed are missed (R389); `tdcv` the loop delay measured in an FD or XL frame. -/
def execCanArbitration (n : Fin 4) (tdcv : Option (BitVec 8)) (s : State) : Out :=
  .next (if !s.canActive n || (s.can n).cur.isSome then s
    else
      match (s.can n).due with
      | some c => s.updCan n (fun x => { x with cur := some (.ref c), ssp := none })
      | none =>
        let s := (s.ttMissed n (fun b => !s.ttIn n b)).each (s.canBufs n 2) (fun s b => s.canArm n b)
        match s.canPick n with
        | some b => (s.updCan n (fun x => { x with cur := some (.buf b), ssp := none })).canTdc n b tdcv
        | none => s)

/-- The frame of a buffer is released after transmission or cancel (R382). -/
def State.canFreeSett (s : State) (n b : Nat) : State :=
  let h := s.canHandle n b
  if s.canIsSett n b && (s.frame h).owner == some (canOwner n) then s.dropFrame h else s
/-- A frame is sent (R381, R387, R388): timestamp and ns since reset at its SOF. -/
def execCanTxComplete (n : Fin 4) (sec : W32) (ns : BitVec 30) (sof : Nat) (s : State) : Out :=
  .next (match (s.can n).cur with
    | none => s
    | some x =>
      let s := (s.inc F.canCTxFrames n).put F.canErrcTec n (s.get F.canErrcTec n - 1)
      let s := s.canConfine n
      match x with
      | .ref c =>
        let s := (s.updCan n (fun k => { k with cur := none, due := none })).ttMark n sof
        (s.put F.canTtStatCycle n c).put F.canStatusTtSync n 1
      | .buf b =>
        let s := (s.canFreeSett n b).putCanWord n b 0 (clrBit (s.canWord n b 0) 31)
        let s := s.putCram (s.canAuxAt n b) (toLe ns.toNat 4 ++ toLe sec.toNat 4)
        let s := s.updCan n (fun k => { k with cur := none, trig := k.trig.filter (· != b) })
        s.canEvent n b)
/-- A write of a buffer number to CAN_TXCANCEL (R381). -/
def State.canCancel (s : State) (n b : Nat) : State :=
  if s.act F.canBcfgMode (canI n b) ≠ 2 ∨ (s.can n).cur = some (.buf b) ∨ !s.canFull n b then s
  else (s.canFreeSett n b).putCanWord n b 0 (clrBit (s.canWord n b 0) 31)
def execCanTxcancel (n : Fin 4) (b : Fin 256) (s : State) : Out :=
  .next (s.hostWr (s.domOn .core) (0x1C220 + 0x1000 * n) (·.canCancel n b))

/-! ## Detection, bus-off, time-triggered operation (R367, R368, R386-R389) -/

/-- NBRP of candidate `k`. -/
def State.canCand (s : State) (n k : Nat) : Nat := s.act F.canDetc (n * 4 + k) % 512
/-- Detection ends without success. -/
def State.canDetEnd (s : State) (n : Nat) : State := (s.put F.canDetResDone n 1).put F.canDetResFound n 0
/-- The next present candidate from pass `r`, candidate `k` on; none when all passes are over. -/
def State.canNextCand (s : State) (n r k : Nat) : Option (Nat × Nat) :=
  match (List.range 4).find? (fun j => decide (k ≤ j) && s.canCand n j != 0) with
  | some j => if r < s.act F.canDetRounds n then some (r, j) else none
  | none => match (List.range 4).find? (fun j => s.canCand n j != 0) with
    | some j => if r + 1 < s.act F.canDetRounds n then some (r + 1, j) else none
    | none => none
/-- Detection starts or goes on at the next candidate. -/
def State.canDetect (s : State) (n r k : Nat) : State :=
  match s.canNextCand n r k with
  | some (r, j) => (s.updCan n (fun c => { c with round := r, cand := j })).tmStart (tmCanDet n)
  | none => s.canDetEnd n
/-- A candidate's window of WIN_MS ends (R367, R368). -/
def execCanDetectWindow (n : Fin 4) (s : State) : Out :=
  .next (if s.canMode n ≠ 3 ∨ s.get F.canDetResDone n ≠ 0 ∨ !s.tmPast (tmCanDet n) (s.act F.canDetWinMs n * 1000000) then s
    else s.canDetect n (s.can n).round ((s.can n).cand + 1))

/-- CAN_RECOVER (R386): FLUSH clears FULL in every TX buffer; no effect outside bus-off. -/
def State.canRecover (s : State) (n : Nat) (flush : Bool) : State :=
  if s.get F.canStatusEstate n ≠ 2 then s
  else
    let s := if flush then s.each (s.canBufs n 2) (fun s b => s.canCancel n b) else s
    (s.put F.canStatusEstate n 3).tmStart (tmCanRec n)
/-- 128 occurrences of 11 recessive bits (R386), which a controller in OFF does not see. -/
def execCanRecoveryDone (n : Fin 4) (s : State) : Out :=
  .next (if s.get F.canStatusEstate n ≠ 3 ∨ s.canMode n = 0 ∨ !s.tmPast (tmCanRec n) (s.canBits n 1408) then s
    else ((((s.put F.canStatusEstate n 0).put F.canErrcTec n 0).put F.canErrcRec n 0)).raise 0x2C n)

/-- A potential master whose controller takes part. -/
def State.ttMaster (s : State) (n : Nat) : Bool := s.canActive n && s.on F.canTtCfgTtEn n && s.on F.canTtCfgMaster n
/-- ns of `k` NTU (R387). -/
def State.ntuNs (s : State) (n k : Nat) : Nat := k * s.act F.canTtCfgNtu n * 2
/-- The period of a controller's axis: how often it has reached TT_OFS modulo TT_PER (R388). -/
def State.ttPeriod (s : State) (n : Nat) : Nat :=
  (s.axVal (s.act F.canTtCfgAxis n) + 2 ^ 48 - (s.act F.canTtOfsLo n + 2 ^ 32 * s.act F.canTtOfsHi n)) /
    max 1 (s.act F.canTtPerLo n + 2 ^ 32 * s.act F.canTtPerHi n)
/-- The current master's axis reaches TT_OFS modulo TT_PER (R388). -/
def execTtRefSend (n : Fin 4) (s : State) : Out :=
  .next (let i := s.ttPeriod n
    if s.ttMaster n && s.get F.canStatusTtMasterAct n != 0 && i != (s.can n).refIx then
      s.updCan n (fun c => { c with due := some ((s.get F.canTtStatCycle n + 1) % 64), refIx := i })
    else s)
/-- A backup hears no reference message for CYCLE_NTU + 16 x (PRIO + 1) NTU (R388): it sends one and becomes current master. -/
def execTtBackupTimeout (n : Fin 4) (s : State) : Out :=
  .next (let wait := s.ntuNs n (s.act F.canTtCycCycleNtu n + 16 * (s.act F.canTtCfgPrio n + 1))
    if s.ttMaster n && s.get F.canStatusTtMasterAct n == 0 && s.tmPast (tmCanRef n) wait then
      let s := s.updCan n (fun c => { c with due := some ((s.get F.canTtStatCycle n + 1) % 64), refIx := s.ttPeriod n })
      (s.put F.canStatusTtMasterAct n 1).raise 0x2D n
    else s)
/-- Cycle time reaches TRIG_NTU in a matching cycle (R389), and the buffer has its one attempt of the cycle: its SOF must fall
inside the window, and `hit` is false where the bus leaves no time for it. -/
def execTtTxTrigger (n : Fin 4) (b : Fin 256) (hit : Bool) (s : State) : Out :=
  .next (let i := canI n b
    let m := 2 ^ s.act F.canBtrigRepLog i
    if !s.on F.canTtCfgTtEn n || s.act F.canBcfgMode i != 2 || !s.on F.canBcfgTrigEn i || !s.canFull n b ||
       s.get F.canTtStatCycle n % m != s.act F.canBtrigOfs i || (s.can n).tried.contains b.val ||
       decide (s.ttTime n < s.act F.canBtrigTrigNtu i) then s
    else
      let s := s.updCan n (fun c => { c with tried := b.val :: c.tried })
      if hit && s.ttIn n b then s.updCan n (fun c => { c with trig := b.val :: c.trig }) else s.inc F.canCTtMiss n)
/-- No reference message within CYCLE_NTU + 256 NTU (R387). -/
def execTtSyncLost (n : Fin 4) (s : State) : Out :=
  .next (if s.tmPast (tmCanRef n) (s.ntuNs n (s.act F.canTtCycCycleNtu n + 256)) then s.put F.canStatusTtSync n 0 else s)

/-! ## APPLY of CAN (R363, R369, R374, R378) -/

/-- A data-phase timing in the layout of CAN_DBT that is out of range, or whose bit is shorter than 100 ns when used. -/
def dbtBad (v : Nat) (used : Bool) : Bool :=
  let sjw := bitsAt v 27 5
  let t2 := bitsAt v 22 5
  let t1 := bitsAt v 16 6
  let brp := bitsAt v 0 5
  sjw == 0 || t2 == 0 || t1 == 0 || brp == 0 || decide (t2 < sjw) || (used && decide ((1 + t1 + t2) * brp * 2 < 100))
/-- The pending CAN_DBT of a controller as a word. -/
def State.pendDbt (s : State) (n : Nat) : Nat :=
  s.get F.canDbtDsjw n * 2 ^ 27 + s.get F.canDbtDtseg2 n * 2 ^ 22 + s.get F.canDbtDtseg1 n * 2 ^ 16 +
    s.get F.canDbtTdco n * 2 ^ 8 + s.get F.canDbtDbrp n
/-- A pending chain that visits a buffer twice (R374). -/
def State.chainBad (s : State) (n : Nat) (seen : List Nat) (b : Nat) : Nat → Bool
  | 0 => true
  | k + 1 =>
    let x := s.get F.canBcfgNext (canI n b)
    if x = b ∨ s.get F.canBcfgMode (canI n x) ≠ 3 then false
    else if seen.contains x then true
    else State.chainBad s n (x :: seen) x k
/-- A controller whose pending values the CAN block refuses. -/
def State.canBad1 (s : State) (n : Nat) : Bool :=
  let t2 := s.get F.canNbtNtseg2 n
  let t1 := s.get F.canNbtNtseg1 n
  let sj := s.get F.canNbtNsjw n
  let br := s.get F.canNbtNbrp n
  s.get F.canCfgMode n != 0 &&
  (t2 == 0 || decide (t1 < 2) || decide (256 < t1) || sj == 0 || br == 0 || decide (256 < br) || decide (t2 < sj) ||
   decide ((1 + t1 + t2) * br * 2 < 1000) || dbtBad (s.pendDbt n) (s.get F.canCfgFdEn n != 0) ||
   dbtBad (s.get F.canXbt n) (s.get F.canCfgXlEn n != 0) || (s.get F.canCfgXlEn n != 0 && s.get F.canCfgFdEn n == 0) ||
   s.get F.canDetWinMs n == 0 || s.get F.canTtCfgNtu n == 0 || s.get F.canTtCycCycleNtu n == 0 ||
   (s.get F.canTtCfgMaster n != 0 && s.get F.canTtPerLo n == 0 && s.get F.canTtPerHi n == 0) ||
   (List.range 4).any (fun m => m != n && s.get F.canCfgMode m != 0 && s.get F.canCfgBank m == s.get F.canCfgBank n))
/-- Whether the CAN block refuses an APPLY. -/
def State.canBad (s : State) : Bool :=
  (List.range 4).any (fun n => s.canBad1 n || (s.get F.canLockEn n != 0 && s.get F.canLockLockUs n == 0) ||
    (List.range 256).any (fun b =>
      (s.get F.canBcfgMode (canI n b) == 1 && s.chainBad n [b] b 257) ||
      (s.get F.canBcfgTrigEn (canI n b) != 0 &&
        (decide (6 < s.get F.canBtrigRepLog (canI n b)) || decide (2 ^ s.get F.canBtrigRepLog (canI n b) ≤ s.get F.canBtrigOfs (canI n b))))))
/-- A controller after the APPLY edge (R365, R367, R378). -/
def State.canApplied (s old : State) (n : Nat) : State :=
  let was := old.canMode n
  let s := if s.act F.canCfgBank n = old.act F.canCfgBank n then s else s.updCan n (fun c => { c with lost := false })
  let m := s.canMode n
  let s := s.canUnlock n (fun b _ => m == 0 || s.act F.canBcfgMode (canI n b) != old.act F.canBcfgMode (canI n b))
  let s := if s.on F.canTtCfgTtEn n && !old.on F.canTtCfgTtEn n then
      (s.updCan n (fun c => { c with refIx := s.ttPeriod n, tried := [] })).tmStart (tmCanRef n) else s
  if m = was then s
  else
    let s := s.updCan n (fun c => { c with cur := none, due := none, trig := [], ssp := none, ack := false })
    let s := if m = 1 ∨ m = 2 then s.tmStart (tmCanInt n) else s.tmStop (tmCanInt n)
    let s := if s.get F.canStatusEstate n = 3 then s.tmStart (tmCanRec n) else s
    if m = 3 then
      let s := (s.put F.canDetResDone n 0).put F.canDetResFound n 0
      if s.act F.canDetRounds n = 0 then s.canDetEnd n else s.canDetect n 0 0
    else s

end Sys2Proof.Machine
end

