-- ==== Sys2Proof/Machine/Gateway.lean ====
section
/-!
DEFINITION. The signal gateway (12_signal_gateway.md): what the executor threads do in a pass, gateway messages, polling,
the host queue of posted writes and the tables' handover.
Assumption log: 14, 54, 55.
-/
namespace Sys2Proof.Machine

/-! ## Threads, tables and entries (R427-R433) -/

/-- Gateway thread `j` runs: the gateway and the thread are enabled and the thread is started. -/
def State.gwRuns (s : State) (j : Nat) : Bool := s.on F.gwCfgEn && s.on F.gwThrEn j && (s.th (s.gwThread j)).started
/-- The bank of table 0 (A) or 1 (B). -/
def State.gwBank (s : State) (sel : Nat) : Nat := if sel = 0 then s.act F.gwCfgBankA else s.act F.gwCfgBankB
/-- A map entry's four words. -/
structure GwEntry where
  w0 : Nat
  w1 : Nat
  w2 : Nat
  w3 : Nat
  deriving DecidableEq, Repr
def State.gwEntry (s : State) (sel e : Nat) : GwEntry :=
  let a := s.gwBank sel * 65536 + 16 * e
  let w (i : Nat) : Nat := leBytes (s.cramBytes (a + 4 * i) 4)
  { w0 := w 0, w1 := w 1, w2 := w 2, w3 := w 3 }
def GwEntry.en (x : GwEntry) : Bool := hasBit x.w0 31
def GwEntry.frame (x : GwEntry) : Bool := hasBit x.w0 30
def GwEntry.remote (x : GwEntry) : Bool := hasBit x.w0 29
def GwEntry.wraps (x : GwEntry) : Bool := hasBit x.w0 28
def GwEntry.group (x : GwEntry) : Nat := bitsAt x.w0 24 4
def GwEntry.rem (x : GwEntry) : Nat := bitsAt x.w0 16 8
def GwEntry.flow (x : GwEntry) : Nat := bitsAt x.w0 6 10
/-- A locator as a field specification; its byte offset and its bit. -/
def locSpec (w : Nat) : FSpec := { src := false, signed := hasBit w 29, le := hasBit w 28, len := bitsAt w 23 5, bofs := 0 }
def locBit (w : Nat) : Nat := bitsAt w 20 3
def locOfs (w : Nat) : Nat := w % 2 ^ 20
/-- The bytes a locator touches. -/
def locSpan (w : Nat) : Nat := (locBit w + (locSpec w).len + 7) / 8

/-- Whether an entry is bad (R433). -/
def State.gwBad (s : State) (x : GwEntry) : Bool :=
  x.w0 % 64 != 0 || (!x.remote && x.rem != 0) || (!x.frame && x.flow != 0) || decide (2 ^ 30 ≤ x.w2) || decide (2 ^ 30 ≤ x.w3) ||
  decide (24 < (locSpec x.w2).len) || decide (24 < (locSpec x.w3).len) ||
  decide ((if x.frame then 9600 else 1048576) < locOfs x.w2 + locSpan x.w2) ||
  (!x.remote && decide (1048576 < locOfs x.w3 + locSpan x.w3)) ||
  (x.remote && !s.on F.gwRcfgEn x.rem)

/-! ## Gateway messages (R440, Table 12-2) -/

/-- A message of 16 bytes. -/
def gwMsg (ty rem seq tag flags code ofs value : Nat) : List Byte :=
  toLe ty 1 ++ toLe rem 1 ++ toLe seq 2 ++ toLe tag 2 ++ toLe flags 1 ++ toLe code 1 ++ toLe ofs 4 ++ toLe value 3 ++ [0]
/-- The engine of a gateway thread can take a cell for a message. -/
def State.gwRoom (s : State) (le : Nat) : Bool := decide (s.stageUse le < s.stageCap le)
/-- A push of a message from engine `le` to the protocol engine's port, class 6, without lookup (R174). -/
def State.gwSend (s : State) (le proto : Nat) (l : List Byte) : State :=
  let h := s.handle 0
  let f : Frame := { Frame.ofBytes l with inport := 16 + le, loc := true, cls := 6, cStage := 1, stageOf := le, rxAt := s.up }
  let s := ((s.setFrame h (s.withGroups f)).tookFree).stageTake le 1
  s.submit (16 + le) h (6 * 32 + (16 + proto))

/-- The host records still queued are sent, in queue order (R444). -/
def State.gwSendQueue (s : State) (le : Nat) : State :=
  s.each (s.hwq.filter (fun r => !r.sent)) (fun s r =>
    if !s.gwRoom le then s
    else
      let s := s.gwSend le (s.act F.gwRcfgProtoLe r.remote) (gwMsg 2 r.remote r.seq r.tag 1 r.width r.ofs r.value)
      { s with hwq := s.hwq.map (fun x => if x.seq = r.seq then { x with sent := true } else x) })
/-- LEVEL and DONE of the host queue (R445). -/
def State.hwqShow (s : State) : State :=
  let s := s.put F.gwHwqStatLevel 0 (s.hwq.filter (fun r => !r.sent)).length
  s.put F.gwHwqDone 0 (match s.hwq with | [] => s.get F.gwHwqStatLastSeq | r :: _ => (r.seq + 65535) % 65536)

/-! ## Executing entries (R432, R434, R438, R444) -/

/-- `n` write units of a value, lowest offset first (R438): offsets and widths. -/
def gwUnits (ofs n width : Nat) : Nat → List (Nat × Nat)
  | 0 => []
  | k + 1 => if n = 0 then [] else (ofs, min n width) :: gwUnits (ofs + width) (n - width) width k
/-- The write of a REMOTE target (R438, R444). -/
def State.gwRemote (s : State) (le e : Nat) (x : GwEntry) (l : List Byte) : State :=
  if s.hwq.any (fun r => r.remote == x.rem && r.ofs == locOfs x.w3) then s.inc F.gwCBackoff
  else
    s.each (gwUnits (locOfs x.w3) l.length (max 1 (s.act F.gwRcfgWidth x.rem)) 4) (fun s u =>
      if !s.gwRoom le then s
      else s.gwSend le (s.act F.gwRcfgProtoLe x.rem)
        (gwMsg 2 x.rem 0 e 0 u.2 u.1 (leBytes ((l.drop (u.1 - locOfs x.w3)).take u.2))))

/-- The source value (R432): 24 bits as FEXT gives them. -/
def State.gwSource (s : State) (x : GwEntry) (h : Nat) : W24 :=
  let sp := locSpec x.w2
  let n := locSpan x.w2
  let l := if x.frame then s.frameBytes h (locOfs x.w2) n else SMap.slice 0 s.imgCur (locOfs x.w2) n
  (fextRun sp l (locBit x.w2) {}).d
/-- The rescaled value before the target's range (R432). -/
def gwScale (x : GwEntry) (v : W24) : Int :=
  clampS 24 (sgn 16 (bitsAt x.w1 0 16) + (v.toInt * sgn 16 (bitsAt x.w1 16 16) + 2048) / 4096)
/-- The value clamped to the target's range. -/
def gwClamp (sp : FSpec) (r : Int) : Int :=
  if sp.signed then clampS sp.len r
  else if r < 0 then 0 else if 2 ^ sp.len ≤ r then 2 ^ sp.len - 1 else r

/-- One enabled entry (R432, R433). -/
def State.gwExec (s : State) (le e : Nat) (x : GwEntry) (h : Nat) : State :=
  let ts := locSpec x.w3
  if s.gwBad x then (s.inc F.gwCBadEntry).raise 0x34 0 e
  else if (locSpec x.w2).len = 0 ∨ ts.len = 0 then s
  else
    let r := gwScale x (s.gwSource x h)
    let c := gwClamp ts r
    let s := if !x.wraps && c != r then s.inc F.gwCClamped else s
    let v := wrapI ts.len (if x.wraps then r else c)
    let s := s.inc F.gwCExec
    let n := locSpan x.w3
    let o := locOfs x.w3
    if x.remote then s.gwRemote le e x (finsRun ts (List.replicate n 0) (locBit x.w3) v)
    else s.putBack o (finsRun ts ((List.range n).map (fun i => s.backByte (o + i))) (locBit x.w3) v)

/-- The entries of a table that a pass executes, ascending (R435). -/
def State.gwEntries (s : State) (sel j : Nat) (flow : Option Nat) : List (Nat × GwEntry) :=
  (if s.retired 3 (s.gwBank sel) then [] else (List.range 4096).map (fun e => (e, s.gwEntry sel e))).filter (fun p =>
    p.2.en && hasBit (s.act F.gwThrGroups j) p.2.group &&
    (match flow with
     | none => !p.2.frame
     | some x => p.2.frame && p.2.flow == x))
/-- The start of a pass (R430, R444): the table in use, the queued host records. -/
def State.gwStart (s : State) (j : Nat) : State :=
  ((s.put F.gwStatActive 0 (s.act F.gwCfgSel)).gwSendQueue (s.act F.gwThrLe j)).hwqShow
/-- Running entries in order. -/
def State.gwRun (s : State) (j h : Nat) (l : List (Nat × GwEntry)) : State :=
  s.each l (fun s p => s.gwExec (s.act F.gwThrLe j) p.1 p.2 h)

/-- A phase pass of a woken thread (R435); a commit edge that falls into it, after entry `cut`, makes it late (R437). -/
def execPhasePass (j : Fin 8) (cut : Option (Fin 4096)) (s : State) : Out :=
  .next (let k := s.gwThread j
    if !s.gwRuns j || !(s.th k).evp.getLsbD 0 then s
    else
      let s := (s.updTh k (fun t => { t with evp := t.evp &&& ~~~1 })).gwStart j
      let l := s.gwEntries (s.act F.gwCfgSel) j none
      match cut with
      | none => s.gwRun j 0 l
      | some c =>
        let s := s.gwRun j 0 (l.filter (fun p => decide (p.1 ≤ c.val)))
        let s := if s.commitReq = 0 then s
          else (({ (s.inc F.imgMerged 0 (s.commitReq - 1)).commit with commitReq := 0 } : State).inc F.gwCPassLate)
        s.gwRun j 0 (l.filter (fun p => decide (c.val < p.1))))

/-- A frame without a flow from an internal input (R440). -/
def State.gwIsMsg (s : State) (h : Nat) : Bool := decide (16 ≤ (s.frame h).inport) && (s.frame h).flow == none
/-- The oldest frame in the receive queue of gateway thread `j`. -/
def State.gwHead (s : State) (j : Nat) : Option Nat := if s.gwRuns j then (s.th (s.gwThread j)).rxq.head? else none
/-- That frame is popped and released. -/
def State.gwDrop (s : State) (j h : Nat) : State :=
  (s.updTh (s.gwThread j) (fun t => { t with rxq := t.rxq.drop 1 })).dropFrame h
/-- A frame pass: the popped frame of a flow feeds the entries of that flow and is released (R435). A frame of no flow that is no
message either is released too (DESIGN CHOICE, log 55). -/
def execFramePass (j : Fin 8) (s : State) : Out :=
  .next (match s.gwHead j with
    | none => s
    | some h =>
      match (s.frame h).flow with
      | none => if s.gwIsMsg h then s else s.gwDrop j h
      | some x =>
        let s := s.gwStart j
        (s.gwRun j h (s.gwEntries (s.act F.gwCfgSel) j (some x))).gwDrop j h)

/-! ## Done messages (R440, R442, R445) -/

/-- Whether the message is bad: a TYPE that is no done message, or nonzero reserved bits. -/
def gwMsgBad (l : List Byte) : Bool :=
  !(byteAt l 0 == 3 || byteAt l 0 == 4) || decide (4 ≤ byteAt l 6) || byteAt l 15 != 0
/-- The executor pops its head message of a type, or a bad one. -/
def State.gwTake (s : State) (j ty : Nat) (g : List Byte → State → State) : State :=
  match s.gwHead j with
  | none => s
  | some h =>
    if !s.gwIsMsg h then s
    else
      let l := s.frameBytes h 0 16
      if gwMsgBad l then (s.inc F.gwCBadMsg).gwDrop j h
      else if byteAt l 0 = ty then g l (s.gwDrop j h)
      else s

/-- A write of GW_RACK (R442). -/
def State.gwRack (s : State) (r : Nat) (int : Bool) : State :=
  let s := ((s.put F.gwRstatPending r 0).put F.gwRstatMissRun r 0).put F.gwRstatLost r 0
  let s := s.put F.gwRlastNs r s.time.ns
  if int && s.on F.gwRcfgDbEn r then s.doorbell (s.act F.gwRcfgDbBit r) else s
def execGwRack (r : Fin 256) (int : Bool) (s : State) : Out := .next (s.hostWr (s.domOn .core) 0x24090 (·.gwRack r int))
/-- POLL_DONE: the executor writes GW_RACK. -/
def execPollDone (j : Fin 8) (s : State) : Out :=
  .next (s.gwTake j 3 (fun l s => s.gwRack (byteAt l 1) (hasBit (byteAt l 6) 1)))
/-- WRITE_DONE (R445). -/
def State.writeDone (s : State) (l : List Byte) : State :=
  let code := byteAt l 7
  if hasBit (byteAt l 6) 0 then
    let q := byteAt l 2 + 256 * byteAt l 3
    match s.hwq.find? (fun r => r.sent && r.seq == q) with
    | none => s
    | some r =>
      let s := ({ s with hwq := s.hwq.filter (fun x => x.seq != q) } : State).hwqShow
      if code = 0 then s
      else s.logPweTag { tag := r.tag, cause := 0x10 + min code 3, target := r.ofs, space := 2, remote := r.remote, width := r.width }
  else if code = 0 then s else s.inc F.gwCWriteFail
def execWriteDone (j : Fin 8) (s : State) : Out := .next (s.gwTake j 4 (fun l s => s.writeDone l))

/-! ## Polling, the host queue, counters (R441, R443, R446) -/

/-- The timer of a remote, from the APPLY edge that enabled it (R441). -/
def tmPoll (r : Nat) : Nat := tmKey 26 r
/-- The period of a remote in ns: 1 to 1,000 ms (R446). -/
def State.pollNs (s : State) (r : Nat) : Nat := min 1000 (s.act F.gwRcfgPeriodMs r) * 1000000
/-- A remote falls due (R441): signalled to its gateway thread, whose executor sends POLL, or a miss. -/
def State.pollDue (s : State) (r : Nat) : State :=
    if s.get F.gwRstatPending r = 0 then
      let j := s.act F.gwRcfgThr r
      let s := (s.put F.gwRstatPending r 1).inc F.gwCPolls
      let le := s.act F.gwThrLe j
      if s.gwRuns j then
        if s.gwRoom le then s.gwSend le (s.act F.gwRcfgProtoLe r) (gwMsg 1 r 0 0 0 0 0 0) else s
      else s.signal (s.gwThread j) 7
    else
      let n := min 3 (s.get F.gwRstatMissRun r + 1)
      let s := (s.inc F.gwCPollMissed).put F.gwRstatMissRun r n
      if n = 3 ∧ s.get F.gwRstatLost r = 0 then (s.put F.gwRstatLost r 1).raise 0x35 (s.act F.gwRcfgProtoLe r) r else s
def execRemotePollDue (r : Fin 256) (s : State) : Out :=
  .next (if !s.on F.gwCfgEn || !s.on F.gwRcfgEn r || s.act F.gwRcfgPeriodMs r == 0 || !s.tmPast (tmPoll r) (s.pollNs r) then s
    else State.pollDue { s with timers := SMap.set 0 s.timers (tmPoll r) (SMap.get 0 s.timers (tmPoll r) + s.pollNs r) } r)

/-- A write of GW_HWQ_PUSH (R443). -/
def State.hwqPush (s : State) (tag : Nat) : State :=
  let w := s.get F.gwHwqDataWidth
  let rem := s.get F.gwHwqAddrRemote
  let ofs := s.get F.gwHwqAddrOfs
  if w = 0 ∨ 64 ≤ (s.hwq.filter (fun r => !r.sent)).length then
    (s.inc F.gwCHwqDrop).logPweTag { tag := tag, cause := 0x10, target := ofs, space := 2, remote := rem, width := w }
  else
    let q := (s.get F.gwHwqStatLastSeq + 1) % 65536
    let r : GwRec := { seq := q, tag := tag, remote := rem, ofs := ofs, width := w, value := s.get F.gwHwqDataValue }
    (({ s with hwq := s.hwq ++ [r] } : State).put F.gwHwqStatLastSeq 0 q).hwqShow
def execGwHwqPush (tag : BitVec 16) (s : State) : Out := .next (s.hostWr (s.domOn .core) 0x24108 (·.hwqPush tag.toNat))
/-- A write of GW_CNT_ADD (R446). -/
def State.cntAdd (s : State) (sel n : Nat) : State :=
  match sel with
  | 0 => s.inc F.gwCExec 0 n
  | 1 => s.inc F.gwCBadEntry 0 n
  | 2 => s.inc F.gwCClamped 0 n
  | 3 => s.inc F.gwCBackoff 0 n
  | 4 => s.inc F.gwCPassLate 0 n
  | 5 => s.inc F.gwCHwqDrop 0 n
  | 6 => s.inc F.gwCPollMissed 0 n
  | 7 => s.inc F.gwCWriteFail 0 n
  | 8 => s.inc F.gwCBadMsg 0 n
  | 9 => s.inc F.gwCPolls 0 n
  | _ => s
def execGwCntAdd (sel : Fin 16) (n : W24) (s : State) : Out := .next (s.hostWr (s.domOn .core) 0x24040 (·.cntAdd sel n.toNat))

/-! ## The tables' handover, APPLY of GW (R429, R430, R446) -/

/-- A bank gets an owner; a retired one keeps none (R564). -/
def State.giveBank (s : State) (b o : Nat) : State := if s.retired 3 b then s else s.put F.memBankOwnOwner b o
/-- Every pass that began before the flip has ended: the inactive bank goes to the host (R430). -/
def execGwHandoverDone (s : State) : Out :=
  .next (if s.get F.gwStatHandover = 0 then s
    else (s.giveBank (s.gwBank (1 - s.act F.gwCfgSel)) 16).put F.gwStatHandover 0 0)
/-- Whether the GW block refuses an APPLY (R429, R446). -/
def State.gwApplyBad (s : State) : Bool :=
  let a := s.get F.gwCfgBankA
  let b := s.get F.gwCfgBankB
  a == b || (List.range 4).any (fun n => s.get F.canCfgMode n != 0 && (s.get F.canCfgBank n == a || s.get F.canCfgBank n == b)) ||
  (List.range 256).any (fun r => s.get F.gwRcfgEn r != 0 && s.get F.gwRcfgWidth r == 0)
/-- The GW block after an APPLY edge (R429, R430, R441). -/
def State.gwApplied (s old : State) : State :=
  let s := s.each ((List.range 256).filter (fun r => s.on F.gwRcfgEn r && !old.on F.gwRcfgEn r)) (fun s r =>
    (((s.put F.gwRstatPending r 0).put F.gwRstatMissRun r 0).put F.gwRstatLost r 0).tmStart (tmPoll r))
  if !s.on F.gwCfgEn then s
  else
    let sel := s.act F.gwCfgSel
    let s := s.giveBank (s.gwBank sel) 18
    if old.on F.gwCfgEn && old.act F.gwCfgSel != sel then s.put F.gwStatHandover 0 1
    else if s.get F.gwStatHandover = 0 then s.giveBank (s.gwBank (1 - sel)) 16
    else s

end Sys2Proof.Machine
end

