-- ==== Sys2Proof/Machine/Supervisor.lean ====
section
/-!
DEFINITION. How the supervisor's commands start and end (15_command_set.md, R495-R497, R508-R515, R527-R531): blocks,
the opcode table, the resources, the mailboxes, the START section of a profile (R545) and the anti-rollback counter.
Mailbox 8 stands for the START section.
Assumption log: 63, 65, 71.
-/
namespace Sys2Proof.Machine

/-! ## Blocks in host memory and Common RAM (R496, R513) -/

/-- Whether the host interface is PCIe. -/
def State.pcie (s : State) : Bool := s.get F.mbxHostifSel == 0
/-- Whether a block of `n` bytes at `a` may be reached: aligned, and the space exists for the host (R496). -/
def State.spaceOk (s : State) (space a n : Nat) : Bool :=
  a % 8 == 0 && (if space = 0 then s.pcie && s.get F.mbxHostifLink != 0 else space == 1 && s.hostOwns a n)
/-- Reading `n` bytes: `data` is what host memory returned, none for a failed read. -/
def State.fetch (s : State) (space a n : Nat) (data : Option (List Byte)) : Option (List Byte) :=
  if !s.spaceOk space a n then none
  else if space = 0 then (match data with | some l => if n ≤ l.length then some (l.take n) else none | none => none)
  else some ((List.range n).map (fun j => s.hostCram (a + j)))
/-- A device write of Common RAM with the host's rights: refused and logged as a whole (R562), or written. -/
def State.devPut (s : State) (a : Nat) (l : List Byte) : State :=
  match s.refusedAt (· == 16) a l.length with
  | some x => s.logRefuse true 16 x
  | none => s.hostPut a l
/-- Writing bytes to a space. -/
def State.putSpace (s : State) (space a : Nat) (l : List Byte) : State :=
  if space = 0 then s.putHost a l else s.devPut a l

/-! ## The opcode table (Tables 15-2 and 15-4) -/

/-- A command: opcode, minimum length, result bytes, parameter fields (offset, bytes). -/
structure CmdRow where
  op : Nat
  min : Nat
  res : Nat
  params : List (Nat × Nat)

/-- The parameters of APPLY, FLOW_OPEN and FLOW_CLOSE and of the commands that read an object. -/
def applyParams : List (Nat × Nat) := [(16, 1), (17, 1), (18, 2), (20, 4), (24, 8), (32, 4)]
def objParams : List (Nat × Nat) := [(16, 1), (17, 1), (20, 4), (24, 8)]

/-- Table 15-2 with the layouts of Table 15-4. -/
def cmdTable : List CmdRow := [
  { op := 0x01, min := 28, res := 10, params := [(16, 2), (18, 2)] },
  { op := 0x02, min := 36, res := 20, params := [] },
  { op := 0x10, min := 20, res := 0, params := [(16, 1)] },
  { op := 0x11, min := 28, res := 12, params := [(16, 1), (17, 1), (20, 4)] },
  { op := 0x12, min := 32, res := 1, params := objParams },
  { op := 0x20, min := 40, res := 16, params := applyParams },
  { op := 0x30, min := 40, res := 16, params := applyParams },
  { op := 0x31, min := 40, res := 16, params := applyParams },
  { op := 0x40, min := 24, res := 8, params := [(16, 4)] },
  { op := 0x41, min := 24, res := 6, params := [] },
  { op := 0x50, min := 28, res := 12, params := [(16, 1), (17, 1), (18, 1), (20, 4)] },
  { op := 0x60, min := 32, res := 2, params := objParams },
  { op := 0x61, min := 20, res := 2, params := [(16, 2)] },
  { op := 0x62, min := 20, res := 2, params := [(16, 2)] },
  { op := 0x70, min := 24, res := 8, params := [(16, 1), (17, 1), (18, 1)] },
  { op := 0x71, min := 24, res := 8, params := [(16, 1), (17, 1), (18, 1)] },
  { op := 0x80, min := 24, res := 8, params := [(16, 4)] },
  { op := 0x90, min := 20, res := 4, params := [(16, 1), (17, 1), (18, 1)] },
  { op := 0xA0, min := 20, res := 1, params := [(16, 1), (17, 1)] },
  { op := 0xB0, min := 32, res := 1, params := [(16, 16)] },
  { op := 0xB1, min := 36, res := 4, params := [(16, 1), (20, 16)] },
  { op := 0xC0, min := 64, res := 4, params := [(16, 32), (48, 8), (56, 1), (60, 4)] },
  { op := 0xD0, min := 80, res := 0, params := objParams ++ [(32, 48)] },
  { op := 0xD1, min := 32, res := 0, params := objParams },
  { op := 0xE0, min := 32, res := 12, params := [(16, 1), (17, 1), (24, 8)] },
  { op := 0xF0, min := 24, res := 1, params := [(16, 1), (20, 4)] }]

/-- The row of an opcode. -/
def cmdRow (op : Nat) : Option CmdRow := cmdTable.find? (fun r => r.op == op)

/-- A little-endian field of the block: `params` holds the bytes from byte 16 on. -/
def Mbx.p (x : Mbx) (off n : Nat) : Nat := leBytes ((x.params.drop (off - 16)).take n)
/-- Bytes of the block. -/
def Mbx.bytes (x : Mbx) (off n : Nat) : List Byte := (x.params.drop (off - 16)).take n

/-- The length a block of the command needs at least. -/
def Mbx.need (x : Mbx) (r : CmdRow) : Nat :=
  if x.op = 0x30 then 40 + 56 * x.p 18 2 else if x.op = 0x31 then 40 + 2 * x.p 18 2
  else if x.op = 0xB1 then 36 + x.p 16 1 else r.min

/-- Step 5 of R509: too short, or a byte that the layout shows as zero is not zero. -/
def Mbx.bad (x : Mbx) : Bool :=
  match cmdRow x.op with
  | none => true
  | some r =>
    decide (x.len < x.need r) ||
    ((List.range (r.min - 16)).map (· + 16)).any (fun i =>
      !r.params.any (fun f => decide (f.1 ≤ i) && decide (i < f.1 + f.2)) && x.bytes i 1 != [0]) ||
    ((x.op == 0x20 || x.op == 0x30 || x.op == 0x31) && x.p 30 2 != 0) || (x.op == 0x20 && x.p 18 2 != 0)

/-- Steps 1 to 3 of R509 on the bytes of a block: a return code, or the command. -/
def parseBlk (x : Mbx) (l : List Byte) : Nat ⊕ Mbx :=
  let n := leBytes ((l.drop 4).take 4)
  let fl := leBytes ((l.drop 8).take 4)
  let op := leBytes (l.take 2)
  if n = 0 then .inl 4
  else if n < 16 ∨ 4096 < n ∨ 2 ≤ fl ∨ leBytes ((l.drop 12).take 4) ≠ 0 then .inl 0x11
  else if (cmdRow op).isNone then .inl 0x12
  else .inr { x with op := op, tag := leBytes ((l.drop 2).take 2), flags := fl, len := n, params := (l.take n).drop 16,
                     phase := .ready }

/-! ## Order, resources, FENCE (R527-R531) -/

/-- The engines of a mask. -/
def engMask (m : Nat) : List Nat := (bitsOf m 16).map (· + 16)
/-- The resources of Table 15-2: 0 APPLY, 1 flash, 2 Den, 3 lease, 4 snapshot, 16-31 engines, channels from 64 on, memory
units from 1024 on. -/
def State.cmdRes (s : State) (x : Mbx) : List Nat :=
  let chan := 64 + x.p 16 1 * 64 + x.p 17 1
  let le := if x.p 16 1 = 1 then (match s.leOf (x.p 17 1) with | some e => [16 + e] | none => []) else []
  match x.op with
  | 0x10 => [1]
  | 0x11 => [0, 1] ++ engMask 0xFFFF
  | 0x12 => [1, 2]
  | 0x20 => [0]
  | 0x30 => [0]
  | 0x31 => [0]
  | 0x40 => [3]
  | 0x41 => [3]
  | 0x50 => if x.p 16 1 = 3 then [] else [4]
  | 0x60 => [2, 16 + x.p 16 1 % 16]
  | 0x61 => engMask (x.p 16 2)
  | 0x62 => engMask (x.p 16 2)
  | 0x70 => chan :: le
  | 0x71 => chan :: le
  | 0x90 => [0]
  | 0xA0 => [64 + 4 * 64 + x.p 16 1]
  | 0xB0 => [2]
  | 0xB1 => [1, 2]
  | 0xC0 => [2]
  | 0xD0 => [2]
  | 0xD1 => [2]
  | 0xE0 => (bitsOf (x.p 24 8) 64).map (fun u => 1024 + x.p 17 1 * 64 + u)
  | 0xF0 => List.range 64
  | _ => []
/-- Whether two commands share a resource; POWER_STATE takes all of them (R528, Table 15-2). -/
def State.cmdShares (s : State) (x y : Mbx) : Bool :=
  let a := s.cmdRes x
  let b := s.cmdRes y
  if x.op = 0xF0 then !b.isEmpty else if y.op = 0xF0 then !a.isEmpty else b.any (fun r => a.contains r)
/-- Commands that never wait (R531). -/
def cmdFree (op : Nat) : Bool := op == 1 || op == 2 || op == 0x80

/-- Whether mailbox `m` can start its command now (R528, R529, R531, R538). -/
def State.cmdMay (s : State) (m : Nat) (x : Mbx) : Bool :=
  let others := (List.range 9).filter (fun n => n != m && (s.mb n).phase != .idle)
  let runs (n : Nat) : Bool := (s.mb n).phase == .waiting
  let excl (op : Nat) : Bool := op == 0x11 || op == 0xF0
  (s.get F.glbStatusBooted != 0 || x.op == 1 || x.op == 2 || m == 8) &&
  (m == 8 || cmdFree x.op || !others.any (fun n => runs n && excl (s.mb n).op)) &&
  (x.op != 0xF0 || !others.any (fun n => runs n && !cmdFree (s.mb n).op)) &&
  (!hasBit x.flags 0 || !others.any (fun n => decide ((s.mb n).seq < x.seq))) &&
  (m == 8 || !others.any (fun n => n != 8 && (runs n || ((s.mb n).phase == .ready && decide ((s.mb n).seq < x.seq))) &&
    s.cmdShares x (s.mb n)))

/-- The domains a command's target lies in (R527). -/
def State.cmdDoms (s : State) (x : Mbx) : List Dom :=
  let fox (p : Nat) : Dom := if p < 9 then .foxa else .foxb
  let les (m : Nat) : List Dom := (bitsOf m 16).map (fun e => fox (s.phys e))
  match x.op with
  | 0x60 => [.den, fox (s.phys (x.p 16 1 % 16))]
  | 0x61 => les (x.p 16 2)
  | 0x62 => les (x.p 16 2)
  | 0x12 => [.den]
  | 0x11 => [.den]
  | 0x90 => [.ring]
  | 0xB0 => []
  | 0xB1 => [.den]
  | 0xC0 => [.den]
  | 0xD0 => [.den]
  | 0xD1 => [.den]
  | 0x70 => (match x.p 16 1 with | 0 => [portDom (x.p 17 1)] | 1 => [fox (x.p 17 1)] | 5 => [.shrew] | _ => [])
  | 0x71 => (match x.p 16 1 with | 0 => [portDom (x.p 17 1)] | 1 => [fox (x.p 17 1)] | 5 => [.shrew] | _ => [])
  | 0xE0 => if x.p 17 1 = 4 then (bitsOf (x.p 24 8) 18).map fox else []
  | _ => []

/-- Step 4 of R509: the session, the device state and the START section (R514, R527, R545). -/
def State.cmdDenied (s : State) (m : Nat) (x : Mbx) : Bool :=
  (m != 8 && s.get F.glbStatusSession == 0 && x.op != 1 && x.op != 2) ||
  (m == 8 && [0x11, 0x12, 0xF0, 0xB0, 0xB1, 0xD0, 0xD1].contains x.op) ||
  (s.get F.pwrStateState == 2 && [0x11, 0x61, 0x62, 0xA0].contains x.op) ||
  (s.get F.pwrStateState != 2 && x.op == 0xE0 && x.p 16 1 == 0) ||
  ((s.cmdDoms x).contains .den && !s.denOk) ||
  (s.get F.pwrStateState != 0 && (s.cmdDoms x).any (fun d => !s.domOn d))

/-! ## Ends (R497, R510, R545-R547) -/

/-- The VERSION and FLAGS of a signed object. -/
def objVersion (l : List Byte) : Nat := leBytes ((l.drop 16).take 8)
def objFlags (l : List Byte) : Nat := leBytes ((l.drop 12).take 4)
/-- The anti-rollback counter. -/
def State.rollbackC (s : State) : Nat := s.get F.denRollbackLo + 2 ^ 32 * s.get F.denRollbackHi
/-- An object has taken effect: C advances with COMMIT (R546, R547). -/
def State.tookEffect (s : State) (l : List Byte) : State :=
  if !hasBit (objFlags l) 0 ∨ objVersion l ≤ s.rollbackC then s
  else if s.get F.denRollbackLeft = 0 then s.raise 0x4A 0
  else ((s.put F.denRollbackLo 0 (objVersion l)).put F.denRollbackHi 0 (objVersion l / 2 ^ 32)).put F.denRollbackLeft 0
    (s.get F.denRollbackLeft - 1)

/-- The results of a command in its block: the result bytes of the layout, zero where none is defined (R510). -/
def State.putResult (s : State) (x : Mbx) (res : List Byte) : State :=
  let n := match cmdRow x.op with | some r => min r.res (x.len - 16) | none => 0
  if n = 0 then s else s.putSpace x.space (x.addr + 16) ((res ++ List.replicate n 0).take n)
/-- MBX_ACKn and DONE with its doorbell (R497). -/
def State.mbxAck (s : State) (m tag code : Nat) : State :=
  let s := s.setMb m { s.mb m with phase := .idle }
  (((s.put F.mbxAckTag m tag).put F.mbxAckCode m code).put F.mbxStatState m 2).doorbell 24
/-- A mailbox's command ends with a return code; results for every code from step 5 of R509 on. -/
def State.mbxEnd (s : State) (m code : Nat) (res : Option (List Byte)) : State :=
  let x := s.mb m
  (match res with | some l => s.putResult x l | none => s).mbxAck m x.tag code

/-- The outcome of a switch (R513). -/
def Switch.result (w : Switch) (brk : Nat) : List Byte :=
  toLe w.brk.toNat 1 ++ [0, 0, 0] ++ toLe w.epoch 4 ++ toLe brk 4
/-- START has ended: the boot is over, or the profile switch ends (R537, R546, R548). -/
def State.startDone (s : State) : State :=
  let s := s.setMb 8 {}
  match s.switch with
  | some w =>
    let m := ((List.range 8).find? (fun n => (s.mb n).phase == .waiting && (s.mb n).op == 0x11)).getD 8
    let s := { s with switch := none }
    (s.tookEffect w.obj).mbxEnd m 1 (some (w.result (w.cutAt / 1000)))
  | none => if s.get F.glbStatusBooted ≠ 0 then s else (s.put F.glbStatusBooted 0 1).tookEffect s.bundle
/-- A START command has failed: the section ends with BOOT_START_FAIL (R545). -/
def State.startFail (s : State) (op code : Nat) : State :=
  (State.raise { s with startQ := [] } 0x49 0 0 (op * 65536 + code)).startDone
/-- The next START command is taken up; a block that cannot be read ends the section. -/
def State.startNext (s : State) : State :=
  match s.startQ with
  | [] => s.startDone
  | b :: q =>
    let s := { s with startQ := q }
    match parseBlk {} b with
    | .inl c => s.startFail (leBytes (b.take 2)) c
    | .inr x => s.setMb 8 x
/-- A START command ends: the section goes on after DONE. -/
def State.startEnd (s : State) (code : Nat) : State :=
  if code = 1 then s.startNext else s.startFail (s.mb 8).op code
/-- A command ends in its mailbox or in the START section. -/
def State.cmdEnd (s : State) (m code : Nat) (res : Option (List Byte)) : State :=
  if m = 8 then s.startEnd code else s.mbxEnd m code res

/-- A command of opcode `op` in mailbox `m` runs (R509, R528): nothing when it is not the mailbox's command or cannot
start; its refusals; else its effect, with the mailbox running until the effect ends it. -/
def State.cmd (s : State) (m op : Nat) (run : State → Mbx → State) : State :=
  let x := s.mb m
  if x.phase ≠ .ready ∨ x.op ≠ op ∨ !s.cmdMay m x then s
  else if s.cmdDenied m x then s.cmdEnd m 0x13 none
  else if x.bad then s.cmdEnd m 2 (some [])
  else run (s.setMb m { x with phase := .waiting, startAt := s.up }) x

/-- The commands under way of an opcode that satisfy `p` end. -/
def State.endAll (s : State) (op : Nat) (p : Mbx → Bool) (code : Nat) (res : Mbx → List Byte) : State :=
  s.each ((List.range 9).filter (fun n => (s.mb n).phase == .waiting && (s.mb n).op == op && p (s.mb n)))
    (fun s n => s.cmdEnd n code (some (res (s.mb n))))

/-- The results of COUNTER_SNAPSHOT (Table 15-4). -/
def State.snapRes (s : State) : List Byte := toLe (s.get F.imgCsnapStatEpoch) 4 ++ toLe (s.get F.imgCsnapNs) 4 ++ toLe (s.get F.imgCsnapSecLo) 4
/-- A snapshot request is withdrawn, but not on its edge (R271); the TAKE that waits for it ends with `code` (R517). -/
def State.snapWithdraw (s : State) (code : Nat) : State :=
  if s.get F.imgCsnapStatPending = 0 ∨ s.snapDue then s
  else
    let t := { s.snapCancel with snapMbx := none }
    match s.snapMbx with
    | some m => t.cmdEnd m code (some [])
    | none => t

end Sys2Proof.Machine
end

