-- ==== Sys2Proof/Machine/Memory.lean ====
section
/-!
DEFINITION. Memories, faults and events (17_memories.md, 18_faults_and_recovery.md, R124-R131): bank handovers, the
scrubber, the error logs, migration of logical engines, retirement, the health log and the event unit.
Assumption log: 4, 25, 44, 68, 74, 75, 76, 77, 78.
-/
namespace Sys2Proof.Machine

/-! ## Common RAM handover (R561-R564) -/

/-- Whether the gateway's tables hold a bank (R564). -/
def State.gwHolds (s : State) (b : Nat) : Bool := s.on F.gwCfgEn && (s.gwBank 0 == b || s.gwBank 1 == b)
/-- A Common RAM bank is zeroed: every byte, and the marks of its words (R563, R578). -/
def State.zeroBank (s : State) (b : Nat) : State :=
  { s with cram := s.cram.filter (fun e => e.1 / 65536 != b),
           poison := s.poison.filter (fun e => e.1 / 65536 != 64 + b) }
/-- A write of MEM_BANK_OWNb (R561, R563, R564): REFUSED_WR is cleared by its bit, and set by a refused OWNER. -/
def State.bankWrite (s : State) (b v : Nat) : State :=
  let s := if hasBit v 29 then s.put F.memBankOwnRefusedWr b 0 else s
  let o := v % 32
  if (18 < o && o != 31) || s.retired 3 b || s.gwHolds b then s.put F.memBankOwnRefusedWr b 1
  else
    let s := s.put F.memBankOwnOwner b o
    if hasBit v 8 then s.put F.memBankOwnClearing b 1 else s
def execBankHandover (b : Fin 32) (v : W32) (s : State) : Out := .next (s.hostWr (s.domOn .core) (0x34000 + 4 * b) (·.bankWrite b v.toNat))
/-- The clearing ends: the bank holds zero, and the writes that waited for it take effect in order (R563). -/
def State.bankCleared (s : State) (b : Nat) : State :=
  let s := (s.zeroBank b).put F.memBankOwnClearing b 0
  let (mine, rest) := s.waitWr.partition (fun p => p.1 / 65536 == b)
  State.each { s with waitWr := rest } mine (fun s p => (s.putCram p.1 [p.2]).canWrote p.1 1)
def execBankClearDone (b : Fin 32) (s : State) : Out :=
  .next (if s.get F.memBankOwnClearing b = 0 then s else s.bankCleared b)

/-- A host write of BAR2; `ue` says whether the merge read of its first word found an uncorrectable error. -/
def execHostMemoryWrite (a : W24) (bytes : List Byte) (ue : Bool) (s : State) : Out :=
  .next (let t := s.hostWrite a.toNat bytes
    if ue && decide (a.toNat < 0x200000) && s.hostOwns a.toNat bytes.length && (a.toNat % 8 != 0 || decide (bytes.length < 8)) then
      t.mergeUe a.toNat
    else t)


/-! ## Scrubber and error logs (R558-R560, R570) -/

/-- Whether the scrub period that began with the current pass has ended: PERIOD_S seconds since the last pass ended, since an
APPLY enabled the scrubber, or else since reset release (R560). -/
def State.scrubPast (s : State) : Bool :=
  let p := s.act F.memScrubPeriodS * 1000000000
  if s.tmOn tmScrub then s.tmPast tmScrub p else s.released && decide (s.relAt + p ≤ s.up)
/-- A scrub period ends (R560): its pass has completed, and the next begins, or LATE is set and the pass goes on to its end;
the end of a late pass is no end of a period. -/
def execScrubPassEnd (done : Bool) (s : State) : Out :=
  .next (if !s.on F.memScrubEn then s
    else if s.tmOn tmScrubLate then (if done then ((s.inc F.memCScrubPasses).tmStop tmScrubLate).tmStart tmScrub else s)
    else if !s.scrubPast then s
    else if done then (s.inc F.memCScrubPasses).tmStart tmScrub
    else (s.put F.memScrubStatLate 0 1).tmStart tmScrubLate)

/-- The fault channel of a memory unit, by TARGET code of R525. -/
def memChan (target unit : Nat) : Option (Nat × Nat) :=
  match target with
  | 0 => some (2, unit)
  | 1 => some (3, unit)
  | 4 => some (1, unit)
  | _ => none
/-- Units of a target (Table 17-1). -/
def memUnits (target : Nat) : Nat :=
  match target with
  | 0 => 34 | 1 => 32 | 2 => 48 | 3 => 8 | 4 => 18 | _ => 0
/-- Whether a unit is retired. -/
def State.unitRetired (s : State) (target unit : Nat) : Bool :=
  match memChan target unit with
  | some (k, n) => s.retired k n
  | none => false
/-- A corrected error in a word: the counter of its memory and the fault of its channel (R559, R572). -/
def State.memCe (s : State) (target unit : Nat) : State :=
  let s := match target with
    | 0 => s.inc F.memCCeSett
    | 1 => s.inc F.memCCeCram
    | 2 => s.inc F.memCCeImg
    | 3 => s.inc F.memCCeFlow
    | _ => (match s.leOf unit with | some e => s.inc F.foxEccCe e | none => s)
  match memChan target unit with
  | some (k, n) => s.chFault k n
  | none => s
/-- The scrubber finds an error in a word that is not poisoned (R560): it corrects it, and writes it back unless a
functional write came first (`wr`), or records it as uncorrectable: a word of IM or DM then raises ECC_UE where a thread uses
it (R99). -/
def execScrubCorrection (t : Fin 5) (u : Fin 64) (w : BitVec 16) (ue wr : Bool) (s : State) : Out :=
  .next (if !s.on F.memScrubEn || decide (memUnits t ≤ u.val) || s.unitRetired t u || s.marked t u w.toNat then s
    else if ue then (s.memUe t u w.toNat (memChan t u)).when (t == 4) (·.setMark 4 u w.toNat true)
    else (s.memCe t u).when wr (·.inc F.memCScrubFixed))

/-- A delivered read of MEM_UE_POP (R570). -/
def State.uePop (s : State) : State :=
  match s.ueLog with
  | [] => { s with rdata := [0] }
  | r :: q => { s with ueLog := q, rdata := [2 ^ 31 + r.target % 8 * 2 ^ 24 + r.unit % 64 * 2 ^ 16 + r.word % 2 ^ 16] }
def execMemUePop (s : State) : Out := .next (if s.off then s else s.uePop)
/-- A delivered read of MEM_REFUSE_POP (R570). -/
def State.refusePop (s : State) : State :=
  match s.refLog with
  | [] => { s with rdata := [0] }
  | r :: q => { s with refLog := q, rdata := [2 ^ 31 + r.wr.toNat * 2 ^ 30 + r.req % 32 * 2 ^ 24 + r.bank % 32 * 2 ^ 16 + r.ofs % 2 ^ 16] }
def execMemRefusePop (s : State) : Out := .next (if s.off then s else s.refusePop)

/-! ## Stopping and migrating logical engines (R123-R131) -/

/-- Every thread of a logical engine is at a safe point (R124): no access is under way. -/
def State.safePoint (s : State) (le : Nat) : Bool := (List.range 4).all (fun t => !(s.th (4 * le + t)).blk.access)
/-- The completion that a thread of a stopped engine waits for is discarded (R173). -/
def Frame.forget (f : Frame) (le : Nat) : Frame :=
  match f.cpl with
  | some (k, _) => if k / 4 = le then { f with cpl := none } else f
  | none => f
/-- A logical engine has stopped: its threads' multiplies and posted writes land, every frame it owns is released and its
completions are discarded, it is LOADED and its CAN buffer locks are released (R109, R123, R173, R378). -/
def State.engStopped (s : State) (le : Nat) : State :=
  let s := s.each (List.range 4) (fun s t =>
    (s.drainAll (4 * le + t)).updTh (4 * le + t) (fun u =>
      { u.landAll with st := .idle, blk := .none, wdPend := false, defer := none, comps := [], outst := 0 }))
  let s := s.each (s.owned le) State.dropFrame
  let s : State := { s with frames := s.frames.map (fun (e : Nat × Frame) => (e.1, e.2.forget le)) }
  (s.put F.foxStatusState le 1).canEngineStop le
/-- The free spares, ascending; a spare whose domain is off is not free (Table 20-2). -/
def State.freeSpares (s : State) : List Nat := (bitsOf (s.get F.foxSpares) 18).filter (fun p => s.domOn (foxDom p))
/-- The spare a migration from FXp takes (R125). -/
def State.spareFor (s : State) (p : Nat) : Option Nat :=
  match s.freeSpares.find? (fun x => x / 9 == p / 9) with
  | some x => some x
  | none => s.freeSpares.head?
/-- Step 1 of Table 3-8: the spare is claimed and the engine is MIGRATING. -/
def State.migrate (s : State) (le x : Nat) (retire : Bool) : State :=
  let s := (s.setEng le { s.eng le with mig := some x, migRetire := retire, was := s.get F.foxStatusState le }).tmStart (tmMig le)
  (s.put F.foxSpares 0 (clrBit (s.get F.foxSpares) x)).put F.foxStatusState le 4
/-- A migration that ends, or is abandoned: the engine's state is what it was, and what its freeze held is delivered (step 10). -/
def State.unmigrate (s : State) (le : Nat) : State :=
  let e := s.eng le
  (((s.setEng le { e with mig := none, migRetire := false, was := 0 }).put F.foxStatusState le e.was).tmStop (tmMig le)).deliverHeld le
/-- The logical engine that has claimed a spare. -/
def State.claims (s : State) (x : Nat) : Option Nat := (List.range 16).find? (fun e => (s.eng e).mig == some x)

/-! ## Retirement (R575-R577, Table 18-2) -/

/-- The action is complete (R575): the channel is out of service, CH_RETIRED, and a RETIRE that waits for it ends with
the spare taken and the time it took. -/
def State.retireEnd (s : State) (kind n spare : Nat) : State :=
  let k := kind * 64 + n
  let s := (s.setRetired kind n true).setChan k { s.chan k with retire := none }
  let s := if kind = 1 then s.put F.foxRetired 0 (setBit (s.get F.foxRetired) n) else s
  let s := (s.raise 0x5A (kind * 256 + n)).inc F.evtCRetirements
  s.endAll 0x70 (fun x => x.p 16 1 == kind && x.p 17 1 == n) 1
    (fun x => [0, BitVec.ofNat 8 spare, 0, 0] ++ toLe ((s.up - x.startAt) / 1000) 4)

/-- A port (Table 18-2): its link is lost at once whatever HOLD_MS, and its PHY is off. -/
def State.retirePort (s : State) (p : Nat) : State :=
  let s := if s.linkUp p then s.linkLoss p false none else s.fabricDown p false
  if p < 8 then s.restartAn p else s
/-- A ring lane: electrical idle, fold at the other joined port; without another lane the node leaves the ring. -/
def State.retireLane (s : State) (l : Nat) : State :=
  let was := s.joined l
  let s := s.laneOff l
  let s := if was && s.inRing && s.folds then s.raise 0x10 s.rnode else s
  if s.retired 0 (12 + otherLane l) && s.rst != 0 then s.ringOff else s.outsideUpd
/-- A logical engine leaves a physical engine that is retired: to a free spare, or it stops and no engine carries it (R125). -/
def State.leaveFox (s : State) (le p : Nat) : State :=
  match s.spareFor p with
  | some x => s.migrate le x true
  | none =>
    let s := if s.get F.foxStatusState le = 2 then s.put F.foxStatusState le 3 else s
    ((s.put F.foxMapValid le 0).raise 0x04 le).retireEnd 1 p 0
/-- A Fox physical engine: the migration of what it carries, or its stop; the removal of a spare (R125, R575, R576). -/
def State.retireFox (s : State) (p : Nat) : State :=
  match s.leOf p with
  | some le => if (s.eng le).mig.isSome then s.setEng le { s.eng le with migRetire := true } else s.leaveFox le p
  | none =>
    match s.claims p with
    | some le =>
      let again := (s.eng le).migRetire
      let s := (s.unmigrate le).retireEnd 1 p 0
      if again then s.leaveFox le (s.phys le) else s
    | none => (s.put F.foxSpares 0 (clrBit (s.get F.foxSpares) p)).retireEnd 1 p 0

/-- The logical Sett bank in service that a physical bank holds. -/
def State.settLog (s : State) (p : Nat) : Option Nat :=
  (List.range 32).find? (fun l => s.get F.memSettMap l == p && !hasBit s.settOut l)
/-- The free spare banks of Sett, ascending (R565). -/
def State.settFree (s : State) : List Nat :=
  (List.range 34).filter (fun p => !s.retired 2 p && (s.chan (2 * 64 + p)).retire.isNone && (s.settLog p).isNone)
/-- MEM_SETT_SPARES shows banks 32 and 33. -/
def State.settShow (s : State) : State :=
  s.put F.memSettSpares 0 ((s.settFree.contains 32).toNat + 2 * (s.settFree.contains 33).toNat)
/-- The shared ingress pool: the cells that the other partitions leave (R225, R226). -/
def State.sharedShow (s : State) : State :=
  let parts := (List.range 14).foldl (fun n i => n + s.act F.swPRes i) 0 + (List.range 18).foldl (fun n k => n + s.stageCap k) 0
  s.put F.swShared 0 (s.get F.swCellsTotal - (parts + s.act F.swMirCap))
/-- Frames with a cell in a group of logical banks are lost, and those at the head of a FIFO are dropped (R178, R225). -/
def State.loseFrames (s : State) (g : Nat) : State :=
  State.each { s with frames := s.frames.map (fun e => if e.2.groups.contains g then (e.1, { e.2 with lost := true }) else e) } (List.range 32) State.purge
/-- A Sett bank (R225, R565): its logical bank moves to the lowest free spare, or its cells leave service. -/
def State.retireSett (s : State) (p : Nat) : State :=
  match s.settLog p with
  | none => ((s.setRetired 2 p true).settShow).retireEnd 2 p 0
  | some l =>
    let s := (s.setRetired 2 p true).loseFrames (l / 8)
    match s.settFree.head? with
    | some x => ((s.put F.memSettMap l x).settShow).retireEnd 2 p x
    | none =>
      let first := !(List.range 8).any (fun j => hasBit s.settOut (l / 8 * 8 + j))
      let s := { s with settOut := setBit s.settOut l }
      let s := if first then
          ((s.put F.swCellsTotal 0 (s.get F.swCellsTotal - 8192)).put F.swCellsFree 0 (s.get F.swCellsFree - 8192)).sharedShow
        else s
      (s.settShow).retireEnd 2 p 0
/-- A Common RAM bank (R564): no owner; the CAN controllers whose bank it is behave as OFF. -/
def State.retireCram (s : State) (b : Nat) : State :=
  let old := s
  let s := ((s.setRetired 3 b true).put F.memBankOwnOwner b 31).put F.memBankOwnClearing b 0
  let s := { s with waitWr := s.waitWr.filter (fun p => p.1 / 65536 != b) }
  let cs := (List.range 4).filter (fun n => old.canMode n != 0 && s.act F.canCfgBank n == b)
  let s := s.each cs (fun s n => s.updCan n (fun c => { c with lost := true }))
  (s.each cs (fun s n => s.canApplied old n)).retireEnd 3 b 0
/-- A CAN controller: held as OFF, its buffers kept (R392). -/
def State.retireCan (s : State) (n : Nat) : State := ((s.setRetired 4 n true).canApplied s n).retireEnd 4 n 0
/-- A Shrew engine: stopped, the output enables of its pins 0 (R415). -/
def State.retireShrew (s : State) (e : Nat) : State :=
  let s := (s.shStop e).updShr e (fun r => { r with st := .retired })
  let m := (List.range 64).foldl (fun m p => if s.act F.shrPincfgOwner p = e then clrBit m p else m) s.gpOe
  State.retireEnd { s with gpOe := m } 5 e 0

/-- The action of Table 18-2. -/
def State.retireAct (s : State) (kind n : Nat) : State :=
  match kind with
  | 0 => if n < 12 then (s.retirePort n).retireEnd 0 n 0 else (s.retireLane (n - 12)).retireEnd 0 n 0
  | 1 => s.retireFox n
  | 2 => s.retireSett n
  | 3 => s.retireCram n
  | 4 => s.retireCan n
  | _ => s.retireShrew n
/-- A channel whose retirement is decided is retired (R575). -/
def execRetirement (kind : Fin 6) (n : Fin 34) (s : State) : Out :=
  .next (if (s.chan (kind.val * 64 + n.val)).retire.isNone || s.retired kind n then s else s.retireAct kind n)

/-- The poison marks of a physical engine's words go with their contents to another engine (Table 3-8). -/
def State.moveFoxMarks (s : State) (p x : Nat) : State :=
  let keep := s.poison.filter (fun e => e.1 / 65536 != 256 + p && e.1 / 65536 != 256 + x)
  let mine := s.poison.filter (fun e => e.1 / 65536 == 256 + p)
  { s with poison := mine.foldl (fun m e => SMap.set false m ((256 + x) * 65536 + e.1 % 65536) e.2) keep }
/-! ## Health log (R579, R580) -/

/-- A health record of Table 18-3. -/
def Health.bytes (h : Health) (seq : Nat) : List Byte :=
  let l := toLe seq 4 ++ toLe h.sec 6 ++ toLe h.ns 4 ++ toLe h.kind 1 ++ toLe h.chKind 1 ++ toLe h.number 1 ++
    toLe h.cause 1 ++ toLe (min h.count 65535) 2 ++ toLe h.detail 8 ++ List.replicate 32 0
  l ++ toLe (crc32 l) 4
/-- The supervisor writes the next health record (R580): `ok` whether a read-back agrees within 3 attempts. No flash
program starts on the power-fail path (R585). -/
def execHealthLogWrite (ok : Bool) (s : State) : Out :=
  .next (match s.health with
    | [] => s
    | h :: q =>
      if s.pfail then s
      else
        let i := s.healthSeq % 7168
        let s' := { s with health := q, healthSeq := s.healthSeq + 1 }
        if ok then State.inc { s' with hlog := SMap.set [] s.hlog i (h.bytes s.healthSeq) } F.evtCHlogWrites
        else (State.inc { s' with hlog := SMap.set [] s.hlog i [] } F.evtCHlogFailCnt).raise 0x62 0)

/-! ## The event unit (R581-R584, R588) -/

/-- A closed record goes to the host FIFO, or is discarded (R584). -/
def State.deliverEv (s : State) (r : EvRec) : State :=
  let s := s.inc F.evtCRecords
  if !hasBit (s.get F.evtMask (r.cause / 32)) (r.cause % 32) then s
  else if s.evFifo.length < 256 then State.doorbell { s with evFifo := s.evFifo ++ [r] } 26
  else s.inc F.evtCEvtLost
/-- An event as the record it opens. -/
def Event.open (e : Event) : EvRec :=
  { cause := e.cause, subj := e.subj, partner := e.partner, detail := e.detail, fns := e.ns, fsec := e.sec, lns := e.ns, lsec := e.sec,
    firstAt := e.at_, lastAt := e.at_ }
/-- An event joins a record: COUNT, SAT and LAST. -/
def EvRec.join (r : EvRec) (e : Event) : EvRec :=
  { r with count := min 65535 (r.count + 1), sat := r.sat || decide (65535 ≤ r.count), lns := e.ns, lsec := e.sec, lastAt := e.at_ }
/-- The open record with the oldest FIRST. -/
def oldestRec : List EvRec → Option EvRec
  | [] => none
  | r :: q => match oldestRec q with
    | none => some r
    | some x => if x.fsec < r.fsec ∨ (x.fsec = r.fsec ∧ x.fns < r.fns) then some x else some r
/-- Whether a record has the cause key of an event. -/
def EvRec.has (r : EvRec) (e : Event) : Bool := r.cause == e.cause && r.subj == e.subj
/-- An event enters the table of open records (R582, R583). -/
def State.aggregate (s : State) (e : Event) : State :=
  if s.evOpen.any (·.has e) then { s with evOpen := s.evOpen.map (fun r => if r.has e then r.join e else r) }
  else
    let s := if s.evOpen.length < 64 then s
      else match oldestRec s.evOpen with
        | none => s
        | some r => (State.inc { s with evOpen := s.evOpen.erase r } F.evtCEarlyCnt).deliverEv { r with early := true }
    { s with evOpen := s.evOpen ++ [e.open] }
def execEventAggregate (s : State) : Out :=
  .next (match s.evq with
    | [] => s
    | e :: q => State.aggregate { s with evq := q } e)
/-- The open record `i` closes (R583). -/
def State.closeRec (s : State) (i : Nat) : State :=
  match s.evOpen[i]? with
  | none => s
  | some r => State.deliverEv { s with evOpen := s.evOpen.eraseIdx i } r
/-- Whether the time of an open record has come (R583): HOLD_US since its LAST, or MAX_MS, at most 1,000, since its FIRST. -/
def State.recDue (s : State) (r : EvRec) : Bool :=
  decide (r.lastAt + s.act F.evtCfgHoldUs * 1000 ≤ s.up) || decide (r.firstAt + min 1000 (s.act F.evtCfgMaxMs) * 1000000 ≤ s.up)
def execRecordClose (i : Fin 64) (s : State) : Out :=
  .next (if (s.evOpen[i.val]?).any s.recDue then s.closeRec i else s)
/-- Every open record closes (R583). -/
def State.flushEvents (s : State) : State := State.each { s with evOpen := [] } s.evOpen State.deliverEv
def execEvtFlush (s : State) : Out := .next (s.hostWr (s.domOn .core) 0x38004 State.flushEvents)

/-- A delivered read of EVT_POP (R588, R500): the oldest record leaves and fills the hold registers. -/
def State.evtPop (s : State) : State :=
  match s.evFifo with
  | [] => { s with rdata := [0] }
  | r :: q =>
    let s := { s with evFifo := q, rdata := [2 ^ 31 + r.early.toNat * 2 ^ 30 + r.sat.toNat * 2 ^ 29 + r.cause % 256 * 65536 + r.count % 65536] }
    let s := ((s.put F.evtSubjSubject 0 r.subj).put F.evtSubjPartner 0 r.partner).put F.evtDetail 0 r.detail
    ((s.put F.evtFirstNs 0 r.fns).put F.evtFirstSec 0 r.fsec).put F.evtLastNs 0 r.lns |>.put F.evtLastSec 0 r.lsec
def execEvtPop (s : State) : Out := .next (if s.off then s else s.evtPop)

/-- An event that is delivered at once, bypassing the open records (Table 18-5, step 2). -/
def State.raiseNow (s : State) (cause : Nat) : State :=
  let e : Event := { cause := cause, subj := 0, ns := s.time.ns, sec := s.time.sec, at_ := s.up }
  (s.inc F.evtCEvents).deliverEv e.open

end Sys2Proof.Machine
end

