-- ==== Sys2Proof/Machine/Host.lean ====
section
/-!
DEFINITION. The host interface (14_host_interfaces.md) but for reads and writes of registers: doorbells, mailboxes and
their fetch, the posted-write error log, host frames in both directions, link loss and D3hot.
Assumption log: 10, 63, 64.
-/
namespace Sys2Proof.Machine

/-! ## Doorbells (R492-R494) -/

/-- Whether the MBX block can be reached. -/
def State.mbxOn (s : State) : Bool := s.domOn .host
/-- A W1C write of MBX_D2H_PEND. -/
def State.d2hPend (s : State) (v : Nat) : State := s.put F.mbxD2hPend 0 (andnN (s.get F.mbxD2hPend) v)
def execMbxD2hPend (v : WriteIn) (s : State) : Out :=
  .next (s.hostWr s.mbxOn 0x2C010 (·.d2hPend (andnN v.v.toNat v.keep.toNat)))
/-- A write of MBX_D2H_MASK: bits of PEND AND MASK that rise interrupt (R493). -/
def State.d2hMask (s : State) (v : Nat) : State := (s.put F.mbxD2hMask 0 v).irqEdge s.irqBits
def execMbxD2hMask (v : W32) (s : State) : Out := .next (s.hostWr s.mbxOn 0x2C014 (·.d2hMask v.toNat))
/-- The pending host-to-device bits that the mask lets through are delivered: HOSTDB in every thread whose DBMASK holds
one (R494). -/
def State.h2dGo (s : State) : State :=
  let m := Nat.land (s.get F.mbxH2dPend) (s.get F.mbxH2dMask)
  let s := s.put F.mbxH2dPend 0 (andnN (s.get F.mbxH2dPend) m)
  if m = 0 then s
  else s.each ((List.range 64).filter (fun k => Nat.land (s.get F.foxTDbmask k) m != 0)) (fun s k => s.setEvp k 6)
/-- A write of MBX_H2D_SET. -/
def State.h2dSet (s : State) (v : Nat) : State := (s.put F.mbxH2dPend 0 (Nat.lor (s.get F.mbxH2dPend) v)).h2dGo
def execMbxH2dSet (v : W32) (s : State) : Out := .next (s.hostWr s.mbxOn 0x2C020 (·.h2dSet v.toNat))
/-- A write of MBX_H2D_MASK. -/
def State.h2dMask (s : State) (v : Nat) : State := (s.put F.mbxH2dMask 0 v).h2dGo
def execMbxH2dMask (v : W32) (s : State) : Out := .next (s.hostWr s.mbxOn 0x2C028 (·.h2dMask v.toNat))

/-! ## Mailboxes (R495-R497) -/

/-- A write of MBX_POSTn (R495). -/
def State.mbxPost (s : State) (n v : Nat) : State :=
  if s.get F.mbxStatState n = 1 then (s.put F.mbxStatRefused n 1).logPwe 6 (0x2C108 + 0x20 * n) 0 4
  else
    let x : Mbx := { phase := .posted, addr := s.get F.mbxPtrLo n + 2 ^ 32 * s.get F.mbxPtrHi n, space := v % 2,
                     noteSeq := s.get F.gwHwqStatLastSeq, seq := s.mbxSeq }
    State.put { s.setMb n x with mbxSeq := s.mbxSeq + 1 } F.mbxStatState n 1
def execMbxPost (n : Fin 8) (v : W32) (s : State) : Out := .next (s.hostWr s.mbxOn (0x2C108 + 0x20 * n) (·.mbxPost n v.toNat))

/-- The supervisor has read the block of mailbox `n` (R496, R509): `data` is what host memory returned. -/
def State.mbxFetch (s : State) (n : Nat) (data : Option (List Byte)) : State :=
  let x := s.mb n
  match s.fetch x.space x.addr 16 data with
  | none => s.mbxAck n 0xFFFF 0x10
  | some h =>
    let len := leBytes ((h.drop 4).take 4)
    match s.fetch x.space x.addr (if 16 ≤ len ∧ len ≤ 4096 then len else 16) data with
    | none => s.mbxAck n 0xFFFF 0x10
    | some l =>
      match parseBlk x l with
      | .inl c => s.mbxAck n (leBytes ((l.drop 2).take 2)) c
      | .inr x => s.setMb n x
def execMailboxFetch (n : Fin 8) (data : Option (List Byte)) (s : State) : Out :=
  .next (if (s.mb n).phase ≠ .posted ∨ ((s.mb n).space = 0 ∧ s.d3hot) then s else s.mbxFetch n data)

/-! ## Posted-write error log (R500) -/

/-- A delivered read of MBX_PWE_POP. -/
def State.pwePop (s : State) : State :=
  match s.pwe with
  | [] => { s with rdata := [0] }
  | r :: q =>
    let s := { s with pwe := q, rdata := [2 ^ 31 + r.cause % 256 * 65536 + r.tag % 65536] }
    let s := ((s.put F.mbxPweTarget 0 r.target).put F.mbxPweInfoSpace 0 r.space).put F.mbxPweInfoRemote 0 r.remote
    (s.put F.mbxPweInfoWidth 0 r.width).put F.mbxPweNs 0 r.ns
def execMbxPwePop (s : State) : Out := .next (if s.mbxOn then s.pwePop else { s with rdata := [0] })

/-! ## Host frames (R502-R504) -/

/-- Submissions copied whose completion is still to come. -/
def State.hostBusy (s : State) : Nat := (s.frames.filter (fun e => e.2.hcpl.isSome)).length
/-- A write of MBX_HTX_PUSH (R502): the queue takes 32, and no more than the completion FIFO will have room for (R503). -/
def State.htxPush (s : State) (v : Nat) : State :=
  if 32 ≤ s.htx.length ∨ 64 ≤ s.htx.length + s.hostBusy + s.htxc.length then s.logPwe 7 0x2C30C 0 4
  else
    let r : HtxRec := { tag := v % 65536, addr := s.get F.mbxHtxAddrLo + 2 ^ 32 * s.get F.mbxHtxAddrHi,
                        space := s.get F.mbxHtxLenSpace, cls := s.get F.mbxHtxLenClass, len := s.get F.mbxHtxLenLen }
    { s with htx := s.htx ++ [r] }
def execMbxHtxPush (v : W32) (s : State) : Out := .next (s.hostWr s.mbxOn 0x2C30C (·.htxPush v.toNat))

/-- A frame of the host enters FP14 in cells of SW_STAGE_HOST, with lookup (R203, R228, R502). -/
def State.hostFrame (s : State) (r : HtxRec) (l : List Byte) (h : Nat) : State :=
  let h := s.handle h
  let n := cellsFor l.length
  let f : Frame := { Frame.ofBytes l with inport := 14, cls := r.cls, loc := true, cStage := n, stageOf := 16, rxAt := s.up,
                                          hcpl := some r.tag }
  let s := ((s.setFrame h (s.withGroups f)).tookFree).stageTake 16 n
  s.submit 14 h (1024 + 32 * r.cls)
/-- The bytes a submission names: host memory, or Common RAM with the host's rights, where a refused read is zero. -/
def State.htxData (s : State) (r : HtxRec) (data : Option (List Byte)) : State × Option (List Byte) :=
  if r.space = 0 then
    (s, if s.pcie && s.get F.mbxHostifLink != 0 then (match data with
      | some l => if r.len ≤ l.length then some (l.take r.len) else none
      | none => none) else none)
  else
    let s' := match s.refusedAt (· == 16) r.addr r.len with
      | some x => s.logRefuse false 16 x
      | none => s
    (s', some ((List.range r.len).map (fun j => if s.bankOwner (r.addr + j) = 16 then s.hostCram (r.addr + j) else 0)))
/-- The oldest submission is copied once its share has the cells (R502), or ends without a copy (R503). -/
def execHtxCopy (data : Option (List Byte)) (h : W24) (s : State) : Out :=
  .next (match s.htx with
    | [] => s
    | r :: q =>
      let t := { s with htx := q }
      if r.len = 0 then t.hostComplete r.tag 1 0
      else if 9600 < r.len then t.hostComplete r.tag 2 0
      else if (r.space = 0 ∧ s.d3hot) ∨ s.stageCap 16 < s.stageUse 16 + cellsFor r.len then s
      else match t.htxData r data with
        | (t, none) => t.hostComplete r.tag 16 0
        | (t, some l) => t.hostFrame r l h.toNat)
/-- A delivered read of MBX_HTXC_POP (R503). -/
def State.htxcPop (s : State) : State :=
  match s.htxc with
  | [] => { s with rdata := [0] }
  | (tag, st, eg) :: q => { s with htxc := q, rdata := [2 ^ 31 + eg % 32 * 2 ^ 24 + st % 256 * 65536 + tag % 65536] }
def execMbxHtxcPop (s : State) : Out := .next (if s.mbxOn then s.htxcPop else { s with rdata := [0] })

/-- The header of a ring entry (R504). -/
def Frame.hrxHdr (f : Frame) : List Byte :=
  let fl := f.mirror.toNat + 2 * f.trunc.toNat + 4 * f.runt.toNat + 8 * f.rxts.isSome.toNat + 16 * f.loc.toNat +
    32 * f.vlan.toNat + 64 * f.lost.toNat
  let ts := f.rxts.getD {}
  toLe (f.len + 65536 * f.inport + 2 ^ 21 * f.cls + 2 ^ 24 * fl) 4 ++
  toLe (match f.flow with | some x => x | none => 1024) 4 ++
  toLe (ts.ns + 2 ^ 30 * ts.half.toNat + 2 ^ 31 * f.rxts.isSome.toNat) 4 ++ toLe (if f.rxts.isSome then ts.sec else 0) 4
/-- Whether the receive ring has room. -/
def State.hrxRoom (s : State) : Bool :=
  s.on F.mbxHrxCfgEn && (s.get F.mbxHrxProd + 1) % s.act F.mbxHrxCfgEntries != s.get F.mbxHrxCons % s.act F.mbxHrxCfgEntries &&
  (s.act F.mbxHrxCfgSpace == 1 || (s.pcie && s.get F.mbxHostifLink != 0 && !s.d3hot))
/-- The head frame of FP14 is written into the ring (R504): too big for an entry it is dropped, and so it is when a write
of the ring is refused (R562). -/
def State.hrxWrite (s : State) (mh : Nat) : State :=
  match s.takeHead 14 (s.outQ.length + 1) with
  | (s, none) => s
  | (s, some h) =>
    let f := s.frame h
    let drop (s : State) (st : Nat) : State :=
      let s := s.unqueue h 14
      ((s.setFrame h { f with todo := f.todo.filter (· != 14), drops := f.drops ++ [(14, st)] }).unpin h).finish h
    let size := s.act F.mbxHrxCfgBufSize
    let a := s.act F.mbxHrxBaseLo + 2 ^ 32 * s.act F.mbxHrxBaseHi + s.get F.mbxHrxProd * size
    if size < f.len + 16 then (drop s 2).inc F.mbxHrxToobig
    else if s.act F.mbxHrxCfgSpace = 1 ∧ !s.hostOwns a (f.len + 16) then
      drop (s.devPut a (f.hrxHdr ++ f.all)).tookFree (s.free % 256)
    else
      let s := (s.started 14 h 0 mh).putSpace (s.act F.mbxHrxCfgSpace) a (f.hrxHdr ++ f.all)
      let s := s.put F.mbxHrxProd 0 ((s.get F.mbxHrxProd + 1) % s.act F.mbxHrxCfgEntries)
      (s.sentAt 14 h).doorbell 27
def execHrxWrite (mh : W24) (s : State) : Out := .next (if s.hrxRoom then s.hrxWrite mh.toNat else s)

/-! ## Link loss and power management (R483, R505) -/

/-- The PCIe link goes down, or PERST_N asserts (R505): the endpoint falls back to its reset values. -/
def State.hostLinkDown (s : State) : State :=
  if !s.pcie ∨ s.get F.mbxHostifLink = 0 then s
  else
    let s := (s.put F.mbxHostifLink 0 0).put F.mbxHostifWidth 0 0
    let s := { s with irqMode := 0, msiLog := 0, msix := [], pba := 0, d3hot := false, d3pend := 0 }
    let s := s.each ((List.range 8).filter (fun n => (s.mb n).phase == .posted)) (fun s n => s.mbxAck n 0xFFFF 0x10)
    let s := State.each { s with htx := [] } s.htx (fun s r => s.hostComplete r.tag 16 0)
    s.raise 0x50 0
def execHostLinkDown (s : State) : Out := .next s.hostLinkDown
/-- The link returns (R505): its width, 1 or 2 lanes, and its rate. -/
def execHostLinkUp (two : Bool) (rate : Fin 3) (s : State) : Out :=
  .next (if !s.pcie ∨ s.get F.mbxHostifLink ≠ 0 ∨ !s.domOn .host then s
    else
      let s := ((s.put F.mbxHostifLink 0 1).put F.mbxHostifWidth 0 (if two then 2 else 1)).put F.mbxHostifRate 0 rate
      (s.raise 0x51 0).doorbell 30)
/-- The endpoint enters D3hot (R483). -/
def execD3hotEntry (s : State) : Out := .next (if s.pcie && s.get F.mbxHostifLink != 0 then { s with d3hot := true } else s)
/-- The endpoint returns to D0: bits set meanwhile that still interrupt send their messages (R483, R493). -/
def execD0Return (s : State) : Out :=
  .next (let t := { s with d3hot := false, d3pend := 0 }
    t.each ((bitsOf s.d3pend 32).filter (fun b => hasBit s.irqBits b)) State.sendIrq)

end Sys2Proof.Machine
end

