-- ==== Sys2Proof/Machine/Power.lean ====
section
/-!
DEFINITION. Power domains, device states, power failure, PLLs, the adaptive loops, thermal control and live insertion
(19_power_clocks_insertion.md).
Assumption log: 31, 79, 80, 81, 91.
-/
namespace Sys2Proof.Machine

/-! ## Domains (R34, R593) -/

/-- The logical engines that lie in a Fox domain. -/
def State.lesIn (s : State) (d : Dom) : List Nat := (List.range 16).filter (fun e => foxDom (s.phys e) == d)
/-- Whether a register field key belongs to a block of the domain (Tables 1-5 and 21-1). -/
def State.domKey (s : State) (d : Dom) (k : Nat) : Bool :=
  let o := k / 1048576 / 32
  let i := k % 1048576
  let r (a b : Nat) : Bool := decide (a ≤ o) && decide (o < b)
  match d with
  | .phyg => r 0x10000 0x18000
  | .phyt => r 0x18000 0x1C000
  | .ring => r 0x0C000 0x10000
  | .shrew => r 0x20000 0x24000 || r 0x02600 0x02620 || r 0x02100 0x02200
  | .host => r 0x2C000 0x30000
  | .den => o == 0x30120 || o == 0x30124 || k / 1048576 == F.denCfgTrngHost.id
  | .foxa => (r 0x40000 0x41F00) && (s.lesIn .foxa).contains (if r 0x40100 0x41F00 then i / 4 else if r 0x40008 0x40010 then i / 2 else i)
  | .foxb => (r 0x40000 0x41F00) && (s.lesIn .foxb).contains (if r 0x40100 0x41F00 then i / 4 else if r 0x40008 0x40010 then i / 2 else i)
  | _ => false
/-- A domain is switched off: its registers, and what its blocks hold beside them, come up again at reset values (R593). -/
def State.domReset (s : State) (d : Dom) : State :=
  let keep (m : SMap Nat) : SMap Nat := m.filter (fun e => !s.domKey d e.1)
  let les := s.lesIn d
  let t := { s with pend := keep s.pend, actv := keep s.actv, live := keep s.live, held := keep s.held }
  match d with
  | .phyg => { t with ports := s.ports.filter (fun e => decide (8 ≤ e.1)) }
  | .phyt => { t with ports := s.ports.filter (fun e => decide (e.1 < 8) || decide (12 ≤ e.1)) }
  | .ring => { t with ring := {}, ringLanes := [] }
  | .shrew => { t with shrews := s.shrews.filter (fun e => e.2.st == .retired), shrPm := [], shrFlags := 0, gpLvl := 0, gpOe := 0,
                       capt := [], plls := [] }
  | .foxa => { t with threads := s.threads.filter (fun e => !les.contains (e.1 / 4)),
                      im := s.im.filter (fun e => !les.contains (e.1 / 16384)),
                      dm := s.dm.filter (fun e => !les.contains (e.1 / 32768)),
                      imgHash := s.imgHash.filter (fun e => !les.contains e.1) }
  | .foxb => { t with threads := s.threads.filter (fun e => !les.contains (e.1 / 4)),
                      im := s.im.filter (fun e => !les.contains (e.1 / 16384)),
                      dm := s.dm.filter (fun e => !les.contains (e.1 / 32768)),
                      imgHash := s.imgHash.filter (fun e => !les.contains e.1) }
  | _ => t
/-- All domains, in the order of Table 1-5. -/
def doms : List Dom := [.aon, .core, .foxa, .foxb, .phyg, .phyt, .ring, .host, .shrew, .den]
/-- The domains of a mask are on, the others off (R593). -/
def State.setDoms (s : State) (m : Nat) : State :=
  let s := s.each (doms.filter (fun d => s.domOn d && !hasBit m d.bit)) State.domReset
  s.put F.pwrStateDomainsOn 0 m

/-! ## Device states (R594, R595, Table 19-2) -/

/-- Whether a domain holds something that forbids switching it off (Table 19-2). -/
def State.domBusy (s : State) (d : Dom) : Bool :=
  match d with
  | .core => true
  | .foxa => (s.lesIn .foxa).any (fun e => decide (2 ≤ s.get F.foxStatusState e)) ||
      (List.range 16).any (fun e => match (s.eng e).mig with | some x => decide (x < 9) | none => false)
  | .foxb => (s.lesIn .foxb).any (fun e => decide (2 ≤ s.get F.foxStatusState e)) ||
      (List.range 16).any (fun e => match (s.eng e).mig with | some x => decide (9 ≤ x) | none => false)
  | .phyg => (List.range 8).any (fun n => s.on F.ethCfgEn n)
  | .phyt => (List.range 4).any (fun t => s.on F.t1sCfgEn t)
  | .ring => s.on F.ringCfgEn
  | .host => s.get F.mbxHostifSel != 3
  | .shrew => (List.range 32).any (fun e => (s.shr e).st.live)
  | _ => false
/-- Whether TRIM with a mask of domains returns BUSY. -/
def State.trimBusy (s : State) (m : Nat) : Bool := doms.any (fun d => hasBit m d.bit && s.domBusy d)
/-- Entry into TRIM. -/
def State.enterTrim (s : State) (m : Nat) : State :=
  ((s.setDoms (andnN 0x3FF m)).put F.pwrStateState 0 1).put F.pwrTrimMask 0 (m / 2) |>.inc F.pwrCTrimEntries
/-- Entry into RUN: every domain is on. -/
def State.enterRun (s : State) : State := (s.setDoms 0x3FF).put F.pwrStateState 0 0
/-- An engine at the entry into HOLD (R123, R124, R129): at once where its threads are at safe points, else when they come to
them; one in migration stops after it. -/
def State.holdStop (s : State) (e : Nat) : State :=
  let s := s.stopping e
  if s.get F.foxStatusState e = 3 ∧ s.safePoint e = true then s.engStopped e else s
/-- Entry into HOLD: engines stop, ports lose their links, the ring node listens only (Table 19-2). -/
def State.enterHold (s : State) : State :=
  let first := s.rst == 6
  let s := s.each (List.range 16) State.holdStop
  let s := s.each (List.range 32) State.shStop
  let s := s.each (List.range 12) (fun s p => s.linkLoss p true none)
  let s := s.listenOnly 5
  let s := { s with ring := { s.ring with held := first } }
  (s.setDoms 0x2CF).put F.pwrStateState 0 2 |>.inc F.pwrCHoldEntries

/-- What every reset and the entry into OFF leave of the state (R586, R590, R609): Owl, the power controller's held
fields, flash, OTP and what the board holds. Device time is invalid (R36, R590). -/
def aonKey (k : Nat) : Bool :=
  let o := k / 1048576 / 32
  let id := k / 1048576
  (decide (0x28000 ≤ o) && decide (o < 0x2C000)) || o == 0x01070 || o == 0x01094 || o == 0x01060 || o == 0x0002C ||
  id == F.denOtpRevoked.id || id == F.denOtpEnrolled.id || o == 0x30010 || o == 0x30014 || o == 0x30018 ||
  id == F.denKhash.id
/-- Every domain but AON at its reset state. -/
def State.cold (s : State) : State :=
  let keep (m : SMap Nat) : SMap Nat := m.filter (fun e => aonKey e.1)
  { pending := s.pending, fresh := s.fresh, trngN := s.trngN, vddio33 := s.vddio33, pend := keep s.pend, actv := keep s.actv,
    live := keep s.live, hostMem := s.hostMem, owl := s.owl, conns := s.conns, tws := s.tws, flashLog := s.flashLog, supOut := s.supOut,
    pwHash := s.pwHash, hlog := s.hlog, healthSeq := s.healthSeq, selRec := s.selRec, prof := s.prof, up := s.up, relAt := s.relAt,
    timers := s.timers.filter (fun e => decide (tmTp 0 ≤ e.1) && decide (e.1 ≤ tmAckHigh)) }
/-- Entry into OFF (Table 19-2): the latch with cause FORCE, every domain but AON off. -/
def State.enterOff (s : State) : State :=
  let s := (s.lockout 9).cold
  State.put { s with off := true } F.pwrStateDomainsOn 0 1

/-! ## Power failure (R585, R587, R592) -/

/-- The timers of this file: the last power-fail condition seen, the last AVS step, the VDD_CORE request that the regulator
has not confirmed, the last threshold step of an input, a sensor at the trip temperature, a cluster hotter than the other. -/
def tmPfail : Nat := tmKey 36 0
def tmAvs : Nat := tmKey 37 0
def tmVcore : Nat := tmKey 38 0
def tmMthr (m : Nat) : Nat := tmKey 39 m
def tmTrip : Nat := tmKey 40 0
def tmHot (c : Nat) : Nat := tmKey 41 c

/-- PFAIL_N is asserted or the brown-out detector trips (R585): the power-fail path begins. -/
def execPowerFail (pin core serdes aon : Bool) (s : State) : Out :=
  .next (let s := if pin then s.put F.pwrBodPfail 0 1 else s
    let s := if core then s.put F.pwrBodCore 0 1 else s
    let s := if serdes then s.put F.pwrBodSerdes 0 1 else s
    let s := if aon then s.put F.pwrBodAon 0 1 else s
    let s := if pin || core || serdes || aon then s.tmStart tmPfail else s
    if s.pfail || !(pin || core || serdes || aon) then s
    else ({ s with pfail := true } : State).raiseNow 0x60 |>.lastGasp (if pin then 1 else 2))
/-- 10 ms without either (R587). -/
def execPwrRestored (s : State) : Out := .next (if s.pfail && s.tmPast tmPfail 10000000 then ({ s with pfail := false } : State).raise 0x61 0 else s)

/-! ## PLLs (R597) -/

/-- What the loss of a PLL's reference does: the ring's lanes go out, the host link goes down, the guardian loses its clock. -/
def State.refLoss (s : State) (k : Nat) : State :=
  let s := (s.put F.clkStatusLocked 0 (clrBit (s.get F.clkStatusLocked) k)).put F.clkStatusLost 0
    (setBit (s.get F.clkStatusLost) k)
  match k with
  | 3 => if s.rst = 0 then s else ((s.laneOff 0).laneOff 1).outsideUpd
  | 4 => s.hostLinkDown
  | 5 => s.guardClkLoss
  | _ => s
/-- A PLL loses its reference: 0 MAIN, 1 FOXA, 2 FOXB, 3 RING, 4 PCIE, 5 GUARD (Table 19-4). -/
def execReferenceLoss (k : Fin 6) (s : State) : Out := .next (s.refLoss k)
/-- The reference returns and the PLL locks again; the ring's lanes train. -/
def execReferenceReturn (k : Fin 6) (s : State) : Out :=
  .next (let s := s.put F.clkStatusLocked 0 (setBit (s.get F.clkStatusLocked) k)
    if k.val = 3 then
      s.each ([0, 1].filter (fun p => s.ringOn && !s.laneLive p && !s.retired 0 (12 + p))) State.train
    else s)

/-! ## Adaptive loops (R599-R603, Table 19-5) -/

/-- The requested VDD_CORE: the highest target of a domain that is on, plus 10 mV (R600). -/
def State.avsReq (s : State) : Nat :=
  ((doms.filter (fun d => d != .aon && s.domOn d)).map (fun d => s.get F.pwrAvsDTargetMv d.bit)).foldl max 0 + 10
/-- The AVS loop reads a domain's slack (R600): inside its window it takes one step, at most one per domain per opening;
outside it holds, and STARVED shows a margin below the guard. Steps lie at least 10 us apart. -/
def execAvsStep (d : Fin 10) (slack : BitVec 8) (s : State) : Out :=
  .next (let on := d.val != 0 && hasBit (s.get F.pwrStateDomainsOn) d.val
    if !on || !s.on F.pwrAvsCfgEn then s
    else
      let m := s.act F.pwrAvsCfgMarginMv
      let s := s.put F.pwrAvsDSlack d slack.toNat
      let t := s.get F.pwrAvsDTargetMv d
      let low := decide (slack.toNat < m)
      if !s.window 0 then (if low then s.put F.pwrAvsDStarved d 1 else s)
      else if hasBit s.stepMask d || (s.tmOn tmAvs && !s.tmPast tmAvs 10000) then s
      else
        let t' := if low then min (t + 5) (s.act F.pwrAvsCfgVmaxMv)
          else if m + 2 < slack.toNat then max (t - 5) (s.act F.pwrAvsCfgVminMv) else t
        if t' = t then s
        else
          let s := ((State.put { s with stepMask := setBit s.stepMask d } F.pwrAvsDTargetMv d t').inc F.pwrCAvsSteps).tmStart tmAvs
          if s.avsReq = s.get F.pwrVcoreReqMv then s else (s.put F.pwrVcoreReqMv 0 s.avsReq).tmStart tmVcore)
/-- The regulator has not confirmed a new VDD_CORE within 5 us (R600): the loop holds until the next opening. -/
def execAvsTimeout (s : State) : Out :=
  .next (if s.on F.pwrAvsCfgEn && s.tmPast tmVcore 5000 then
      (State.put { s with stepMask := Nat.lor s.stepMask 1023 } F.pwrVcoreAvsTmo 0 1).tmStop tmVcore
    else s)

/-- The FCLK step of a cluster. -/
def State.fclkStep (s : State) (c : Nat) : Nat := SMap.get 0 s.fstep c
/-- The DFS loop of a cluster with its measured occupancy (R602): at most one step per opening. -/
def execDfsStep (c : Fin 2) (occ : BitVec 8) (s : State) : Out :=
  .next (if !s.domOn (if c = 0 then .foxa else .foxb) || s.get F.pwrStateState == 2 then s
    else
      let s := s.put F.clkDfsStatOccPct c occ.toNat
      if !s.window (1 + c.val) || hasBit s.stepMask (10 + c.val) then s
      else
        let st := s.fclkStep c
        let cap := s.get F.clkDfsStatCap c
        let st' := if !s.on F.clkDfsEn c then
            (if st < s.act F.clkDfsMax c then st + 1 else if s.act F.clkDfsMax c < st then st - 1 else st)
          else if cap < st then st - 1
          else if s.act F.clkDfsUpPct c < occ.toNat ∧ st < s.act F.clkDfsMax c ∧ st < cap then st + 1
          else if occ.toNat < s.act F.clkDfsDownPct c ∧ s.act F.clkDfsMin c < st then st - 1
          else st
        if st' = st then s
        else
          let s := { s with stepMask := setBit s.stepMask (10 + c.val), fstep := SMap.set 0 s.fstep c st' }
          if c = 0 then s.inc F.pwrCDfsStepsA else s.inc F.pwrCDfsStepsB)

/-- Whether a mains cycle has ended at an input since the last step of its threshold (Table 19-5). -/
def State.mthrMay (s : State) (m : Nat) : Bool :=
  !s.tmOn (tmMthr m) || (s.pll m).lastAt.any (fun t => decide (SMap.get 0 s.timers (tmMthr m) ≤ t / 2 + 1))
/-- A MAINS_IN threshold moves one 2 mV step towards the midpoint of the peaks, one per mains cycle (R603). -/
def execMainsThresholdStep (m : Fin 2) (mid : BitVec 10) (s : State) : Out :=
  .next (let cur := sgn 10 (s.get F.clkMthrCurMv m)
    let d := sgn 10 mid.toNat - cur
    if !s.on F.clkMthrAdaptEn m || !s.window 6 || !s.domOn .shrew || !s.mthrMay m || decide (d.natAbs < 2) then s
    else ((s.tmStart (tmMthr m)).put F.clkMthrCurMv m (wrapI 10 (if 0 < d then cur + 2 else cur - 2))).inc F.pwrCMainsThrSteps)

/-! ## Thermal control and placement (R604, R605) -/

/-- A timer runs while a condition holds. -/
def State.tmWhile (s : State) (k : Nat) (b : Bool) : State := if !b then s.tmStop k else if s.tmOn k then s else s.tmStart k
/-- The trip temperature in degrees (Table 19-6). -/
def tripC : Int := if Config.orderEB then 135 else 115
/-- Whether the sensor of a cluster exceeds that of the other by more than PLACE_DT (R605). -/
def State.hotter (s : State) (c : Nat) : Bool :=
  decide (sgn 11 (s.get F.pwrTemp c) > sgn 11 (s.get F.pwrTemp (1 - c)) + 4 * s.act F.pwrThermCfgPlaceDt)
/-- Readings of the four sensors (R604): WARN, HOT and the cap on FCLK; that of WARN_C is lifted 5 degrees below it. The times
of a sensor at the trip temperature (R604) and of a hotter cluster (R605) run from the first reading that shows it. -/
def execThermalCap (t0 t1 t2 t3 : BitVec 11) (s : State) : Out :=
  .next (let s := (((s.put F.pwrTemp 0 t0.toNat).put F.pwrTemp 1 t1.toNat).put F.pwrTemp 2 t2.toNat).put F.pwrTemp 3 t3.toNat
    let hot := max (max (sgn 11 t0.toNat) (sgn 11 t1.toNat)) (max (sgn 11 t2.toNat) (sgn 11 t3.toNat))
    let w : Int := 4 * s.act F.pwrThermCfgWarnC
    let h : Int := 4 * s.act F.pwrThermCfgHotC
    let s := (s.put F.pwrThermStatWarn 0 (decide (w ≤ hot)).toNat).put F.pwrThermStatHot 0 (decide (h ≤ hot)).toNat
    let old := s.get F.clkDfsStatCap 0
    let s := ((s.tmWhile tmTrip (decide (4 * tripC ≤ hot))).tmWhile (tmHot 0) (s.hotter 0)).tmWhile (tmHot 1) (s.hotter 1)
    let cap := if h ≤ hot then 1 else if w ≤ hot then 2 else if hot < w - 20 then 3 else max 2 old
    let s := if cap < old then s.inc F.pwrCThermCaps else s
    (s.put F.clkDfsStatCap 0 cap).put F.clkDfsStatCap 1 cap)
/-- The trip temperature has held for 10 us (R604). -/
def execThermalTrip (s : State) : Out := .next (if s.off || !s.tmPast tmTrip 10000 then s else (s.put F.pwrThermStatTripSeen 0 1).enterOff)

/-- Transient faults of a channel within its window (EVT_CHSTAT.IN_WINDOW). -/
def State.inWindow (s : State) (kind n : Nat) : Nat :=
  ((s.chan (kind * 64 + n)).times.filter (fun t => decide (s.up < t + s.act F.evtThrWindowMs kind * 1000000))).length
/-- The fault criterion of R605 for a logical engine. -/
def State.faultMove (s : State) (le : Nat) : Bool :=
  s.carried le && s.on F.clkPlaceFaultEn && decide (0 < s.inWindow 1 (s.phys le)) &&
  decide (s.act F.evtThrCount 1 ≤ s.inWindow 1 (s.phys le) + 1)
/-- The placement loop begins one migration in an opening of the class 7 window (R605): of an engine that meets the fault
criterion, or of the busiest engine `le` of the hotter cluster to the cooler one. -/
def execPlacementMigration (le : Fin 16) (s : State) : Out :=
  .next (let p := s.phys le
    let clean := s.freeSpares.filter (fun x => s.inWindow 1 x == 0)
    let other := 1 - p / 9
    let dst := if s.faultMove le then
        (match clean.find? (fun x => x / 9 == p / 9) with | some x => some x | none => clean.head?)
      else if (List.range 16).any s.faultMove then none
      else if s.hotter (p / 9) && s.tmPast (tmHot (p / 9)) 10000000 then clean.find? (fun x => x / 9 == other)
      else none
    let busy := !s.on F.clkPlaceEn || !s.window 7 || hasBit s.stepMask 12 || s.get F.pwrStateState == 2 || s.switch.isSome ||
      !s.carried le || (s.eng le).mig.isSome
    match busy, dst with
    | false, some x => State.inc (({ s with stepMask := setBit s.stepMask 12 } : State).migrate le x false) F.pwrCPlaceMoves
    | _, _ => s)

/-! ## Live insertion (R606, R607) -/

/-- CARD_PRESENT_N has been low for 10 ms (R606): isolation ends and the active configuration applies. -/
def execCardInsert (s : State) : Out :=
  .next (let was := s.iso
    let s := (s.put F.pwrInsCardPresent 0 1).put F.pwrInsIso 0 0
    if was && s.on F.ringCfgEn && s.domOn .ring && s.rst == 0 then s.setRst 1 else s)
/-- CARD_PRESENT_N is seen high (R607): ring and port transmitters fall idle and isolation begins. -/
def execCardExtract (s : State) : Out :=
  .next (let s := if s.rst = 0 then s else s.ringOff
    let s := s.each (List.range 12) (fun s p => s.linkLoss p true none)
    ((s.put F.pwrInsCardPresent 0 0).put F.pwrInsIso 0 1).put F.pwrInsExtractSeen 0 1)

end Sys2Proof.Machine
end

