-- ==== Sys2Proof/Machine/Engine.lean ====
section
/-!
DEFINITION. Signed objects, image bodies and bundles (R540-R543, R550 of 16_profiles_boot_security.md), and the load,
start and restart of logical engines (R121-R123, R427, R518).
Assumption log: 12, 14, 67, 70, 72.
-/
namespace Sys2Proof.Machine

/-! ## Signed objects (R540, R541) -/

/-- A little-endian field of a byte string. -/
def leAt (l : List Byte) (a n : Nat) : Nat := leBytes ((l.drop a).take n)
/-- The object at the front of a byte string: as long as its LENGTH says. -/
def objOf (l : List Byte) : List Byte := l.take (leAt l 8 4)
/-- KEYSEL, PUBKEY and BODY. -/
def objKeysel (l : List Byte) : Nat := leAt l 7 1
def objPubkey (l : List Byte) : List Byte := (l.drop 32).take 96
def objBody (l : List Byte) : List Byte := ((l.drop 128).take (l.length - 224))
/-- The letter of MAGIC for a KIND: I, B, A. -/
def kindLetter (kind : Nat) : Nat := match kind with | 1 => 0x49 | 2 => 0x42 | _ => 0x41
/-- MAGIC, FORMAT and KIND agree, the fields shown as zero are zero, and the length is in range. -/
def objFormat (l : List Byte) (kind : Nat) : Bool :=
  decide (320 ≤ leAt l 8 4) && decide (leAt l 8 4 ≤ 4194304) && decide (leAt l 8 4 ≤ l.length) &&
  l.take 3 == [0x4C, 0x56, 0x58] && leAt l 3 1 == kindLetter kind && leAt l 4 2 == 0x100 && leAt l 6 1 == kind &&
  decide (leAt l 12 4 < 2) && leAt l 24 8 == 0
/-- The owner-key hash of a slot. -/
def State.keyHash (s : State) (k : Nat) : List Byte := (List.range 12).flatMap (fun w => toLe (s.get F.denKhash (k * 12 + w)) 4)
/-- Whether a slot is enrolled and not revoked. -/
def State.keyLive (s : State) (k : Nat) : Bool := hasBit (s.get F.denOtpEnrolled) k && !hasBit (s.get F.denOtpRevoked) k
/-- Whether the public key is the one that KEYSEL names. -/
def State.keyOk (s : State) (l : List Byte) : Bool :=
  let k := objKeysel l
  let h := sha384 (objPubkey l)
  if k < 4 then s.keyLive k && h == s.keyHash k
  else if k = 0x10 then h == (List.range 48).map Config.serviceKeyHash
  else false
/-- Whether SIG is valid over the bytes before it. -/
def objSigOk (l : List Byte) : Bool := Config.ecdsaOk (objPubkey l) (sha384 (l.take (l.length - 96))) (l.drop (l.length - 96))
/-- The failures of a verification, as DEN_BOOT shows them: 0 none, 1 SIG, 2 ROLLBACK, 3 FORMAT (R541, DEN_BOOT). -/
def State.objFault (s : State) (l : List Byte) (kind : Nat) : Nat :=
  if !objFormat l kind then 3
  else
    let o := objOf l
    if !s.keyOk o || !objSigOk o then 1 else if objVersion o < s.rollbackC then 2 else 0
/-- Verification with its counter; the return code (R541): 1 passes. -/
def State.verify (s : State) (l : List Byte) (kind : Nat) : State × Nat :=
  match s.objFault l kind with
  | 0 => (s, 1)
  | 2 => (s, 0x104)
  | _ => (s.inc F.denSigFail, 0x103)

/-! ## Image bodies (R542) -/

/-- An image body: TCFG words of the four threads, IM words from word 0 on, DM words by address. -/
structure ImageBody where
  tcfg : List Nat
  im : List (BitVec 48)
  dm : List (Nat × List W24)

/-- `n` segments of an image body, and whether they end where the body ends. -/
def parseSegs : Nat → List Byte → Option (List (Nat × List W24))
  | 0, l => if l.isEmpty then some [] else none
  | n + 1, l =>
    let a := leAt l 0 2
    let c := leAt l 2 2
    if l.length < 4 + 3 * c ∨ c = 0 ∨ 32768 < c ∨ 32768 < a + c then none
    else
      let ws : List W24 := (List.range c).map (fun i => BitVec.ofNat 24 (leAt l (4 + 3 * i) 3))
      match parseSegs n (l.drop (4 + 3 * c)) with
      | some r => some ((a, ws) :: r)
      | none => none
/-- An image body, none when it breaks R542. -/
def parseImage (l : List Byte) : Option ImageBody :=
  let n := leAt l 16 2
  let segs := leAt l 18 2
  let tcfg := (List.range 4).map (fun t => leAt l (4 * t) 4)
  let rsv (v : Nat) : Bool := bitsAt v 14 15 == 0
  if l.length < 24 + 6 * n ∨ 16384 < n ∨ 64 < segs ∨ leAt l 20 4 ≠ 0 ∨ !tcfg.all rsv then none
  else
    match parseSegs segs (l.drop (24 + 6 * n)) with
    | some d => some { tcfg := tcfg, im := (List.range n).map (fun i => BitVec.ofNat 48 (leAt l (24 + 6 * i) 6)), dm := d }
    | none => none
/-- PRIV in a TCFG word. -/
def tcfgPriv (v : Nat) : Bool := hasBit v 30
/-- The gateway threads of a logical engine (R427). -/
def State.gwThreads (s : State) (le : Nat) : List Nat :=
  ((List.range 8).filter (fun j => s.on F.gwThrEn j && s.act F.gwThrLe j == le)).map (fun j => s.act F.gwThrT j)
/-- Whether an engine refuses a body: PRIV without the service key (R542), or it takes what a gateway thread needs (R427). -/
def State.imageBad (s : State) (le keysel : Nat) (b : ImageBody) : Bool :=
  (keysel != 0x10 && b.tcfg.any tcfgPriv) ||
  (!(s.gwThreads le).isEmpty && (decide (15360 < b.im.length) || (s.gwThreads le).any (fun t => b.tcfg.getD t 0 != 0)))

/-! ## Loading, starting (R121, R123) -/

/-- TCFG of a thread. -/
def State.setTcfg (s : State) (k v : Nat) : State :=
  (((s.put F.foxTTcfgEn k (bitAt v 31)).put F.foxTTcfgPriv k (bitAt v 30)).put F.foxTTcfgSafety k (bitAt v 29)).put
    F.foxTTcfgStartPc k v
/-- IM and DM of a logical engine are zero and unmarked. -/
def State.clearEngine (s : State) (le : Nat) : State :=
  { s with im := SMap.keep (fun a => a / 16384 != le) s.im, dm := SMap.keep (fun a => a / 32768 != le) s.dm,
           poison := SMap.keep (fun k => k / 65536 != 4 * 64 + s.phys le) s.poison }
/-- The engine is EMPTY: nothing loaded (R518). -/
def State.emptyEngine (s : State) (le : Nat) : State :=
  let s := s.each (List.range 4) (fun s t => s.setTcfg (4 * le + t) 0)
  State.put { s.clearEngine le with imgHash := SMap.set [] s.imgHash le [] } F.foxStatusState le 0
/-- An accepted image body is loaded, with the executor in the gateway threads (R121, R427). -/
def State.loadImage (s : State) (le : Nat) (b : ImageBody) (hash : List Byte) : State :=
  let s := s.clearEngine le
  let s := { s with im := SMap.fill 0 s.im (le * 16384) b.im,
                    dm := b.dm.foldl (fun (m : SMap W24) (g : Nat × List W24) => SMap.fill 0 m (le * 32768 + g.1) g.2) s.dm,
                    imgHash := SMap.set [] s.imgHash le hash }
  let s := s.each (List.range 4) (fun s t => s.setTcfg (4 * le + t) (b.tcfg.getD t 0))
  let gw := s.gwThreads le
  let s := if gw.isEmpty then s
    else { s with im := SMap.fill 0 s.im (le * 16384 + 15360) ((List.range 1024).map Config.gwExecutor) }
  ((s.each gw (fun s t => s.setTcfg (4 * le + t) (2 ^ 31 + 2 ^ 30 + 15360))).put F.foxStatusState le 1).put F.foxCycles le 0

/-- A thread begins at START_PC with the state of Table 3-1; its receive queue stays as it was (R123, R173). -/
def Thread.begin (t : Thread) (pc : Nat) : Thread :=
  { t with w := Vector.replicate 16 0, fl := {}, lc := 0, lk := 0, pc := BitVec.ofNat 14 pc, evm := 0, evp := 0, acc := 0,
           rpt := 0, tm := false, fh := 0, wdPend := false, st := .ready, blk := .none, defer := none, muls := [],
           wbuf := [], comps := [], outst := 0, lastTx := none, hold := {} }
/-- A logical engine starts: every thread with TCFG.EN = 1 (R123). -/
def State.engStart (s : State) (le : Nat) : State :=
  let s := s.each ((List.range 4).filter (fun t => s.get F.foxTTcfgEn (4 * le + t) != 0)) (fun s t =>
    (s.updTh (4 * le + t) (fun u => u.begin (s.get F.foxTTcfgStartPc (4 * le + t)))).wdRestart (4 * le + t))
  ((s.put F.foxStatusState le 2).put F.foxCycles le 0).setEng le { s.eng le with last := 3 }

/-! ## Bundles (R543) -/

/-- A section of a bundle. -/
structure Section where
  ty : Nat
  arg : Nat
  data : List Byte

/-- The entries of a section table; none when one breaks R543. -/
def parseSections (body : List Byte) : Nat → Nat → Option (List Section)
  | 0, _ => some []
  | n + 1, i =>
    let e := body.drop (8 + 16 * i)
    let ofs := leAt e 4 4
    let len := leAt e 8 4
    if leAt e 2 2 ≠ 0 ∨ leAt e 12 4 ≠ 0 ∨ body.length < ofs + len ∨ body.length < 24 + 16 * i ∨ leAt e 0 1 = 0 ∨ 5 < leAt e 0 1 then none
    else
      match parseSections body n (i + 1) with
      | some r => some ({ ty := leAt e 0 1, arg := leAt e 1 1, data := (body.drop ofs).take len } :: r)
      | none => none
/-- Whether a section's ARG and content have the form of Table 16-4. -/
def Section.ok (x : Section) : Bool :=
  match x.ty with
  | 1 => decide (x.arg < 16) && (parseImage x.data).isSome
  | 4 => decide (x.arg < 32) && decide (x.data.length ≤ 65536)
  | 2 => x.arg == 0 && x.data.length % 8 == 0
  | 3 => x.arg == 0 && x.data.length % 56 == 0
  | _ => x.arg == 0
/-- Two ENGINE sections name one logical engine. -/
def dupEngines : List Section → Bool
  | [] => false
  | x :: r => (x.ty == 1 && r.any (fun y => y.ty == 1 && y.arg == x.arg)) || dupEngines r
/-- The sections of a bundle, none when it breaks R543. -/
def parseBundle (obj : List Byte) : Option (List Section) :=
  let body := objBody obj
  let n := leAt body 0 2
  if n = 0 ∨ 64 < n ∨ leAt body 2 6 ≠ 0 then none
  else
    match parseSections body n 0 with
    | some l => if l.all Section.ok && !dupEngines l then some l else none
    | none => none
/-- The sections of one type, in table order. -/
def secs (l : List Section) (ty : Nat) : List Section := l.filter (fun x => x.ty == ty)
/-- Verification of a bundle for boot and for a switch: 0 passes, else a code of DEN_BOOT.CAUSE (R541, R543). -/
def State.bundleFault (s : State) (l : List Byte) : Nat :=
  match s.objFault l 2 with
  | 0 => if (parseBundle (objOf l)).isSome then 0 else 3
  | c => c
/-- Verification of a bundle by a command, with its return code. -/
def State.verifyBundle (s : State) (l : List Byte) : State × Nat :=
  match s.bundleFault l with
  | 0 => (s, 1)
  | 2 => (s, 0x104)
  | _ => (s.inc F.denSigFail, 0x103)
/-- The command blocks of a START section, back to back. -/
def startBlocks : Nat → List Byte → List (List Byte)
  | 0, _ => []
  | n + 1, l =>
    if l.isEmpty then []
    else if leAt l 4 4 < 16 then [l]
    else l.take (leAt l 4 4) :: startBlocks n (l.drop (leAt l 4 4))

/-- The pending values a switch replaced are written again; the engines it stopped get P's images and run again (R549). -/
def State.reloadP (s : State) (les : List Nat) (images : List Section) (keysel : Nat) : State :=
  s.each les (fun s le =>
    match images.find? (fun x => x.arg == le) with
    | some x =>
      (match parseImage x.data with
       | some b => if s.imageBad le keysel b then s.emptyEngine le else s.loadImage le b (sha384 x.data)
       | none => s.emptyEngine le)
    | none => s.emptyEngine le)
/-- A switch ends before its APPLY edge (R549). -/
def State.switchUndo (s : State) (w : Switch) : State :=
  let s := { s with switch := none }
  let s := if w.stage = .apply then
      let p := { s with pend := w.saved }
      p.reloadP (bitsOf w.stops 16) (secs ((parseBundle s.bundle).getD []) 1) (objKeysel s.bundle)
    else s
  s.each ((bitsOf w.ran 16).filter (fun e => s.get F.foxStatusState e != 0)) (fun s e =>
    if s.get F.foxStatusState e = 3 then s.put F.foxStatusState e 2 else if s.get F.foxStatusState e = 1 then s.engStart e else s)

end Sys2Proof.Machine
end

