-- ==== Sys2Proof/Machine/Apply.lean ====
section
/-!
DEFINITION. APPLY (R16-R19, R274-R281): requests, the checks of every block on the APPLY edge, the values that become
active together and what each block does with them.
Assumption log: 32, 33, 34, 35, 37, 38, 39, 63, 66.
-/
namespace Sys2Proof.Machine

/-! ## Scopes (Table 7-4, Table 21-1) -/

/-- The APPLY scope bit of a register's block; 19 for none. -/
def scopeOf (o : Nat) : Nat :=
  if o < 0x1000 then 19 else if o < 0x1800 then 17 else if o < 0x2000 then 18 else if o < 0x2400 then 0
  else if o < 0x3000 then 1 else if o < 0x4000 then 19 else if o < 0x6000 then 2 else if o < 0x8000 then 19
  else if o < 0xA000 then 4 else if o < 0xC000 then 5 else if o < 0x10000 then 6 else if o < 0x18000 then 7
  else if o < 0x1C000 then 8 else if o < 0x20000 then 9 else if o < 0x24000 then 10 else if o < 0x28000 then 11
  else if o < 0x2C000 then 12 else if o < 0x30000 then 13 else if o < 0x34000 then 14 else if o < 0x38000 then 15
  else if o < 0x3C000 then 16 else if o < 0x40000 then 19 else 3
/-- Whether a field key lies in a scope mask. -/
def inScope (scope key : Nat) : Bool := hasBit scope (scopeOf (key / 1048576 / 32))
/-- The instances at which the pending value of a field with reset value 0 is not 0. -/
def State.pendAt (s : State) (f : Field) : List Nat :=
  (s.pend.filter (fun e => e.1 / 1048576 == f.id && e.2 != 0)).map (fun e => e.1 % 1048576)
/-- Whether an APPLY changed a field. -/
def State.chg (s old : State) (f : Field) (i : Nat := 0) : Bool := s.act f i != old.act f i

/-! ## What each block refuses -/

/-- A calendar entry with a reserved ACTION or a bad ARG, enabled or not (R74). -/
def State.calBad (s : State) (e : Nat) : Bool :=
  let a := s.get F.phsCalCtrlArg e
  match s.get F.phsCalCtrlAction e with
  | 0 => a != 0
  | 1 => decide (24 ≤ a)
  | 2 => decide (8 ≤ a)
  | 3 => decide (64 ≤ a)
  | 4 => decide (14 ≤ a)
  | 5 => decide (14 ≤ a)
  | 6 => a != 0
  | 7 => decide (256 ≤ a)
  | 8 => decide (256 ≤ a)
  | 9 => decide (32 ≤ a)
  | _ => true
/-- The PHS block (R57, Table 2-3, R74). -/
def State.phsBad (s : State) : Bool :=
  (List.range 4).any (fun k => s.get F.phsPxCfgSrc k == 7 || s.get F.phsPxCfgCaptEdge k == 3 ||
    (s.get F.phsPxCfgModulo k != 0 && decide (s.get F.phsPxModLo k + 2 ^ 32 * s.get F.phsPxModHi k < 2))) ||
  (s.pendAt F.phsCalCtrlAction ++ s.pendAt F.phsCalCtrlArg).any s.calBad
/-- The SW block (R222, R226, R236). -/
def State.swBad (s : State) : Bool :=
  let parts := (List.range 14).foldl (fun n i => n + s.get F.swPRes i) 0 +
    (List.range 16).foldl (fun n k => n + s.get F.swStage k) 0 + s.get F.swStageHost + s.get F.swStageSup + s.get F.swMirCap
  (List.range 8).any (fun c => s.get F.swAgeEn c != 0 && s.get F.swAgeLimitUs c == 0) ||
  decide (s.get F.swCellsTotal < parts) ||
  (List.range 32).any (fun n => (s.get F.swPMirRxN n != 0 && decide (s.get F.swPMirdstRxDst n < 14)) ||
    (s.get F.swPMirTxN n != 0 && decide (s.get F.swPMirdstTxDst n < 14)))
/-- The FOX block (R115). -/
def State.foxBad (s : State) : Bool := (List.range 64).any (fun k => s.get F.foxTWdgEn k != 0 && s.get F.foxTWdgIntervalUs k == 0)

/-- The pending segment of a context. -/
def State.pendSeg (s : State) (x : Nat) : Nat × Nat := (s.get F.flowSegOfs x, min (s.get F.flowSegLen x) 65536)
/-- Whether some two elements of a list, the first before the second, are related. -/
def anyPair {α : Type} (p : α → α → Bool) : List α → Bool
  | [] => false
  | x :: r => r.any (p x) || anyPair p r
/-- Two segments share a byte. -/
def segsMeet (a b : Nat × Nat) : Bool :=
  a.2 != 0 && b.2 != 0 && decide (a.1 < b.1 + b.2) && decide (b.1 < a.1 + a.2)
/-- A context that would be open and breaks a rule of its own (R248, R253). -/
def State.flowBad1 (s : State) (x : Nat) : Bool :=
  let g := s.pendSeg x
  (g.2 != 0 && decide (0x100000 < g.1 + g.2)) || g.1 % 8 != 0 ||
  (s.get F.flowCtrlUscEn x != 0 && decide (s.get F.flowCtrlClass x < 6)) ||
  (s.get F.flowTagcfgTagEn x != 0 && decide (44 < s.get F.flowTagcfgTagOfs x))
/-- The FLOW block (R248, R253). -/
def State.flowBad (s : State) : Bool :=
  let open_ := s.pendAt F.flowCtrlOpen
  let usc := open_.filter (fun x => s.get F.flowCtrlUscEn x != 0)
  open_.any s.flowBad1 ||
  anyPair (fun x y => segsMeet (s.pendSeg x) (s.pendSeg y)) open_ ||
  decide (256 < usc.length) || anyPair (fun x y => s.get F.flowCtrlUscIdx x == s.get F.flowCtrlUscIdx y) usc ||
  (s.pendAt F.flowTmoTmoEn).any (fun x => s.get F.flowTmoTmoUs x == 0)

/-- The ETH block (R330, R333, MDIX). -/
def State.ethBad (s : State) : Bool :=
  (List.range 8).any (fun n => decide (s.get F.ethMaxlen n < 64) || decide (9600 < s.get F.ethMaxlen n) ||
    s.get F.ethCfgMdix n == 3 || s.get F.ethCfgForceSpeed n == 3 ||
    (s.get F.ethCfgAnEn n == 0 && s.get F.ethCfgForceSpeed n == 2))
/-- The T1S block (R330, R349). -/
def State.t1sBad (s : State) : Bool :=
  (List.range 4).any (fun t => decide (s.get F.t1sMaxlen t < 64) || decide (1522 < s.get F.t1sMaxlen t) ||
    (s.get F.t1sCfgPlcaEn t != 0 && (s.get F.t1sPlcaTmrToTmr t == 0 || s.get F.t1sCfgNodeCnt t == 0 ||
      s.get F.t1sCfgNodeId t == 255 || decide (s.get F.t1sCfgNodeCnt t ≤ s.get F.t1sCfgNodeId t))))
/-- The SHR block (R393, R405, R426, PULL). -/
def State.shrBad (s : State) : Bool :=
  let len (v : Nat) : Bool := v == 0 || decide (24 < v)
  (List.range 32).any (fun e => len (s.get F.shrCfgWlen e) || len (s.get F.shrCfgMlen e) ||
    decide (s.get F.shrDivRate e < 256) || (s.get F.shrCfgCkEn e != 0 && decide (s.get F.shrDivRate e < 512))) ||
  (List.range 64).any (fun p => s.get F.shrPincfgPull p == 3)
/-- The MBX block (R504): a receive ring that would be enabled. -/
def State.mbxBad (s : State) : Bool :=
  let n := s.get F.mbxHrxCfgEntries
  let b := s.get F.mbxHrxCfgBufSize
  let base := s.get F.mbxHrxBaseLo + 2 ^ 32 * s.get F.mbxHrxBaseHi
  s.get F.mbxHrxCfgEn != 0 &&
  (decide (n < 2) || b % 64 != 0 || decide (b < 128) || decide (9664 < b) ||
   (if s.get F.mbxHrxCfgSpace = 0 then !s.pcie else !s.hostOwns base (n * b)))
/-- The EVT block (R588). -/
def State.evtBad (s : State) : Bool :=
  s.get F.evtCfgMaxMs == 0 || (List.range 6).any (fun k => s.get F.evtThrCount k == 0 || s.get F.evtThrWindowMs k == 0)
/-- The PWR block (R601, MARGIN_MV, HOT_C). -/
def State.pwrBad (s : State) : Bool :=
  let lo := s.get F.pwrAvsCfgVminMv
  let hi := s.get F.pwrAvsCfgVmaxMv
  decide (hi < lo) || decide (lo < 650) || decide (850 < lo) || decide (hi < 650) || decide (850 < hi) ||
  s.get F.pwrAvsCfgMarginMv == 0 || decide (s.get F.pwrThermCfgHotC < s.get F.pwrThermCfgWarnC)
/-- The CLK block (R602, HYST_MV). -/
def State.clkBad (s : State) : Bool :=
  (List.range 2).any (fun c => decide (s.get F.clkDfsMax c < s.get F.clkDfsMin c) ||
    decide (s.get F.clkDfsUpPct c ≤ s.get F.clkDfsDownPct c) || decide (s.get F.clkMthrHystMv c < 2))

/-- Whether the block of a scope bit refuses its pending values; OWL is judged by `owl`. -/
def State.blockBad (s : State) (owl : State → Bool) (b : Nat) : Bool :=
  match b with
  | 0 => s.get F.timeCtrlSrc == 3
  | 1 => s.phsBad
  | 2 => s.swBad
  | 3 => s.foxBad
  | 4 => s.flowBad
  | 6 => s.ringBad
  | 7 => s.ethBad
  | 8 => s.t1sBad
  | 9 => s.canBad
  | 10 => s.shrBad
  | 11 => s.gwApplyBad
  | 12 => owl s
  | 13 => s.mbxBad
  | 15 => s.get F.memScrubEn != 0 && s.get F.memScrubPeriodS == 0
  | 16 => s.evtBad
  | 17 => s.pwrBad
  | 18 => s.clkBad
  | _ => false
/-- The lowest scope bit that refuses (R276). -/
def State.refuses (s : State) (owl : State → Bool) (scope : Nat) : Option Nat := (bitsOf scope 19).find? (s.blockBad owl)

/-! ## What each block does on the APPLY edge -/

/-- TIME: a change of SRC starts without lock; PPS_OUT ends when it is disabled (R42, R46, R48). -/
def State.timeApplied (s old : State) : State :=
  let s := if s.chg old F.timeCtrlSrc then
      { s with ppsGood := 0, srcLock := if s.act F.timeCtrlSrc == 1 && s.get F.ringStatusLocked != 0 then 1 else 0 }
    else s
  if s.on F.timeCtrlPpsOutEn then s else { s with ppsOut := false }

/-- An axis whose configuration changed (R59, R60). -/
def State.axApplied (s old : State) (k : Nat) : State :=
  if [F.phsPxCfgSrc, F.phsPxCfgSel, F.phsPxCfgModulo, F.phsPxModLo, F.phsPxModHi].any (fun f => s.chg old f k) then
    let s := if s.act F.phsPxCfgSrc k = 1 then s
      else s.setAxis k { s.axis k with val := old.axVal k % s.axMod k }
    s.jumped old k (decide (s.axVal k < old.axVal k))
  else s
/-- A mains PLL that is enabled, at its start frequency, or disabled (R61, CFG.NOM). -/
def State.pllApplied (s old : State) (m : Nat) : State :=
  if s.chg old F.phsMCfgEn m then
    let s := ((s.put F.phsMStatState m (s.act F.phsMCfgEn m)).put F.phsMStatStopped m 0).setPll m {}
    if s.on F.phsMCfgEn m then
      (s.put F.phsMFreq m (if s.on F.phsMCfgNom m then 60000 else 50000)).tmStart (tmMains m)
    else s.tmStop (tmMains m)
  else s
/-- The port whose gate an entry operates (R77). -/
def State.gateOf (s : State) (e : Nat) : List Nat :=
  if s.act F.phsCalCtrlAction e = 4 ∨ s.act F.phsCalCtrlAction e = 5 then [s.act F.phsCalCtrlArg e] else []
/-- An entry that was written is re-armed or disarmed (R66, R77, R80). -/
def State.calApplied (s old : State) (e : Nat) : State :=
  let c := s.calE e
  let armed := s.on F.phsCalCtrlEn e
  let ports := if armed || old.on F.phsCalCtrlEn e then old.gateOf e ++ s.gateOf e else []
  let s := { s with gates := ports.foldl clrBit s.gates }
  let c := { c with written := false, armed := armed, late := false,
                    p := s.act F.phsCalPhLo e + 2 ^ 32 * s.act F.phsCalPhHi e }
  let s := s.setCal e c
  s.setCal e { c with late := s.calDue e }
/-- The TRIG pins whose OE becomes 1 take INIT (R653). -/
def State.trigApplied (s old : State) : State :=
  let up := (bitsOf (s.act F.phsTrigCfgOe) 8).filter (fun b => !hasBit (old.act F.phsTrigCfgOe) b)
  s.put F.phsTrigLevel 0 (up.foldl (fun l b => putBitN l b (hasBit (s.act F.phsTrigCfgInit) b)) (s.get F.phsTrigLevel))
/-- PHS. -/
def State.phsApplied (s old : State) : State :=
  let s := s.each (List.range 4) (fun s k => s.axApplied old k)
  let s := s.each (List.range 2) (fun s m => s.pllApplied old m)
  let s := s.each ((s.cal.filter (fun e => e.2.written)).map (·.1)) (fun s e => s.calApplied old e)
  s.trigApplied old

/-- SW: mirror numbering restarts where its ratio changed; the shared pool is what the partitions leave (R226, R235). -/
def State.swApplied (s old : State) : State :=
  let rx := (List.range 32).filter (fun n => s.chg old F.swPMirRxN n)
  let tx := (List.range 32).filter (fun n => s.chg old F.swPMirTxN n)
  State.sharedShow { s with rxNum := rx.foldl (fun m n => SMap.set 0 m n 0) s.rxNum,
                            txNum := tx.foldl (fun m n => SMap.set 0 m n 0) s.txNum }
/-- FOX: a watchdog that becomes enabled counts from INTERVAL_US (R115). -/
def State.foxApplied (s old : State) : State :=
  s.each ((List.range 64).filter (fun k => s.on F.foxTWdgEn k && !old.on F.foxTWdgEn k)) (fun s k => s.wdRestart k)
/-- FLOW: ACTIVE follows OPEN; STALE clears where the timer ends; a USC flow shows its state (R253, R469). -/
def State.flowApplied (s old : State) : State :=
  let l := (s.activeAt F.flowCtrlOpen ++ old.activeAt F.flowCtrlOpen)
  s.each l (fun s x =>
    let s := s.put F.flowStatActive x (s.act F.flowCtrlOpen x)
    let s := if old.staleTimer x && !s.staleTimer x then (s.put F.flowStatStale x 0).tmStop (tmStale x)
      else if s.staleTimer x && (!old.staleTimer x || s.chg old F.flowTmoTmoUs x) then s.tmStart (tmStale x)
      else s
    if s.on F.flowCtrlOpen x && s.on F.flowCtrlUscEn x then s.uscCopy (s.act F.flowCtrlUscIdx x) else s)

/-- A P port: a change of a negotiation field restarts negotiation; LPI ends with EEE (R334, R344). -/
def State.ethApplied (s old : State) (n : Nat) : State :=
  if [F.ethCfgEn, F.ethCfgAnEn, F.ethCfgForceSpeed, F.ethCfgForceFd, F.ethCfgMdix, F.ethAnAdvEee1000, F.ethAnAdvEee100,
      F.ethAnAdvAsmDir, F.ethAnAdvPause, F.ethAnAdvMs, F.ethAnAdvModes].any (fun f => s.chg old f n) then s.restartAn n
  else if s.on F.ethEeeEn n then s else s.lpiExit n
/-- PLCA of a T port after a change: coordinator or not, its cycle from the start (R348, R350). -/
def State.plcaApplied (s : State) (t : Nat) : State :=
  let coord := s.on F.t1sCfgEn t && s.on F.t1sCfgPlcaEn t && s.act F.t1sCfgNodeId t == 0
  ((s.put F.t1sStatusCoord t coord.toNat).put F.t1sStatusPlcaAct t coord.toNat).updPort (8 + t)
    (fun p => { p with plca := 0, burst := 0, rel := 0 })
    |>.tmStart (tmOpp (8 + t))
/-- A T port: its threshold takes a new INIT; PLCA and node ID change the mode; a disabled port loses its link (R350, R353). -/
def State.t1sApplied (s old : State) (t : Nat) : State :=
  let s := if s.chg old F.t1sThrInit t || !s.on F.t1sThrAdaptEn t then s.put F.t1sThrCur t (s.act F.t1sThrInit t) else s
  let mode := s.chg old F.t1sCfgPlcaEn t || s.chg old F.t1sCfgNodeId t
  let up := s.linkUp (8 + t)
  let s := if mode || s.chg old F.t1sCfgEn t then s.plcaApplied t else s
  if !s.on F.t1sCfgEn t then s.linkLoss (8 + t) true none
  else if mode && up then (s.linkLoss (8 + t) false none).linkUpEdge (8 + t) false
  else if s.chg old F.t1sCfgEn t then s.linkUpEdge (8 + t) false
  else s

/-- SHR: a pin takes INIT and OE_INIT where its owner changed; a bank's declaration is compared (R413, R414). -/
def State.shrApplied (s old : State) : State :=
  let pins := (List.range 64).filter (fun p => s.chg old F.shrPincfgOwner p)
  let s := { s with gpLvl := pins.foldl (fun l p => putBitN l p (s.on F.shrPincfgInit p)) s.gpLvl,
                    gpOe := pins.foldl (fun l p => putBitN l p (s.on F.shrPincfgOeInit p)) s.gpOe }
  s.each (List.range 8) State.bankCheck
/-- MBX: a changed ring begins at entry 0 (R507). -/
def State.mbxApplied (s old : State) : State :=
  if [F.mbxHrxBaseLo, F.mbxHrxBaseHi, F.mbxHrxCfgSpace, F.mbxHrxCfgEntries, F.mbxHrxCfgBufSize].any (fun f => s.chg old f) then
    (s.put F.mbxHrxProd 0 0).put F.mbxHrxCons 0 0
  else s
/-- DEN: JTAG_BLOCK, once active, stays (DEN_CFG). -/
def State.denApplied (s old : State) : State := if old.on F.denCfgJtagBlock then s.putAct F.denCfgJtagBlock 0 1 else s
/-- MEM: an APPLY that enables the scrubber begins a pass (R560). -/
def State.memApplied (s old : State) : State :=
  if s.on F.memScrubEn && !old.on F.memScrubEn then (s.tmStop tmScrubLate).tmStart tmScrub else s
/-- PWR: without AVS every domain runs at 0.750 V (R601). -/
def State.pwrApplied (s : State) : State :=
  if s.on F.pwrAvsCfgEn then s
  else (s.each (List.range 10) (fun s d => s.put F.pwrAvsDTargetMv d 750)).put F.pwrVcoreReqMv 0 750
/-- CLK: a threshold takes its new INIT_MV, which moves the phase of its axes (R60, R603). -/
def State.clkApplied (s old : State) : State :=
  s.each (List.range 2) (fun s m =>
    if !s.chg old F.clkMthrInitMv m && s.on F.clkMthrAdaptEn m then s
    else if s.get F.clkMthrCurMv m = s.act F.clkMthrInitMv m then s
    else
      let s := s.put F.clkMthrCurMv m (s.act F.clkMthrInitMv m)
      if s.get F.phsMStatState m = 0 then s else s.each (s.axesOf (2 + m)) (fun s k => (s.put F.phsPxStatJump k 1).put F.phsPxStatReverse k 0))

/-- The block of a scope bit after the APPLY edge. -/
def State.blockApplied (s old : State) (b : Nat) : State :=
  match b with
  | 0 => let s := s.timeApplied old; if s.chg old F.timeCtrlSrc then s.fnSteer else s
  | 1 => s.phsApplied old
  | 2 => s.swApplied old
  | 3 => s.foxApplied old
  | 4 => s.flowApplied old
  | 6 => s.ringApplied old
  | 7 => s.each (List.range 8) (fun s n => s.ethApplied old n)
  | 8 => s.each (List.range 4) (fun s t => s.t1sApplied old t)
  | 9 => s.each (List.range 4) (fun s n => s.canApplied old n)
  | 10 => s.shrApplied old
  | 11 => s.gwApplied old
  | 12 => s.owlApplied old
  | 13 => s.mbxApplied old
  | 14 => s.denApplied old
  | 15 => s.memApplied old
  | 17 => s.pwrApplied
  | 18 => s.clkApplied old
  | _ => s

/-- No frame takes longer from its SFD to its tail: 9,600 bytes at 10 Mbit/s, in ns. -/
def longestRx : Nat := 8000000
/-- The pending values of a scope become active (R17). -/
def State.activate (s : State) (scope : Nat) : State :=
  { s with actv := SMap.join (s.pend.filter (fun e => inScope scope e.1)) (s.actv.filter (fun e => !inScope scope e.1)),
           olds := s.olds.filter (fun x => decide (s.up < x.1 + longestRx)) ++ [(s.up, s.actv)] }
/-- An accepted APPLY: all values at once, then each block (R276). -/
def State.applied (s : State) (scope : Nat) : State := (s.activate scope).each (bitsOf scope 19) (fun t b => t.blockApplied s b)

/-! ## Requests (R275, R277, R281) -/

/-- Whether an axis has reached a phase under R64, counting forward. -/
def State.phaseDue (s : State) (k p : Nat) : Bool :=
  let m := s.axMod k
  decide (2 * ((s.axVal k % m + m - p % m) % m) < m)

/-- The results of APPLY, FLOW_OPEN and FLOW_CLOSE (Table 15-4); epoch and time are those of the APPLY edge. -/
def State.applyRes (s : State) (res blk : Nat) (late edge : Bool) : List Byte :=
  toLe res 1 ++ toLe blk 1 ++ toLe late.toNat 1 ++ [0] ++
  (if edge then toLe (s.get F.imgEpoch) 4 ++ toLe s.time.ns 4 ++ toLe s.time.sec 4 else List.replicate 12 0)

/-- A request is judged (R281); `stay` keeps the CANCELLED of the request it replaces (R277). -/
def State.applyGo (s : State) (stay : Bool) (mbx : Option Nat) : State :=
  let scope := s.get F.imgApplyScope
  let whn := s.get F.imgApplyCtrlWhen
  let k := s.get F.imgApplyCtrlAxis
  let ph := s.get F.imgApplyPhLo + 2 ^ 32 * s.get F.imgApplyPhHi
  if s.apply.isSome then s.put F.imgApplyStatResult 0 3
  else if scope = 0 then s.put F.imgApplyStatResult 0 4
  else if whn = 3 then s.put F.imgApplyStatResult 0 2
  else
    let late := whn == 1 && s.phaseDue k ph
    let r : ApplyReq := { scope := scope, whn := if late then 0 else whn, axis := k, phase := ph, late := late, mbx := mbx }
    let s := State.put { s with apply := some r } F.imgApplyStatPending 0 1
    let s := if stay then s else s.put F.imgApplyStatResult 0 0
    if late then s.put F.imgApplyStatLate 0 1 else s

/-- The word of a register as a read returns it. -/
def State.word (s : State) (fs : List Field) (i : Nat) : Nat := fs.foldl (fun w f => w + s.get f i * 2 ^ f.lo) 0
/-- RING_STATUS. -/
def State.ringStatusWord (s : State) : Nat :=
  s.word [F.ringStatusState, F.ringStatusHealed, F.ringStatusLocked, F.ringStatusFoldE, F.ringStatusFoldW,
    F.ringStatusOutside, F.ringStatusFirst, F.ringStatusMembers, F.ringStatusLoCause, F.ringStatusJoinErr] 0

/-- The command whose APPLY has a result ends with it (R515, R516, R520). -/
def State.applyAck (s : State) (r : ApplyReq) (res blk : Nat) (edge : Bool) (code : Nat) : State :=
  match r.mbx with
  | none => s
  | some m =>
    match (s.mb m).op, s.switch with
    | 0x11, some w => (s.switchUndo w).cmdEnd m code (some (w.result 0))
    | 0x90, _ => s.cmdEnd m code (some (toLe s.ringStatusWord 4))
    | _, _ => s.cmdEnd m code (some (s.applyRes res blk r.late edge))
/-- A pending APPLY whose edge has not come is withdrawn (R277); its command ends with `code`. -/
def State.applyCancel (s : State) (code : Nat) : State :=
  match s.apply with
  | none => s
  | some r =>
    if r.due then s
    else
      let s := (State.put { s with apply := none } F.imgApplyStatPending 0 0).put F.imgApplyStatResult 0 5
      s.applyAck r 5 0 false code
/-- A write of IMG_APPLY_CTRL (R275, R277); GO with CANCEL on the edge of the pending APPLY is a request that follows it. -/
def State.applyCtrl (s : State) (v : Nat) : State :=
  let s := (s.put F.imgApplyCtrlAxis 0 (bitsAt v 4 2)).put F.imgApplyCtrlWhen 0 (v % 4)
  let stay := hasBit v 30 && s.apply.any (fun r => !r.due)
  let on_ := hasBit v 30 && s.apply.any (fun r => r.due)
  let s := if hasBit v 30 then s.applyCancel 5 else s
  if !hasBit v 31 then s
  else if on_ then { s with apply := s.apply.map (fun r => { r with again := true }) }
  else s.applyGo stay none
/-- A write of 1 to GO, with whatever else the word holds. -/
def execApplyRequest (v : W32) (s : State) : Out :=
  .next (s.hostWr (s.domOn .core) 0x0A104 (·.applyCtrl (setBit v.toNat 31)))
/-- A write of 1 to CANCEL without GO. -/
def execApplyCancel (v : W32) (s : State) : Out :=
  .next (s.hostWr (s.domOn .core) 0x0A104 (·.applyCtrl (clrBit (setBit v.toNat 30) 31)))

end Sys2Proof.Machine
end

