-- ==== Sys2Proof/Machine/Bus.lean ====
section
/-!
DEFINITION. Accesses to BAR0 (R11-R22, R35, R88, R484-R491, R615-R628): the register an offset names, the word a read
returns, the side effects of a delivered read, the effect of a write, and the LBUS and QSPI protocols.
Assumption log: 5, 13, 24, 27, 28, 29, 30, 31, 43, 47, 61, 64, 86.
-/
namespace Sys2Proof.Machine

/-! ## Which register an offset names (R615, R625, R628) -/

/-- The power domain of the block at a BAR0 offset (Table 1-5). -/
def busDom (o : Nat) : Dom :=
  if o < 0x2100 then .aon
  else if o < 0x2200 then .shrew
  else if o < 0x2400 then .aon
  else if 0x2600 ≤ o ∧ o < 0x2640 then .shrew
  else if o < 0xC000 then .core
  else if o < 0x10000 then .ring
  else if o < 0x18000 then .phyg
  else if o < 0x1C000 then .phyt
  else if o < 0x20000 then .core
  else if o < 0x24000 then .shrew
  else if o < 0x28000 then .core
  else if o < 0x2C000 then .aon
  else if o < 0x30000 then .host
  else if o < 0x34000 then .den
  else if o < 0x40000 then .core
  else if o < 0x52000 then .foxa
  else if o < 0x64000 then .foxb
  else .aon
/-- Whether a register row covers an offset; the two instance numbers. -/
def Row.at (r : Row) (o : Nat) : Option (Nat × Nat) :=
  if o < r.off then none
  else
    let d := o - r.off
    let (i, e) := if r.n1 = 0 then (0, d) else (d / r.s1, d % r.s1)
    let (j, e) := if r.n2 = 0 then (0, e) else (e / r.s2, e % r.s2)
    if e = 0 ∧ (r.n1 = 0 ∨ i < r.n1) ∧ (r.n2 = 0 ∨ j < r.n2) then some (i, j) else none
/-- The register at an offset. -/
def findReg (o : Nat) : Option (Row × Nat × Nat) :=
  match regRows.find? (fun r => (r.at o).isSome) with
  | some r => (match r.at o with | some (i, j) => some (r, i, j) | none => none)
  | none => none
/-- The instance of a register that a requester's access reaches (R625); none for an engine or thread register in the
window of a physical engine that carries none (R88). -/
def State.regInst (s : State) (c : Nat) (r : Row) (i j : Nat) : Option Nat :=
  let two := if r.n2 = 0 then i else i * r.n2 + j
  match r.sel with
  | .none => some two
  | .copy => some (i * 18 + c)
  | .cal => some (s.get F.phsCalIdx c)
  | .fdb => some (s.get F.swFdbIdx c)
  | .flow => some (s.get F.flowIdx c)
  | .slot => some (s.get F.ringSlotIdx c)
  | .canBuf => some (canI i (s.get F.canBidx (i * 18 + c)))
  | .canWin => some (canI i (s.get F.canBwinIdx (i * 18 + c)))
  | .gwRem => some (s.get F.gwRidx c)
  | .owlConn => some (s.get F.owlCidx c)
  | .owlLog => some (s.get F.owlLogIdx c * 32 + i)
  | .key => some (s.get F.denKidx c * 12 + i)
  | .chan => some (s.get F.evtChselKind c * 64 + s.get F.evtChselNumber c)
  | .foxEng => (s.leOf i).map (fun e => if r.n2 = 0 then e else e * r.n2 + j)
  | .foxThr => (s.leOf i).map (fun e => e * 4 + j)
  | .foxMap => some j
  | .foxPhys => some i
/-- Whether the MSI-X table or its pending-bit array lies at an offset (R616). -/
def State.msixAt (s : State) (o : Nat) : Bool := s.pcie && decide (0x2D000 ≤ o) && decide (o < 0x2D200)

/-! ## What a read returns (R12, R19, R272, R486) -/

/-- TSTAT.STATE (R132): FROZEN from its safe point in the freeze of a migration on. -/
def State.thCode (s : State) (k : Nat) : Nat :=
  if s.frozen k then 5
  else match (s.th k).st with | .idle => 0 | .ready => 1 | .waitph => 2 | .waitev => 3 | .global => 4 | .halted => 6
/-- FOX_ID of a physical engine: role, carried logical engine. -/
def State.foxRole (s : State) (p : Nat) : Nat :=
  if hasBit (s.get F.foxRetired) p then 2 else if (s.leOf p).isSome then 0 else 1
/-- A byte string's 32-bit word. -/
def wordOf (l : List Byte) (w : Nat) : Nat := leBytes ((l.drop (4 * w)).take 4)
/-- Fields of TIME and PHS that show other state. -/
def State.shownTime (s : State) (i : Nat) : List (Field × Nat) := [
  (F.timeStatusState, s.timeState),
  (F.timeStatusSlewBusy, (s.slewRem != 0).toNat),
  (F.timeSlewRem, wrapI 32 s.slewRem),
  (F.timeCapStatLevel, (s.captQ i).length),
  (F.phsPxStatRun, (s.axRun i).toNat),
  (F.phsStatusArmed, (s.cal.filter (fun e => e.2.armed)).length),
  (F.phsCalNextLo, (s.calE i).p),
  (F.phsCalNextHi, (s.calE i).p / 2 ^ 32),
  (F.swPStatQcells, s.queuedAll i),
  (F.swPStatLinkUp, (s.linkUp i).toNat),
  (F.swPAonHeld, s.aonHeld i),
  (F.imgLeaseRem, (s.leaseNs + 999999) / 1000000),
  (F.canTtStatCtime, s.ttTime i),
  (F.glbUptimeS, (s.up - s.relAt) / 1000000000)]
/-- Fields of the Fox windows that show other state. -/
def State.shownFox (s : State) (i : Nat) : List (Field × Nat) := [
  (F.foxIdRole, s.foxRole i),
  (F.foxIdCluster, i / 9),
  (F.foxIdPhys, i),
  (F.foxIdLogical, (s.leOf i).getD 0),
  (F.foxStatusFstep, s.fclkStep (s.phys i / 9)),
  (F.foxStatusRunning, maskOf ((List.range 4).filter (fun t => (s.th (4 * i + t)).started && (s.th (4 * i + t)).st != .halted))),
  (F.foxTTstatState, s.thCode i),
  (F.foxTTstatTm, (s.th i).tm.toNat),
  (F.foxTTstatPc, (s.th i).pc.toNat),
  (F.foxTEvp, (s.th i).evp.toNat),
  (F.foxTEvm, (s.th i).evm.toNat),
  (F.foxSpares, maskOf s.freeSpares)]
/-- Fields of the Shrew windows that show other state. -/
def State.shownShr (s : State) (i : Nat) : List (Field × Nat) :=
  let r := s.shr i
  [(F.shrStatState, r.st.code), (F.shrStatBank, r.bank.toNat), (F.shrStatSwapPend, r.swapPend.toNat),
   (F.shrStatRlat, r.rlat.isSome.toNat), (F.shrStatTlat, r.tlat.isSome.toNat), (F.shrStatPc, r.pc), (F.shrStatC, r.c),
   (F.shrStatTxfLvl, r.txf.length), (F.shrStatRxfLvl, r.rxf.length), (F.shrCa, r.ca.toNat), (F.shrCb, r.cb.toNat),
   (F.shrSr, r.sr.toNat), (F.shrQpos, r.qpos.toNat), (F.shrM, r.m.toNat), (F.shrFlags, s.shrFlags)]
/-- Fields of the other blocks that show other state. -/
def State.shownRest (s : State) (i : Nat) : List (Field × Nat) := [
  (F.owlStatusNopwDenOff, (!s.denOk).toNat),
  (F.owlLogWin, wordOf (s.owl.log.getD (i / 32) []) (i % 32)),
  (F.mbxPweLevel, s.pwe.length),
  (F.mbxHtxLevel, s.htx.length),
  (F.evtStatusOpen, s.evOpen.length),
  (F.evtStatusLevel, s.evFifo.length),
  (F.evtChstatInWindow, min 255 (s.inWindow (i / 64) (i % 64)))]
/-- The word of a message buffer or an auxiliary record that the window of controller `n` shows; zero in a word of
Common RAM that is marked uncorrectable (R369, R559). -/
def State.canWinWord (s : State) (n b o : Nat) : Nat :=
  let a := if o % 4096 < 0x350 then s.canBuf n b + (o % 4096 - 0x304) else s.canAuxAt n b + (o % 4096 - 0x350)
  if s.marked 1 (a / 65536) (a % 65536 / 8) then 0 else leBytes (s.cramBytes a 4)
/-- What a read returns for instance `i` of a field. -/
def State.fieldRd (s : State) (f : Field) (i : Nat) : Nat :=
  if f.acc = .wo then 0
  else
    let l := if f.off < 0x2C00 ∨ (0x4000 ≤ f.off ∧ f.off < 0xC000) ∨ (0x1C000 ≤ f.off ∧ f.off < 0x20000) then s.shownTime i
      else if 0x40000 ≤ f.off then s.shownFox i
      else if 0x20000 ≤ f.off ∧ f.off < 0x24000 then s.shownShr i
      else s.shownRest i
    match l.find? (fun p => p.1.id == f.id) with
    | some p => p.2 % 2 ^ f.w
    | none => s.shown f i
/-- The word of a register, but for pops and windows. -/
def State.regWord (s : State) (r : Row) (i : Nat) : Nat := r.fields.foldl (fun w f => w + s.fieldRd f i * 2 ^ f.lo) 0

/-- A delivered read of DEN_TRNG: a random word with TRNG_HOST = 1 (R555). -/
def State.trngPop (s : State) : State :=
  if s.on F.denCfgTrngHost && s.get F.denStatusTrngFail == 0 then
    { s with rdata := [(Config.trng s.trngN).toNat], trngN := s.trngN + 1 }
  else { s with rdata := [0] }
/-- A delivered read of a register by its row: its word, and its side effect (R14, R484, R485). -/
def State.takeReg (s : State) (h c : Nat) (r : Row) (i j x : Nat) : State :=
  match r.off with
  | 0x02104 => s.captPop i
  | 0x10200 => s.l1208Read i false
  | 0x10204 => s.l1208Read i true
  | 0x18200 => s.l1208Read (8 + i) false
  | 0x18204 => s.l1208Read (8 + i) true
  | 0x1C304 =>
    let a := s.canBuf i (x % 256) + 4 * j
    State.canTouch { s with rdata := [s.canWinWord i (x % 256) (0x304 + 4 * j)] } h a 4
  | 0x1C350 => { s with rdata := [s.canWinWord i (x % 256) (0x350 + 4 * j)] }
  | 0x20014 => s.shrRxf i
  | 0x20084 => s.pmData c i none
  | 0x2C200 => s.pwePop
  | 0x2C314 => s.htxcPop
  | 0x30110 => s.trngPop
  | 0x34120 => s.uePop
  | 0x34130 => s.refusePop
  | 0x38040 => s.evtPop
  | _ => (r.fields.filter (fun f => f.acc == .rc)).foldl (fun t f => t.taken f x) { s with rdata := [s.regWord r x] }
/-- A delivered read of a BAR0 offset by a requester (R8, R35, R88, R627). -/
def State.busRead (s : State) (q : Req) (o : Nat) : State :=
  let o := o / 4 * 4
  if !s.domOn (busDom o) then { s with rdata := [0] }
  else if s.msixAt o then { s with rdata := [s.msixWord ((o - 0x2D000) / 4)] }
  else if s.pcie && o == 0x2D800 then { s with rdata := [s.pbaWord] }
  else
    match findReg o with
    | none => { s with rdata := [0] }
    | some (r, i, j) =>
      match s.regInst q.copy r i j with
      | none => { s with rdata := [0] }
      | some x => s.takeReg (holderOf q) q.copy r i j x
/-- The word of the last read. -/
def State.word0 (s : State) : Nat := s.rdata.headD 0
/-- A peek (R486): the value a read would return. -/
def State.peek (s : State) (q : Req) (o : Nat) : Nat := (s.busRead q o).word0

/-! ## What a write does (R11, R16, R21, R35, R88, R622, R627) -/

/-- One field under its access code. Hardware sets the W1C bits `keep` on the edge of the write: they remain set (R13). -/
def State.fieldWr (s : State) (f : Field) (i v : Nat) (keep : Nat := 0) : State :=
  match f.acc with
  | .rw => s.put f i (bitsAt v f.lo f.w)
  | .w1c => s.put f i (andnN (s.get f i) (Nat.land (s.get f i) (bitsAt (andnN v keep) f.lo f.w)))
  | _ => s
/-- The fields of a register. -/
def State.regWr (s : State) (r : Row) (i v : Nat) (keep : Nat := 0) : State := r.fields.foldl (fun t f => t.fieldWr f i v keep) s
/-- A write of 1 to CANCEL of IMG_CSNAP_CTRL. -/
def execCsnapCancel (s : State) : Out := .next (s.hostWr (s.domOn .core) 0x0A200 (·.snapWithdraw 5))
/-- A write of IMG_CSNAP_CTRL: CANCEL, RELEASE, then GO. -/
def State.csnapCtrl (s : State) (v : Nat) : State :=
  let s := if hasBit v 29 then s.snapWithdraw 5 else s
  let s := if hasBit v 30 then s.snapRelease else s
  if hasBit v 31 then s.snapGo (hasBit v 1) (hasBit v 0)
  else (s.put F.imgCsnapCtrlWhen 0 (bitAt v 1)).put F.imgCsnapCtrlClear 0 (bitAt v 0)
/-- A write of OWL_AUTH_CTRL. -/
def State.authCtrl (s : State) (v : Nat) : State :=
  let s := if hasBit v F.owlAuthCtrlReq.lo then s.authReq else s
  if hasBit v F.owlAuthCtrlGo.lo then s.authGo else s
/-- A write of a register of TIME to RING that does more than hold a value; none for the others. -/
def State.trigWr1 (s : State) (r : Row) (i v : Nat) : Option State :=
  match r.off with
  | 0x02000 => some (if hasBit v 0 then (s.regWr r i v).latch else s.regWr r i v)
  | 0x02018 => some (s.timeRate v)
  | 0x0201C => some (s.timeSet v)
  | 0x02020 => some (s.steer (·.regWr r i v))
  | 0x02024 => some (s.steer (·.regWr r i v))
  | 0x02028 => some (s.timeStep v)
  | 0x0202C => some (s.timeSlew v)
  | 0x02414 => some (s.softSet i v)
  | 0x02800 => some (s.runSet (hasBit v 0))
  | 0x04408 => some (if i < 14 then s.regWr r i v else s)
  | 0x0A004 => some (if hasBit v 0 then s.askCommit else s)
  | 0x0A020 => some (s.leaseOpen v)
  | 0x0A024 => some (if hasBit v 0 then s.leaseClose else s)
  | 0x0A104 => some (s.applyCtrl v)
  | 0x0A200 => some (s.csnapCtrl v)
  | 0x0C018 => some (if hasBit v 0 then s.ringResync else s)
  | 0x0C01C => some (s.fnRate v)
  | 0x10020 => some (if hasBit v 0 then s.restartAn i else s)
  | _ => none
/-- The same for CAN and SHR. -/
def State.trigWr2 (s : State) (c : Nat) (r : Row) (i j x v : Nat) : Option State :=
  match r.off with
  | 0x1C220 => some (s.canCancel i (v % 256))
  | 0x1C304 => some ((s.putCram (s.canBuf i (x % 256) + 4 * j) (toLe v 4)).canWrote (s.canBuf i (x % 256) + 4 * j) 4)
  | 0x20010 => some (s.shrTxf i (v % 2 ^ 24))
  | 0x20034 => some (s.irqSet i (v % 256))
  | 0x2003C => some (s.shrFlush i (hasBit v 0) (hasBit v 1))
  | 0x20084 => some (s.pmData c i (some (v % 65536)))
  | 0x22000 => some (s.eachShr v State.shStart)
  | 0x22004 => some (s.eachShr v State.shDivide)
  | 0x22008 => some (s.eachShr v State.shStop)
  | 0x2200C => some (s.eachShr v State.shSwapReq)
  | 0x22010 => some (s.eachShr v State.shFswap)
  | 0x22018 => some (s.flagsSet v)
  | 0x2201C => some (s.flagsClr v)
  | _ => none
/-- The same for GW to EVT. -/
def State.trigWr3 (s : State) (r : Row) (i x v : Nat) : Option State :=
  match r.off with
  | 0x24040 => some (s.cntAdd (bitsAt v F.gwCntAddSel.lo 4) (v % 2 ^ 24))
  | 0x24090 => some (s.gwRack (v % 256) (hasBit v F.gwRackInt.lo))
  | 0x24108 => some (s.hwqPush (v % 65536))
  | 0x28010 => some (if hasBit v F.owlCtrlForceLock.lo then s.lockout 9 else s)
  | 0x28030 => some (s.demandSet v)
  | 0x28070 => some (s.twAck (v % 65536))
  | 0x28248 => some (if hasBit v 0 then s.connAck x else s)
  | 0x28340 => some (s.authCtrl v)
  | 0x28350 => some { s with live := SMap.set 0 s.live (F.owlToken.key i) v }
  | 0x2C010 => some (s.d2hPend v)
  | 0x2C014 => some (s.d2hMask v)
  | 0x2C020 => some (s.h2dSet v)
  | 0x2C028 => some (s.h2dMask v)
  | 0x2C108 => some (s.mbxPost i v)
  | 0x2C30C => some (s.htxPush v)
  | 0x34000 => some (s.bankWrite i v)
  | 0x38004 => some (if hasBit v 0 then s.flushEvents else s)
  | _ => none
/-- What a write does beside the fields: an entry of the calendar is written (R80); an S field of Owl is (R475). -/
def State.wroteReg (s : State) (r : Row) (x : Nat) : State :=
  if r.sel == .cal && r.fields.any (·.staged) then s.setCal x { s.calE x with written := true }
  else if decide (0x28000 ≤ r.off) && decide (r.off < 0x2C000) && r.fields.any (·.staged) then s.authWritten
  else s
/-- A write of a register. -/
def State.writeReg (s : State) (c : Nat) (r : Row) (i j x v : Nat) (keep : Nat := 0) : State :=
  match s.trigWr1 r i v with
  | some t => t
  | none => match s.trigWr2 c r i j x v with
    | some t => t
    | none => match s.trigWr3 r i x (if r.off = 0x2C010 then andnN v keep else v) with
      | some t => t
      | none => (s.regWr r x v keep).wroteReg r x
/-- A write to the registers of a physical engine that carries none: by the host or the supervisor it is logged (R88). -/
def State.noEngine (s : State) (q : Req) (o : Nat) : State := match q with | .le _ => s | _ => s.logPwe 8 o 0 4
/-- A host write to the window of an engine in its freeze is held (R130). -/
def State.holdWr (s : State) (le o v keep : Nat) : State :=
  s.setEng le { s.eng le with heldWr := (s.eng le).heldWr ++ [(o, v, keep)] }
/-- A 32-bit write of a BAR0 offset by a requester. A write to a domain that is off, by the host or an engine, is logged
(R35), and so is a write by the host or the supervisor to the registers of a physical engine that carries none (R88).
Hardware sets the W1C bits `keep` on the same edge (R13). -/
def State.busWrite (s : State) (q : Req) (o v : Nat) (keep : Nat := 0) : State :=
  let o := o / 4 * 4
  let v := v % 2 ^ 32
  if !s.domOn (busDom o) then (if q = .sup then s else s.logPwe 1 o 0 4)
  else if s.msixAt o then s.msixWr ((o - 0x2D000) / 4) v
  else
    match findReg o with
    | none => s
    | some (r, i, j) =>
      match s.regInst q.copy r i j with
      | none => s.noEngine q o
      | some x => if q = .host && (r.sel == .foxEng || r.sel == .foxThr || r.sel == .foxPhys) && (s.leOf i).any s.freezing then
          s.holdWr ((s.leOf i).getD 0) o v keep
        else if r.sel = .foxPhys ∧ s.leOf i = none then s.noEngine q o else s.writeReg q.copy r i j x v keep

/-- Whether the requester reaches BAR0 at all: not in OFF; the host through its selected interface while that is on
(R480, R505). -/
def State.busUp (s : State) (q : Req) : Bool := !s.off && (q != .host || (s.domOn .host && s.get F.mbxHostifSel != 3))
/-- Whether an offset lies in a range that Table 21-1 reserves: nothing written there is logged (R627). -/
def busReserved (o : Nat) : Bool :=
  (decide (0x3000 ≤ o) && decide (o < 0x4000)) || (decide (0x6000 ≤ o) && decide (o < 0x8000)) ||
  (decide (0x3C000 ≤ o) && decide (o < 0x40000)) || decide (0x64000 ≤ o)
/-- A write of a register by the host that does not cover its word: discarded and logged (R489, R491, R620), but not in a
reserved range (R627). -/
def State.logPartial (s : State) (o n : Nat) : State := if busReserved o then s else s.logPwe 5 o 0 n
/-- A write of a BAR0 register; a host write with fewer than four byte enables is discarded and logged (R620). -/
def execRegisterWrite (q : Req) (o : BitVec 20) (v : WriteIn) (be : BitVec 4) (s : State) : Out :=
  .next (if !s.busUp q then s
    else if q = .host ∧ be ≠ 15 then s.logPartial (o.toNat / 4 * 4) (popCount be.toNat 4)
    else s.busWrite q o.toNat v.v.toNat v.keep.toNat)
/-- An LBUS read of a halfword of BAR0 (R489): the low one fetches and delivers the register and fills the hold; the high one
returns the hold when the access before it was that read, else bits [31:16] of a peek, and has no side effect. -/
def State.lbusRead (s : State) (o : Nat) : State :=
  let r := o / 4 * 4
  if o % 4 < 2 then
    let t := s.busRead .host r
    { t with lbusHold := t.word0, lbusLast := some r }
  else
    { s with lbusLast := none, rdata := [(if s.lbusLast = some r then s.lbusHold else s.peek .host r) / 65536] }
/-- A delivered read (R484). -/
def execReadDelivered (q : Req) (o : BitVec 20) (s : State) : Out :=
  .next (if !s.busUp q then s
    else if q = .host ∧ s.get F.mbxHostifSel = 1 then s.lbusRead o.toNat
    else s.busRead q o.toNat)
/-- A delivered read of DEN_TRNG by the host. -/
def execDenTrng (s : State) : Out := .next (if s.off then s else s.busRead .host 0x30110)

/-! ## LBUS (R481, R489) -/

/-- The BAR2 address of a local memory address (R481). -/
def State.lwin (s : State) (a : Nat) : Nat := s.get F.mbxLwinBase * 0x100000 + (a - 0x100000)
/-- An LBUS halfword write at a local address: in BAR0 the low half is held, and the high half of the same register
completes the 32-bit write; every other order discards both halves and logs PARTIAL_WRITE (R489). -/
def State.lbusWrite (s : State) (a : Nat) (be v : Nat) : State :=
  let s := { s with lbusLast := none }
  if 0x100000 ≤ a then
    let s := match s.lbusLow with
      | some (o, _) => State.logPartial { s with lbusLow := none } o 2
      | none => s
    let s := if hasBit be 0 then s.hostWrite (s.lwin a) [BitVec.ofNat 8 v] else s
    if hasBit be 1 then s.hostWrite (s.lwin a + 1) [BitVec.ofNat 8 (v / 256)] else s
  else
    let o := a / 4 * 4
    match s.lbusLow with
    | none =>
      if a % 4 < 2 ∧ be = 3 then { s with lbusLow := some (o, v) } else s.logPartial o (popCount be 2)
    | some (o', w) =>
      let s := { s with lbusLow := none }
      if a % 4 < 2 ∨ o' ≠ o ∨ be ≠ 3 then s.logPartial o' 2 else s.busWrite .host o (v * 65536 + w)
/-- Both bytes of a halfword of the memory window go in one write. -/
def State.lbusWord (s : State) (a be v : Nat) : State :=
  if 0x100000 ≤ a ∧ be = 3 then
    let s := match s.lbusLow with
      | some (o, _) => State.logPartial { s with lbusLow := none } o 2
      | none => s
    State.hostWrite { s with lbusLast := none } (s.lwin a) (toLe v 2)
  else s.lbusWrite a be v
/-- LBUS_A[20:1], byte enables (1 = enabled) and data. -/
def execLbusHalfwordWrite (a : BitVec 20) (be : BitVec 2) (v : BitVec 16) (s : State) : Out :=
  .next (if s.off || !s.domOn .host || s.get F.mbxHostifSel != 1 then s
    else s.lbusWord (2 * a.toNat) be.toNat v.toNat)

/-! ## QSPI (R490, R491) -/

/-- Whether QSPI commands are taken. -/
def State.qspiOn (s : State) : Bool := !s.off && s.domOn .host && s.get F.mbxHostifSel == 2
/-- A burst read of `n` bytes from a local address: in BAR0 a register is delivered with its last byte; bytes of a
register that the burst leaves incomplete are those of a peek. The bytes read so far stand in `acc`. -/
def State.qspiRegs (s : State) (o n : Nat) (acc : List Nat) : Nat → State × List Nat
  | 0 => (s, acc)
  | k + 1 =>
    if n = 0 then (s, acc)
    else
      let l := (toLe (s.peek .host o) 4).map (·.toNat)
      if n < 4 then (s, acc ++ l.take n) else (s.busRead .host o).qspiRegs (o + 4) (n - 4) (acc ++ l) k
/-- A read of local space: BAR0 up to 0xFFFFF, then the window into BAR2, then nothing. -/
def State.qspiRead (s : State) (a n : Nat) : State :=
  let regs := if a < 0x100000 then min n (0x100000 - a / 4 * 4) else 0
  let (s, l) := s.qspiRegs (a / 4 * 4) regs [] (regs / 4 + 1)
  let b := if a < 0x100000 then 0x100000 else a
  let m := min (n - regs) (0x200000 - b)
  let s := if m = 0 then s else s.bar2Read (s.lwin b) m
  let mem := if m = 0 then [] else s.rdata
  { s with rdata := l ++ mem ++ List.replicate (n - regs - m) 0 }
/-- READ: `wait` wait bytes, the sync byte, `n` bytes of data. -/
def execQspiRead (a : W24) (wait n : Nat) (s : State) : Out :=
  .next (if !s.qspiOn then s
    else
      let t := s.qspiRead a.toNat n
      { t with rdata := List.replicate wait 0 ++ 0xA5 :: t.rdata })
/-- Writes to BAR0 of four bytes each, low byte first; a shorter rest is discarded and logged. -/
def State.qspiWords (s : State) (o : Nat) (l : List Byte) : Nat → State
  | 0 => s
  | k + 1 =>
    if l.isEmpty then s
    else if l.length < 4 then s.logPartial o l.length
    else (s.busWrite .host o (leBytes (l.take 4))).qspiWords (o + 4) (l.drop 4) k
/-- WRITE: registers in BAR0, bytes in the memory window. -/
def State.qspiWrite (s : State) (a : Nat) (l : List Byte) : State :=
  let n := if a < 0x100000 then min l.length (0x100000 - a / 4 * 4) else 0
  let s := s.qspiWords (a / 4 * 4) (l.take n) (n / 4 + 1)
  let b := if a < 0x100000 then 0x100000 else a
  s.hostWrite (s.lwin b) ((l.drop n).take (0x200000 - b))
def execQspiWrite (a : W24) (bytes : List Byte) (s : State) : Out :=
  .next (if s.qspiOn then s.qspiWrite a.toNat bytes else s)
/-- STATUS: HOST_IRQ_N asserted; no BAR0 write is ever pending here, since writes take effect at once. -/
def execQspiStatus (s : State) : Out := .next (if s.qspiOn then { s with rdata := [s.irqLevel.toNat] } else s)

end Sys2Proof.Machine
end

