-- ==== Sys2Proof/Machine/FoxGlobal.lean ====
section
/-!
DEFINITION. The completion of a Fox thread's global access (R96, R100, R153, R558, R559, R563, R655, R659).
Assumption log: 23.
-/
namespace Sys2Proof.Machine

/-- Byte `b` of a flow context as GLD reads it (R655): active values below 0x40, status and counters below 0x60, then the
context's own bytes. -/
def State.ctxByte (s : State) (x b : Nat) : Byte :=
  if 0x60 ≤ b then s.flowByte x b
  else
    match findReg (0x8040 + b / 4 * 4) with
    | some (r, _, _) =>
      let w := r.fields.foldl (fun w f => w + (if f.staged then s.act f x else s.fieldRd f x) * 2 ^ f.lo) 0
      BitVec.ofNat 8 (w / 2 ^ (8 * (b % 4)))
    | none => 0
/-- A byte of the global space outside Common RAM and the BAR0 mirror. -/
def State.gaByte (s : State) (a : Nat) : Byte :=
  if a < 0x200000 then SMap.get 0 s.cram a
  else if a < 0x300000 then SMap.get 0 s.imgCur (a - 0x200000)
  else if a < 0x400000 then s.backByte (a - 0x300000)
  else s.ctxByte ((a - 0x400000) / 256) (a % 256)
/-- Target, unit and word of the memory word at a global address; the slot set that holds an image block is given. -/
def gaWord (slot a : Nat) : Nat × Nat × Nat :=
  if a < 0x200000 then (1, a / 65536, a % 65536 / 8)
  else if a < 0x400000 then (2, slot * 16 + a % 0x100000 / 65536, a % 65536 / 8)
  else (3, (a - 0x400000) / 32768, a % 32768 / 8)
/-- Whether a word in which the access falls is marked poisoned or uncorrectable. -/
def State.gaMarked (s : State) (a n : Nat) : Bool :=
  (List.range n).any (fun j =>
    let b := a + j
    if b < 0x200000 then s.marked 1 (b / 65536) (b % 65536 / 8)
    else if b < 0x300000 then s.imgMarked 1 ((b - 0x200000) / 8)
    else if b < 0x400000 then s.imgMarked (if SMap.get false s.backBlk ((b - 0x300000) / 64) then 0 else 1) ((b - 0x300000) / 8)
    else s.marked 3 ((b - 0x400000) / 32768) (b % 32768 / 8))
/-- The ECC finding of an access at its first word. -/
def State.gaEcc (s : State) (ecc : Ecc) (slot a : Nat) : State :=
  let w := gaWord slot a
  match ecc with
  | .ok => s
  | .corrected => s.memCe w.1 w.2.1
  | .uncorrectable => s.memUe w.1 w.2.1 w.2.2 (memChan w.1 w.2.1)
/-- The word of a store whose merge read found an uncorrectable error is poisoned. -/
def State.gaPoison (s : State) (a : Nat) : State :=
  if a < 0x200000 then s.setMark 1 (a / 65536) (a % 65536 / 8) true
  else if a < 0x400000 then s.setImgMark 0 ((a - 0x300000) / 8) true
  else s.setMark 3 ((a - 0x400000) / 32768) (a % 32768 / 8) true
/-- Bytes stored. -/
def State.gaPut (s : State) (a : Nat) (l : List Byte) : State :=
  if a < 0x200000 then (s.putCram a l).canWrote a l.length
  else if a < 0x400000 then s.putBack (a - 0x300000) l
  else s.each (List.range l.length) (fun s j => s.setFlowByte ((a - 0x400000 + j) / 256) ((a + j) % 256) (l.getD j 0))
/-- A load at its target. -/
def State.gaLoad (s : State) (k : Fin 64) (d : Fin 16) (a w : Nat) (ecc : Ecc) (slot : Nat) : State :=
  if inMirror a then
    let t := s.busRead (.le k) (a - 0x800000)
    (t.updTh k (fun u => u.setPair32 d t.word0)).unblock k
  else if s.gaMarked a (widthBytes w) then s.unblockTrap k 4
  else if ecc = .uncorrectable then (s.gaEcc ecc slot a).unblockTrap k 4
  else
    let l := (List.range (widthBytes w)).map (fun j => s.gaByte (a + j))
    let t := (s.gaEcc ecc slot a).updTh k (fun u => u.setWidth w d (widthValue w l))
    ((if a < 0x200000 then t.canTouch (2 + k) a (widthBytes w) else t)).unblock k
/-- A store at its target. -/
def State.gaStore (s : State) (k : Fin 64) (a w v : Nat) (ecc : Ecc) (slot : Nat) : State :=
  if inMirror a then (s.busWrite (.le k) (a - 0x800000) v).unblock k
  else
    let t := (s.gaEcc ecc slot a).gaPut a (widthStore w v)
    (if ecc = .uncorrectable then t.gaPoison a else t).unblock k
/-- An access to Common RAM that its bank cannot serve yet (R563), and one that the bank refuses at acceptance (R659). -/
def State.gaWaits (s : State) (a n : Nat) : Bool :=
  (List.range n).any (fun j => decide (a + j < 0x200000) && s.clearing (a + j))
def State.gaLate (s : State) (k : Nat) (wr : Bool) (a n : Nat) : Bool :=
  (List.range n).any (fun j => decide (a + j < 0x200000) && !s.gaOk k wr (a + j))
/-- A global access of thread `k` is accepted by its target and completes (R100): what ECC met at its first word, and the
slot set in which an image word lies. -/
def execGlobalAccessComplete (k : Fin 64) (ecc : Ecc) (slot : Fin 3) (s : State) : Out :=
  .next (match (s.th k).blk with
    | .gld d a w =>
      if s.gaWaits a (widthBytes w) then s
      else if s.gaLate k false a (widthBytes w) then (s.gaRefuse k false w a).unblock k
      else s.gaLoad k d a w ecc slot
    | .gst a w v =>
      if s.gaWaits a (widthBytes w) then s
      else if s.gaLate k true a (widthBytes w) then (s.gaRefuse k true w a).unblock k
      else s.gaStore k a w v ecc slot
    | _ => s)

end Sys2Proof.Machine
end

