-- ==== Sys2Proof/Machine/Command.lean ====
section
/-!
DEFINITION. The supervisor's commands that act on registers, engines, channels and sessions (15_command_set.md). Mailbox
8 stands for the START section of a profile; `data` is what host memory returned where a command reads it.
Assumption log: 66, 67, 68, 70, 90.
-/
namespace Sys2Proof.Machine

/-- A row that shares its opcode with others takes the blocks whose OP satisfies `p`. -/
def State.cmdOp (s : State) (m op : Nat) (p : Nat → Bool) (run : State → Mbx → State) : State :=
  if p ((s.mb m).p 16 1) then s.cmd m op run else s

/-! ## Session (R514) -/

/-- The device state and the profile slot. -/
def State.devInfo (s : State) : List Byte := toLe (s.get F.pwrStateState) 1 ++ toLe (s.get F.denBootSlot) 1
/-- HELLO: the one version of this ROM. -/
def execHello (m : Fin 9) (s : State) : Out :=
  .next (s.cmd m 0x01 (fun s x =>
    if x.p 16 2 ≤ 0x100 ∧ 0x100 ≤ x.p 18 2 then
      (s.put F.glbStatusSession 0 1).cmdEnd m 1 (some (toLe 0x100 2 ++ toLe 0x103 2 ++ toLe 4096 4 ++ s.devInfo))
    else s.cmdEnd m 0x100 (some [])))
/-- GET_INFO. -/
def execGetInfo (m : Fin 9) (s : State) : Out :=
  .next (s.cmd m 0x02 (fun s _ => s.cmdEnd m 1 (some (toLe Config.nodeId.toNat 6 ++ [0xB1] ++ s.devInfo ++
    toLe (s.get F.denBootCopy) 1 ++ toLe 0x103 2 ++ toLe (s.get F.imgEpoch) 4 ++ toLe ((s.up - s.relAt) / 1000000000) 4))))

/-! ## APPLY, FLOW_OPEN, FLOW_CLOSE, RING_ROLE (R515, R516, R520) -/

/-- The results of an APPLY-type command that ends without an edge. -/
def State.applyFail (s : State) (m code res : Nat) : State := s.cmdEnd m code (some (s.applyRes res 0 false false))
/-- A request of the IMG_APPLY registers for a command: it ends with its result, or waits for its edge. -/
def State.cmdApply (s : State) (m : Nat) (x : Mbx) (scope : Nat) : State :=
  let s := ((s.put F.imgApplyScope 0 scope).put F.imgApplyCtrlWhen 0 (x.p 16 1)).put F.imgApplyCtrlAxis 0 (x.p 17 1)
  let s := ((s.put F.imgApplyPhLo 0 (x.p 24 4)).put F.imgApplyPhHi 0 (x.p 28 2)).applyGo false (some m)
  match s.apply with
  | some r => if r.whn ≠ 0 ∧ x.p 32 4 = 0 then s.applyCancel 0x14 else s
  | none => s.applyFail m (s.get F.imgApplyStatResult) (s.get F.imgApplyStatResult)
/-- WHEN or AXIS outside the registers' fields. -/
def Mbx.applyBad (x : Mbx) : Bool := decide (3 < x.p 16 1) || decide (3 < x.p 17 1)
/-- APPLY. -/
def execApply (m : Fin 9) (s : State) : Out :=
  .next (s.cmd m 0x20 (fun s x =>
    if x.applyBad then s.applyFail m 2 2
    else if s.apply.isSome then s.applyFail m 3 3
    else s.cmdApply m x (x.p 20 4)))

/-- The 13 words of a flow entry: context index, words of window offsets 0x08040-0x08070. -/
structure FlowEntry where
  idx : Nat
  words : List Nat
/-- The entries of FLOW_OPEN and of a FLOWS section. -/
def flowEntries : Nat → List Byte → List FlowEntry
  | 0, _ => []
  | n + 1, l =>
    { idx := leAt l 0 2 + 2 ^ 16 * leAt l 2 2, words := (List.range 13).map (fun j => leAt l (4 + 4 * j) 4) } ::
      flowEntries n (l.drop 56)
/-- The pending values of a context are written. -/
def State.flowWrite (s : State) (e : FlowEntry) : State :=
  if 1024 ≤ e.idx then s
  else s.each (List.range 13) (fun s j =>
    match findReg (0x8040 + 4 * j) with
    | some (r, _, _) => s.regWr r e.idx (e.words.getD j 0)
    | none => s)
/-- OPEN of an entry, the top bit of FLOW_CTRL. -/
def FlowEntry.opens (e : FlowEntry) : Bool := hasBit (e.words.getD 0 0) 31
/-- The 16-bit indexes of FLOW_CLOSE. -/
def flowIdxs (n : Nat) (l : List Byte) : List Nat := (List.range n).map (fun i => leAt l (2 * i) 2)

/-- FLOW_OPEN: an entry with OPEN 0, an index above 1,023 or a context named twice, and nothing is written. -/
def execFlowOpen (m : Fin 9) (s : State) : Out :=
  .next (s.cmd m 0x30 (fun s x =>
    let n := x.p 18 2
    let es := flowEntries (min n 72) (x.bytes 40 4032)
    if n = 0 then s.applyFail m 4 4
    else if x.applyBad || decide (72 < n) || es.any (fun e => !e.opens || decide (1024 ≤ e.idx)) ||
        anyPair (fun a b => a.idx == b.idx) es then s.applyFail m 2 2
    else if s.apply.isSome then s.applyFail m 3 3
    else if x.p 16 1 = 3 then s.applyFail m 2 2
    else (s.each es State.flowWrite).cmdApply m x (setBit (x.p 20 4) 4)))
/-- FLOW_CLOSE: pending OPEN of each context is 0. -/
def execFlowClose (m : Fin 9) (s : State) : Out :=
  .next (s.cmd m 0x31 (fun s x =>
    let n := x.p 18 2
    let is := flowIdxs (min n 1024) (x.bytes 40 2048)
    if n = 0 then s.applyFail m 4 4
    else if x.applyBad || decide (1024 < n) || is.any (fun i => decide (1024 ≤ i)) then s.applyFail m 2 2
    else if s.apply.isSome then s.applyFail m 3 3
    else if x.p 16 1 = 3 then s.applyFail m 2 2
    else (s.each is (fun s i => s.put F.flowCtrlOpen i 0)).cmdApply m x (setBit (x.p 20 4) 4)))

/-- The end of RING_ROLE with RING_STATUS. -/
def State.ringEnd (s : State) (m code : Nat) : State := s.cmdEnd m code (some (toLe s.ringStatusWord 4))
/-- RANK above 15, COLD_EN above 1 or OP above 3. -/
def Mbx.roleBad (x : Mbx) : Bool := decide (3 < x.p 16 1) || decide (15 < x.p 17 1) || decide (1 < x.p 18 1)
/-- Pending values of RING_CFG are written and scope RING is applied with WHEN = 0. -/
def State.ringApply (s : State) (m : Nat) (x : Mbx) (set : State → State) : State :=
  if x.roleBad then s.ringEnd m 2
  else if s.apply.isSome then s.ringEnd m 3
  else (((set s).put F.imgApplyScope 0 64).put F.imgApplyCtrlWhen 0 0).applyGo false (some m)
/-- RING_ROLE SET; it also answers an OP above 3. -/
def execRingRoleSet (m : Fin 9) (s : State) : Out :=
  .next (s.cmdOp m 0x90 (fun o => o == 0 || decide (3 < o)) (fun s x =>
    s.ringApply m x (fun s => (s.put F.ringCfgRank 0 (x.p 17 1)).put F.ringCfgColdEn 0 (x.p 18 1))))
/-- RING_ROLE RESYNC. -/
def execRingRoleResync (m : Fin 9) (s : State) : Out :=
  .next (s.cmdOp m 0x90 (· == 1) (fun s x => if x.roleBad then s.ringEnd m 2 else s.ringResync.ringEnd m 1))
/-- RING_ROLE LEAVE. -/
def execRingRoleLeave (m : Fin 9) (s : State) : Out :=
  .next (s.cmdOp m 0x90 (· == 2) (fun s x => s.ringApply m x (fun s => s.put F.ringCfgEn 0 0)))
/-- RING_ROLE ENTER. -/
def execRingRoleEnter (m : Fin 9) (s : State) : Out :=
  .next (s.cmdOp m 0x90 (· == 3) (fun s x => s.ringApply m x (fun s => s.put F.ringCfgEn 0 1)))

/-! ## Leases and snapshots (R517) -/

/-- LEASE_OPEN. -/
def execLeaseOpen (m : Fin 9) (s : State) : Out :=
  .next (s.cmd m 0x40 (fun s x =>
    if x.p 16 4 = 0 then (s.leaseOpen 0).cmdEnd m 4 (some [])
    else
      let s := s.leaseOpen (min (x.p 16 4) 10000)
      s.cmdEnd m 1 (some (toLe (s.get F.imgLeaseStatEpoch) 4 ++ toLe ((s.leaseNs + 999999) / 1000000) 4))))
/-- LEASE_CLOSE. -/
def execLeaseClose (m : Fin 9) (s : State) : Out :=
  .next (s.cmd m 0x41 (fun s _ =>
    let was := s.get F.imgLeaseStatOpen != 0
    let t := s.leaseClose
    t.cmdEnd m 1 (some (toLe (t.get F.imgLeaseStatEpoch) 4 ++ toLe was.toNat 1 ++ toLe (!was && s.leaseExp).toNat 1))))

/-- COUNTER_SNAPSHOT TAKE; it also answers an OP of 0 or above 3. -/
def execCounterSnapshotTake (m : Fin 9) (s : State) : Out :=
  .next (s.cmdOp m 0x50 (fun o => o != 2 && o != 3) (fun s x =>
    if x.p 16 1 ≠ 1 ∨ 1 < x.p 17 1 ∨ 1 < x.p 18 1 then s.cmdEnd m 2 (some [])
    else
      let busy := s.get F.imgCsnapStatPending != 0 || s.get F.imgCsnapStatHeld != 0
      let s := s.snapGo (x.p 17 1 == 1) (x.p 18 1 == 1)
      if busy then s.cmdEnd m 3 (some [])
      else
        let s := { s with snapMbx := some m.val }
        if x.p 17 1 = 1 ∧ x.p 20 4 = 0 then s.snapWithdraw 0x14 else s))
/-- COUNTER_SNAPSHOT RELEASE. -/
def execCounterSnapshotRelease (m : Fin 9) (s : State) : Out :=
  .next (s.cmdOp m 0x50 (· == 2) (fun s _ => s.snapRelease.cmdEnd m 1 (some [])))
/-- COUNTER_SNAPSHOT CANCEL: the TAKE it withdraws ends first, CANCELLED. -/
def execCounterSnapshotCancel (m : Fin 9) (s : State) : Out :=
  .next (s.cmdOp m 0x50 (· == 3) (fun s _ => (s.snapWithdraw 5).cmdEnd m 1 (some [])))
/-- The snapshot edge, and the end of the TAKE that waits for it. -/
def execSnapshotEdge (s : State) : Out :=
  .next (let t := s.snapEdge
    if t.get F.imgCsnapStatPending = s.get F.imgCsnapStatPending then t
    else match s.snapMbx with
      | some m => State.cmdEnd { t with snapMbx := none } m 1 (some t.snapRes)
      | none => t)

/-! ## Engines (R518) -/

/-- The mask of a TCFG bit over the four threads of an engine. -/
def State.tcfgMask (s : State) (f : Field) (le : Nat) : Nat := maskOf ((List.range 4).filter (fun t => s.get f (4 * le + t) != 0))
/-- The image of ENGINE_LOAD, after its object has been read. -/
def State.engineLoad (s : State) (m le : Nat) (l : List Byte) : State :=
  match s.verify l 1 with
  | (s, 1) =>
    match parseImage (objBody (objOf l)) with
    | none => s.cmdEnd m 2 (some [])
    | some b =>
      if s.imageBad le (objKeysel l) b then s.cmdEnd m 2 (some [])
      else
        let s := (s.loadImage le b (sha384 (objOf l))).tookEffect (objOf l)
        s.cmdEnd m 1 (some (toLe (s.tcfgMask F.foxTTcfgEn le) 1 ++ toLe (s.tcfgMask F.foxTTcfgPriv le) 1))
  | (s, c) => s.cmdEnd m c (some [])
/-- ENGINE_LOAD. -/
def execEngineLoad (m : Fin 9) (data : Option (List Byte)) (s : State) : Out :=
  .next (s.cmd m 0x60 (fun s x =>
    let le := x.p 16 1
    if 15 < le ∨ 1 < x.p 17 1 then s.cmdEnd m 2 (some [])
    else if x.p 20 4 = 0 then s.cmdEnd m 4 (some [])
    else if !s.carried le then s.cmdEnd m 0x13 (some [])
    else if 2 ≤ s.get F.foxStatusState le then s.cmdEnd m 3 (some [])
    else match s.fetch (x.p 17 1) (x.p 24 8) (x.p 20 4) data with
      | none => s.cmdEnd m 0x10 (some [])
      | some l => s.engineLoad m le l))
/-- ENGINE_START: all engines of the mask together, or none. -/
def execEngineStart (m : Fin 9) (s : State) : Out :=
  .next (s.cmd m 0x61 (fun s x =>
    let l := bitsOf (x.p 16 2) 16
    if l.isEmpty then s.cmdEnd m 4 (some [])
    else if l.any (fun e => s.get F.foxStatusState e == 0 || !s.carried e) then s.cmdEnd m 0x13 (some [])
    else if l.any (fun e => decide (2 ≤ s.get F.foxStatusState e)) then s.cmdEnd m 3 (some [])
    else (s.each l State.engStart).cmdEnd m 1 (some (toLe (x.p 16 2) 2))))
/-- An engine that runs, is stopping, or did so when its migration began. -/
def State.active (s : State) (e : Nat) : Bool :=
  s.get F.foxStatusState e == 2 || s.get F.foxStatusState e == 3 ||
  (s.get F.foxStatusState e == 4 && ((s.eng e).was == 2 || (s.eng e).was == 3))
/-- Whether a logical engine migrates. -/
def State.migrating (s : State) (e : Nat) : Bool := s.get F.foxStatusState e == 4
/-- ENGINE_STOP: it ends when every engine it acts on is LOADED; BUSY when one of its mask migrates (R129). -/
def execEngineStop (m : Fin 9) (s : State) : Out :=
  .next (s.cmd m 0x62 (fun s x =>
    let l := (bitsOf (x.p 16 2) 16).filter s.active
    if x.p 16 2 = 0 then s.cmdEnd m 4 (some [])
    else if (bitsOf (x.p 16 2) 16).any s.migrating then s.cmdEnd m 3 (some [])
    else if l.isEmpty then s.cmdEnd m 1 (some [])
    else (s.setMb m { s.mb m with acc := maskOf l }).each l State.stopping))

/-! ## SYNC, CAN (R501, R521, R522) -/

/-- Whether every host write accepted before the notice has taken effect or has been logged (R501). -/
def State.synced (s : State) (seq : Nat) : Bool :=
  s.waitWr.isEmpty && s.hwq.all (fun r => decide (32768 ≤ (seq + 65536 - r.seq) % 65536))
/-- SYNC ends: the difference is counted from the previous SYNC. -/
def State.syncEnd (s : State) (m code : Nat) : State :=
  let t := s.get F.mbxPweTotal
  let d := (t + 2 ^ 32 - s.syncTotal) % 2 ^ 32
  State.cmdEnd { s with syncTotal := t } m (if code = 1 ∧ d ≠ 0 then 0x16 else code) (some (toLe t 4 ++ toLe d 4))
/-- SYNC: while it waits, the row looks again. -/
def execSync (m : Fin 9) (s : State) : Out :=
  .next (let x := s.mb m
    if x.phase = .waiting ∧ x.op = 0x80 then (if s.synced x.noteSeq then s.syncEnd m 1 else s)
    else s.cmd m 0x80 (fun s x =>
      if s.synced x.noteSeq then s.syncEnd m 1 else if x.p 16 4 = 0 then s.syncEnd m 0x14 else s))
/-- CAN_RECOVER. -/
def execCanRecover (m : Fin 9) (s : State) : Out :=
  .next (s.cmd m 0xA0 (fun s x =>
    let n := x.p 16 1
    if 3 < n ∨ 1 < x.p 17 1 then s.cmdEnd m 2 (some [])
    else (s.canRecover n (x.p 17 1 == 1)).cmdEnd m 1 (some (toLe (s.get F.canStatusEstate n) 1))))

/-! ## RETIRE, RETIRE_CLEAR (R519, R575, R578) -/

/-- The channels of a KIND. -/
def chanCount (kind : Nat) : Nat :=
  match kind with
  | 0 => 14 | 1 => 18 | 2 => 34 | 3 => 32 | 4 => 4 | 5 => 32 | _ => 0
/-- RETIRE: the retirement is decided with cause COMMAND; the command ends with it; BUSY for an engine whose logical engine
migrates (R129). -/
def execRetire (m : Fin 9) (s : State) : Out :=
  .next (s.cmd m 0x70 (fun s x =>
    let kind := x.p 16 1
    let n := x.p 17 1
    let k := kind * 64 + n
    if chanCount kind ≤ n ∨ 1 < x.p 18 1 then s.cmdEnd m 2 (some [])
    else if s.retired kind n then s.cmdEnd m 1 (some [1])
    else if (s.chan k).retire.isSome then s
    else if kind = 1 ∧ (match s.leOf n with | some e => s.migrating e | none => false) = true then s.cmdEnd m 3 (some [])
    else if kind = 1 ∧ (s.leOf n).isSome ∧ (s.spareFor n).isNone ∧ x.p 18 1 = 0 then s.cmdEnd m 0x106 (some [])
    else
      let s := (s.addHealth 1 kind n 5 (s.chan k).times.length).setChan k { s.chan k with retire := some 5 }
      s.put F.evtChstatCause k 5))

/-- The last record of a list that satisfies `p` is dropped. -/
def dropLast (p : Health → Bool) (l : List Health) : List Health := (l.reverse.eraseP p).reverse
/-- A retirement by RETIRE that has not been carried out has no effect (R511): a migration for it is abandoned with its spare
free, and its record is withdrawn, or a CLEAR record follows it when the record has been written. -/
def State.retireWithdraw (s : State) (kind n : Nat) : State :=
  let k := kind * 64 + n
  if (s.chan k).retire ≠ some 5 then s
  else
    let mine (h : Health) : Bool := h.kind == 1 && h.chKind == kind && h.number == n && h.cause == 5
    let s := (s.setChan k { s.chan k with retire := none }).put F.evtChstatCause k 0
    let s := if s.health.any mine then { s with health := dropLast mine s.health } else s.addHealth 2 kind n 0 0
    match (if kind = 1 then s.leOf n else none) with
    | none => s
    | some le =>
      match (s.eng le).mig, (s.eng le).migRetire with
      | some x, true => (s.unmigrate le).put F.foxSpares 0 (setBit (s.get F.foxSpares) x)
      | _, _ => s
/-- A port or a ring lane returns to service: the port negotiates, the lane trains. -/
def State.clearPort (s : State) (n : Nat) : State :=
  if n < 8 then s.restartAn n
  else if n < 12 then s
  else
    let s := if s.on F.ringCfgEn && s.domOn .ring && s.rst == 0 && !s.iso then s.setRst 1 else s
    if s.ringOn && !s.laneLive (n - 12) then s.updLane (n - 12) (fun l => { l with training := true }) else s
/-- A CAN controller returns to service: its active MODE, no bus-off. -/
def State.clearCan (s old : State) (n : Nat) : State :=
  let s := s.canApplied old n
  ((s.put F.canStatusEstate n 0).put F.canErrcTec n 0).put F.canErrcRec n 0
/-- A channel returns to service. -/
def State.clearAct (s old : State) (kind n : Nat) : State :=
  match kind with
  | 0 => s.clearPort n
  | 1 =>
    let s := { s with poison := SMap.keep (fun k => k / 65536 != 256 + n) s.poison }
    (s.put F.foxRetired 0 (clrBit (s.get F.foxRetired) n)).put F.foxSpares 0 (setBit (s.get F.foxSpares) n)
  | 2 => State.settShow { s with poison := SMap.keep (fun k => k / 65536 != n) s.poison }
  | 3 => (s.zeroBank n).put F.memBankOwnOwner n 16
  | 4 => s.clearCan old n
  | _ => s.updShr n (fun r => { r with st := .stopped })
/-- RETIRE_CLEAR of a retired channel: a CLEAR record, its window restarts empty (R578, R579). -/
def State.retireClear (s : State) (kind n : Nat) : State :=
  let t := ((s.setRetired kind n false).setChan (kind * 64 + n) {}).addHealth 2 kind n 0 0
  (t.clearAct s kind n).raise 0x5B (kind * 256 + n)
/-- RETIRE_CLEAR. -/
def execRetireClear (m : Fin 9) (s : State) : Out :=
  .next (s.cmd m 0x71 (fun s x =>
    let kind := x.p 16 1
    let n := x.p 17 1
    if chanCount kind ≤ n ∨ 1 < x.p 18 1 then s.cmdEnd m 2 (some [])
    else if !s.retired kind n then s.cmdEnd m 0x107 (some [])
    else (s.retireClear kind n).cmdEnd m 1 (some [])))

end Sys2Proof.Machine
end

