-- ==== Sys2Proof/Machine/Profile.lean ====
section
/-!
DEFINITION. Profiles at run time (16_profiles_boot_security.md, R276, R518, R523-R526): the stop of engines, the APPLY
edge, selecting, storing and switching profiles, and the commands of Den, the march test and the device states.
Assumption log: 4, 12, 38, 41, 65, 69, 70, 72, 73, 74.
-/
namespace Sys2Proof.Machine

/-! ## Loading the sections of a bundle (Table 16-4) -/

/-- An ENGINE section is loaded; a body that the engine refuses leaves it EMPTY. -/
def State.loadEngine (s : State) (keysel : Nat) (x : Section) : State :=
  match parseImage x.data with
  | some b => if !s.carried x.arg || s.imageBad x.arg keysel b then s.emptyEngine x.arg else s.loadImage x.arg b (sha384 x.data)
  | none => s.emptyEngine x.arg
/-- The pairs of a REGS section, written in order as host writes. -/
def State.loadRegs (s : State) : Nat → List Byte → State
  | 0, _ => s
  | n + 1, l => if l.length < 8 then s else (s.busWrite .host (leAt l 0 4) (leAt l 4 4)).loadRegs n (l.drop 8)
/-- One section, but for START. -/
def State.loadSec (s : State) (keysel : Nat) (x : Section) : State :=
  match x.ty with
  | 1 => s.loadEngine keysel x
  | 4 => if s.retired 3 x.arg then s else s.putCram (x.arg * 65536) x.data
  | 2 => s.loadRegs x.data.length x.data
  | 3 => s.each (flowEntries (x.data.length / 56) x.data) State.flowWrite
  | _ => s
/-- The sections of a bundle in the order in which they are loaded. -/
def bundleSecs (obj : List Byte) : List Section :=
  let l := (parseBundle obj).getD []
  secs l 1 ++ secs l 4 ++ secs l 2 ++ secs l 3
/-- The command blocks of its START sections. -/
def bundleStart (obj : List Byte) : List (List Byte) :=
  (secs ((parseBundle obj).getD []) 5).flatMap (fun x => startBlocks x.data.length x.data)
/-- The hash of the ENGINE section of a logical engine, empty for none. -/
def bundleHash (obj : List Byte) (le : Nat) : List Byte :=
  match (secs ((parseBundle obj).getD []) 1).find? (fun x => x.arg == le) with
  | some x => sha384 x.data
  | none => []
/-- The image hash of a logical engine, empty for an EMPTY engine (R553). -/
def State.leHash (s : State) (le : Nat) : List Byte := SMap.get [] s.imgHash le

/-! ## Copies in flash (R533-R536) -/

/-- A profile copy. -/
def State.slotCopy (s : State) (slot c : Nat) : List Byte := SMap.get [] s.prof (2 * slot + c)
/-- A copy is read and verified, with the counter of failures: 0 passes, else a code of DEN_BOOT.CAUSE. -/
def State.tryCopy (s : State) (slot c : Nat) (rd : BootRd) : State × Nat :=
  if rd = .fail then (s, 4)
  else if !s.denOk then (s, 1)
  else match s.bundleFault (s.slotCopy slot c) with
    | 0 => (s, 0)
    | 2 => (s, 2)
    | f => (s.inc F.denSigFail, f)
/-- Whether a slot holds an object in either copy. -/
def State.slotFull (s : State) (slot : Nat) : Bool := objFormat (s.slotCopy slot 0) 2 || objFormat (s.slotCopy slot 1) 2
/-- PROFILE_LOCK forces another slot (R535). -/
def State.slotLocked (s : State) (slot : Nat) : Bool :=
  s.get F.denOtpProfileLockEn != 0 && slot != s.get F.denOtpProfileLockSlot

/-- A selection record (R534). -/
def selBytes (seq slot : Nat) : List Byte :=
  let l : List Byte := [0x4C, 0x56, 0x58, 0x53] ++ toLe seq 4 ++ toLe slot 1 ++ [0, 0, 0]
  l ++ toLe (crc32 l) 4
/-- A copy of the selection record: its SEQ and SLOT when it is valid. -/
def State.selCopy (s : State) (c : Nat) : Option (Nat × Nat) :=
  let l := SMap.get [] s.selRec c
  if l == selBytes (leAt l 4 4) (leAt l 8 1) then some (leAt l 4 4, leAt l 8 1) else none
/-- The record that counts, and the copy that PROFILE_SELECT writes. -/
def State.selPick (s : State) : Option (Nat × Nat) × Nat :=
  match s.selCopy 0, s.selCopy 1 with
  | none, none => (none, 0)
  | some a, none => (some a, 1)
  | none, some b => (some b, 0)
  | some a, some b => if a.1 < b.1 then (some b, 0) else (some a, 1)
/-- PROFILE_SELECT (R534, R535); `ok` whether the read-back agrees within 3 attempts. -/
def execProfileSelect (m : Fin 9) (ok : Bool) (s : State) : Out :=
  .next (s.cmd m 0x10 (fun s x =>
    let slot := x.p 16 1
    let (cur, c) := s.selPick
    let seq := match cur with | some r => r.1 + 1 | none => 1
    if s.slotLocked slot then s.cmdEnd m 0x102 (some [])
    else if 7 < slot ∧ slot ≠ 0xFF then s.cmdEnd m 2 (some [])
    else if slot ≠ 0xFF ∧ !s.slotFull slot then s.cmdEnd m 0x10D (some [])
    else if s.pfail then s.cmdEnd m 0x108 (some [])
    else if ok then State.cmdEnd { s with selRec := SMap.set [] s.selRec c (selBytes seq slot) } m 1 (some [])
    else State.cmdEnd { s with selRec := SMap.set [] s.selRec c [] } m 0x108 (some [])))
/-- The copies of PROFILE_STORE (R548): A, then B; a copy that fails ends it. -/
def State.storeCopies (s : State) (m slot : Nat) (l : List Byte) (okA okB : Bool) : State :=
  let wr (s : State) (c : Nat) (ok : Bool) : State := { s with prof := SMap.set [] s.prof (2 * slot + c) (if ok then l else []) }
  if s.pfail then s.cmdEnd m 0x108 (some [])
  else if !okA then (wr s 0 false).cmdEnd m 0x108 (some [])
  else
    let s := wr (wr s 0 true) 1 okB
    if okB then s.cmdEnd m 1 (some [3]) else s.cmdEnd m 0x108 (some [1])
/-- PROFILE_STORE. -/
def execProfileStore (m : Fin 9) (data : Option (List Byte)) (okA okB : Bool) (s : State) : Out :=
  .next (s.cmd m 0x12 (fun s x =>
    if 7 < x.p 16 1 ∨ 1 < x.p 17 1 then s.cmdEnd m 2 (some [])
    else if x.p 20 4 = 0 then s.cmdEnd m 4 (some [])
    else match s.fetch (x.p 17 1) (x.p 24 8) (x.p 20 4) data with
      | none => s.cmdEnd m 0x10 (some [])
      | some l => match s.verifyBundle l with
        | (s, 1) => s.storeCopies m (x.p 16 1) (objOf l) okA okB
        | (s, c) => s.cmdEnd m c (some [])))

/-! ## Switching (R548, R549) -/

/-- The words 0x08040-0x08070 of a context over the pending or the active values. -/
def State.flowWords (s : State) (pending : Bool) (i : Nat) : List Nat :=
  (List.range 13).map (fun j =>
    match findReg (0x8040 + 4 * j) with
    | some (r, _, _) => r.fields.foldl (fun w f => w + (if pending then s.get f i else s.act f i) * 2 ^ f.lo) 0
    | none => 0)
/-- The contexts that a bundle's FLOWS sections name. -/
def bundleFlows (obj : List Byte) : List Nat :=
  (secs ((parseBundle obj).getD []) 3).flatMap (fun x => (flowEntries (x.data.length / 56) x.data).map (·.idx))
/-- Whether the running profile and a target are compatible; `t` is the state with Q's REGS and FLOWS written. -/
def State.compatible (s t : State) (obj : List Byte) : Bool :=
  let named := bundleFlows obj
  let p := s.openFlows.filter (fun i => s.act F.flowCtrlKind i == 0)
  let q := (named.filter (fun i => t.get F.flowCtrlOpen i != 0 && t.get F.flowCtrlKind i == 0))
  p.all (fun i => named.contains i && t.flowWords true i == s.flowWords false i &&
    s.leHash (s.act F.flowCtrlEngine i) == bundleHash obj (s.act F.flowCtrlEngine i)) &&
  q.all (fun i => p.contains i) &&
  (t.activate 64).slotHash == s.slotHash && t.get F.ringCycleUnits == s.act F.ringCycleUnits &&
  (List.range 4).all (fun k => [F.phsPxCfgModulo, F.phsPxCfgCaptEdge, F.phsPxCfgSel, F.phsPxCfgSrc, F.phsPxModLo, F.phsPxModHi].all
    (fun f => t.get f k == s.act f k)) &&
  t.contentHash == State.contentHash { s with pend := s.actv }
/-- The REGS and FLOWS sections of a bundle as pending values. -/
def State.withQ (s : State) (obj : List Byte) : State :=
  s.each ((bundleSecs obj).filter (fun x => x.ty == 2 || x.ty == 3)) (fun s x => s.loadSec (objKeysel obj) x)

/-- The mailbox of the PROFILE_SWITCH under way. -/
def State.switchMbx (s : State) : Nat := ((List.range 8).find? (fun n => (s.mb n).phase == .waiting && (s.mb n).op == 0x11)).getD 8
/-- The target is loaded: the stopped engines, then CRAM, REGS and FLOWS. -/
def State.loadQ (s : State) (w : Switch) : State :=
  let s := s.each (bitsOf w.stops 16) State.emptyEngine
  s.each ((bundleSecs w.obj).filter (fun x => x.ty != 1 || hasBit w.stops x.arg)) (fun s x => s.loadSec (objKeysel w.obj) x)
/-- The engines a switch waits for have stopped: it loads its target and requests an APPLY of all scopes, which ends the
switch when another request is pending. -/
def State.switchGo (s : State) : State :=
  match s.switch with
  | none => s
  | some w =>
    if w.stage != .stop || (bitsOf w.stops 16).any (fun e => decide (2 ≤ s.get F.foxStatusState e)) then s
    else
      let m := s.switchMbx
      let w := { w with stage := .apply, saved := s.pend }
      let s := State.loadQ { s with switch := some w } w
      let s := (s.put F.imgApplyScope 0 0x7FFFF).put F.imgApplyCtrlWhen 0 (if w.brk then 0 else 2)
      let s := s.applyGo false (some m)
      match s.apply with
      | some r => if r.mbx = some m then s else (s.switchUndo w).cmdEnd m 3 (some (w.result 0))
      | none => (s.switchUndo w).cmdEnd m 3 (some (w.result 0))
/-- A verified target: compatible, it stops the engines whose image differs; else it waits for a commit edge. -/
def State.switchBegin (s : State) (m slot c : Nat) (brk : Bool) (obj : List Byte) : State :=
  let w : Switch := { slot := slot, copy := c, obj := obj, brk := false, stops := 0, stage := .stop }
  if s.compatible (s.withQ obj) obj then
    let stops := maskOf ((List.range 16).filter (fun e => s.leHash e != bundleHash obj e))
    let w := { w with stops := stops, ran := s.running stops }
    (State.each { s with switch := some w } (bitsOf stops 16) State.stopping).switchGo
  else if !brk then s.cmdEnd m 0x105 (some [])
  else { s with switch := some { w with brk := true, stops := 0xFFFF, stage := .commit } }
/-- The copies of the target: A, or else B. -/
def State.switchRead (s : State) (m slot : Nat) (brk : Bool) (rdA rdB : BootRd) : State :=
  match s.tryCopy slot 0 rdA with
  | (s, 0) => s.switchBegin m slot 0 brk (objOf (s.slotCopy slot 0))
  | (s, a) => match s.tryCopy slot 1 rdB with
    | (s, 0) => s.switchBegin m slot 1 brk (objOf (s.slotCopy slot 1))
    | (s, b) =>
      let f := if objFormat (s.slotCopy slot 0) 2 then a else b
      s.cmdEnd m (if !s.slotFull slot then 0x10D else if f = 2 then 0x104 else 0x103) (some [])
/-- PROFILE_SWITCH. -/
def execProfileSwitch (m : Fin 9) (rdA rdB : BootRd) (s : State) : Out :=
  .next (s.cmd m 0x11 (fun s x =>
    if s.slotLocked (x.p 16 1) then s.cmdEnd m 0x102 (some [])
    else if 7 < x.p 16 1 ∨ 1 < x.p 17 1 then s.cmdEnd m 2 (some [])
    else s.switchRead m (x.p 16 1) (x.p 17 1 == 1) rdA rdB))

/-- The words of DEN_BUNDLE_HASH, the slot and the copy of the bundle that runs from now on. -/
def State.runBundle (s : State) (slot c : Nat) (obj : List Byte) : State :=
  ((State.put { s with bundle := obj } F.denBootSlot 0 slot).put F.denBootCopy 0 c).putBytes F.denBundleHash (sha384 obj)
/-- The APPLY edge of a switch: the engines it loaded start, then START runs. -/
def State.switchEdge (s : State) (w : Switch) : State :=
  let w := { w with stage := .start, epoch := if w.brk then w.epoch else s.get F.imgEpoch,
                    cutAt := if w.brk then s.up - w.cutAt else 0 }
  let s := State.runBundle { s with switch := some w, startQ := bundleStart w.obj } w.slot w.copy w.obj
  (s.each ((bitsOf w.stops 16).filter (fun e => s.get F.foxStatusState e == 1 && s.carried e)) State.engStart).startNext

/-- The commit edge of one or more requests (R260, R261); nothing when no commit is requested. -/
def execEpochCommit (s : State) : Out :=
  .next (if s.commitReq = 0 then s
    else State.switchGo { (s.snapCommit.inc F.imgMerged 0 (s.commitReq - 1)).commit with commitReq := 0 })

/-! ## The APPLY edge (R276) -/

/-- Whether the edge of a pending APPLY has come (R275). -/
def State.applyDue (s : State) (r : ApplyReq) : Bool :=
  match r.whn with
  | 0 => true
  | 2 => r.due
  | _ => s.phaseDue r.axis r.phase
/-- RESULT and BLOCK. -/
def State.applyStat (s : State) (res blk : Nat) : State := (s.put F.imgApplyStatResult 0 res).put F.imgApplyStatBlock 0 blk
/-- A profile's APPLY: OWL is judged under R544 and enters the change log when it is accepted. -/
def State.profileApply (s : State) (scope slot : Nat) : State × Option Nat :=
  let owl := hasBit scope 12 && s.owlProfile
  let sc := if owl then scope else clrBit scope 12
  match s.refuses (fun _ => false) sc with
  | some b => (s.applyStat 2 b, some b)
  | none =>
    let t := (s.applied sc).applyStat 1 0
    (if owl then t.logAppend 6 slot s.contentHash else t, none)
/-- The switch whose APPLY a request is. -/
def State.switchOf (s : State) (r : ApplyReq) : Option Switch :=
  match r.mbx with
  | some m => if (s.mb m).op = 0x11 then s.switch else none
  | none => none
/-- The APPLY edge: every block in scope accepts, or nothing changes. -/
def State.applyEdge (s : State) (r : ApplyReq) : State :=
  let bad := s.refuses State.owlBad r.scope
  let s := State.put { s with apply := none } F.imgApplyStatPending 0 0
  match s.switchOf r with
  | some w =>
    (match s.profileApply r.scope w.slot with
     | (t, some b) => t.applyAck r 2 b true 2
     | (t, none) => t.switchEdge w)
  | none =>
    match bad with
    | some b => (s.applyStat 2 b).applyAck r 2 b true 2
    | none => ((s.applied r.scope).applyStat 1 0).applyAck r 1 0 true 1
/-- The pending APPLY on its edge; nothing when none is pending or its edge has not come. -/
def execApplyEdge (s : State) : Out :=
  .next (match s.apply with
    | some r => if s.applyDue r then (let t := s.applyEdge r; if r.again then t.applyGo false none else t) else s
    | none => s)

/-! ## Stopped and migrated engines (R123-R131, R518) -/

/-- A stopping engine is LOADED; an ENGINE_STOP that waits for it ends, and a profile switch goes on. -/
def execEngineStopped (le : Fin 16) (s : State) : Out :=
  .next (if s.get F.foxStatusState le ≠ 3 ∨ !s.safePoint le then s
    else
      let s := s.engStopped le
      let s := s.endAll 0x62 (fun x => (bitsOf x.acc 16).all (fun e => !s.active e)) 1 (fun x => toLe x.acc 2)
      s.switchGo)

/-- The host writes that the freeze held are applied to the new physical engine `x` (R130, step 9). -/
def State.applyHeldWr (s : State) (le x : Nat) : State :=
  let l := (s.eng le).heldWr
  State.each (s.setEng le { s.eng le with heldWr := [] }) l (fun s w =>
    s.busWrite .host (0x40000 + 0x2000 * x + (w.1 - 0x40000) % 0x2000) w.2.1 w.2.2)
/-- Steps 6 to 10 of Table 3-8, in the freeze and with every thread at its safe point (R124, R127, R199): multiplies in flight
and posted frame writes land, FOX_MAPn names the new engine, held writes are applied, the threads go on with what the freeze
held, and the engine it leaves is retired or a spare. -/
def execMigrationEnd (le : Fin 16) (s : State) : Out :=
  .next (match (s.eng le).mig with
    | none => s
    | some x =>
      if !s.freezing le || !s.safePoint le then s
      else
        let p := s.phys le
        let retire := (s.eng le).migRetire
        let s := (s.each (List.range 4) (fun s t => (s.drainAll (4 * le + t)).updTh (4 * le + t) Thread.landAll)).moveFoxMarks p x
        let s := ((s.put F.foxMapPhys le x).applyHeldWr le x).unmigrate le
        let s := s.raise 0x05 le.val 0 x
        if retire then s.retireEnd 1 p x else s.put F.foxSpares 0 (setBit (s.get F.foxSpares) p))

/-! ## Safety and Den (R523, R524, R550-R554) -/

/-- SAFE_UNLOCK (R471, R523). -/
def execSafeUnlock (m : Fin 9) (s : State) : Out :=
  .next (s.cmd m 0xB0 (fun s x =>
    if s.get F.owlStatusLocked = 0 then s.cmdEnd m 1 (some [0])
    else
      let s := s.unlock (x.bytes 16 16)
      s.cmdEnd m (if s.get F.owlStatusLocked = 0 then 1 else 0x15) (some (toLe (s.get F.owlLockUnlockErr) 1))))
/-- The new password with its new salt (R473, R523). -/
def State.setPassword (s : State) (pw : List Byte) : State :=
  let salt := s.nonce
  let s := s.tookNonce.putBytes F.owlSalt salt
  (State.put { s with pwHash := some (sha384 (salt ++ pw)) } F.owlStatusNopw 0 0).logAppend 2
/-- PASSWORD_CHANGE: it uses the nonce of OWL_AUTH_NONCE, whatever the token (R658). -/
def execPasswordChange (m : Fin 9) (s : State) : Out :=
  .next (s.cmd m 0xB1 (fun s x =>
    let n := x.p 16 1
    if n = 0 then s.cmdEnd m 4 (some [])
    else if n < 8 ∨ 64 < n then s.cmdEnd m 2 (some [])
    else
      let ok := s.owl.nonceOk && !s.owl.halted && x.bytes 20 16 == s.expect [0x50, 0x57, 0x43, 0x48] []
      let s := { s with owl := { s.owl with nonceOk := false } }
      if ok then
        let s := s.setPassword (x.bytes 36 n)
        s.cmdEnd m 1 (some (toLe (s.get F.owlLogSeq) 4))
      else s.cmdEnd m 0x15 (some [])))

/-- The certificate chain (R552). -/
def certBytes : List Byte := (List.range (min Config.certLen.toNat 2048)).map Config.cert
/-- Bytes 0 to 1,031 + N of the report of Table 16-5. -/
def State.report (s : State) (nonce : List Byte) : List Byte :=
  let le := (List.range 16).flatMap (fun e => if (s.leHash e).isEmpty then List.replicate 48 0 else s.leHash e)
  [0x4C, 0x56, 0x58, 0x52] ++ toLe 0x100 2 ++ [0xB1] ++ toLe (s.get F.pwrStateState) 1 ++ toLe 0x103 2 ++
  toLe (s.get F.denBootSlot) 1 ++ toLe (s.get F.denBootCopy) 1 ++ toLe (1128 + certBytes.length) 4 ++
  toLe Config.nodeId.toNat 6 ++ toLe (s.get F.denOtpEnrolled + 16 * s.get F.denOtpRevoked) 1 ++
  toLe (s.get F.denJtagLevel) 1 ++ toLe s.rollbackC 8 ++ nonce ++ s.fieldBytes F.denBundleHash 12 ++
  toLe (s.get F.owlLogSeq) 4 ++ s.fieldBytes F.owlLogHead 12 ++ le ++ (List.range 96).map Config.deviceKey ++
  toLe certBytes.length 2 ++ [0, 0] ++ certBytes
/-- ATTEST (R524, R553). -/
def execAttest (m : Fin 9) (s : State) : Out :=
  .next (s.cmd m 0xC0 (fun s x =>
    let n := 1128 + certBytes.length
    if 1 < x.p 56 1 then s.cmdEnd m 2 (some [])
    else if x.p 60 4 < n then s.cmdEnd m 0x10C (some (toLe n 4))
    else if !s.spaceOk (x.p 56 1) (x.p 48 8) n then s.cmdEnd m 0x10 (some [])
    else
      let l := s.report (x.bytes 16 32)
      (s.putSpace (x.p 56 1) (x.p 48 8) (l ++ (List.range 96).map (Config.ecdsaSign (sha384 l)))).cmdEnd m 1 (some (toLe n 4))))

/-- Whether an authorisation object passes R541 and R550 for a command: OP, SLOT, hash. -/
def State.authFits (s : State) (l : List Byte) (op slot : Nat) (hash : List Byte) : Bool :=
  let o := objOf l
  let b := objBody o
  let self := s.get F.denOtpEnrolled == 0 && op == 1
  let key := if self then objKeysel o == 0x20 && sha384 (objPubkey o) == hash
    else decide (objKeysel o < 4) && s.keyOk o
  let id := leAt b 52 6
  objFormat l 3 && key && objSigOk o && decide (s.rollbackC ≤ objVersion o) && decide (60 ≤ b.length) &&
  leAt b 0 1 == op && leAt b 1 1 == slot && leAt b 2 2 == 0 && (b.drop 4).take 48 == hash &&
  (id == 0 || id == Config.nodeId.toNat) && leAt b 58 2 == 0
/-- An authorisation that fails is counted, unless its version alone fails (R541, R551). -/
def State.authDenied (s : State) (l : List Byte) : State :=
  if objFormat l 3 && objSigOk (objOf l) && decide (objVersion (objOf l) < s.rollbackC) then s else s.inc F.denSigFail
/-- The parameters of the two KEY commands, and their object. -/
def State.keyCmd (s : State) (m : Nat) (x : Mbx) (data : Option (List Byte)) (run : State → Nat → List Byte → State) : State :=
  if 3 < x.p 16 1 ∨ 1 < x.p 17 1 then s.cmdEnd m 2 (some [])
  else if x.p 20 4 = 0 then s.cmdEnd m 4 (some [])
  else match s.fetch (x.p 17 1) (x.p 24 8) (x.p 20 4) data with
    | none => s.cmdEnd m 0x10 (some [])
    | some l => run s (x.p 16 1) l
/-- KEY_ENROLL (R551); `took` whether the OTP slot was written, `ok` whether its read-back agrees. -/
def execKeyEnroll (m : Fin 9) (data : Option (List Byte)) (took ok : Bool) (s : State) : Out :=
  .next (s.cmd m 0xD0 (fun s x => s.keyCmd m x data (fun s k l =>
    if !s.authFits l 1 k (x.bytes 32 48) then (s.authDenied l).cmdEnd m 0x15 (some [])
    else if hasBit (s.get F.denOtpRevoked) k then s.cmdEnd m 0x10B (some [])
    else if hasBit (s.get F.denOtpEnrolled) k then s.cmdEnd m 0x10A (some [])
    else
      let h := x.bytes 32 48
      let s := if took then
          (s.each (List.range 12) (fun s w => s.put F.denKhash (12 * k + w) (leAt h (4 * w) 4))).put F.denOtpEnrolled 0
            (setBit (s.get F.denOtpEnrolled) k)
        else s
      s.cmdEnd m (if ok then 1 else 0x108) (some []))))
/-- The slots that are enrolled and not revoked. -/
def State.liveKeys (s : State) : List Nat := (List.range 4).filter s.keyLive
/-- KEY_REVOKE (R551). -/
def execKeyRevoke (m : Fin 9) (data : Option (List Byte)) (took ok : Bool) (s : State) : Out :=
  .next (s.cmd m 0xD1 (fun s x => s.keyCmd m x data (fun s k l =>
    if !s.authFits l 2 k (List.replicate 48 0) then (s.authDenied l).cmdEnd m 0x15 (some [])
    else if hasBit (s.get F.denOtpRevoked) k then s.cmdEnd m 0x10B (some [])
    else if s.liveKeys == [k] then s.cmdEnd m 2 (some [])
    else
      let s := if took then s.put F.denOtpRevoked 0 (setBit (s.get F.denOtpRevoked) k) else s
      s.cmdEnd m (if ok then 1 else 0x108) (some []))))

/-- The level an AUTH exchange may grant (R554). -/
def State.jtagMay (s : State) (pub : List Byte) (level : Nat) : Bool :=
  let h := sha384 pub
  s.get F.denOtpJtagDis == 0 && !s.on F.denCfgJtagBlock &&
  ((level == 1 && (List.range 4).any (fun k => s.keyLive k && s.keyHash k == h)) ||
   (level == 2 && s.get F.denOtpJtagL2Dis == 0 && h == (List.range 48).map Config.serviceKeyHash))
/-- A JTAG AUTH exchange: Den's 32-byte nonce, the key, the signature and the LEVEL byte. -/
def execJtagAuth (pub sig : List Byte) (level : Byte) (s : State) : Out :=
  .next (if !s.denOk then s
    else
      let nonce := (List.range 8).flatMap (fun i => toLe (Config.trng (s.trngN + i)).toNat 4)
      let s := { s with trngN := s.trngN + 8 }
      let d := sha384 (nonce ++ toLe Config.nodeId.toNat 6 ++ [level])
      if s.jtagMay pub level.toNat && Config.ecdsaOk pub d sig then
        ((s.put F.denJtagLevel 0 (max (s.get F.denJtagLevel) level.toNat)).raise 0x4B level.toNat).lockout 9
      else s.inc F.denJtagFail)

/-! ## March test (R525, R566-R569) -/

/-- Whether a unit is out of use, as a destructive test needs it (R525). -/
def State.idleUnit (s : State) (target u : Nat) : Bool :=
  s.unitRetired target u ||
  match target with
  | 0 => (s.settLog u).isNone
  | 1 => s.get F.memBankOwnOwner u == 31
  | 2 => false
  | 3 => !(s.openFlows ++ s.pendAt F.flowCtrlOpen).any (fun x => x / 128 == u)
  | _ => (match s.leOf u with | some e => s.get F.foxStatusState e == 0 | none => true)
/-- A unit is left with zero in every word (R567). -/
def State.zeroUnit (s : State) (target u : Nat) : State :=
  if s.unitRetired target u then s
  else match target with
    | 1 => s.zeroBank u
    | 3 =>
      let keep (m : SMap Nat) : SMap Nat :=
        SMap.keep (fun k => !(decide (0x8040 ≤ k / 1048576 / 32) && decide (k / 1048576 / 32 ≤ 0x8070) && k % 1048576 / 128 == u)) m
      { s with pend := keep s.pend, actv := keep s.actv, flowMem := SMap.keep (fun a => a / 32768 != u) s.flowMem }
    | 4 => (match s.leOf u with | some e => s.clearEngine e | none => s)
    | _ => s
/-- The run time of a test in ns (Table 17-2). -/
def marchNs (mode target n : Nat) : Nat :=
  let d := match target with | 3 => 81920 | 4 => 655360 | _ => 163840
  let t := match target with | 3 => 180224 | 4 => 1441792 | _ => 360448
  if mode = 0 then d else n * t
/-- The test of the units of a mask, of which `fails` fail: hard signatures whose records carry the fail mask, and the
registers (R566-R569, Table 18-3). -/
def State.march (s : State) (mode target mask fails : Nat) : State × Nat :=
  let us := bitsOf mask 64
  let bad := (us.filter (fun u => hasBit fails u && !s.unitRetired target u))
  let f := maskOf bad
  let s := if mode = 0 then s.each us (fun s u => s.zeroUnit target u) else s
  let s := s.each bad (fun s u => match memChan target u with | some (k, n) => s.hard k n 2 f | none => s)
  (((s.put F.memMbistStatMode 0 mode).put F.memMbistStatTarget 0 target).put F.memMbistFailLo 0 f |>.put F.memMbistFailHi 0 (f / 2 ^ 32), f)
/-- MBIST; `fails` are the units that fail. -/
def execMbist (m : Fin 9) (fails : BitVec 64) (s : State) : Out :=
  .next (s.cmd m 0xE0 (fun s x =>
    let mode := x.p 16 1
    let t := x.p 17 1
    let mask := x.p 24 8
    if 1 < mode ∨ 4 < t ∨ 2 ^ memUnits t ≤ mask then s.cmdEnd m 2 (some [])
    else if mask = 0 then s.cmdEnd m 4 (some [])
    else if mode = 0 ∧ !(bitsOf mask 64).all (s.idleUnit t) then s.cmdEnd m 0x13 (some [])
    else
      let (s, f) := s.march mode t mask fails.toNat
      let n := ((bitsOf mask 64).filter (fun u => !s.unitRetired t u)).length
      s.cmdEnd m (if f = 0 then 1 else 0x109) (some (toLe f 8 ++ toLe (marchNs mode t n / 1000) 4))))

/-! ## Device states (R526, R594) -/

/-- POWER_STATE. -/
def execPowerState (m : Fin 9) (s : State) : Out :=
  .next (s.cmd m 0xF0 (fun s x =>
    let st := x.p 16 1
    let d := x.p 20 4
    let old := s.get F.pwrStateState
    let res := toLe old 1
    if 3 < st then s.cmdEnd m 2 (some res)
    else if st = old then s.cmdEnd m 1 (some res)
    else if st = 1 ∧ d = 0 then s.cmdEnd m 4 (some res)
    else if st = 1 ∧ (d % 2 = 1 ∨ 1024 ≤ d) then s.cmdEnd m 2 (some res)
    else if st = 1 ∧ s.trimBusy d then s.cmdEnd m 3 (some res)
    else match st with
      | 0 => s.enterRun.cmdEnd m 1 (some res)
      | 1 => (s.enterTrim d).cmdEnd m 1 (some res)
      | 2 => s.enterHold.cmdEnd m 1 (some res)
      | _ => (s.cmdEnd m 1 (some res)).enterOff))

/-! ## Bounds (R511, R515, R517, R518, R522, R549) -/

/-- A profile switch ends before its APPLY edge. -/
def State.switchTimeout (s : State) (m : Nat) : State :=
  match s.switch with
  | some w =>
    if w.stage = .start then s
    else if w.stage = .apply then s.applyCancel 0x14
    else (s.switchUndo w).cmdEnd m 0x14 (some (w.result 0))
  | none => s
/-- The time in ns after which a command that waits has no more to wait (R511, Table 15-2): its TMO_MS, or its bound. -/
def Mbx.bound (x : Mbx) : Nat :=
  match x.op with
  | 0x11 => x.p 20 4 * 1000000
  | 0x20 => x.p 32 4 * 1000000
  | 0x30 => x.p 32 4 * 1000000
  | 0x31 => x.p 32 4 * 1000000
  | 0x50 => x.p 20 4 * 1000000
  | 0x62 => 1000000
  | 0x70 => 200000
  | 0x80 => x.p 16 4 * 1000000
  | _ => 0
/-- The wait for an APPLY edge of a command ends: its APPLY is cancelled. -/
def State.applyTimeout (s : State) (m : Nat) : State :=
  if s.apply.any (fun r => r.whn != 0 && r.mbx == some m) then s.applyCancel 0x14 else s
/-- Whether a command waits and its bound has passed. -/
def State.overdue (s : State) (m : Nat) : Bool :=
  (s.mb m).phase == .waiting && decide ((s.mb m).startAt + (s.mb m).bound ≤ s.up)
/-- A command that waits exceeds its bound: it cancels what it waits for and returns TIMEOUT. -/
def execCommandTimeout (m : Fin 9) (s : State) : Out :=
  .next (if !s.overdue m then s
    else
      let x := s.mb m
      match x.op with
      | 0x11 => s.switchTimeout m
      | 0x20 => s.applyTimeout m
      | 0x30 => s.applyTimeout m
      | 0x31 => s.applyTimeout m
      | 0x50 => s.snapWithdraw 0x14
      | 0x62 => s.cmdEnd m 0x14 (some (toLe x.acc 2))
      | 0x70 => (s.retireWithdraw (x.p 16 1) (x.p 17 1)).cmdEnd m 0x14 (some [])
      | 0x80 => s.syncEnd m 0x14
      | _ => s)

end Sys2Proof.Machine
end

