-- ==== Sys2Proof/Machine/Boot.lean ====
section
/-!
DEFINITION. Resets and the boot (R470, R532-R545, R577, R590, R619): what a reset leaves, Owl after a loss of VDD_AON, and
what the supervisor does from reset release to the end of the START section.
Assumption log: 9, 60, 62, 69, 71, 78, 81.
-/
namespace Sys2Proof.Machine

/-! ## Resets (R590, R619, R658) -/

/-- A reset: every domain but AON at its reset state, device time invalid, no authorisation nonce valid. -/
def State.resetAll (s : State) : State :=
  let t := s.cold
  let t : State := { t with off := false, released := false, owl := { t.owl with nonceOk := false } }
  t.putBytes F.owlAuthNonce (List.replicate 16 0)
/-- Causes 0 RESET_N, 1 EARLY_PWR_N, 2 a supply leaves its range; the first since the last release stands (R619). -/
def execReset (cause : Fin 3) (s : State) : Out :=
  .next (let t := s.resetAll
    let t := if cause = 1 then t.put F.pwrInsEarlyPwr 0 0 else t
    if s.released then (t.put F.glbResetCause 0 (cause.val + 1)).put F.glbResetAfterOff 0 s.off.toNat else t)

/-- An entry of the change log is complete: its CRC is right (R477). -/
def logWhole (e : List Byte) : Bool := e.length == 128 && leAt e 124 4 == crc32 (e.take 124)
/-- An entry put before the first that is not newer. -/
def insEntry (e : List Byte) : List (List Byte) → List (List Byte)
  | [] => [e]
  | x :: r => if leAt x 0 4 ≤ leAt e 0 4 then e :: x :: r else x :: insEntry e r
/-- The complete entries of the change log in flash, newest first. -/
def State.logChain (s : State) : List (List Byte) := ((s.flashLog.map (·.2)).filter logWhole).foldr insEntry []
/-- What is left without VDD_AON: OTP, the stored password and its salt. -/
def otpKey (k : Nat) : Bool :=
  let o := k / 1048576 / 32
  let id := k / 1048576
  id == F.denOtpRevoked.id || id == F.denOtpEnrolled.id || o == 0x30010 || o == 0x30014 || o == 0x30018 ||
  id == F.denKhash.id || id == F.owlSalt.id || id == F.owlStatusNopw.id
/-- Owl at power-on: its registers at reset values, the chain rebuilt from the last complete entry (R477). -/
def State.owlPowerOn (s : State) : State :=
  let t := s.resetAll
  let t : State := { t with pend := [], actv := [], live := SMap.keep otpKey t.live, conns := [], tws := [],
                            owl := { log := (s.logChain).take 64 } }
  match s.logChain with
  | [] => t
  | e :: _ => (t.put F.owlLogSeq 0 (leAt e 0 4)).putBytes F.owlLogHead (sha384 (e.take 124))
/-- VDD_AON rises into its window (R470): the latch with cause POWER_ON, and a reset with cause POWER_ON. -/
def execVddAonRise (s : State) : Out := .next (s.owlPowerOn.lockout 5)

/-! ## Channels out of service from the start (R537, R577) -/

/-- A channel takes its action before the boot loads anything: a Fox engine's logical engine is carried by a spare from
the start, or by none. -/
def State.bootRetire (s : State) (kind n : Nat) : State :=
  if s.retired kind n then s
  else if kind ≠ 1 then s.retireAct kind n
  else match s.leOf n, s.spareFor n with
    | some le, some x =>
      ((s.put F.foxMapPhys le x).put F.foxSpares 0 (clrBit (s.get F.foxSpares) x)).retireEnd 1 n x
    | some le, none => ((s.put F.foxMapValid le 0).raise 0x04 le).retireEnd 1 n 0
    | none, _ => (s.put F.foxSpares 0 (clrBit (s.get F.foxSpares) n)).retireEnd 1 n 0
/-- The complete RETIRE and CLEAR records of the health log: SEQ, kind, channel kind, number (Table 18-3). -/
def State.healthRecs (s : State) : List (Nat × Nat × Nat × Nat) :=
  ((s.hlog.map (·.2)).filter (fun l => l.length == 64 && leAt l 60 4 == crc32 (l.take 60) && (leAt l 14 1 == 1 || leAt l 14 1 == 2))).map
    (fun l => (leAt l 0 4, leAt l 14 1, leAt l 15 1, leAt l 16 1))
/-- Whether the newest record of a channel is RETIRE. -/
def State.healthOut (s : State) (kind n : Nat) : Bool :=
  let mine := s.healthRecs.filter (fun r => r.2.2.1 == kind && r.2.2.2 == n)
  mine.any (fun r => r.2.1 == 1 && mine.all (fun q => decide (q.1 ≤ r.1)))
/-- The channels that the health log keeps out of service, by kind and number. -/
def State.healthRetire (s : State) : State :=
  s.each (List.range 6) (fun s kind => s.each ((List.range (chanCount kind)).filter (fun n => s.healthOut kind n))
    (fun s n => s.bootRetire kind n))
/-- A unit fails the start-up march test (R537, R573): a hard signature, and its retirement where that is automatic. -/
def State.startupFail (s : State) (target u : Nat) : State :=
  match memChan target u with
  | some (k, n) =>
    if s.retired k n then s
    else
      let t := s.hard k n 6
      if (t.chan (k * 64 + n)).retire.isSome then t.bootRetire k n else t
  | none => s

/-! ## The boot (R535-R539, R544, R545, Table 16-2) -/

/-- What reset release samples, and the state of PLLs and Den (steps 1 to 3). -/
def State.bootPins (s : State) (b : BootIn) : State :=
  let s := { s with released := true, relAt := s.up }
  let s := (s.put F.mbxHostifSel 0 b.hostSel.toNat).put F.denProfPins 0 b.prof.toNat
  let s := (s.put F.pwrInsEarlyPwr 0 1).put F.pwrInsCardPresent 0 b.card.toNat
  let s := if b.card then s else s.put F.pwrInsIso 0 1
  let s := (s.put F.clkStatusLocked 0 b.locked.toNat).put F.denStatusTrngFail 0 (!b.trng).toNat
  let ok := b.selftest && b.trng
  (s.put F.denStatusReady 0 ok.toNat).put F.denStatusSelftestFail 0 (!ok).toNat
/-- The source that applies, and the slot (R535). -/
def State.bootSlot (s : State) : Nat × Nat :=
  if s.get F.denOtpProfileLockEn ≠ 0 then (2, s.get F.denOtpProfileLockSlot)
  else match s.selPick.1 with
    | some r => if r.2 < 8 then (1, r.2) else (0, s.get F.denProfPins)
    | none => (0, s.get F.denProfPins)
/-- A copy is read, verified and loaded: 0, or a code of DEN_BOOT.CAUSE. A section that differs in step 8 leaves every
engine EMPTY and no pending value written (R536, R539). -/
def State.bootCopy (s : State) (slot c : Nat) (rd : BootRd) : State × Nat :=
  match s.tryCopy slot c rd with
  | (s, 0) =>
    let obj := objOf (s.slotCopy slot c)
    let all := bundleSecs obj
    let load (s : State) (l : List Section) : State := s.each l (fun s x => s.loadSec (objKeysel obj) x)
    (match rd with
     | .differs i =>
       if i.val < all.length then (({ load s (all.take i.val) with pend := s.pend } : State).each (List.range 16) State.emptyEngine, 4) else (load s all, 0)
     | _ => (load s all, 0))
  | r => r
/-- A loaded profile takes effect: one APPLY of every scope but OWL, then OWL under R544, then START. -/
def State.bootRun (s : State) (slot c : Nat) : State :=
  let obj := objOf (s.slotCopy slot c)
  let s := (s.runBundle slot c obj).put F.glbStatusProfile 0 1
  let s := match s.refuses (fun _ => false) (clrBit 0x7FFFF 12) with
    | some b => s.applyStat 2 b
    | none => (s.applied (clrBit 0x7FFFF 12)).applyStat 1 0
  let s := if s.owlProfile then ((s.applied (2 ^ 12)).applyStat 1 0).logAppend 6 slot s.contentHash else s.applyStat 2 12
  State.startNext { s with startQ := bundleStart obj }
/-- No copy of the chosen slot loads (R536). -/
def State.bootNone (s : State) : State := (State.raise s 0x48 0).startNext
/-- Copy A, or else copy B. -/
def State.bootLoad (s : State) (b : BootIn) : State :=
  let (src, slot) := s.bootSlot
  let s := s.put F.denBootSrc 0 src
  match s.bootCopy slot 0 b.rdA with
  | (s, 0) => s.bootRun slot 0
  | (s, a) =>
    match (s.put F.denBootCauseA 0 a).bootCopy slot 1 b.rdB with
    | (s, 0) => s.bootRun slot 1
    | (s, c) => (s.put F.denBootCauseB 0 c).bootNone
/-- Reset is released (R590): pins are sampled, failed units are retired, the profile boots. Nothing while a supply is out
of its range or before a reset; with TEST_EN high the pins are sampled and the device does not boot (R634). -/
def execResetRelease (b : BootIn) (s : State) : Out :=
  .next (if s.released || s.supOut != 0 then s
    else if b.testEn then s.bootPins b
    else
      let s := (s.bootPins b).healthRetire
      (s.each b.fails (fun s f => s.startupFail f.1.val f.2.val)).bootLoad b)

end Sys2Proof.Machine
end

