-- ==== Sys2Proof/Machine/Dispatch.lean ====
section
/-! DEFINITION. One arm per command: a direct call of its meaning, or its rejection by name. -/
namespace Sys2Proof.Machine

open Sys2Proof

def exec (i : Instr) (s : State) : Host.Outcome State Fault Refusal :=
  match i with
  | .registerWrite q o v be => Sys2Proof.Machine.execRegisterWrite q o v be s
  | .readDelivered q o => Sys2Proof.Machine.execReadDelivered q o s
  | .applyRequest v => Sys2Proof.Machine.execApplyRequest v s
  | .applyCancel v => Sys2Proof.Machine.execApplyCancel v s
  | .applyEdge => Sys2Proof.Machine.execApplyEdge s
  | .latch => Sys2Proof.Machine.execLatch s
  | .timeStep v => Sys2Proof.Machine.execTimeStep v s
  | .timeSet v => Sys2Proof.Machine.execTimeSet v s
  | .timeSlew v => Sys2Proof.Machine.execTimeSlew v s
  | .slewDone => Sys2Proof.Machine.execSlewDone s
  | .ppsInEdge fall sub => Sys2Proof.Machine.execPpsInEdge fall sub s
  | .ppsHoldover => Sys2Proof.Machine.execPpsHoldover s
  | .ppsOutStart => Sys2Proof.Machine.execPpsOutStart s
  | .ppsOutEnd => Sys2Proof.Machine.execPpsOutEnd s
  | .captEdge n e => Sys2Proof.Machine.execCaptEdge n e s
  | .captPop n => Sys2Proof.Machine.execCaptPop n s
  | .axisSoftSet k v => Sys2Proof.Machine.execAxisSoftSet k v s
  | .mainsCrossing m ns half => Sys2Proof.Machine.execMainsCrossing m ns half s
  | .mainsHoldover m => Sys2Proof.Machine.execMainsHoldover m s
  | .mainsStop m => Sys2Proof.Machine.execMainsStop m s
  | .phsRunSet v => Sys2Proof.Machine.execPhsRunSet v s
  | .calEntryFire e same => Sys2Proof.Machine.execCalEntryFire e same s
  | .qwTimeout c => Sys2Proof.Machine.execQwTimeout c s
  | .fxPair k w => Sys2Proof.Machine.execFxPair k w s
  | .fxNop k c o => Sys2Proof.Machine.execFxNop k c o s
  | .fxAdd k c o => Sys2Proof.Machine.execFxAdd k c o s
  | .fxAdc k c o => Sys2Proof.Machine.execFxAdc k c o s
  | .fxSub k c o => Sys2Proof.Machine.execFxSub k c o s
  | .fxSbc k c o => Sys2Proof.Machine.execFxSbc k c o s
  | .fxAnd k c o => Sys2Proof.Machine.execFxAnd k c o s
  | .fxOr k c o => Sys2Proof.Machine.execFxOr k c o s
  | .fxXor k c o => Sys2Proof.Machine.execFxXor k c o s
  | .fxAndn k c o => Sys2Proof.Machine.execFxAndn k c o s
  | .fxMin k c o => Sys2Proof.Machine.execFxMin k c o s
  | .fxMax k c o => Sys2Proof.Machine.execFxMax k c o s
  | .fxMinu k c o => Sys2Proof.Machine.execFxMinu k c o s
  | .fxMaxu k c o => Sys2Proof.Machine.execFxMaxu k c o s
  | .fxCmp k c o => Sys2Proof.Machine.execFxCmp k c o s
  | .fxTst k c o => Sys2Proof.Machine.execFxTst k c o s
  | .fxMov k c o => Sys2Proof.Machine.execFxMov k c o s
  | .fxAddi k c o => Sys2Proof.Machine.execFxAddi k c o s
  | .fxAdci k c o => Sys2Proof.Machine.execFxAdci k c o s
  | .fxSubi k c o => Sys2Proof.Machine.execFxSubi k c o s
  | .fxSbci k c o => Sys2Proof.Machine.execFxSbci k c o s
  | .fxAndi k c o => Sys2Proof.Machine.execFxAndi k c o s
  | .fxOri k c o => Sys2Proof.Machine.execFxOri k c o s
  | .fxXori k c o => Sys2Proof.Machine.execFxXori k c o s
  | .fxAndni k c o => Sys2Proof.Machine.execFxAndni k c o s
  | .fxMini k c o => Sys2Proof.Machine.execFxMini k c o s
  | .fxMaxi k c o => Sys2Proof.Machine.execFxMaxi k c o s
  | .fxMinui k c o => Sys2Proof.Machine.execFxMinui k c o s
  | .fxMaxui k c o => Sys2Proof.Machine.execFxMaxui k c o s
  | .fxCmpi k c o => Sys2Proof.Machine.execFxCmpi k c o s
  | .fxTsti k c o => Sys2Proof.Machine.execFxTsti k c o s
  | .fxMovi k c o => Sys2Proof.Machine.execFxMovi k c o s
  | .fxLsl k c o => Sys2Proof.Machine.execFxLsl k c o s
  | .fxLsr k c o => Sys2Proof.Machine.execFxLsr k c o s
  | .fxAsr k c o => Sys2Proof.Machine.execFxAsr k c o s
  | .fxRor k c o => Sys2Proof.Machine.execFxRor k c o s
  | .fxLsli k c o => Sys2Proof.Machine.execFxLsli k c o s
  | .fxLsri k c o => Sys2Proof.Machine.execFxLsri k c o s
  | .fxAsri k c o => Sys2Proof.Machine.execFxAsri k c o s
  | .fxRori k c o => Sys2Proof.Machine.execFxRori k c o s
  | .fxNeg k c o => Sys2Proof.Machine.execFxNeg k c o s
  | .fxNot k c o => Sys2Proof.Machine.execFxNot k c o s
  | .fxAbs k c o => Sys2Proof.Machine.execFxAbs k c o s
  | .fxClz k c o => Sys2Proof.Machine.execFxClz k c o s
  | .fxBset k c o => Sys2Proof.Machine.execFxBset k c o s
  | .fxBclr k c o => Sys2Proof.Machine.execFxBclr k c o s
  | .fxBtst k c o => Sys2Proof.Machine.execFxBtst k c o s
  | .fxTfc k c o => Sys2Proof.Machine.execFxTfc k c o s
  | .fxMul k c o => Sys2Proof.Machine.execFxMul k c o s
  | .fxMulu k c o => Sys2Proof.Machine.execFxMulu k c o s
  | .fxMac k c o => Sys2Proof.Machine.execFxMac k c o s
  | .fxMacu k c o => Sys2Proof.Machine.execFxMacu k c o s
  | .fxMsu k c o => Sys2Proof.Machine.execFxMsu k c o s
  | .fxMacz k c o => Sys2Proof.Machine.execFxMacz k c o s
  | .fxExa k c o => Sys2Proof.Machine.execFxExa k c o s
  | .fxLd k c o => Sys2Proof.Machine.execFxLd k c o s
  | .fxSt k c o => Sys2Proof.Machine.execFxSt k c o s
  | .fxLdi k c o => Sys2Proof.Machine.execFxLdi k c o s
  | .fxSti k c o => Sys2Proof.Machine.execFxSti k c o s
  | .fxMovsRead k c o => Sys2Proof.Machine.execFxMovsRead k c o s
  | .fxMovsWrite k c o => Sys2Proof.Machine.execFxMovsWrite k c o s
  | .fxGld k c o => Sys2Proof.Machine.execFxGld k c o s
  | .fxGst k c o => Sys2Proof.Machine.execFxGst k c o s
  | .globalAccessComplete k ecc slot => Sys2Proof.Machine.execGlobalAccessComplete k ecc slot s
  | .fxB k c o => Sys2Proof.Machine.execFxB k c o s
  | .fxBr k c o => Sys2Proof.Machine.execFxBr k c o s
  | .fxCall k c o => Sys2Proof.Machine.execFxCall k c o s
  | .fxCallr k c o => Sys2Proof.Machine.execFxCallr k c o s
  | .fxRet k c o => Sys2Proof.Machine.execFxRet k c o s
  | .fxRett k c o => Sys2Proof.Machine.execFxRett k c o s
  | .fxDbnz k c o => Sys2Proof.Machine.execFxDbnz k c o s
  | .fxRep k c o => Sys2Proof.Machine.execFxRep k c o s
  | .fxRepLc k c o => Sys2Proof.Machine.execFxRepLc k c o s
  | .foxWatchdogExpiry k => Sys2Proof.Machine.execFoxWatchdogExpiry k s
  | .fxFrd k c o => Sys2Proof.Machine.execFxFrd k c o s
  | .fxFwr k c o => Sys2Proof.Machine.execFxFwr k c o s
  | .fxFsetl k c o => Sys2Proof.Machine.execFxFsetl k c o s
  | .fxFinfo k c o => Sys2Proof.Machine.execFxFinfo k c o s
  | .fxDpop k c o => Sys2Proof.Machine.execFxDpop k c o s
  | .fxFnew k c o => Sys2Proof.Machine.execFxFnew k c o s
  | .fxFrel k c o => Sys2Proof.Machine.execFxFrel k c o s
  | .fxDpush k c o => Sys2Proof.Machine.execFxDpush k c o s
  | .fxDpushr k c o => Sys2Proof.Machine.execFxDpushr k c o s
  | .fxCpop k c o => Sys2Proof.Machine.execFxCpop k c o s
  | .fxCrcf k c o => Sys2Proof.Machine.execFxCrcf k c o s
  | .fxCrcr k c o => Sys2Proof.Machine.execFxCrcr k c o s
  | .fxCsumf k c o => Sys2Proof.Machine.execFxCsumf k c o s
  | .fxHash k c o => Sys2Proof.Machine.execFxHash k c o s
  | .fxFext k c o => Sys2Proof.Machine.execFxFext k c o s
  | .fxFins k c o => Sys2Proof.Machine.execFxFins k c o s
  | .fxScale k c o => Sys2Proof.Machine.execFxScale k c o s
  | .fxTsr k c o => Sys2Proof.Machine.execFxTsr k c o s
  | .fxFrxts k c o => Sys2Proof.Machine.execFxFrxts k c o s
  | .fxWaitph k c o => Sys2Proof.Machine.execFxWaitph k c o s
  | .fxWaitev k c o => Sys2Proof.Machine.execFxWaitev k c o s
  | .waitWake k => Sys2Proof.Machine.execWaitWake k s
  | .fxSignal k c o => Sys2Proof.Machine.execFxSignal k c o s
  | .fxSignalr k c o => Sys2Proof.Machine.execFxSignalr k c o s
  | .signalDelivery k => Sys2Proof.Machine.execSignalDelivery k s
  | .fxDoorbell k c o => Sys2Proof.Machine.execFxDoorbell k c o s
  | .fxDoorbellr k c o => Sys2Proof.Machine.execFxDoorbellr k c o s
  | .fxShput k c o => Sys2Proof.Machine.execFxShput k c o s
  | .fxShget k c o => Sys2Proof.Machine.execFxShget k c o s
  | .fxXld k c o => Sys2Proof.Machine.execFxXld k c o s
  | .fxXst k c o => Sys2Proof.Machine.execFxXst k c o s
  | .fxTwake k c o => Sys2Proof.Machine.execFxTwake k c o s
  | .fxFadopt k c o => Sys2Proof.Machine.execFxFadopt k c o s
  | .frameAccessComplete k h ecc bank word => Sys2Proof.Machine.execFrameAccessComplete k h ecc bank word s
  | .frameWriteDrain k => Sys2Proof.Machine.execFrameWriteDrain k s
  | .migrationEnd le => Sys2Proof.Machine.execMigrationEnd le s
  | .engineStopped le => Sys2Proof.Machine.execEngineStopped le s
  | .frameReceived inf f => Sys2Proof.Machine.execFrameReceived inf f s
  | .stage1Transfer ix k => Sys2Proof.Machine.execStage1Transfer ix k s
  | .stage2Transfer k o => Sys2Proof.Machine.execStage2Transfer k o s
  | .transmitStart o x => Sys2Proof.Machine.execTransmitStart o x s
  | .transmitComplete o => Sys2Proof.Machine.execTransmitComplete o s
  | .frameAged o c => Sys2Proof.Machine.execFrameAged o c s
  | .aonReevaluate ix k => Sys2Proof.Machine.execAonReevaluate ix k s
  | .aonExpire ix k => Sys2Proof.Machine.execAonExpire ix k s
  | .linkLoss p part => Sys2Proof.Machine.execLinkLoss p part s
  | .holdExpire p => Sys2Proof.Machine.execHoldExpire p s
  | .linkUp l => Sys2Proof.Machine.execLinkUp l s
  | .flowStale x => Sys2Proof.Machine.execFlowStale x s
  | .epochCommit => Sys2Proof.Machine.execEpochCommit s
  | .commitNow => Sys2Proof.Machine.execCommitNow s
  | .hostMemoryWrite a bytes ue => Sys2Proof.Machine.execHostMemoryWrite a bytes ue s
  | .imgLeaseOpen v => Sys2Proof.Machine.execImgLeaseOpen v s
  | .imgLeaseClose => Sys2Proof.Machine.execImgLeaseClose s
  | .leaseExpire => Sys2Proof.Machine.execLeaseExpire s
  | .csnapGo whn clear => Sys2Proof.Machine.execCsnapGo whn clear s
  | .csnapRelease => Sys2Proof.Machine.execCsnapRelease s
  | .csnapCancel => Sys2Proof.Machine.execCsnapCancel s
  | .snapshotEdge => Sys2Proof.Machine.execSnapshotEdge s
  | .ringTrainEnd p ok x => Sys2Proof.Machine.execRingTrainEnd p ok x s
  | .ringTrainRetry p => Sys2Proof.Machine.execRingTrainRetry p s
  | .ringLos p => Sys2Proof.Machine.execRingLos p s
  | .csmA p x => Sys2Proof.Machine.execCsmA p x s
  | .csmB p hops folds dir first => Sys2Proof.Machine.execCsmB p hops folds dir first s
  | .echoReq p q res => Sys2Proof.Machine.execEchoReq p q res s
  | .echoResp p q res t4 => Sys2Proof.Machine.execEchoResp p q res t4 s
  | .linkState p member node id => Sys2Proof.Machine.execLinkState p member node id s
  | .joinA p id => Sys2Proof.Machine.execJoinA p id s
  | .joinB p node hash => Sys2Proof.Machine.execJoinB p node hash s
  | .controlBlockSend p t1 => Sys2Proof.Machine.execControlBlockSend p t1 s
  | .ringFrame p hdr f => Sys2Proof.Machine.execRingFrame p hdr f s
  | .status p b => Sys2Proof.Machine.execStatus p b s
  | .timeAnn p b => Sys2Proof.Machine.execTimeAnn p b s
  | .cstart p b => Sys2Proof.Machine.execCstart p b s
  | .spliceReq p b => Sys2Proof.Machine.execSpliceReq p b s
  | .lastgaspRx p src west f => Sys2Proof.Machine.execLastgaspRx p src west f s
  | .cycleStart gtk => Sys2Proof.Machine.execCycleStart gtk s
  | .slotStart ix x => Sys2Proof.Machine.execSlotStart ix x s
  | .guardGateOpen g => Sys2Proof.Machine.execGuardGateOpen g s
  | .guardGateClose ix => Sys2Proof.Machine.execGuardGateClose ix s
  | .listenTimeout => Sys2Proof.Machine.execListenTimeout s
  | .cstartSend => Sys2Proof.Machine.execCstartSend s
  | .coldstartEnd => Sys2Proof.Machine.execColdstartEnd s
  | .csmLoss => Sys2Proof.Machine.execCsmLoss s
  | .nodeLost n => Sys2Proof.Machine.execNodeLost n s
  | .ringResync => Sys2Proof.Machine.execRingResync s
  | .guardClkLoss => Sys2Proof.Machine.execGuardClkLoss s
  | .spliceSwitch => Sys2Proof.Machine.execSpliceSwitch s
  | .spliceFoldback p => Sys2Proof.Machine.execSpliceFoldback p s
  | .anResolution n r => Sys2Proof.Machine.execAnResolution n r s
  | .restartAn n => Sys2Proof.Machine.execRestartAn n s
  | .collision p late r => Sys2Proof.Machine.execCollision p late r s
  | .backoffExpire p mac => Sys2Proof.Machine.execBackoffExpire p mac s
  | .pauseRepeat n => Sys2Proof.Machine.execPauseRepeat n s
  | .pauseFrame n q => Sys2Proof.Machine.execPauseFrame n q s
  | .pauseExpire n => Sys2Proof.Machine.execPauseExpire n s
  | .lpiEnter x => Sys2Proof.Machine.execLpiEnter x s
  | .lpiGateWake n => Sys2Proof.Machine.execLpiGateWake n s
  | .plcaBeacon t => Sys2Proof.Machine.execPlcaBeacon t s
  | .plcaFallback t => Sys2Proof.Machine.execPlcaFallback t s
  | .plcaOpportunityTimeout t => Sys2Proof.Machine.execPlcaOpportunityTimeout t s
  | .t1sThresholdStep t rise => Sys2Proof.Machine.execT1sThresholdStep t rise s
  | .t1sPhyFault x => Sys2Proof.Machine.execT1sPhyFault x s
  | .l1208Read p frag => Sys2Proof.Machine.execL1208Read p frag s
  | .canFrameReceive n f => Sys2Proof.Machine.execCanFrameReceive n f s
  | .canArm n b => Sys2Proof.Machine.execCanArm n b s
  | .canArbitration n tdcv => Sys2Proof.Machine.execCanArbitration n tdcv s
  | .canTxComplete n sec ns sof => Sys2Proof.Machine.execCanTxComplete n sec ns sof s
  | .canError n kind tx inc => Sys2Proof.Machine.execCanError n kind tx inc s
  | .canTxcancel n b => Sys2Proof.Machine.execCanTxcancel n b s
  | .canBufferLock r n b => Sys2Proof.Machine.execCanBufferLock r n b s
  | .canBufferRelease r n b => Sys2Proof.Machine.execCanBufferRelease r n b s
  | .canLockTimeout n b => Sys2Proof.Machine.execCanLockTimeout n b s
  | .canDetectWindow n => Sys2Proof.Machine.execCanDetectWindow n s
  | .canRecoveryDone n => Sys2Proof.Machine.execCanRecoveryDone n s
  | .ttRefSend n => Sys2Proof.Machine.execTtRefSend n s
  | .ttBackupTimeout n => Sys2Proof.Machine.execTtBackupTimeout n s
  | .ttTxTrigger n b hit => Sys2Proof.Machine.execTtTxTrigger n b hit s
  | .shrewBr e x o => Sys2Proof.Machine.execShrewBr e x o s
  | .wait e x o => Sys2Proof.Machine.execWait e x o s
  | .set e x o => Sys2Proof.Machine.execSet e x o s
  | .ldc e x o => Sys2Proof.Machine.execLdc e x o s
  | .out e x o => Sys2Proof.Machine.execOut e x o s
  | .shIn e x o => Sys2Proof.Machine.execShIn e x o s
  | .shiftPush e x o => Sys2Proof.Machine.execShiftPush e x o s
  | .shiftPull e x o => Sys2Proof.Machine.execShiftPull e x o s
  | .shiftClr e x o => Sys2Proof.Machine.execShiftClr e x o s
  | .shrewMov e x o => Sys2Proof.Machine.execShrewMov e x o s
  | .loop e x o => Sys2Proof.Machine.execLoop e x o s
  | .flag e x o => Sys2Proof.Machine.execFlag e x o s
  | .qstep e x o => Sys2Proof.Machine.execQstep e x o s
  | .axp e x o => Sys2Proof.Machine.execAxp e x o s
  | .halt e x o => Sys2Proof.Machine.execHalt e x o s
  | .rxLatchPass e => Sys2Proof.Machine.execRxLatchPass e s
  | .txLatchTake e => Sys2Proof.Machine.execTxLatchTake e s
  | .shrTxf e v => Sys2Proof.Machine.execShrTxf e v s
  | .shrRxf e => Sys2Proof.Machine.execShrRxf e s
  | .flushTxf e => Sys2Proof.Machine.execFlushTxf e s
  | .flushRxf e => Sys2Proof.Machine.execFlushRxf e s
  | .shrStartSet m => Sys2Proof.Machine.execShrStartSet m s
  | .shrStop m => Sys2Proof.Machine.execShrStop m s
  | .shrSwap m => Sys2Proof.Machine.execShrSwap m s
  | .swapAtSafePoint e => Sys2Proof.Machine.execSwapAtSafePoint e s
  | .shrFswap m => Sys2Proof.Machine.execShrFswap m s
  | .shrClkRestart m => Sys2Proof.Machine.execShrClkRestart m s
  | .shrFlagsSet v => Sys2Proof.Machine.execShrFlagsSet v s
  | .shrFlagsClr v => Sys2Proof.Machine.execShrFlagsClr v s
  | .shrIrqSet e v => Sys2Proof.Machine.execShrIrqSet e v s
  | .shrPmData r e wr => Sys2Proof.Machine.execShrPmData r e wr s
  | .bankMismatch k v33 => Sys2Proof.Machine.execBankMismatch k v33 s
  | .phasePass j cut => Sys2Proof.Machine.execPhasePass j cut s
  | .framePass j => Sys2Proof.Machine.execFramePass j s
  | .remotePollDue r => Sys2Proof.Machine.execRemotePollDue r s
  | .pollDone j => Sys2Proof.Machine.execPollDone j s
  | .writeDone j => Sys2Proof.Machine.execWriteDone j s
  | .gwRack r int => Sys2Proof.Machine.execGwRack r int s
  | .gwHwqPush tag => Sys2Proof.Machine.execGwHwqPush tag s
  | .gwCntAdd sel n => Sys2Proof.Machine.execGwCntAdd sel n s
  | .gwHandoverDone => Sys2Proof.Machine.execGwHandoverDone s
  | .uscMessage => Sys2Proof.Machine.execUscMessage s
  | .uscDeadline c => Sys2Proof.Machine.execUscDeadline c s
  | .uscBackstop c => Sys2Proof.Machine.execUscBackstop c s
  | .uscSkewClose c => Sys2Proof.Machine.execUscSkewClose c s
  | .owlThreadReport => Sys2Proof.Machine.execOwlThreadReport s
  | .owlThreadTimeout k => Sys2Proof.Machine.execOwlThreadTimeout k s
  | .owlDemand v => Sys2Proof.Machine.execOwlDemand v s
  | .supplyFault m => Sys2Proof.Machine.execSupplyFault m s
  | .clockFault k => Sys2Proof.Machine.execClockFault k s
  | .readbackFault k a b => Sys2Proof.Machine.execReadbackFault k a b s
  | .testPulse k fail => Sys2Proof.Machine.execTestPulse k fail s
  | .owlInternalFault => Sys2Proof.Machine.execOwlInternalFault s
  | .forceLock => Sys2Proof.Machine.execForceLock s
  | .safeAckFall => Sys2Proof.Machine.execSafeAckFall s
  | .safeAckRise clk => Sys2Proof.Machine.execSafeAckRise clk s
  | .ackStuck => Sys2Proof.Machine.execAckStuck s
  | .unlockWindowExpire => Sys2Proof.Machine.execUnlockWindowExpire s
  | .owlTwAck m => Sys2Proof.Machine.execOwlTwAck m s
  | .owlCAck c => Sys2Proof.Machine.execOwlCAck c s
  | .owlAuthReq => Sys2Proof.Machine.execOwlAuthReq s
  | .owlAuthGo => Sys2Proof.Machine.execOwlAuthGo s
  | .logEntryWritten => Sys2Proof.Machine.execLogEntryWritten s
  | .qspiRead a wait n => Sys2Proof.Machine.execQspiRead a wait n s
  | .qspiWrite a bytes => Sys2Proof.Machine.execQspiWrite a bytes s
  | .qspiStatus => Sys2Proof.Machine.execQspiStatus s
  | .lbusHalfwordWrite a be v => Sys2Proof.Machine.execLbusHalfwordWrite a be v s
  | .mbxD2hPend v => Sys2Proof.Machine.execMbxD2hPend v s
  | .mbxD2hMask v => Sys2Proof.Machine.execMbxD2hMask v s
  | .mbxH2dSet v => Sys2Proof.Machine.execMbxH2dSet v s
  | .mbxH2dMask v => Sys2Proof.Machine.execMbxH2dMask v s
  | .mbxPost n v => Sys2Proof.Machine.execMbxPost n v s
  | .mailboxFetch n data => Sys2Proof.Machine.execMailboxFetch n data s
  | .mbxPwePop => Sys2Proof.Machine.execMbxPwePop s
  | .mbxHtxPush v => Sys2Proof.Machine.execMbxHtxPush v s
  | .htxCopy data h => Sys2Proof.Machine.execHtxCopy data h s
  | .mbxHtxcPop => Sys2Proof.Machine.execMbxHtxcPop s
  | .hrxWrite mh => Sys2Proof.Machine.execHrxWrite mh s
  | .hostLinkDown => Sys2Proof.Machine.execHostLinkDown s
  | .hostLinkUp two rate => Sys2Proof.Machine.execHostLinkUp two rate s
  | .d3hotEntry => Sys2Proof.Machine.execD3hotEntry s
  | .d0Return => Sys2Proof.Machine.execD0Return s
  | .hello m => Sys2Proof.Machine.execHello m s
  | .getInfo m => Sys2Proof.Machine.execGetInfo m s
  | .profileSelect m ok => Sys2Proof.Machine.execProfileSelect m ok s
  | .profileSwitch m rdA rdB => Sys2Proof.Machine.execProfileSwitch m rdA rdB s
  | .profileStore m data okA okB => Sys2Proof.Machine.execProfileStore m data okA okB s
  | .apply m => Sys2Proof.Machine.execApply m s
  | .flowOpen m => Sys2Proof.Machine.execFlowOpen m s
  | .flowClose m => Sys2Proof.Machine.execFlowClose m s
  | .leaseOpen m => Sys2Proof.Machine.execLeaseOpen m s
  | .leaseClose m => Sys2Proof.Machine.execLeaseClose m s
  | .counterSnapshotTake m => Sys2Proof.Machine.execCounterSnapshotTake m s
  | .counterSnapshotRelease m => Sys2Proof.Machine.execCounterSnapshotRelease m s
  | .counterSnapshotCancel m => Sys2Proof.Machine.execCounterSnapshotCancel m s
  | .engineLoad m data => Sys2Proof.Machine.execEngineLoad m data s
  | .engineStart m => Sys2Proof.Machine.execEngineStart m s
  | .engineStop m => Sys2Proof.Machine.execEngineStop m s
  | .retire m => Sys2Proof.Machine.execRetire m s
  | .retireClear m => Sys2Proof.Machine.execRetireClear m s
  | .sync m => Sys2Proof.Machine.execSync m s
  | .ringRoleSet m => Sys2Proof.Machine.execRingRoleSet m s
  | .ringRoleResync m => Sys2Proof.Machine.execRingRoleResync m s
  | .ringRoleLeave m => Sys2Proof.Machine.execRingRoleLeave m s
  | .ringRoleEnter m => Sys2Proof.Machine.execRingRoleEnter m s
  | .canRecover m => Sys2Proof.Machine.execCanRecover m s
  | .safeUnlock m => Sys2Proof.Machine.execSafeUnlock m s
  | .passwordChange m => Sys2Proof.Machine.execPasswordChange m s
  | .attest m => Sys2Proof.Machine.execAttest m s
  | .keyEnroll m data took ok => Sys2Proof.Machine.execKeyEnroll m data took ok s
  | .keyRevoke m data took ok => Sys2Proof.Machine.execKeyRevoke m data took ok s
  | .mbist m fails => Sys2Proof.Machine.execMbist m fails s
  | .powerState m => Sys2Proof.Machine.execPowerState m s
  | .commandTimeout m => Sys2Proof.Machine.execCommandTimeout m s
  | .jtagAuth pub sig level => Sys2Proof.Machine.execJtagAuth pub sig level s
  | .denTrng => Sys2Proof.Machine.execDenTrng s
  | .bankHandover b v => Sys2Proof.Machine.execBankHandover b v s
  | .bankClearDone b => Sys2Proof.Machine.execBankClearDone b s
  | .scrubPassEnd done => Sys2Proof.Machine.execScrubPassEnd done s
  | .memUePop => Sys2Proof.Machine.execMemUePop s
  | .memRefusePop => Sys2Proof.Machine.execMemRefusePop s
  | .retirement kind n => Sys2Proof.Machine.execRetirement kind n s
  | .healthLogWrite ok => Sys2Proof.Machine.execHealthLogWrite ok s
  | .eventAggregate => Sys2Proof.Machine.execEventAggregate s
  | .recordClose ix => Sys2Proof.Machine.execRecordClose ix s
  | .evtFlush => Sys2Proof.Machine.execEvtFlush s
  | .evtPop => Sys2Proof.Machine.execEvtPop s
  | .powerFail pin core serdes aon => Sys2Proof.Machine.execPowerFail pin core serdes aon s
  | .pwrRestored => Sys2Proof.Machine.execPwrRestored s
  | .reset cause => Sys2Proof.Machine.execReset cause s
  | .resetRelease b => Sys2Proof.Machine.execResetRelease b s
  | .vddAonRise => Sys2Proof.Machine.execVddAonRise s
  | .referenceLoss k => Sys2Proof.Machine.execReferenceLoss k s
  | .avsStep d slack => Sys2Proof.Machine.execAvsStep d slack s
  | .avsTimeout => Sys2Proof.Machine.execAvsTimeout s
  | .dfsStep c occ => Sys2Proof.Machine.execDfsStep c occ s
  | .ringEqStep p dfe code => Sys2Proof.Machine.execRingEqStep p dfe code s
  | .mainsThresholdStep m mid => Sys2Proof.Machine.execMainsThresholdStep m mid s
  | .thermalCap t0 t1 t2 t3 => Sys2Proof.Machine.execThermalCap t0 t1 t2 t3 s
  | .thermalTrip => Sys2Proof.Machine.execThermalTrip s
  | .placementMigration le => Sys2Proof.Machine.execPlacementMigration le s
  | .cardInsert => Sys2Proof.Machine.execCardInsert s
  | .cardExtract => Sys2Proof.Machine.execCardExtract s
  | .ringSignalDetected p => Sys2Proof.Machine.execRingSignalDetected p s
  | .referenceReturn k => Sys2Proof.Machine.execReferenceReturn k s
  | .supplyReturn k => Sys2Proof.Machine.execSupplyReturn k s
  | .ackStuckClear => Sys2Proof.Machine.execAckStuckClear s
  | .ttSyncLost n => Sys2Proof.Machine.execTtSyncLost n s
  | .reservedControlBlock p ty => Sys2Proof.Machine.execReservedControlBlock p ty s
  | .scrubCorrection t u w ue wr => Sys2Proof.Machine.execScrubCorrection t u w ue wr s
  | .txEnabledGateClosed => Sys2Proof.Machine.execTxEnabledGateClosed s

end Sys2Proof.Machine
end

