-- ==== Sys2Proof/Machine/Tick.lean ====
section
/-!
DEFINITION. What 4 ns do by themselves, one TCLK edge with the two CCLK edges, the SCLK edge and the FCLK cycles that fall
in them: device time, axes, counters of cycles, timers. A step on an empty queue is such a tick. What falls due is an event,
and each event is a command of its own.
Assumption log: 1, 10, 16, 34, 52.
-/
namespace Sys2Proof.Machine

/-- Device time after a TCLK edge (R39, R45): 4 ns and its rate correction, and what the slew absorbs. -/
def State.tickTime (s : State) : State :=
  let most : Int := s.slewMost
  let d : Int := if s.slew < 0 then max (-most) s.slew else min most s.slew
  let x : Int := (s.time.frac : Int) + 2 ^ 50 + sgn 32 (s.get F.timeRate) * 1024 + d
  let t := s.time.addNs (x / 2 ^ 48)
  let s := { s with time := { t with frac := (x % 2 ^ 48).toNat }, slew := s.slew - d }
  s.each (s.axesOf 1) (fun s k => s.put F.phsPxStatReverse k 0)
/-- How far a phase at `x` moves in a tick towards `target`: the counts of the frequency (in mHz) and a pull of at most
half of them (R63), in 10^-12 of a count. -/
def State.mainsMove (s : State) (m x target : Nat) : Nat :=
  let base := s.get F.phsMFreq m * 2 ^ 26
  let e := pllDiff x target
  let pull := min e.natAbs (1 + Config.mainsPull (s.act F.phsMCfgBw m) e % (base / 2))
  if e < 0 then base - pull else base + pull
/-- Whether the PLL of a mains input runs: in ACQUIRE, LOCKED or HOLDOVER and not stopped (R62, R652). -/
def State.pllRuns (s : State) (m : Nat) : Bool := s.get F.phsMStatState m != 0 && s.get F.phsMStatStopped m == 0
/-- A mains PLL in a tick: the phase of the crossings goes on at the frequency, its own follows (R61-R63). -/
def State.tickPll (s : State) (m : Nat) : State :=
  if s.pllRuns m && s.domOn .shrew then
    let l := s.pll m
    let ref := (l.ref + s.get F.phsMFreq m * 2 ^ 26) % pllTurn
    s.setPll m { l with ref := ref, ang := (l.ang + s.mainsMove m l.ang l.ref) % pllTurn }
  else s
/-- A mains axis that runs (R57, R58, R61): 2^24 counts per cycle; where its modulus holds whole cycles, its low 24 bits are
the angle, which it approaches without a step. -/
def State.tickMains (s : State) (k : Nat) : State :=
  let m := s.act F.phsPxCfgSrc k - 2
  let a := s.axis k
  let own := (a.val % 2 ^ 24) * 10 ^ 12 + a.frac
  let ang := (s.pll m).ang
  let move := if s.axMod k % 2 ^ 24 = 0 then s.mainsMove m own ang else s.get F.phsMFreq m * 2 ^ 26
  let x := a.frac + move
  (s.setAxis k { a with frac := x % 10 ^ 12 }).count k ((x / 10 ^ 12 : Nat) : Int)
/-- Axes that follow a mains PLL. -/
def State.tickAxes (s : State) : State :=
  let s := s.each ((List.range 4).filter (fun k =>
    (s.act F.phsPxCfgSrc k == 2 || s.act F.phsPxCfgSrc k == 3) && s.axRun k && s.domOn .shrew)) State.tickMains
  s.each (List.range 2) State.tickPll
/-- The state a row answers, for an event that the clock brings. -/
def State.fired (s : State) (o : Out) : State := match o with | .next t => t | _ => s
/-- A thread fetches the word at its PC from IM and issues it (R89, R134, R135): as the row of its instruction, ILLEGAL for a
reserved opcode. -/
def State.runWord (s : State) (k : Fin 64) : State :=
  match foxDecode k (SMap.get 0 s.im (k.val / 4 * 16384 + (s.th k).pc.toNat)) with
  | some i => s.fired (exec i s)
  | none => s.issue k false true (fun _ => true) (fun _ _ => .go id)
/-- One FCLK cycle of a logical engine that is RUNNING, STOPPING or MIGRATING (R89, R90, R132): its next ready thread issues. -/
def State.foxCycle (s : State) (le : Fin 16) : State :=
  if s.get F.foxStatusState le < 2 then s
  else match s.pick le with
    | some t => if s.runs le then s.runWord ⟨(4 * le.val + t) % 64, Nat.mod_lt _ (by decide)⟩ else s.fclk le
    | none => s.fclk le
/-- The FCLK cycles of an engine in a tick (R602): one at 250 MHz up to four at 1 GHz, none in HOLD (Table 19-2). -/
def State.tickFox (s : State) (le : Fin 16) : State :=
  if s.carried le && s.get F.pwrStateState != 2 then
    s.each (List.range (s.fclkStep (s.phys le / 9) + 1)) (fun s _ => s.foxCycle le)
  else s
/-- The watchdogs of started threads (R115): not of halted or frozen ones. -/
def State.tickWdg (s : State) (k : Nat) : State :=
  let t := s.th k
  if s.on F.foxTWdgEn k && t.started && t.st != .halted && !s.frozen k then
    s.setTh k { t with wdk := t.wdk - 4 }
  else s
/-- Whether the next SCLK edge is a tick of an engine that executes (R393). -/
def State.shDue (s : State) (e : Nat) : Bool := (s.shr e).st.live && decide (s.act F.shrDivRate e ≤ (s.shr e).phase + 256)
/-- The pacer of a Shrew engine and its K pulse on an SCLK edge (R393, R405). -/
def State.tickPace (s : State) (e : Nat) : State :=
  let r := s.shr e
  if !r.st.live then s
  else
    let rate := s.act F.shrDivRate e
    let p := r.phase + 256
    let s := s.updShr e (fun r => { r with phase := if rate ≤ p then p - rate else p })
    if r.kLeft = 1 then s.kEnd e else s.updShr e (fun r => { r with kLeft := r.kLeft - 1 })
/-- The levels of GP0-GP63 (R395, R413): what the device drives, else the level last seen on the pin. -/
def State.gpIn (s : State) : BitVec 64 :=
  let ext := s.get F.shrPinIn0 + 2 ^ 32 * s.get F.shrPinIn1
  BitVec.ofNat 64 (maskOf ((List.range 64).filter (fun p => (s.gpDrive p).getD (hasBit ext p))))
/-- The word at the PC of a Shrew engine, in its active bank (R421). -/
def State.shWordAt (s : State) (e : Nat) : BitVec 16 :=
  let r := s.shr e
  SMap.get 0 s.shrPm (e * 256 + (if r.bank then 128 else 0) + r.pc)
/-- What an engine sees on its tick: an edge when the awaited lane came to the awaited level since the last execution (R400). -/
def State.shSees (s : State) (e : Nat) : ShTick :=
  let w := (s.shWordAt e).toNat
  let x : ShTick := { pins := s.gpIn }
  let now := s.lane x e (bitsAt w 0 4)
  { x with edge := now == hasBit w 11 && (s.shr e).lvl != now }
/-- A Shrew engine executes the word at its PC on its tick (R394, R397): illegal for a reserved encoding (R409). -/
def State.shRun (s : State) (e : Fin 32) : State :=
  let x := s.shSees e
  match shrDecode e x (s.shWordAt e) with
  | some i => s.fired (exec i s)
  | none => s.shTick e x false (fun _ s => s)
/-- One SCLK edge of the Shrew engines: the latches pass their words (R404), pending swaps at safe points (R423), then the
instructions of the engines whose tick it is, by ascending number, FLAG after the others, so that a WAIT sees the flags of
the edge before (R408). -/
def State.tickShr (s : State) : State :=
  if !s.domOn .shrew then s
  else
    let due := (List.finRange 32).filter (fun e => s.shDue e.val)
    let s := s.each (List.finRange 32) (fun s e => (let s := s.fired (execRxLatchPass e s); s.fired (execTxLatchTake e s)))
    let s := s.each (List.range 32) State.tickPace
    let s := s.each ((List.finRange 32).filter (fun e : Fin 32 => !(s.shr e).st.live || due.contains e)) (fun s e => s.fired (execSwapAtSafePoint e s))
    let isFlag := fun (e : Fin 32) => (s.shWordAt e).toNat / 4096 == 9
    (s.each (due.filter (fun e => !isFlag e)) State.shRun).each (due.filter isFlag) State.shRun
/-- When a port's class queues last held a frame (R344). -/
def State.tickPort (s : State) (n : Nat) : State :=
  if s.portIdle n then s else s.updPort n (fun p => { p with busyAt := s.up })
/-- One tick: Owl's time goes on in reset and in OFF (R447); the rest of a device that is out of reset and not in OFF. -/
def State.tick (s : State) : State :=
  if !s.released || s.off then { s with up := s.up + 4 }
  else
    let s := ({ s with up := s.up + 4, leaseNs := s.leaseNs - 4 } : State).tickTime.tickAxes
    let s := (s.incWrap F.swCycle 0 2).each (List.range 8) State.tickPort
    let s := s.each (List.range 2) State.settle
    let s := s.each (List.finRange 16) State.tickFox
    let s := s.each (List.range 64) State.tickWdg
    s.tickShr

end Sys2Proof.Machine
end

