-- ==== Sys2Proof/Safety.lean ====
section
/-!
DEFINITION. What claims call safe: the canonical form of every memory of the state, the lock-out latch that holds every safe
output low, and the frame that a command leaves.
-/
namespace Sys2Proof.Machine

/-- The canonical form of the byte and word memories: numbers strictly rising, no entry equal to what an unlisted word
reads as. -/
def State.memWf (s : State) : Bool :=
  SMap.wf (fun _ v => v == 0) s.cram && SMap.wf (fun _ v => v == 0) s.im && SMap.wf (fun _ v => v == 0) s.dm &&
  SMap.wf (fun _ v => v == 0) s.imgCur && SMap.wf (fun _ v => v == 0) s.imgBack && SMap.wf (fun _ v => v == 0) s.imgLease &&
  SMap.wf (fun _ v => v == 0) s.flowMem && SMap.wf (fun _ v => v == 0) s.hostMem && SMap.wf (fun _ v => v == 0) s.shrPm

/-- The logs and queues of bounded depth hold no more than their depth: 64 posted-write records (R499), 1,024 events on their
way, 64 open records and 256 in the host FIFO (R581-R583), 16 records of uncorrectable errors (R570) and of refused
accesses (R562). -/
def State.logsFit (s : State) : Bool :=
  decide (s.pwe.length ≤ 64) && decide (s.evq.length ≤ 1024) && decide (s.evOpen.length ≤ 64) &&
  decide (s.evFifo.length ≤ 256) && decide (s.ueLog.length ≤ 16) && decide (s.refLog.length ≤ 16)

/-! ## Vocabulary of the statements -/

/-- Command `c` on state `s` answers a next state, and that state has property `P`. -/
def Completes (c : Instr) (s : State) (P : State → Prop) : Prop := ∃ t, exec c s = .next t ∧ P t

/-- Every byte and word of every memory reads the same in `t`. -/
def State.sameMem (s t : State) : Prop :=
  t.cram = s.cram ∧ t.im = s.im ∧ t.dm = s.dm ∧ t.imgCur = s.imgCur ∧ t.imgBack = s.imgBack ∧ t.imgLease = s.imgLease ∧
  t.flowMem = s.flowMem ∧ t.hostMem = s.hostMem ∧ t.shrPm = s.shrPm
/-- Every register field but those of `l` holds the same pending and active values in `t`. -/
def State.sameRegs (s : State) (l : List Field) (t : State) : Prop :=
  ∀ (f : Field) (i : Nat), (∀ g ∈ l, g.id ≠ f.id) → t.get f i = s.get f i ∧ t.act f i = s.act f i
/-- Every other instance of a field holds the same value. -/
def State.sameElse (s : State) (f : Field) (i : Nat) (t : State) : Prop :=
  ∀ j, j % 1048576 ≠ i % 1048576 → t.get f j = s.get f j

/-! ### Fox threads -/

/-- The word of thread `k` issues and its condition holds (R90, R137); its instruction word has no uncorrectable error. -/
def State.foxRuns (s : State) (k : Fin 64) (c : Fin 16) : Prop :=
  s.canIssue k = true ∧ s.marked 4 (s.phys (k.val / 4)) (s.th k).pc.toNat = false ∧ condHolds c (s.th k).fl = true
/-- A word that writes register `d` and the flags has committed: what is left of thread `t` but for the multiplier. -/
def Thread.wrote (t : Thread) (d : Fin 16) (v : W24) (fl : Flags) : Thread := { t.next.setReg d v with fl := fl }
/-- Thread `k` issued one word and became `u`, but for the multiplies in flight of its engine, which went on by one cycle
(R107); no other thread changed, and the engine remembers which thread issued last (R90). -/
def FoxThreads (k : Fin 64) (u : Thread) (s t : State) : Prop :=
  t.th k = u.mulTick ∧ (∀ j, j ≠ k.val → t.th j = if j / 4 = k.val / 4 then (s.th j).mulTick else s.th j) ∧
  (t.eng (k.val / 4)).last.val = k.val % 4
/-- Beside the threads, issuing a word changed FOX_CYCLES of the engine and T_ISSUED of the thread, and no other register. -/
def FoxRegs (k : Fin 64) (s t : State) : Prop :=
  s.sameRegs [F.foxTIssued, F.foxCycles] t ∧ s.sameElse F.foxTIssued k t ∧ s.sameElse F.foxCycles (k.val / 4) t ∧
  t.get F.foxTIssued k = (s.get F.foxTIssued k + 1) % 2 ^ 32 ∧
  t.get F.foxCycles (k.val / 4) = (s.get F.foxCycles (k.val / 4) + 1) % 2 ^ 32
/-- Thread `k` issued one word and became `u`, and nothing but its engine's cycle and the two counters changed: no memory, no
frame, no Shrew engine, no signal. -/
def FoxStep (k : Fin 64) (u : Thread) (s t : State) : Prop :=
  FoxThreads k u s t ∧ FoxRegs k s t ∧ s.sameMem t ∧ t.frames = s.frames ∧ t.shrews = s.shrews ∧ t.sigs = s.sigs

/-- N and Z of a result, C and V as given (R143). -/
def Flags.arith (f : Flags) (d : W24) (c v : Bool) : Flags := { f with n := d.msb, z := decide (d = 0), c := c, v := v }
/-- N and Z of a result; C and V stay (R143). -/
def Flags.logic (f : Flags) (d : W24) : Flags := { f with n := d.msb, z := decide (d = 0) }

/-- What the flag-writing operations of R143 give from operands `a` and `b`: the result and the flags. Sums and differences are
those of 24-bit words; V says that the signed result does not fit, C that an addition carried or a subtraction did not borrow. -/
def aluSpec (op : Alu) (a b : W24) (f : Flags) : W24 × Flags :=
  let cin : Nat := f.c.toNat
  let bor : Nat := (!f.c).toNat
  match op with
  | .add => (a + b, f.arith (a + b) (decide (2 ^ 24 ≤ a.toNat + b.toNat)) (decide ((a + b).toInt ≠ a.toInt + b.toInt)))
  | .adc =>
    let d := a + b + BitVec.ofNat 24 cin
    (d, f.arith d (decide (2 ^ 24 ≤ a.toNat + b.toNat + cin)) (decide (d.toInt ≠ a.toInt + b.toInt + cin)))
  | .sub => (a - b, f.arith (a - b) (decide (b.toNat ≤ a.toNat)) (decide ((a - b).toInt ≠ a.toInt - b.toInt)))
  | .sbc =>
    let d := a - b - BitVec.ofNat 24 bor
    (d, f.arith d (decide (b.toNat + bor ≤ a.toNat)) (decide (d.toInt ≠ a.toInt - b.toInt - bor)))
  | .cmp => (0, f.arith (a - b) (decide (b.toNat ≤ a.toNat)) (decide ((a - b).toInt ≠ a.toInt - b.toInt)))
  | .neg => (-a, f.arith (-a) (decide (a = 0)) (decide ((-a).toInt ≠ -a.toInt)))
  | .and => (a &&& b, f.logic (a &&& b))
  | .tst => (0, f.logic (a &&& b))
  | .or => (a ||| b, f.logic (a ||| b))
  | .xor => (a ^^^ b, f.logic (a ^^^ b))
  | .andn => (a &&& ~~~b, f.logic (a &&& ~~~b))
  | .not => (~~~a, f.logic (~~~a))
  | .min => (if b.slt a then b else a, f.logic (if b.slt a then b else a))
  | .max => (if a.slt b then b else a, f.logic (if a.slt b then b else a))
  | .minu => (if b < a then b else a, f.logic (if b < a then b else a))
  | .maxu => (if a < b then b else a, f.logic (if a < b then b else a))
  | .abs =>
    let d : W24 := if a = 0x800000 then 0x7FFFFF else if a.msb then -a else a
    (d, { f.logic d with v := decide (a = 0x800000) })
  | .clz => (a.clz, { f with n := false, z := decide (a.clz = 0) })

/-- The register form of each operation of R143 that writes flags. -/
def foxRegForm : Alu → Fin 64 → Fin 16 → BitVec 36 → Instr
  | .add => .fxAdd
  | .adc => .fxAdc
  | .sub => .fxSub
  | .sbc => .fxSbc
  | .and => .fxAnd
  | .or => .fxOr
  | .xor => .fxXor
  | .andn => .fxAndn
  | .min => .fxMin
  | .max => .fxMax
  | .minu => .fxMinu
  | .maxu => .fxMaxu
  | .cmp => .fxCmp
  | .tst => .fxTst
  | .neg => .fxNeg
  | .not => .fxNot
  | .abs => .fxAbs
  | .clz => .fxClz
/-- Its operand fields are legal: imm24 is zero, and so is each register field the form does not use (Table 4-1). -/
def foxRegLegal (op : Alu) (o : Opnd) : Bool :=
  match op with
  | .cmp => o.isLR && o.d == 0
  | .tst => o.isLR && o.d == 0
  | .neg => o.isLR && o.b == 0
  | .not => o.isLR && o.b == 0
  | .abs => o.isLR && o.b == 0
  | .clz => o.isLR && o.b == 0
  | _ => o.isLR
/-- The immediate forms of R144. -/
def foxImmForms : List (Alu × (Fin 64 → Fin 16 → BitVec 36 → Instr)) :=
  [(.add, .fxAddi), (.adc, .fxAdci), (.sub, .fxSubi), (.sbc, .fxSbci), (.and, .fxAndi), (.or, .fxOri), (.xor, .fxXori),
   (.andn, .fxAndni), (.min, .fxMini), (.max, .fxMaxi), (.minu, .fxMinui), (.maxu, .fxMaxui), (.cmp, .fxCmpi), (.tst, .fxTsti)]
/-- What a word of operation `op` leaves of thread `t`: the result, unless the operation only compares, and the flags. -/
def Thread.aluDone (t : Thread) (op : Alu) (d : Fin 16) (r : W24 × Flags) : Thread :=
  if op = .cmp ∨ op = .tst then { t.next with fl := r.2 } else t.wrote d r.1 r.2

/-- A shift by `n` below 32 (R146): the shifted word, and C as the last bit shifted out. -/
def shiftSpec (op : Shift) (a : W24) (n : Nat) (f : Flags) : W24 × Flags :=
  match op with
  | .lsl => (a <<< n, { f.logic (a <<< n) with c := if n = 0 then f.c else decide (n ≤ 24) && a.getLsbD (24 - n) })
  | .lsr => (a >>> n, { f.logic (a >>> n) with c := if n = 0 then f.c else a.getLsbD (n - 1) })
  | .asr => (a.sshiftRight n, { f.logic (a.sshiftRight n) with c := if n = 0 then f.c else if n ≤ 23 then a.getLsbD (n - 1) else a.msb })
  | .ror => (a.rotateRight n, { f.logic (a.rotateRight n) with c := if n % 24 = 0 then f.c else (a.rotateRight n).msb })
/-- The register and immediate forms of the shifts. -/
def foxShiftForm : Shift → Fin 64 → Fin 16 → BitVec 36 → Instr
  | .lsl => .fxLsl
  | .lsr => .fxLsr
  | .asr => .fxAsr
  | .ror => .fxRor
def foxShiftImm : Shift → Fin 64 → Fin 16 → BitVec 36 → Instr
  | .lsl => .fxLsli
  | .lsr => .fxLsri
  | .asr => .fxAsri
  | .ror => .fxRori

/-- MX:MH:ML after a multiply (R148), from the accumulator `acc` that every earlier multiply has reached. -/
def mulSpec (op : Mul) (a b : W24) (acc : BitVec 72) : BitVec 72 :=
  match op with
  | .mul => acc.extractLsb' 48 24 ++ (a.signExtend 48 * b.signExtend 48)
  | .mulu => acc.extractLsb' 48 24 ++ (a.setWidth 48 * b.setWidth 48)
  | .macz => a.signExtend 72 * b.signExtend 72
  | .mac => acc + a.signExtend 72 * b.signExtend 72
  | .msu => acc - a.signExtend 72 * b.signExtend 72
  | .macu => acc + a.setWidth 72 * b.setWidth 72
def foxMulForm : Mul → Fin 64 → Fin 16 → BitVec 36 → Instr
  | .mul => .fxMul
  | .mulu => .fxMulu
  | .mac => .fxMac
  | .macu => .fxMacu
  | .msu => .fxMsu
  | .macz => .fxMacz
/-- A word of thread `t` has committed and the thread is blocked by what it issued (R100, R166). -/
def Thread.blocked (t : Thread) (b : Block) : Thread :=
  { t.next with st := .global, blk := b, blkPc := t.pc, blkRpt := t.rpt, blkFh := t.fh }

/-- The events on their way to aggregation after one more event was detected (R581): it joins them while there is room. -/
def State.evAfter (s : State) (cause subj partner detail : Nat) : List Event :=
  if s.evq.length < 1024 then
    s.evq ++ [{ cause := cause, subj := subj, partner := partner, detail := detail, ns := s.time.ns, sec := s.time.sec,
                 at_ := s.up }]
  else s.evq
/-- What the trap of cause `c` leaves of a thread in user mode whose multiplies have landed (R112, R113). -/
def Thread.trapped (t : Thread) (c : Nat) : Thread :=
  { t.landAll with trapc := BitVec.ofNat 24 c, trappc := t.pc, traprc := t.rpt, trapfl := t.fl, tm := true,
                   pc := BitVec.ofNat 14 c, rpt := 0, st := .ready, blk := .none, wdPend := false }
/-- Thread `k` is `u` and no other thread changed. -/
def State.thIs (s : State) (k : Nat) (u : Thread) (t : State) : Prop := t.th k = u ∧ ∀ j, j ≠ k → t.th j = s.th j

/-- The registers whose delivered read pops a queue or shows a window. -/
def popRegs : List Nat :=
  [0x02104, 0x10200, 0x10204, 0x18200, 0x18204, 0x1C304, 0x1C350, 0x20014, 0x20084, 0x2C200, 0x2C314, 0x30110, 0x34120, 0x34130,
   0x38040]

/-- Shrew engine `e` executes an instruction on this tick: it runs, no pending swap comes first, and its word is good (R394, R423). -/
def State.shRuns (s : State) (e : Fin 32) (x : ShTick) : Prop :=
  (s.shr e).st.live = true ∧ s.domOn .shrew = true ∧ ((s.shr e).swapPend && (s.shr e).safe) = false ∧ x.ecc = .ok
/-- The instruction of an engine completes and the word at `pc` follows (R394). -/
def Shrew.go (r : Shrew) (pc : Nat) : Shrew := { r with st := .running, pc := pc % 128, armed := false }
/-- A Shrew instruction left engine `e` as `r`; no other engine, no register but the captured pins, no memory, frame or thread
changed, and, unless `pins`, no pin. -/
def ShrStep (e : Fin 32) (r : Shrew) (pins : Bool) (s t : State) : Prop :=
  t.shr e = r ∧ (∀ j, j ≠ e.val → t.shr j = s.shr j) ∧ s.sameRegs [F.shrPinIn0, F.shrPinIn1] t ∧
  (pins = false → t.gpLvl = s.gpLvl ∧ t.gpOe = s.gpOe) ∧
  t = { s with shrews := t.shrews, live := t.live, gpLvl := t.gpLvl, gpOe := t.gpOe }

/-- The lock-out latch is set (R470). -/
def State.locked (s : State) : Bool := s.get F.owlStatusLocked != 0
/-- Safe output `k` is high (R451). -/
def State.energised (s : State) (k : Nat) : Bool := hasBit (s.get F.owlOutStatEnergised) k
/-- Owl is safe: while the latch is set, no output is high (R470). -/
def State.latchSafe (s : State) : Bool := !s.locked || s.get F.owlOutStatEnergised == 0

/-! ### Registers that go together -/

/-- What raising an event counts (R581). -/
def evRegs : List Field := [F.evtCEvents, F.evtCInLost]
/-- What a refused host write counts, with its doorbell (R499). -/
def pweRegs : List Field := [F.mbxPweTotal, F.mbxPweOvf, F.mbxD2hPend]
/-- The registers that show the safe outputs (R451). -/
def driveRegs : List Field := [F.owlOutStatArmed, F.owlOutStatEnergised, F.owlOutStatRbA, F.owlOutStatRbB]
/-- The registers that a lock-out writes (R470, R476, R657). -/
def lockRegs : List Field :=
  [F.owlCauses, F.owlCausesSeen, F.owlStatusLocked, F.owlStatusCause, F.owlLogSeq, F.owlLogHead] ++ driveRegs
/-- The registers that the end of a command writes (R497), with the count of a refused result write (R562). -/
def cmdRegs : List Field := [F.mbxAckTag, F.mbxAckCode, F.mbxStatState, F.mbxD2hPend, F.memCRefused]

/-- What taking or returning cells of a frame writes: the free count, the use of the shares, and, where the use of a share of an
Ethernet port crosses its watermark, the flow control that answers it (R226-R229, R341). -/
def cellRegs : List Field :=
  [F.swCellsFree, F.swPUseShared, F.swPUseRes, F.swPStatResActive, F.ethCTxPause, F.ethCTxFrames, F.ethCTxOctets,
   F.ethStatusLpiTx, F.ethTwAct, F.ethCLpiTxUs]

/-! ### Owl and the supervisor -/

/-- The latch was set with a cause: every output is low, the cause is active, and CAUSE keeps the first one (R470, R657). -/
def State.lockedBy (s : State) (cause : Nat) (t : State) : Prop :=
  t.locked = true ∧ t.get F.owlOutStatEnergised = 0 ∧ hasBit (t.get F.owlCauses) (cause - 1) = true ∧
  t.get F.owlStatusCause = if s.locked = true then s.get F.owlStatusCause else cause
/-- Connection `c` has had a fault (R467, R468): it is FAILED and counts, its timers stop, its flow shows it, its outputs are
low, and under REACT 0 the latch is set. -/
def State.connFaulted (s : State) (c code : Nat) (t : State) : Prop :=
  t.get F.owlCStatFault c = code ∧ t.get F.owlCStatState c = 3 ∧
  t.get F.owlCcFails c = satAdd F.owlCcFails.w (s.get F.owlCcFails c) 1 ∧
  (t.conn c).dl = none ∧ (t.conn c).back = false ∧ (t.conn c).win = none ∧ t.evq = s.evAfter 0x38 0 c 0 ∧
  (∀ x, s.uscFlow c = some x → t.get F.flowStatUscFail x = 1) ∧
  (s.act F.owlCCfgReact c = 0 → s.lockedBy 1 t) ∧
  (s.on F.owlCCfgEn c = true → ∀ k, k < 4 → hasBit (s.act F.owlCCfgOutmask c) k = true → t.energised k = false) ∧
  s.sameRegs ([F.owlCStatFault, F.owlCStatState, F.owlCcFails, F.owlCcChkFail, F.flowStatUscFail] ++ evRegs ++ lockRegs) t ∧
  t = { s with live := t.live, owl := t.owl, evq := t.evq, taps := t.taps, conns := t.conns, flowMem := t.flowMem }
/-- The commands of Owl but for SAFE_UNLOCK (13_safety.md). -/
def owlCommand : Instr → Bool
  | .uscMessage => true
  | .uscDeadline _ => true
  | .uscBackstop _ => true
  | .uscSkewClose _ => true
  | .owlThreadReport => true
  | .owlThreadTimeout _ => true
  | .owlDemand _ => true
  | .supplyFault _ => true
  | .supplyReturn _ => true
  | .clockFault _ => true
  | .readbackFault .. => true
  | .testPulse .. => true
  | .owlInternalFault => true
  | .forceLock => true
  | .safeAckFall => true
  | .safeAckRise _ => true
  | .ackStuck => true
  | .ackStuckClear => true
  | .unlockWindowExpire => true
  | .owlTwAck _ => true
  | .owlCAck _ => true
  | .owlAuthReq => true
  | .owlAuthGo => true
  | .logEntryWritten => true
  | .txEnabledGateClosed => true
  | _ => false

/-- A device-to-host doorbell bit is set, and nothing but the messages it may send changes beside it (R492, R493). -/
def State.rang (s : State) (b : Nat) (t : State) : Prop := t.get F.mbxD2hPend = setBit (s.get F.mbxD2hPend) b % 2 ^ 32
/-- Mailbox `m` holds a command of opcode `op` that may start and passes every check of R509. -/
def State.cmdRuns (s : State) (m : Nat) (op : Nat) : Prop :=
  (s.mb m).phase = .ready ∧ (s.mb m).op = op ∧ s.cmdMay m (s.mb m) = true ∧ s.cmdDenied m (s.mb m) = false ∧
  (s.mb m).bad = false
/-- The result bytes that go into the block of a command: as many as its layout has and LENGTH holds (R510). -/
def Mbx.out (x : Mbx) (res : List Byte) : List Byte :=
  let n := match cmdRow x.op with | some r => min r.res (x.len - 16) | none => 0
  (res ++ List.replicate n 0).take n
/-- The command of mailbox `m` has ended with a return code (R497); `l` is what was written into its block. -/
def State.acked (s : State) (m code : Nat) (l : List Byte) (t : State) : Prop :=
  let x := s.mb m
  (t.mb m).phase = .idle ∧ t.get F.mbxAckTag m = x.tag % 2 ^ 16 ∧ t.get F.mbxAckCode m = code ∧ t.get F.mbxStatState m = 2 ∧
  hasBit (t.get F.mbxD2hPend) 24 = true ∧
  t.cram = (s.putSpace x.space (x.addr + 16) l).cram ∧ t.hostMem = (s.putSpace x.space (x.addr + 16) l).hostMem
/-- The command of mailbox `m` has ended with a return code and its result bytes, and beside what a command's end writes only
the registers of `fs` changed, of registers, memories, threads and frames. -/
def State.replied (s : State) (m code : Nat) (res : List Byte) (fs : List Field) (t : State) : Prop :=
  s.acked m code ((s.mb m).out res) t ∧ s.sameRegs (cmdRegs ++ fs) t ∧ (∀ n, n ≠ m → t.mb n = s.mb n) ∧ t.imgCur = s.imgCur ∧
  t.im = s.im ∧ t.dm = s.dm ∧ t.flowMem = s.flowMem ∧ t.threads = s.threads ∧ t.frames = s.frames ∧ t.evq = s.evq
/-- The command of mailbox `m` runs on: it waits for what ends it, and no register but those of `fs` changed. -/
def State.waits (s : State) (m : Nat) (fs : List Field) (t : State) : Prop :=
  t.mb m = { s.mb m with phase := .waiting, startAt := s.up } ∧ (∀ n, n ≠ m → t.mb n = s.mb n) ∧ s.sameRegs fs t ∧
  s.sameMem t ∧ t.threads = s.threads ∧ t.frames = s.frames ∧ t.evq = s.evq
/-- The mailbox and the opcode of a row whose opcode is its alone (Table 15-2). -/
def cmdOpcode : Instr → Option (Fin 9 × Nat)
  | .hello m => some (m, 0x01)
  | .getInfo m => some (m, 0x02)
  | .profileSelect m _ => some (m, 0x10)
  | .profileSwitch m _ _ => some (m, 0x11)
  | .profileStore m _ _ _ => some (m, 0x12)
  | .apply m => some (m, 0x20)
  | .flowOpen m => some (m, 0x30)
  | .flowClose m => some (m, 0x31)
  | .leaseOpen m => some (m, 0x40)
  | .leaseClose m => some (m, 0x41)
  | .engineLoad m _ => some (m, 0x60)
  | .engineStart m => some (m, 0x61)
  | .engineStop m => some (m, 0x62)
  | .retire m => some (m, 0x70)
  | .retireClear m => some (m, 0x71)
  | .sync m => some (m, 0x80)
  | .canRecover m => some (m, 0xA0)
  | .safeUnlock m => some (m, 0xB0)
  | .passwordChange m => some (m, 0xB1)
  | .attest m => some (m, 0xC0)
  | .keyEnroll m _ _ _ => some (m, 0xD0)
  | .keyRevoke m _ _ _ => some (m, 0xD1)
  | .mbist m _ => some (m, 0xE0)
  | .powerState m => some (m, 0xF0)
  | _ => none

end Sys2Proof.Machine
end

