-- ==== Sys2Proof/Certificates/Slice0/Obligations.lean ====
section
/-!
DEFINITION. The statements about the LVX-2416, from the numbered rules of spec/.
-/
open Sys2Proof Sys2Proof.Machine

/-- A step takes the command at the front of the queue, first in, first out. -/
def Obligations.StepRunsTheFrontCommand : Prop :=
  ∀ (c : Instr) (q : List Instr) (s : State), s.pending = c :: q → step s = exec c { s with pending := q }

/-- An empty queue (assumption log 1: a step on an empty queue is one TCLK tick, the model's choice): in reset and in OFF only Owl's
4 ns pass; otherwise 4 ns pass (R39), and device time with no rate correction and nothing to slew counts exactly 4 ns. While no
Fox and no Shrew engine runs, no memory changes. -/
def Obligations.EmptyQueueTicks : Prop :=
  ∀ s : State, s.pending = [] →
    ((s.released = false ∨ s.off = true) → step s = .next { s with up := s.up + 4 }) ∧
    (s.released = true → s.off = false → ∃ t, step s = .next t ∧ t.pending = [] ∧
      ((∀ e, (s.shr e).st.live = false) → (∀ le, le < 16 → s.get F.foxStatusState le < 2) →
        t.up = s.up + 4 ∧ s.sameMem t ∧
        (s.get F.timeRate = 0 → s.slew = 0 → s.time.frac < 2 ^ 48 → t.time = s.time.addNs 4 ∧ t.slew = 0)))

/-- Every command completes: `exec` answers a next state for every command and state. The waiting commands stay as they are, the
device's own count of ns never goes back, and the free values and random words used are never used again. -/
def Obligations.EveryCommandCompletes : Prop :=
  ∀ (c : Instr) (s : State), Completes c s (fun t =>
    t.pending = s.pending ∧ s.up ≤ t.up ∧ s.fresh ≤ t.fresh ∧ s.trngN ≤ t.trngN ∧ s.healthSeq ≤ t.healthSeq)

/-- Every step keeps every memory in its canonical form and every log and queue within its depth (R499, R562, R570, R581-R583). -/
def Obligations.EveryStepKeepsTheInvariant : Prop :=
  ∀ s t : State, s.memWf = true → s.logsFit = true → step s = .next t → t.memWf = true ∧ t.logsFit = true

/-- The state after reset (R11, the register tables): it meets the invariants, no command waits, every thread is idle, and registers hold the
values that the tables of spec/ give: cells, staging shares, reserves, RING and ETH settings, the engine map and the spares. -/
def Obligations.ResetMeetsTheInvariant : Prop :=
  (State.reset.memWf = true ∧ State.reset.logsFit = true ∧ State.reset.latchSafe = true ∧ State.reset.pending = []) ∧
  (let s := State.reset
  s.get F.swCellsTotal = 32768 ∧ s.get F.swCellsFree = 32768 ∧ s.get F.swShared = 22174 ∧ s.act F.swMirCap = 256 ∧
  s.act F.swStageHost = 1024 ∧ s.act F.swStageSup = 256 ∧ (∀ le, le < 16 → s.act F.swStage le = 512) ∧
  (∀ p, p < 8 → s.act F.swPRes p = 80) ∧ (∀ p, 8 ≤ p → p < 12 → s.act F.swPRes p = 16) ∧ s.act F.swPRes 12 = 81 ∧
  (∀ le, le < 16 → s.get F.foxMapValid le = 1 ∧ s.get F.foxMapPhys le = if le < 8 then le else le + 1) ∧
  s.get F.foxSpares = 2 ^ 8 + 2 ^ 17 ∧ (∀ n, n < 4 → s.act F.canCfgBank n = 28 + n) ∧
  (∀ p, p < 8 → s.act F.ethMaxlen p = 9600) ∧ (∀ p, p < 4 → s.act F.t1sMaxlen p = 1522) ∧
  s.act F.ringCfgRank = 15 ∧ s.act F.ringCfgNmax = 32 ∧ s.get F.timeSlewCfgRatePpm = 100 ∧
  (∀ k, k < 64 → (s.th k).st = .idle ∧ (s.th k).started = false ∧ (s.th k).fh = 0))

/-- A register write that reaches a register (R11, R13, R16, R21, R35, R88, R130, R620-R622): with all four byte enables it is performed under the
access codes, or waits for the end of the freeze of a migrating engine; where the register's write only holds values, an RW field
takes its bits, a W1C field loses the bits written 1 but for those that the hardware sets on the same edge, every other field and
register stays (a write to an S field of Owl also ends its request for authorisation, R475), and no S field changes its active
value before an APPLY. -/
def Obligations.RegisterWritesTakeTheirBits : Prop :=
  ∀ (q : Req) (o : BitVec 20) (v keep : BitVec 32) (s : State) (r : Row) (i j x : Nat),
    let a := o.toNat / 4 * 4
    let fox : Bool := r.sel == .foxEng || r.sel == .foxThr || r.sel == .foxPhys
    s.busUp q = true → s.domOn (busDom a) = true → s.msixAt a = false → findReg a = some (r, i, j) → s.regInst q.copy r i j = some x →
    (q = .host → fox = true → (s.leOf i).any s.freezing = true →
      Completes (.registerWrite q o ⟨v, keep⟩ 15) s (fun t => t = s.holdWr ((s.leOf i).getD 0) a v.toNat keep.toNat)) ∧
    ((q = .host → fox = true → (s.leOf i).any s.freezing = false) → (r.sel = .foxPhys → s.leOf i ≠ none) →
      Completes (.registerWrite q o ⟨v, keep⟩ 15) s (fun t => t = s.writeReg q.copy r i j x v.toNat keep.toNat) ∧
      (s.trigWr1 r i v.toNat = none → s.trigWr2 q.copy r i j x v.toNat = none →
        s.trigWr3 r i x (if r.off = 0x2C010 then andnN v.toNat keep.toNat else v.toNat) = none →
        Completes (.registerWrite q o ⟨v, keep⟩ 15) s (fun t =>
          (∀ f ∈ r.fields, t.get f x =
            match f.acc with
            | .rw => bitsAt v.toNat f.lo f.w
            | .w1c => andnN (s.get f x) (Nat.land (s.get f x) (bitsAt (andnN v.toNat keep.toNat) f.lo f.w)) % 2 ^ f.w
            | _ => s.get f x) ∧
          (∀ f : Field, f.staged = true → ∀ k, t.act f k = s.act f k) ∧ s.sameRegs (F.owlAuthStatReady :: r.fields) t ∧
          ((r.off < 0x28000 ∨ 0x2C000 ≤ r.off) → s.sameRegs r.fields t ∧ t.owl = s.owl) ∧ s.sameMem t ∧
          t.pwe = s.pwe ∧ t.evq = s.evq ∧ t.threads = s.threads ∧ t.frames = s.frames ∧ t.rdata = s.rdata)))

/-- A delivered read of a register (R11, R12, R35, R272, R484, R489): a pop or a window answers what its row answers; any other register returns the
fields at their places, clears the RC fields unless a counter snapshot holds them, and changes nothing else; an offset without a
register, or in a domain that is off, reads 0. Over LBUS the read of the low halfword is the delivery and fills the hold, from which the
next read of the high halfword is served.
Host accesses that have no effect (R35, R480, R499, R505, R620, R627): nothing while the interface is closed; a write with fewer than
four byte enables outside the reserved ranges of Table 21-1, one to a domain that is off, and one to the registers of a physical engine that carries none (R88) only enter the
posted-write log. -/
def Obligations.RegisterReadsAndFailedAccesses : Prop :=
  (∀ (q : Req) (o : BitVec 20) (s : State), s.busUp q = true →
    let a := o.toNat / 4 * 4
    let lbus : Bool := q == .host && s.get F.mbxHostifSel == 1
    (lbus = true → o.toNat % 4 < 2 → Completes (.readDelivered q o) s (fun t =>
      t = { s.busRead .host a with lbusHold := (s.busRead .host a).word0, lbusLast := some a })) ∧
    (lbus = true → 2 ≤ o.toNat % 4 → s.lbusLast = some a → Completes (.readDelivered q o) s (fun t =>
      t = { s with lbusLast := none, rdata := [s.lbusHold / 65536] })) ∧
    (lbus = true → 2 ≤ o.toNat % 4 → s.lbusLast ≠ some a → Completes (.readDelivered q o) s (fun t =>
      t = { s with lbusLast := none, rdata := [s.peek .host a / 65536] })) ∧
    (lbus = false → Completes (.readDelivered q o) s (fun t => t = s.busRead q a)) ∧
    (lbus = false → s.msixAt a = false → a ≠ 0x2D800 →
      (s.domOn (busDom a) = false → Completes (.readDelivered q o) s (fun t => t = { s with rdata := [0] })) ∧
      (findReg a = none → Completes (.readDelivered q o) s (fun t => t = { s with rdata := [0] })) ∧
      (∀ r i j x, s.domOn (busDom a) = true → findReg a = some (r, i, j) → s.regInst q.copy r i j = some x →
        Completes (.readDelivered q o) s (fun t => t = s.takeReg (holderOf q) q.copy r i j x) ∧
        (popRegs.contains r.off = false → Completes (.readDelivered q o) s (fun t =>
          t.rdata = [r.fields.foldl (fun w f => w + s.fieldRd f x * 2 ^ f.lo) 0] ∧
          (∀ f ∈ r.fields, t.get f x =
            if f.acc = .rc ∧ (f.counter = false ∨ s.get F.imgCsnapStatHeld = 0) then 0 else s.get f x) ∧
          s.sameRegs (r.fields.filter (fun f => f.acc == .rc)) t ∧
          t = { s with pend := t.pend, live := t.live, rdata := t.rdata }))))) ∧
  (∀ (o : BitVec 20) (v keep : BitVec 32) (be : BitVec 4) (s : State),
    let a := o.toNat / 4 * 4
    let logged (cause width : Nat) (t : State) : Prop :=
      t.pwe = (if s.pwe.length < 64 then
          s.pwe ++ [{ tag := s.get F.mbxWtag, cause := cause, target := a, space := 0, width := width, ns := s.time.ns }]
        else s.pwe) ∧
      t.get F.mbxPweTotal = (s.get F.mbxPweTotal + 1) % 2 ^ F.mbxPweTotal.w ∧
      t.get F.mbxPweOvf = (if s.pwe.length < 64 then s.get F.mbxPweOvf else satAdd F.mbxPweOvf.w (s.get F.mbxPweOvf) 1) ∧
      s.sameRegs [F.mbxPweTotal, F.mbxPweOvf, F.mbxD2hPend] t ∧ s.sameMem t ∧ t.threads = s.threads
    (s.busUp .host = false →
      Completes (.registerWrite .host o ⟨v, keep⟩ be) s (fun t => t = s) ∧ Completes (.readDelivered .host o) s (fun t => t = s)) ∧
    (s.busUp .host = true → be ≠ 15 →
      (busReserved a = false → Completes (.registerWrite .host o ⟨v, keep⟩ be) s (logged 5 (popCount be.toNat 4))) ∧
      (busReserved a = true → Completes (.registerWrite .host o ⟨v, keep⟩ be) s (fun t => t = s))) ∧
    (s.busUp .host = true → s.domOn (busDom a) = false → Completes (.registerWrite .host o ⟨v, keep⟩ 15) s (logged 1 4)) ∧
    (∀ r i j, s.busUp .host = true → s.domOn (busDom a) = true → s.msixAt a = false → findReg a = some (r, i, j) →
      (s.regInst Req.host.copy r i j = none ∨ (r.sel = .foxPhys ∧ s.leOf i = none)) →
      Completes (.registerWrite .host o ⟨v, keep⟩ 15) s (logged 8 4)))

/-- LBUS and QSPI (R489, R490): the two halfword writes of a register make one 32-bit write; a read through QSPI returns its wait
bytes, the byte 0xA5 and the register's bytes low byte first, a write of four bytes is one register write. -/
def Obligations.LbusAndQspiReachRegisters : Prop :=
  ∀ (s : State), s.off = false → s.domOn .host = true →
    (∀ (a : BitVec 20) (v w : BitVec 16), s.get F.mbxHostifSel = 1 → 2 * a.toNat < 0x100000 →
      (s.lbusLow = none → a.toNat % 2 = 0 →
        Completes (.lbusHalfwordWrite a 3 v) s (fun t =>
          t = { s with lbusLow := some (2 * a.toNat, v.toNat), lbusLast := none })) ∧
      (a.toNat % 2 = 1 → s.lbusLow = some (2 * a.toNat - 2, w.toNat) →
        Completes (.lbusHalfwordWrite a 3 v) s (fun t =>
          t = State.busWrite { s with lbusLow := none, lbusLast := none } .host (2 * a.toNat - 2)
            (v.toNat * 65536 + w.toNat))) ∧
      (a.toNat % 2 = 1 → s.lbusLow = none →
        Completes (.lbusHalfwordWrite a 3 v) s (fun t =>
          t.get F.mbxPweTotal = (s.get F.mbxPweTotal + 1) % 2 ^ F.mbxPweTotal.w ∧ t.lbusLow = none ∧
          s.sameRegs [F.mbxPweTotal, F.mbxPweOvf, F.mbxD2hPend] t ∧ s.sameMem t))) ∧
    (s.get F.mbxHostifSel = 2 → ∀ (a : BitVec 24), a.toNat % 4 = 0 → a.toNat < 0x100000 →
      (∀ wait, Completes (.qspiRead a wait 4) s (fun t =>
        t.rdata = List.replicate wait 0 ++ 0xA5 :: (toLe (s.peek .host a.toNat) 4).map (·.toNat) ∧
        t = { s.busRead .host a.toNat with rdata := t.rdata })) ∧
      (∀ b0 b1 b2 b3 : Byte, Completes (.qspiWrite a [b0, b1, b2, b3]) s (fun t =>
        t = s.busWrite .host a.toNat (leBytes [b0, b1, b2, b3]))) ∧
      Completes .qspiStatus s (fun t => t = { s with rdata := [s.irqLevel.toNat] }))

/-- ADD, ADC, SUB, SBC, AND, OR, XOR, ANDN, MIN, MAX, MINU, MAXU, CMP, TST, NEG, NOT, ABS, CLZ, MOV: a register form whose word issues
and whose condition holds writes the result and the flags of R143, moves its PC on (R111), and changes nothing else.
ADDI, ADCI, SUBI, SBCI, ANDI, ORI, XORI, ANDNI, MINI, MAXI, MINUI, MAXUI, CMPI, TSTI: an immediate form computes d := a op imm24
with the flags of the register form (R144).
LSL, LSR, ASR, ROR and LSLI, LSRI, ASRI, RORI (R146): the register forms take their count from Wb[4:0], the immediate forms
from the count field, below 24. -/
def Obligations.FoxArithmeticComputes : Prop :=
  (∀ (k : Fin 64) (c : Fin 16) (o : BitVec 36) (s : State), s.foxRuns k c →
    (∀ op : Alu, foxRegLegal op o = true → Completes (foxRegForm op k c o) s
      (FoxStep k ((s.th k).aluDone op (Opnd.d o) (aluSpec op ((s.th k).reg (Opnd.a o)) ((s.th k).reg (Opnd.b o)) (s.th k).fl)) s)) ∧
    (Opnd.isLR o = true → Opnd.b o = 0 → Completes (.fxMov k c o) s
      (FoxStep k ((s.th k).wrote (Opnd.d o) ((s.th k).reg (Opnd.a o)) (s.th k).fl) s))) ∧
  (∀ p ∈ foxImmForms, ∀ (k : Fin 64) (c : Fin 16) (o : BitVec 36) (s : State), s.foxRuns k c → Opnd.isLI o = true →
    (p.1 = .cmp ∨ p.1 = .tst → Opnd.d o = 0) →
    Completes (p.2 k c o) s
      (FoxStep k ((s.th k).aluDone p.1 (Opnd.d o)
        (aluSpec p.1 ((s.th k).reg (Opnd.a o)) (BitVec.ofNat 24 (Opnd.imm o)) (s.th k).fl)) s)) ∧
  (∀ (op : Shift) (k : Fin 64) (c : Fin 16) (o : BitVec 36) (s : State), s.foxRuns k c →
    (Opnd.isLR o = true → Completes (foxShiftForm op k c o) s
      (FoxStep k (let r := shiftSpec op ((s.th k).reg (Opnd.a o)) (((s.th k).reg (Opnd.b o)).toNat % 32) (s.th k).fl
        (s.th k).wrote (Opnd.d o) r.1 r.2) s)) ∧
    (Opnd.b o = 0 → Opnd.imm o < 24 → Completes (foxShiftImm op k c o) s
      (FoxStep k (let r := shiftSpec op ((s.th k).reg (Opnd.a o)) (Opnd.imm o) (s.th k).fl
        (s.th k).wrote (Opnd.d o) r.1 r.2) s)))

/-- MOV, MOVI, BSET, BCLR, BTST, TFC and NOP (R143, R144, R147): what each writes of its thread.
EXA, SCALE and HASH (R149, R184, R181): the accumulator shifted right and clamped to 24 signed bits; d plus the rounded Q12
product, clamped; the 24-bit CRC step.
MOVS from and to a special register (R154, Table 3-2); a write of WDK restarts the watchdog instead (R115), which is
stated for a thread that is not a safety thread. -/
def Obligations.FoxMovesBitsAndHash : Prop :=
  (∀ (k : Fin 64) (c : Fin 16) (o : BitVec 36) (s : State), s.foxRuns k c →
    let t := s.th k
    let a := t.reg (Opnd.a o)
    (Opnd.isLR o = true → Opnd.b o = 0 → Completes (.fxMov k c o) s (FoxStep k (t.wrote (Opnd.d o) a t.fl) s)) ∧
    (Opnd.a o = 0 → Opnd.b o = 0 →
      Completes (.fxMovi k c o) s (FoxStep k (t.wrote (Opnd.d o) (BitVec.ofNat 24 (Opnd.imm o)) t.fl) s)) ∧
    (Opnd.b o = 0 → Opnd.imm o < 24 →
      Completes (.fxBset k c o) s (FoxStep k (t.wrote (Opnd.d o) (a ||| (1#24 <<< Opnd.imm o)) t.fl) s) ∧
      Completes (.fxBclr k c o) s (FoxStep k (t.wrote (Opnd.d o) (a &&& ~~~(1#24 <<< Opnd.imm o)) t.fl) s) ∧
      (Opnd.d o = 0 → Completes (.fxBtst k c o) s
        (FoxStep k { t.next with fl := { t.fl with tf := a.getLsbD (Opnd.imm o), z := !a.getLsbD (Opnd.imm o) } } s))) ∧
    (Opnd.isLQ o = true → Completes (.fxTfc k c o) s
      (FoxStep k { t.next with fl := { t.fl with tf := condHolds (Opnd.b o).val t.fl } } s)) ∧
    (o = 0 → Completes (.fxNop k c o) s (FoxStep k t.next s))) ∧
  (∀ (k : Fin 64) (c : Fin 16) (o : BitVec 36) (s : State), s.foxRuns k c →
    let t := s.th k
    (Opnd.isLA o = true → Opnd.imm o < 48 → Completes (.fxExa k c o) s
      (FoxStep k (let x := clampS 24 (t.acc.sshiftRight (Opnd.imm o)).toInt
        t.wrote (Opnd.d o) (BitVec.ofInt 24 x)
          { t.fl.logic (BitVec.ofInt 24 x) with v := decide (x ≠ (t.acc.sshiftRight (Opnd.imm o)).toInt) }) s)) ∧
    (Opnd.isLR o = true → Completes (.fxScale k c o) s
      (FoxStep k (let r := (t.reg (Opnd.d o)).toInt + ((t.reg (Opnd.a o)).toInt * (t.reg (Opnd.b o)).toInt + 2048) / 4096
        t.wrote (Opnd.d o) (BitVec.ofInt 24 (clampS 24 r))
          { t.fl.logic (BitVec.ofInt 24 (clampS 24 r)) with v := decide (clampS 24 r ≠ r) }) s)) ∧
    (Opnd.isLR o = true → Completes (.fxHash k c o) s
      (FoxStep k (t.wrote (Opnd.d o) (BitVec.ofNat 24 (hashStep (t.reg (Opnd.a o)).toNat (t.reg (Opnd.b o)).toNat)) t.fl) s))) ∧
  (∀ (k : Fin 64) (c : Fin 16) (o : BitVec 36) (s : State), s.foxRuns k c → Opnd.isLP o = true →
    let t := s.th k
    Completes (.fxMovsRead k c o) s (FoxStep k (t.wrote (Opnd.d o) (t.spRead k (Opnd.b o)) t.fl) s) ∧
    (Opnd.b o ≠ 3 → Opnd.b o ≠ 9 → Opnd.b o ≠ 13 →
      Completes (.fxMovsWrite k c o) s (FoxStep k (t.next.spWrite (Opnd.b o) (t.reg (Opnd.d o))) s)) ∧
    (Opnd.b o = 13 → s.get F.foxTTcfgSafety k = 0 → Completes (.fxMovsWrite k c o) s
      (FoxStep k { t.next with wdk := if s.on F.foxTWdgEn k then s.act F.foxTWdgIntervalUs k * 1000 else t.wdk } s)))

/-- MUL, MULU, MAC, MACU, MSU, MACZ (R107, R148): the word puts into flight a multiply that lands two cycles later and makes
MX:MH:ML the sum, difference or product of R148; MX stays under MUL and MULU. -/
def Obligations.FoxMultipliesLand : Prop :=
  ∀ (op : Mul) (k : Fin 64) (c : Fin 16) (o : BitVec 36) (s : State), s.foxRuns k c → Opnd.isLX o = true →
    ∃ m : MulOp, m.left = 3 ∧
      m.land (s.th k).accAfter = mulSpec op ((s.th k).reg (Opnd.a o)) ((s.th k).reg (Opnd.b o)) (s.th k).accAfter ∧
      Completes (foxMulForm op k c o) s (FoxStep k { (s.th k).next with muls := (s.th k).muls ++ [m] } s)

/-- LD, LDI, ST and STI at a DM address below 32,768 (R150): a load reads the word at Wa + off, or at Wa and then adds the
increment to Wa; a store changes that one word of the engine's DM and no other. -/
def Obligations.FoxLoadsAndStores : Prop :=
  ∀ (k : Fin 64) (c : Fin 16) (o : BitVec 36) (s : State), s.foxRuns k c → Opnd.b o = 0 →
    let t := s.th k
    let le := k.val / 4
    let a := t.reg (Opnd.a o)
    let ea := (a.toNat + Opnd.imm o) % 2 ^ 24
    let inc := a + BitVec.ofNat 24 (Opnd.imm o)
    (ea < 32768 → s.marked 4 (s.phys le) (16384 + ea) = false →
      Completes (.fxLd k c o) s (FoxStep k (t.wrote (Opnd.d o) (s.dmGet le ea) t.fl) s)) ∧
    (a.toNat < 32768 → s.marked 4 (s.phys le) (16384 + a.toNat) = false → Opnd.d o ≠ Opnd.a o →
      Completes (.fxLdi k c o) s
        (FoxStep k ((t.wrote (Opnd.d o) (s.dmGet le a.toNat) t.fl).setReg (Opnd.a o) inc) s)) ∧
    (ea < 32768 → Completes (.fxSt k c o) s (fun t' =>
      FoxThreads k t.next s t' ∧ FoxRegs k s t' ∧ s.sameMem { t' with dm := s.dm } ∧ t'.dmGet le ea = t.reg (Opnd.d o) ∧
      ∀ x, x ≠ le * 32768 + ea → SMap.get 0 t'.dm x = SMap.get 0 s.dm x)) ∧
    (a.toNat < 32768 → Completes (.fxSti k c o) s (fun t' =>
      FoxThreads k (t.next.setReg (Opnd.a o) inc) s t' ∧ FoxRegs k s t' ∧ s.sameMem { t' with dm := s.dm } ∧
      t'.dmGet le a.toNat = t.reg (Opnd.d o) ∧
      ∀ x, x ≠ le * 32768 + a.toNat → SMap.get 0 t'.dm x = SMap.get 0 s.dm x))

/-- B, BR, CALL, CALLR, RET, RETT and DBNZ outside a repeat (R155-R157): where the thread goes on, and what CALL saves and RETT
restores.
REP and REP LC (R111, R158): the count is latched; a count of 0 skips the next word. -/
def Obligations.FoxControlFlowAndRepeat : Prop :=
  (∀ (k : Fin 64) (c : Fin 16) (o : BitVec 36) (s : State), s.foxRuns k c → (s.th k).rpt = 0 →
    let t := s.th k
    let x : BitVec 14 := BitVec.ofNat 14 (Opnd.imm o)
    let r : BitVec 14 := (t.reg (Opnd.a o)).setWidth 14
    (Opnd.isLT o = true →
      Completes (.fxB k c o) s (FoxStep k { t with pc := x } s) ∧
      Completes (.fxCall k c o) s (FoxStep k { t with pc := x, lk := t.pc + 1 } s) ∧
      Completes (.fxDbnz k c o) s (FoxStep k
        (if t.lc = 0 then { t with pc := t.pc + 1 }
         else if t.lc = 1 then { t with lc := 0, pc := t.pc + 1 } else { t with lc := t.lc - 1, pc := x }) s)) ∧
    (Opnd.isLJ o = true →
      Completes (.fxBr k c o) s (FoxStep k { t with pc := r } s) ∧
      Completes (.fxCallr k c o) s (FoxStep k { t with pc := r, lk := t.pc + 1 } s)) ∧
    (o = 0 →
      Completes (.fxRet k c o) s (FoxStep k { t with pc := t.lk } s) ∧
      (t.tm = true → Completes (.fxRett k c o) s
        (FoxStep k { t with pc := t.trappc, fl := t.trapfl, rpt := t.traprc, tm := false } s)))) ∧
  (∀ (k : Fin 64) (c : Fin 16) (o : BitVec 36) (s : State), s.foxRuns k c → (s.th k).rpt = 0 →
    let t := s.th k
    let u (n : W24) : Thread := if n = 0 then { t with pc := t.pc + 2 } else { t with pc := t.pc + 1, rpt := n }
    (Opnd.isLC o = true → Completes (.fxRep k c o) s (FoxStep k (u (BitVec.ofNat 24 (Opnd.imm o))) s)) ∧
    (o = 0 → Completes (.fxRepLc k c o) s (FoxStep k (u t.lc) s)))

/-- A word of a thread that issues next traps (R112-R114, R138): ECC_UE on a word with an uncorrectable error, else ILLEGAL on a
reserved field, whatever its condition. The thread goes on at the vector with PC, FLG and the repeat counter saved, or halts
when a trap is already being handled. Stated of ADD.
A word whose condition fails does nothing but move on (R138): any register form of R143. -/
def Obligations.FoxTrapsAndSkips : Prop :=
  (∀ (k : Fin 64) (c : Fin 16) (o : BitVec 36) (s : State), s.canIssue k = true →
    let t := s.th k
    let ue := s.marked 4 (s.phys (k.val / 4)) t.pc.toNat
    (ue = true ∨ Opnd.isLR o = false) →
    Completes (.fxAdd k c o) s (fun t' =>
      let cause : Nat := if ue then 4 else 1
      if t.tm then (t'.th k).st = .halted ∧ t'.sameMem s
      else (t'.th k).pc = BitVec.ofNat 14 cause ∧ (t'.th k).trapc = BitVec.ofNat 24 cause ∧ (t'.th k).trappc = t.pc ∧
        (t'.th k).traprc = t.rpt ∧ (t'.th k).trapfl = t.fl ∧ (t'.th k).tm = true ∧ (t'.th k).rpt = 0 ∧
        (t'.th k).w = t.w ∧ (t'.th k).fl = t.fl ∧ t'.get F.foxTTrapCause k = cause ∧ t'.sameMem s)) ∧
  (∀ (op : Alu) (k : Fin 64) (c : Fin 16) (o : BitVec 36) (s : State), s.canIssue k = true →
    s.marked 4 (s.phys (k.val / 4)) (s.th k).pc.toNat = false → foxRegLegal op o = true → condHolds c.val (s.th k).fl = false →
    Completes (foxRegForm op k c o) s (FoxStep k (s.th k).next s))

/-- GLD, GST, FRD, CRCF, CSUMF, FNEW, SHPUT, SHGET, XLD, XST and FEXT of a frame field: a legal, permitted word commits and blocks
its thread (R100, R151, R165, R166, R172, R179, R180, R182, R191, R194); no memory, frame or other register changes.
Where a Fox access traps instead (R97, R98, R151, R153, R163, R164, R193): ALIGN before PRIV; a Common RAM byte that another
owner holds and a write of the active image are PRIV, and a refused Common RAM access enters the refusal log (R562). -/
def Obligations.FoxBlockingAccesses : Prop :=
  (∀ (k : Fin 64) (c : Fin 16) (o : BitVec 36) (s : State), s.foxRuns k c →
    let t := s.th k
    let w := (Opnd.b o).val
    let d := Opnd.d o
    let a := (t.reg (Opnd.a o)).toNat
    let v := t.reg (Opnd.b o)
    let ea := (a + Opnd.imm o) % 2 ^ 24
    let n := v.toNat % 2 ^ 14
    let sp := FSpec.of (Opnd.imm o)
    let p := (a + sp.bofs) % 2 ^ 24
    (w ≤ 5 → (w = 5 → evenReg d = true) →
      (s.gaTrap k false w ea = none → Completes (.fxGld k c o) s (FoxStep k (t.blocked (.gld d ea w)) s)) ∧
      (s.gaTrap k true w ea = none →
        Completes (.fxGst k c o) s (FoxStep k (t.blocked (.gst ea w (t.srcWidth w d))) s))) ∧
    (w ≤ 9 → (widthPair w = true → evenReg d = true) → s.frameTrap k t ea (widthBytes w) = none →
      Completes (.fxFrd k c o) s (FoxStep k (t.blocked (.frd d ea w)) s)) ∧
    (Opnd.isLR o = true → n ≤ 9600 → s.frameTrap k t a n = none →
      (evenReg d = true →
        Completes (.fxCrcf k c o) s (FoxStep k (t.blocked (.crcf d a n (bitsAt v.toNat 16 2))) s)) ∧
      Completes (.fxCsumf k c o) s (FoxStep k (t.blocked (.csumf d a n)) s)) ∧
    (o = 0 → Completes (.fxFnew k c o) s (FoxStep k (t.blocked .fnew) s)) ∧
    (Opnd.isLI o = true → Opnd.a o = 0 → Opnd.imm o < 32 → s.shBound k (Opnd.imm o) = true →
      Completes (.fxShput k c o) s (FoxStep k (t.blocked (.shput (Opnd.imm o) (t.reg d).toNat)) s) ∧
      Completes (.fxShget k c o) s (FoxStep k (t.blocked (.shget d (Opnd.imm o))) s)) ∧
    (Opnd.isLR o = true → a < 32768 → s.isPriv k = true →
      Completes (.fxXld k c o) s (FoxStep k (t.blocked (.xld d (v.toNat % 16) a)) s) ∧
      Completes (.fxXst k c o) s (FoxStep k (t.blocked (.xst (v.toNat % 16) a (t.reg d).toNat)) s)) ∧
    (Opnd.isLI o = true → sp.src = false → 0 < sp.len → sp.len ≤ 24 →
      s.frameTrap k t (p / 8) ((p + sp.len - 1) / 8 - p / 8 + 1) = none →
      Completes (.fxFext k c o) s (FoxStep k (t.blocked (.fext d (Opnd.imm o) p)) s))) ∧
  (∀ (s : State) (k : Fin 64) (w a : Nat), w ≤ 5 →
    (∀ wr, a % widthAlign w ≠ 0 → s.gaTrap k wr w a = some 3) ∧
    (∀ wr, w ≠ 5 → 0x800000 ≤ a → a < 0x900000 → s.gaTrap k wr w a = some 3) ∧
    (a % widthAlign w = 0 → 0x200000 ≤ a → a < 0x300000 → s.gaTrap k true w a = some 5) ∧
    (a % widthAlign w = 0 → a + 8 ≤ 0x300000 → 0x200000 ≤ a → s.gaTrap k false w a = none) ∧
    (∀ wr, a % widthAlign w = 0 → a % 65536 + widthBytes w ≤ 65536 → a < 0x200000 → s.isPriv k = false →
      s.gaTrap k wr w a = if s.bankOwner a = k.val / 4 then none else some 5) ∧
    (∀ (c : Fin 16) (o : BitVec 36), s.foxRuns k c → (Opnd.b o).val = w → (w = 5 → evenReg (Opnd.d o) = true) →
      ((((s.th k).reg (Opnd.a o)).toNat + Opnd.imm o) % 2 ^ 24) = a → a % widthAlign w = 0 →
      a % 65536 + widthBytes w ≤ 65536 → a < 0x200000 →
      s.isPriv k = false → s.bankOwner a ≠ k.val / 4 → (s.th k).tm = false →
      Completes (.fxGld k c o) s (fun t => (t.th k).pc = 5 ∧ (t.th k).trapc = 5 ∧ (t.th k).trappc = (s.th k).pc ∧
        (t.th k).w = (s.th k).w ∧ t.cram = s.cram ∧
        (s.refLog.length < 16 → t.refLog.length = s.refLog.length + 1))))

/-- FWR and FINS of a frame field (R165, R167, R183) post a write to the thread's buffer of 8; when it is full the thread blocks
until an entry drains. FEXT and FINS of a register pair (R182, R183) read and write the pair as six little-endian bytes.
A pair of two register operations (R103, R104, R136): both halves read before either writes, each under its own condition,
and only slot A writes flags; a pair whose halves name one destination traps PAIR_CONFLICT (R105). -/
def Obligations.FoxFrameWritesAndPairs : Prop :=
  (∀ (k : Fin 64) (c : Fin 16) (o : BitVec 36) (s : State), s.foxRuns k c →
    let t := s.th k
    let w := (Opnd.b o).val
    let d := Opnd.d o
    let a := (t.reg (Opnd.a o)).toNat
    let ea := (a + Opnd.imm o) % 2 ^ 24
    let sp := FSpec.of (Opnd.imm o)
    let p := (a + sp.bofs) % 2 ^ 24
    let l := widthStore w (t.srcWidth w d)
    let six := toLe (t.pair (Opnd.a o)) 6
    let fl := finsFl sp (t.reg d) t.fl
    (w ≤ 9 → (widthPair w = true → evenReg d = true) → s.frameTrap k t ea (widthBytes w) = none →
      Completes (.fxFwr k c o) s (FoxStep k
        (if t.wbuf.length < 8
         then { t.next with wbuf := t.wbuf ++ [{ handle := t.fh.toNat, off := ea, bytes := l, ins := none }] }
         else t.blocked (.fwr ea l)) s)) ∧
    (Opnd.isLI o = true → sp.src = false → 0 < sp.len → sp.len ≤ 24 →
      s.frameTrap k t (p / 8) ((p + sp.len - 1) / 8 - p / 8 + 1) = none →
      Completes (.fxFins k c o) s (FoxStep k
        (if t.wbuf.length < 8
         then { t.next with
                wbuf := t.wbuf ++ [{ handle := t.fh.toNat, off := 0, bytes := [], ins := some (p, Opnd.imm o, (t.reg d).toNat) }],
                fl := fl }
         else { t.blocked (.fins (Opnd.imm o) p (t.reg d).toNat) with fl := fl }) s)) ∧
    (Opnd.isLI o = true → sp.src = true → evenReg (Opnd.a o) = true → sp.bofs + sp.len ≤ 48 → sp.len ≤ 24 →
      Completes (.fxFext k c o) s (FoxStep k
        (let x : W24 := if sp.signed = true ∧ sp.len ≠ 0 then BitVec.ofInt 24 (sgn sp.len (fieldAt sp six sp.bofs))
                        else BitVec.ofNat 24 (fieldAt sp six sp.bofs)
         t.wrote d x (t.fl.logic x)) s) ∧
      Completes (.fxFins k c o) s (FoxStep k
        { (t.next.setPair (Opnd.a o) (leBytes (finsRun sp six sp.bofs (t.reg d).toNat))) with fl := fl } s))) ∧
  (∀ (k : Fin 64) (w : BitVec 47) (s : State), s.canIssue k = true →
    s.marked 4 (s.phys (k.val / 4)) (s.th k).pc.toNat = false →
    let t := s.th k
    let a := bitsAt w.toNat 24 23
    let b := bitsAt w.toNat 1 23
    w.getLsbD 0 = false → 1 ≤ slOp a → slOp a ≤ 0x0C → 1 ≤ slOp b → slOp b ≤ 0x0C → bitsAt a 0 2 = 0 → bitsAt b 0 2 = 0 →
    let ra := aluSpec (aluOfCode (slOp a)) (t.reg (slA a)) (t.reg (slB a)) t.fl
    let rb := aluSpec (aluOfCode (slOp b)) (t.reg (slA b)) (t.reg (slB b)) t.fl
    let ca := shortCond (slCond a) t.fl
    let cb := shortCond (slCond b) t.fl
    (slD a ≠ slD b → Completes (.fxPair k w) s (FoxStep k
      (let u := if ca then t.wrote (slD a) ra.1 ra.2 else t.next
       if cb then u.setReg (slD b) rb.1 else u) s)) ∧
    (slD a = slD b → t.tm = false → Completes (.fxPair k w) s (fun t' =>
      (t'.th k).pc = 2 ∧ (t'.th k).trapc = 2 ∧ (t'.th k).trappc = t.pc ∧ (t'.th k).w = t.w ∧ (t'.th k).tm = true ∧
      s.sameMem t')))

/-- FEXT reads back what FINS wrote (R183): inserting a value and extracting with the same specification gives the value cut to
LEN bits, and every bit of the bytes outside the field is unchanged.
FINFO, DPOP, FREL, FSETL, FRXTS and FADOPT (R169-R173, R187, R196): what each does to the thread and to the frame table, for a
thread whose frame write buffer is empty. -/
def Obligations.FoxFrameOperations : Prop :=
  (∀ (sp : FSpec) (l : List Byte) (p v : Nat), p + sp.len ≤ 8 * l.length →
    fieldAt sp (finsRun sp l p v) p = v % 2 ^ sp.len ∧ (finsRun sp l p v).length = l.length ∧
    ∀ q, q < p ∨ p + sp.len ≤ q → bitPos sp.le (finsRun sp l p v) q = bitPos sp.le l q) ∧
  (∀ (k : Fin 64) (c : Fin 16) (o : BitVec 36) (s : State), s.foxRuns k c → (s.th k).wbuf = [] →
    let t := s.th k
    let le := k.val / 4
    let h := t.fh.toNat
    let v := (t.reg (Opnd.a o)).toNat
    let quiet (t' : State) : Prop := s.sameMem t' ∧ t'.sigs = s.sigs ∧ t'.shrews = s.shrews
    (Opnd.isLI o = true → Opnd.a o = 0 → Opnd.imm o < 9 → Completes (.fxFinfo k c o) s
      (FoxStep k (t.wrote (Opnd.d o)
        (BitVec.ofNat 24 (if s.ownsF k h = true then s.finfo k (s.frame h) (Opnd.imm o) else 0)) t.fl) s)) ∧
    (Opnd.isLR o = true → Opnd.a o = 0 → Opnd.b o = 0 →
      (t.rxq = [] ∨ 256 ≤ (s.owned le).length → Completes (.fxDpop k c o) s
        (FoxStep k (t.wrote (Opnd.d o) 0 { t.fl with z := true }) s)) ∧
      (∀ x q, t.rxq = x :: q → (s.owned le).length < 256 → Completes (.fxDpop k c o) s (fun t' =>
        FoxThreads k { t.wrote (Opnd.d o) (BitVec.ofNat 24 (s.frame x).len) { t.fl with z := false } with
                       fh := BitVec.ofNat 24 x, rxq := q } s t' ∧ FoxRegs k s t' ∧ quiet t' ∧
        t'.frame x = { s.frame x with owner := some le } ∧ ∀ y, y ≠ x → t'.frame y = s.frame y))) ∧
    (o = 0 → s.ownsF k h = true → Completes (.fxFrel k c o) s (fun t' =>
        FoxThreads k { t.next with fh := 0 } s t' ∧ quiet t' ∧ t'.ownsF k h = false ∧
        t'.get F.swCellsFree 0 = (s.get F.swCellsFree + (s.frame h).cells + (s.frame h).mirror.toNat) % 2 ^ F.swCellsFree.w ∧
        ∀ y, y ≠ h → t'.frame y = s.frame y)) ∧
    (Opnd.isLJ o = true →
      (s.frameTrap k t 0 v = none → (s.frame h).lost = true → Completes (.fxFsetl k c o) s (fun t' =>
        FoxThreads k t.next s t' ∧ FoxRegs k s t' ∧ quiet t' ∧ t'.frames = s.frames)) ∧
      (s.frameTrap k t 0 v = none → (s.frame h).lost = false → Completes (.fxFsetl k c o) s (fun t' =>
        FoxThreads k t.next s t' ∧ s.sameRegs ([F.foxTIssued, F.foxCycles] ++ cellRegs) t' ∧ quiet t' ∧ (t'.frame h).len = v ∧
        (t'.frame h).bytes 0 (min v (s.frame h).len) = (s.frame h).bytes 0 (min v (s.frame h).len) ∧ ∀ y, y ≠ h → t'.frame y = s.frame y)) ∧
      (evenReg (Opnd.a o) = true → s.ownsF k h = true → Completes (.fxFrxts k c o) s (fun t' =>
        FoxThreads k t.next s t' ∧ FoxRegs k s t' ∧ quiet t' ∧
        t'.frame h = { s.frame h with
          rxts := let x := t.pair (Opnd.a o)
                  if x = 0 ∧ t.fl.tf = false then none
                  else some { sec := x / 10 ^ 9, ns := x % 10 ^ 9, half := t.fl.tf } } ∧
        ∀ y, y ≠ h → t'.frame y = s.frame y)) ∧
      (s.isPriv k = true → (s.frame v).owner.any (fun e => decide (e < 16)) = true → v ≠ 0 → (s.owned le).length < 256 →
        Completes (.fxFadopt k c o) s (fun t' =>
          FoxThreads k { t.next with fl := { t.fl with z := false }, fh := BitVec.ofNat 24 v } s t' ∧ FoxRegs k s t' ∧
          quiet t' ∧ t'.frame v = { s.frame v with owner := some le } ∧ ∀ y, y ≠ v → t'.frame y = s.frame y))))

/-- DPUSH and DPUSHR (R174-R178) of an owned frame, with room for a completion and an empty write buffer: FH becomes 0; an empty
frame leaves at once with completion status 1, a lost one with 8, one too long for the port it names with 2; any other is handed to
the fabric.
CPOP, CRCR and TSR (R176, R179, R185, R186): what each writes of its thread and its flags. -/
def Obligations.FoxPushesCrcAndTime : Prop :=
  (∀ (k : Fin 64) (c : Fin 16) (o : BitVec 36) (s : State) (imm : Bool), s.foxRuns k c → (s.th k).wbuf = [] →
    (if imm then Opnd.isLI o = true ∧ Opnd.d o = 0 ∧ Opnd.imm o < 4096 ∧ bitsAt (Opnd.imm o) 8 2 = 0
     else Opnd.isLR o = true ∧ Opnd.d o = 0) →
    let t := s.th k
    let i : Instr := if imm then .fxDpush k c o else .fxDpushr k c o
    let spec := if imm then Opnd.imm o else (t.reg (Opnd.b o)).toNat
    let tag := t.reg (Opnd.a o)
    let h := t.fh.toNat
    let f := s.frame h
    let cpl := hasBit spec 11
    s.ownsF k h = true → (cpl = true → t.comps.length + t.outst < 64) →
    (f.len = 0 ∨ f.lost = true → Completes i s (fun t' => t'.frame h = {} ∧ (∀ x, x ≠ h → t'.frame x = s.frame x) ∧
      (t'.th k).fh = 0 ∧ (t'.th k).pc = t.next.pc ∧ (t'.th k).w = t.w ∧ t'.subm = s.subm ∧ s.sameMem t' ∧
      (t'.th k).comps = (if cpl then t.comps ++ [{ tag := tag, status := if f.len = 0 then 1 else 8, egress := 0, txts := none }]
                         else t.comps))) ∧
    (0 < f.len → f.lost = false → (hasBit spec 10 = true ∨ f.len ≤ s.maxFrame (spec % 32)) →
      Completes i s (fun t' =>
        FoxThreads k { t.next with fh := 0, outst := if cpl then t.outst + 1 else t.outst } s t' ∧ FoxRegs k s t' ∧
        s.sameMem t' ∧ t'.sigs = s.sigs ∧ t'.subm = s.subm ++ [{ a := 16 + k.val / 4, b := spec % 2048, h := h }] ∧
        t'.frame h = { f with owner := none, cls := bitsAt spec 5 3, cpl := if cpl then some (k, tag) else none, todo := [],
                              sent := [], drops := [], txts := none,
                              rxAt := s.up + (if hasBit spec 10 then 40 else 8) } ∧
        ∀ x, x ≠ h → t'.frame x = s.frame x)) ∧
    (0 < f.len → f.lost = false → hasBit spec 10 = false → s.maxFrame (spec % 32) < f.len →
      Completes i s (fun t' => t'.frame h = {} ∧ (t'.th k).fh = 0 ∧ t'.subm = s.subm ∧ s.sameMem t' ∧
        (t'.th k).comps = (if cpl then t.comps ++ [{ tag := tag, status := 2, egress := spec % 32, txts := none }] else t.comps) ∧
        t'.get F.swCOversize (spec % 32) = satAdd F.swCOversize.w (s.get F.swCOversize (spec % 32)) 1))) ∧
  (∀ (k : Fin 64) (c : Fin 16) (o : BitVec 36) (s : State), s.foxRuns k c → evenReg (Opnd.d o) = true →
    let t := s.th k
    let d := Opnd.d o
    let e := upper d
    (Opnd.isLR o = true → Opnd.a o = 0 → Opnd.b o = 0 →
      (t.comps = [] → Completes (.fxCpop k c o) s
        (FoxStep k { ((t.next.setReg d 0).setReg e 0) with fl := { t.fl with z := true } } s)) ∧
      (∀ x q, t.comps = x :: q → Completes (.fxCpop k c o) s
        (FoxStep k { ((t.next.setReg d x.tag).setReg e (BitVec.ofNat 24 (x.status + 256 * x.egress))) with
          fl := { t.fl with z := false }, comps := q, lastTx := if x.status = 0 then x.txts else none } s))) ∧
    (Opnd.isLH o = true → Opnd.imm o < 16 → Completes (.fxCrcr k c o) s
      (FoxStep k (if Opnd.imm o % 4 = 0 then t.next
        else t.next.setPair32 d (crcReg (Opnd.imm o / 4) (t.pair32 d)
          ((toBe (t.reg (Opnd.a o)).toNat 3).drop (3 - Opnd.imm o % 4)))) s)) ∧
    (Opnd.isLA o = true →
      (Opnd.imm o % 16 < 5 → Opnd.imm o / 16 < 3 → Completes (.fxTsr k c o) s
        (let v := s.tsrSrc k t (Opnd.imm o % 16)
         FoxStep k { (t.next.setPair d (v.form (Opnd.imm o / 16))) with
           fl := { t.fl with tf := v.half }, hold := if Opnd.imm o % 16 = 0 then v else t.hold } s)) ∧
      (8 ≤ Opnd.imm o → Opnd.imm o < 12 → Completes (.fxTsr k c o) s
        (FoxStep k { (t.next.setPair d (s.axVal (Opnd.imm o - 8))) with fl := { t.fl with tf := false } } s))))

/-- SIGNAL, SIGNALR, DOORBELL, DOORBELLR and TWAKE (R189, R190, R195): the signal is on its way; the device-to-host doorbell bit is
set and no other of its register; the named thread has its phase wake, or the freeze of its engine holds it (R128). Stated for a thread with an empty write buffer.
WAITPH, WAITEV and the event that ends their wait, the arrival of a signal and the expiry of a watchdog (R115, R117-R119,
R128, R188): a pending masked event is returned and cleared at once; without one the thread waits at this word until WAIT_WAKE;
the freeze of a migrating engine holds a signal. -/
def Obligations.FoxSignalsWaitsAndEvents : Prop :=
  (∀ (k : Fin 64) (c : Fin 16) (o : BitVec 36) (s : State), s.foxRuns k c → (s.th k).wbuf = [] →
    let t := s.th k
    let r := (t.reg (Opnd.a o)).toNat
    let sent (v : Nat) (t' : State) : Prop := FoxThreads k t.next s t' ∧ FoxRegs k s t' ∧ s.sameMem t' ∧ t'.frames = s.frames ∧
      t'.sigs = s.sigs ++ [{ dst := 4 * bitsAt v 6 4 + bitsAt v 4 2, sig := bitsAt v 0 3 }]
    let rung (v : Nat) (t' : State) : Prop := FoxThreads k t.next s t' ∧
      s.sameRegs [F.foxTIssued, F.foxCycles, F.mbxD2hPend] t' ∧ s.sameMem t' ∧ t'.frames = s.frames ∧ t'.sigs = s.sigs ∧
      t'.get F.mbxD2hPend = setBit (s.get F.mbxD2hPend) v % 2 ^ 32
    (Opnd.isLJ o = true → Completes (.fxSignalr k c o) s (sent r) ∧ Completes (.fxDoorbellr k c o) s (rung (r % 32))) ∧
    (Opnd.isLI o = true → Opnd.d o = 0 → Opnd.a o = 0 →
      (Opnd.imm o < 1024 → hasBit (Opnd.imm o) 3 = false → Completes (.fxSignal k c o) s (sent (Opnd.imm o))) ∧
      (Opnd.imm o < 32 → Completes (.fxDoorbell k c o) s (rung (Opnd.imm o))) ∧
      (Opnd.imm o < 64 → s.isPriv k = true →
        let j := 4 * (Opnd.imm o % 16) + Opnd.imm o / 16
        (s.freezing (j / 4) = true → Completes (.fxTwake k c o) s (fun t' =>
          (t'.eng (j / 4)).held = (s.eng (j / 4)).held ++ [(j, none)] ∧ FoxThreads k t.next s t' ∧ FoxRegs k s t' ∧ s.sameMem t')) ∧
        (s.freezing (j / 4) = false → j ≠ k.val → (s.th j).started = true → (s.th j).evp.getLsbD 0 = false →
        Completes (.fxTwake k c o) s (fun t' => t'.th k = t.next.mulTick ∧ (t'.th j).evp = (s.th j).evp ||| 1 ∧
          (t'.th j).st = (s.th j).st ∧ (∀ x, x ≠ k.val → x ≠ j → (t'.th x).evp = (s.th x).evp) ∧
          FoxRegs k s t' ∧ s.sameMem t' ∧ t'.frames = s.frames ∧ t'.sigs = s.sigs))))) ∧
  (∀ (k : Fin 64) (s : State),
    let t := s.th k
    let hit := t.evp &&& t.evm
    (∀ (c : Fin 16) (o : BitVec 36), s.foxRuns k c → t.rpt = 0 →
      (o = 0 → Completes (.fxWaitph k c o) s (FoxStep k
        (if t.evp.getLsbD 0 = true then { t.next with evp := t.evp &&& ~~~1 }
         else { t with st := .waitph, blk := .waitph }) s)) ∧
      (Opnd.isLR o = true → Opnd.a o = 0 → Opnd.b o = 0 → Completes (.fxWaitev k c o) s (FoxStep k
        (if hit = 0 then { t with st := .waitev, blk := .waitev (Opnd.d o) }
         else { (t.next.setReg (Opnd.d o) hit) with evp := t.evp &&& ~~~hit }) s))) ∧
    (∀ d, t.blk = .waitev d → s.frozen k = false → hit ≠ 0 → Completes (.waitWake k) s (fun t' =>
      s.thIs k { (t.setReg d hit) with evp := t.evp &&& ~~~hit, pc := t.pc + 1, st := .ready, blk := .none } t' ∧
      t' = { s with threads := t'.threads })) ∧
    (t.blk = .waitph → s.frozen k = false → t.evp.getLsbD 0 = true → Completes (.waitWake k) s (fun t' =>
      s.thIs k { t with evp := t.evp &&& ~~~1, pc := t.pc + 1, st := .ready, blk := .none } t' ∧
      t' = { s with threads := t'.threads })) ∧
    (s.frozen k = true → Completes (.waitWake k) s (fun t' => t' = s)) ∧
    (∀ g, s.sigs.find? (fun x => x.dst == k.val) = some g → s.freezing (k.val / 4) = true →
      Completes (.signalDelivery k) s (fun t' =>
        (t'.eng (k.val / 4)).held = (s.eng (k.val / 4)).held ++ [(k.val, some g.sig)] ∧
        t' = { s with engines := t'.engines, sigs := s.sigs.erase g })) ∧
    (∀ g, s.sigs.find? (fun x => x.dst == k.val) = some g → s.freezing (k.val / 4) = false → s.carried (k.val / 4) = true →
      t.started = true → t.evp.getLsbD (8 + g.sig) = false →
      Completes (.signalDelivery k) s (fun t' =>
        s.thIs k { t with evp := t.evp ||| BitVec.ofNat 24 (2 ^ (8 + g.sig)) } t' ∧
        t' = { s with threads := t'.threads, sigs := s.sigs.erase g })) ∧
    (∀ g, s.sigs.find? (fun x => x.dst == k.val) = some g → s.freezing (k.val / 4) = false →
      (s.carried (k.val / 4) = false ∨ t.started = false ∨ t.evp.getLsbD (8 + g.sig) = true) →
      Completes (.signalDelivery k) s (fun t' =>
        t'.get F.foxTSigOvr k = satAdd F.foxTSigOvr.w (s.get F.foxTSigOvr k) 1 ∧ s.sameRegs [F.foxTSigOvr] t' ∧
        t' = { s with pend := t'.pend, live := t'.live, sigs := s.sigs.erase g })) ∧
    (t.started = true → t.st ≠ .halted → s.on F.foxTWdgEn k = true → t.wdk = 0 → s.frozen k = false →
      let w : Thread := { t with wdk := s.act F.foxTWdgIntervalUs k * 1000 }
      (t.blk.access = false → t.tm = false → Completes (.foxWatchdogExpiry k) s (fun t' =>
        s.thIs k (w.trapped 6) t' ∧ t'.evq = s.evAfter 0x02 k 0 0 ∧ s.sameMem t' ∧ t'.frames = s.frames ∧
        t'.get F.foxTTrapCause k = 6 ∧ t'.get F.foxTTrapPc k = t.pc.toNat ∧
        (s.get F.foxTTcfgSafety k = 0 → t'.owlRep = s.owlRep))) ∧
      (t.blk.access = true → Completes (.foxWatchdogExpiry k) s (fun t' =>
        s.thIs k { w with wdPend := true } t' ∧ t'.evq = s.evAfter 0x02 k 0 0 ∧ s.sameMem t' ∧ t'.frames = s.frames))))

/-- A blocked access completes (R166, R168, R172, R191, R194): the thread is ready again with what it read; SHPUT and SHGET move one
word and set TF when the FIFO allows; XLD and XST reach the DM of a
logical engine outside its freeze, a domain that is off reading 0 (R35); FNEW owns a new empty frame or sets Z; an uncorrectable error
traps ECC_UE at the word. Stated for a thread without a waiting watchdog.
A blocked global access to Common RAM completes (R97, R151, R556, R559): GLD writes its register from the little-endian bytes,
GST writes exactly those bytes. Stated for banks that are not clearing and whose owner has not changed meanwhile.
A posted frame write drains (R167), a migration ends (R124, R127, Table 3-8) and a stopping engine is stopped (R123): the frame
bytes; the new physical engine of the logical engine, once its freeze has come and its threads are at safe points; LOADED with idle
threads that own no frame, the end of an ENGINE_STOP that waits for it (R518), and the next step of a profile switch. -/
def Obligations.FoxAccessesAndEngineEvents : Prop :=
  (∀ (k : Fin 64) (h : BitVec 24) (bank : Fin 34) (word : BitVec 13) (s : State),
    let t := s.th k
    let r : Thread := { t.landAll with st := .ready, blk := .none }
    let f := t.blkFh.toNat
    t.wdPend = false → t.wbuf = [] → t.defer = none →
    (∀ d a w, t.blk = .frd d a w → Completes (.frameAccessComplete k h .ok bank word) s (fun t' =>
      s.thIs k (r.setWidth w d (widthValue w (s.frameBytes f a (widthBytes w)))) t' ∧ t' = { s with threads := t'.threads })) ∧
    (∀ d a n sel, t.blk = .crcf d a n sel → Completes (.frameAccessComplete k h .ok bank word) s (fun t' =>
      s.thIs k (r.setPair32 d (crcReg sel (t.pair32 d) (s.frameBytes f a n))) t' ∧ t' = { s with threads := t'.threads })) ∧
    (∀ d a n, t.blk = .csumf d a n → Completes (.frameAccessComplete k h .ok bank word) s (fun t' =>
      s.thIs k (r.setReg d (BitVec.ofNat 24 (csum ((t.reg d).toNat % 65536) (s.frameBytes f a n)))) t' ∧
      t' = { s with threads := t'.threads })) ∧
    (∀ d le a, t.blk = .xld d le a → s.freezing le = true →
      Completes (.frameAccessComplete k h .ok bank word) s (fun t' => t' = s)) ∧
    (∀ d le a, t.blk = .xld d le a → s.freezing le = false → (s.carried le = false ∨ s.domOn (foxDom (s.phys le)) = false) →
      Completes (.frameAccessComplete k h .ok bank word) s (fun t' =>
        s.thIs k (r.setReg d 0) t' ∧ t' = { s with threads := t'.threads })) ∧
    (∀ d le a, t.blk = .xld d le a → s.freezing le = false → s.carried le = true → s.domOn (foxDom (s.phys le)) = true →
      s.marked 4 (s.phys le) (16384 + a) = false →
      Completes (.frameAccessComplete k h .ok bank word) s (fun t' =>
        s.thIs k (r.setReg d (s.dmGet le a)) t' ∧ t' = { s with threads := t'.threads })) ∧
    (∀ le a v, t.blk = .xst le a v → s.freezing le = false → s.carried le = true → s.domOn (foxDom (s.phys le)) = true →
      Completes (.frameAccessComplete k h .ok bank word) s (fun t' =>
        s.thIs k r t' ∧ t'.dmGet le a = BitVec.ofNat 24 v ∧ s.sameMem { t' with dm := s.dm } ∧
        (∀ x, x ≠ le * 32768 + a → SMap.get 0 t'.dm x = SMap.get 0 s.dm x) ∧ s.sameRegs [] t')) ∧
    (∀ e v, t.blk = .shput e v → s.shOn = true → Completes (.frameAccessComplete k h .ok bank word) s (fun t' =>
      let room := decide ((s.shr e).txf.length < 8)
      s.thIs k { r with fl := { t.fl with tf := room } } t' ∧
      t'.shr e = { s.shr e with txf := if room then (s.shr e).txf ++ [BitVec.ofNat 24 v] else (s.shr e).txf } ∧
      (∀ x, x ≠ e → t'.shr x = s.shr x) ∧ t' = { s with threads := t'.threads, shrews := t'.shrews })) ∧
    (∀ d e, t.blk = .shget d e → s.shOn = true → Completes (.frameAccessComplete k h .ok bank word) s (fun t' =>
      s.thIs k { (r.setReg d ((s.shr e).rxf.headD 0)) with fl := { t.fl with tf := !(s.shr e).rxf.isEmpty } } t' ∧
      t'.shr e = { s.shr e with rxf := (s.shr e).rxf.tail } ∧
      (∀ x, x ≠ e → t'.shr x = s.shr x) ∧ t' = { s with threads := t'.threads, shrews := t'.shrews })) ∧
    (t.blk = .fnew →
      (s.stageCap (k.val / 4) ≤ s.stageUse (k.val / 4) ∨ 256 ≤ (s.owned (k.val / 4)).length →
        Completes (.frameAccessComplete k h .ok bank word) s (fun t' =>
          s.thIs k { r with fl := { t.fl with z := true } } t' ∧ t' = { s with threads := t'.threads })) ∧
      (s.stageUse (k.val / 4) < s.stageCap (k.val / 4) → (s.owned (k.val / 4)).length < 256 → h.toNat ≠ 0 →
        (∀ x ∈ s.frames, x.1 ≠ h.toNat) → Completes (.frameAccessComplete k h .ok bank word) s (fun t' =>
          s.thIs k { r with fl := { t.fl with z := false }, fh := h } t' ∧ (t'.frame h.toNat).len = 0 ∧
          (t'.frame h.toNat).owner = some (k.val / 4) ∧ (∀ x, x ≠ h.toNat → t'.frame x = s.frame x) ∧
          t'.stageUse (k.val / 4) = s.stageUse (k.val / 4) + 1 ∧ s.sameRegs [F.swCellsFree] t' ∧ s.sameMem t'))) ∧
    (∀ d a w, t.blk = .frd d a w → t.tm = false → t.blkRpt = 0 →
      Completes (.frameAccessComplete k h .uncorrectable bank word) s (fun t' =>
        (t'.th k).pc = 4 ∧ (t'.th k).trapc = 4 ∧ (t'.th k).trappc = t.blkPc ∧ (t'.th k).w = t.w ∧ (t'.th k).st = .ready))) ∧
  (∀ (k : Fin 64) (slot : Fin 3) (s : State),
    let t := s.th k
    let r : Thread := { t.landAll with st := .ready, blk := .none }
    t.wdPend = false →
    (∀ d a w, t.blk = .gld d a w → a + widthBytes w ≤ 0x200000 → s.gaWaits a (widthBytes w) = false →
      s.gaLate k false a (widthBytes w) = false → s.gaMarked a (widthBytes w) = false →
      Completes (.globalAccessComplete k .ok slot) s (fun t' =>
        s.thIs k (r.setWidth w d (widthValue w ((List.range (widthBytes w)).map (fun j => SMap.get 0 s.cram (a + j))))) t' ∧
        s.sameMem { t' with cram := s.cram } ∧ t'.frames = s.frames ∧
        ((∀ n, n < 4 → s.canMode n = 0 ∨ s.act F.canCfgBank n ≠ a / 65536) → t'.cram = s.cram))) ∧
    (∀ a w v, t.blk = .gst a w v → a + widthBytes w ≤ 0x200000 → s.gaWaits a (widthBytes w) = false →
      s.gaLate k true a (widthBytes w) = false →
      Completes (.globalAccessComplete k .ok slot) s (fun t' =>
        s.thIs k r t' ∧ s.sameMem { t' with cram := s.cram } ∧ s.sameRegs [] t' ∧ t'.frames = s.frames ∧
        (∀ j, j < widthBytes w → SMap.get 0 t'.cram (a + j) = (widthStore w v).getD j 0) ∧
        ∀ x, x < a ∨ a + widthBytes w ≤ x → SMap.get 0 t'.cram x = SMap.get 0 s.cram x))) ∧
  ((∀ (k : Fin 64) (s : State) (w : FWrite) (q : List FWrite), (s.th k).wbuf = w :: q → (s.th k).blk = .none → w.ins = none →
    (s.frame w.handle).lost = false →
    Completes (.frameWriteDrain k) s (fun t =>
      s.thIs k { s.th k with wbuf := q } t ∧ s.sameMem t ∧ s.sameRegs cellRegs t ∧
      (t.frame w.handle).data = SMap.fill 0 (s.frame w.handle).data w.off w.bytes ∧
      (t.frame w.handle).len = (if w.bytes = [] then (s.frame w.handle).len
                                else max (s.frame w.handle).len (w.off + w.bytes.length)) ∧
      ∀ x, x ≠ w.handle → t.frame x = s.frame x)) ∧
  (∀ (le : Fin 16) (s : State) (x : Nat), (s.eng le).mig = some x → x < 32 → s.freezing le = true → s.safePoint le = true →
    (s.eng le).heldWr = [] → (s.eng le).held = [] → (s.eng le).migRetire = false →
    Completes (.migrationEnd le) s (fun t =>
      t.get F.foxMapPhys le = x ∧ t.get F.foxSpares = setBit (s.get F.foxSpares) (s.phys le) % 2 ^ F.foxSpares.w ∧
      (t.eng le).mig = none ∧ t.get F.foxStatusState le = (s.eng le).was % 2 ^ F.foxStatusState.w ∧
      t.evq = s.evAfter 0x05 le 0 x ∧ s.sameMem t ∧ ((∀ j, j / 4 = le.val → (s.th j).wbuf = []) → t.frames = s.frames) ∧
      ∀ j, (t.th j).w = (s.th j).w ∧ (t.th j).pc = (s.th j).pc)) ∧
  (∀ (le : Fin 16) (s : State), (s.freezing le = false ∨ s.safePoint le = false) →
    Completes (.migrationEnd le) s (fun t => t = s)) ∧
  (∀ (le : Fin 16) (s : State), s.get F.foxStatusState le = 3 → s.safePoint le = true →
    Completes (.engineStopped le) s (fun t =>
      t = ((s.engStopped le).endAll 0x62 (fun x => (bitsOf x.acc 16).all (fun e => !(s.engStopped le).active e)) 1
            (fun x => toLe x.acc 2)).switchGo) ∧
    (s.mbx = [] → s.switch = none → Completes (.engineStopped le) s (fun t =>
      t.get F.foxStatusState le = 1 ∧ (∀ j, j / 4 = le.val → (t.th j).st = .idle ∧ (t.th j).blk = .none ∧ (t.th j).comps = []) ∧
      t.owned le = [] ∧ s.sameMem { t with cram := s.cram }))))

/-- LATCH, TIME_STEP_NS, TIME_SET_NS, TIME_SLEW_NS and the end of a slew (R40-R45, R60): under SRC = SOFT device time steps, is set or
gets a slew to absorb; under another source the write only sets SOFT_IGNORED. The last of a slew goes into device time on an edge that
absorbs as much. In OFF nothing is written. -/
def Obligations.TimeSteering : Prop :=
  ∀ (s : State) (v : BitVec 32),
    let soft := s.act F.timeCtrlSrc = 0
    let ignored (t : State) : Prop := t.get F.timeStatusSoftIgnored = 1 ∧ s.sameRegs [F.timeStatusSoftIgnored] t ∧
      t = { s with live := t.live }
    (s.off = true → ∀ i ∈ [Instr.latch, .timeStep v, .timeSet v, .timeSlew v, .slewDone], Completes i s (fun t => t = s)) ∧
    (s.off = false → Completes .latch s (fun t =>
      t.get F.timeLatFrac = s.time.frac / 2 ^ 32 % 2 ^ 16 ∧ t.get F.timeLatNs = s.time.ns % 2 ^ F.timeLatNs.w ∧
      t.get F.timeLatSecLo = s.time.sec % 2 ^ 32 ∧ t.get F.timeLatSecHi = s.time.sec / 2 ^ 32 % 2 ^ F.timeLatSecHi.w ∧
      (∀ k, k < 4 → t.get F.phsPxLatLo k = s.axVal k % 2 ^ 32 ∧
        t.get F.phsPxLatHi k = s.axVal k / 2 ^ 32 % 2 ^ F.phsPxLatHi.w) ∧
      s.sameRegs [F.timeLatFrac, F.timeLatNs, F.timeLatSecLo, F.timeLatSecHi, F.phsPxLatLo, F.phsPxLatHi] t ∧
      t = { s with live := t.live })) ∧
    (s.off = false → soft → Completes (.timeStep v) s (fun t =>
      t.time = s.time.addNs v.toInt ∧ s.sameRegs [F.phsPxStatJump, F.phsPxStatReverse] t ∧
      t = { s with time := t.time, live := t.live, cal := t.cal } ∧
      ∀ k, k < 4 → s.act F.phsPxCfgSrc k = 1 → t.axVal k ≠ s.axVal k →
        t.get F.phsPxStatJump k = 1 ∧ t.get F.phsPxStatReverse k = if v.msb then 1 else 0)) ∧
    (s.off = false → soft → v.toNat % 2 ^ 30 ≤ 999999999 → Completes (.timeSet v) s (fun t =>
      t.time = { sec := s.get F.timeSetSecLo + 2 ^ 32 * s.get F.timeSetSecHi, ns := v.toNat % 2 ^ 30, frac := 0 } ∧
      t.get F.timeStatusValid = 1 ∧ t.get F.timeSetNs = v.toNat % 2 ^ 30 ∧
      s.sameRegs [F.timeSetNs, F.timeStatusValid, F.phsPxStatJump, F.phsPxStatReverse] t ∧
      t = { s with time := t.time, live := t.live, cal := t.cal })) ∧
    (s.off = false → soft → 999999999 < v.toNat % 2 ^ 30 → Completes (.timeSet v) s (fun t =>
      t.get F.timeStatusSetBad = 1 ∧ s.sameRegs [F.timeStatusSetBad] t ∧ t = { s with live := t.live })) ∧
    (s.off = false → soft → Completes (.timeSlew v) s (fun t => t = { s with slew := v.toInt * 2 ^ 48 })) ∧
    (s.off = false → ¬ soft →
      Completes (.timeStep v) s ignored ∧ Completes (.timeSet v) s ignored ∧ Completes (.timeSlew v) s ignored) ∧
    (s.slew = 0 ∨ min 500 (s.get F.timeSlewCfgRatePpm) * 2 ^ 50 / 1000000 < s.slew.natAbs →
      Completes .slewDone s (fun t => t = s)) ∧
    (s.off = false → s.slew ≠ 0 → s.slew.natAbs ≤ min 500 (s.get F.timeSlewCfgRatePpm) * 2 ^ 50 / 1000000 → s.time.frac < 2 ^ 48 →
      0 ≤ ((s.time.lin : Int) * 2 ^ 48 + s.time.frac) + s.slew →
      ((s.time.lin : Int) * 2 ^ 48 + s.time.frac) + s.slew < 2 ^ 96 * 1000000000 → Completes .slewDone s (fun t =>
        t.slew = 0 ∧ ((t.time.lin : Int) * 2 ^ 48 + t.time.frac) = ((s.time.lin : Int) * 2 ^ 48 + s.time.frac) + s.slew ∧
        s.sameRegs [F.phsPxStatReverse] t ∧ t = { s with time := t.time, slew := 0, live := t.live }))

/-- PPS_IN, PPS_OUT and the capture pins (R46-R48, R82, R83): the error towards the nearest second, the rate that the servo sets, and the
lock after 8 good edges; holdover 1.5 s after an edge; the output pulse; the 16 records of a capture pin and the pop of the oldest.
How the servo computes its rate and that the error is shown towards zero are the model's choices (log 32). -/
def Obligations.PpsAndCapturePins : Prop :=
  ∀ (s : State),
    (∀ (fall : Bool) (sub : Fin 8), s.off = false → s.ppsSteers = true → fall = s.on F.timeCtrlPpsInEdge →
      let err := s.time.ppsErr sub
      let good := if err.natAbs < 100 * 2 ^ 48 then s.ppsGood + 1 else 0
      let rate := satRate (Config.ppsServo (s.act F.timePpsCfgInTc) (sgn 32 (s.get F.timeRate)) err).toNat
      Completes (.ppsInEdge fall sub) s (fun t =>
        t.get F.timePpsErr = wrapI 32 (err.tdiv (2 ^ 48)) ∧ t.ppsGood = good ∧ t.get F.timeRate = rate ∧
        t.get F.ringRate = (if s.act F.timeCtrlSrc = 1 then rate else s.get F.ringRate) ∧
        (8 ≤ good → t.srcLock = 1 ∧ t.get F.timeStatusValid = 1) ∧ (good < 8 → t.srcLock = s.srcLock) ∧
        s.sameRegs [F.timePpsErr, F.timeRate, F.ringRate, F.timeStatusValid] t ∧
        t = { s.tmStart tmPps with live := t.live, ppsGood := t.ppsGood, srcLock := t.srcLock })) ∧
    (∀ (fall : Bool) (sub : Fin 8), s.off = true ∨ s.ppsSteers = false ∨ fall ≠ s.on F.timeCtrlPpsInEdge →
      Completes (.ppsInEdge fall sub) s (fun t => t = s)) ∧
    (s.ppsSteers = true → s.tmPast tmPps 1500000000 = true →
      (s.srcLock = 1 → Completes .ppsHoldover s (fun t =>
        t.get F.timeStatusSrcLost = 1 ∧ s.sameRegs [F.timeStatusSrcLost] t ∧
        t = { s with live := t.live, srcLock := 2, ppsGood := 0 })) ∧
      (s.srcLock ≠ 1 → Completes .ppsHoldover s (fun t => t = { s with ppsGood := 0 }))) ∧
    (s.off = false → s.on F.timeCtrlPpsOutEn = true → s.act F.timePpsCfgOutWidthMs ≠ 0 → s.time.ns < 5 →
      Completes .ppsOutStart s (fun t => t = State.tmStart { s with ppsOut := true } tmPpsOut)) ∧
    (s.on F.timeCtrlPpsOutEn = false ∨ s.act F.timePpsCfgOutWidthMs = 0 → Completes .ppsOutStart s (fun t => t = s)) ∧
    (s.tmPast tmPpsOut (min 999 (s.act F.timePpsCfgOutWidthMs) * 1000000) = true →
      Completes .ppsOutEnd s (fun t => t = State.tmStop { s with ppsOut := false } tmPpsOut)) ∧
    (∀ (n : Fin 8) (fall : Bool) (sub : Fin 8), s.domOn .shrew = true → s.axesOf 5 = [] →
      edgeSel (s.act F.timeCapCfgEdge n) fall = true →
      let h := s.time.halves sub
      let k := s.act F.timeCapCfgAxis n
      ((s.captQ n).length < 16 → Completes (.captEdge n ⟨fall, sub⟩) s (fun t =>
        t.captQ n = s.captQ n ++ [{ ns := h / 2 % 1000000000, half := decide (h % 2 = 1), sec8 := h / 2 / 1000000000 % 256,
                                    fall := fall, ax := if s.act F.phsPxCfgSrc k = 1 then h / 2 % s.axMod k else (s.axis k).val }] ∧
        (∀ m, m ≠ n.val → t.captQ m = s.captQ m) ∧ t = { s with capt := t.capt })) ∧
      (16 ≤ (s.captQ n).length → Completes (.captEdge n ⟨fall, sub⟩) s (fun t =>
        t.get F.timeCapStatOvf n = 1 ∧ s.sameRegs [F.timeCapStatOvf] t ∧ t = { s with live := t.live }))) ∧
    (∀ (n : Fin 8) (fall : Bool) (sub : Fin 8) (k : Nat), s.domOn .shrew = true → s.axesOf 5 = [k] → k < 4 →
      s.act F.phsPxCfgSel k = n →
      (match s.act F.phsPxCfgCaptEdge k with | 0 => fall = false | 1 => fall = true | _ => True) →
      edgeSel (s.act F.timeCapCfgEdge n) fall = false → 0 < s.axMod k →
      Completes (.captEdge n ⟨fall, sub⟩) s (fun t => (t.axis k).val = ((s.axis k).val + 1) % s.axMod k ∧
        t.capt = s.capt ∧ s.sameRegs [F.phsPxStatReverse] t)) ∧
    (∀ n : Fin 8,
      (s.domOn .shrew = false ∨ s.captQ n = [] → Completes (.captPop n) s (fun t => t = { s with rdata := [0] })) ∧
      (∀ r q, s.domOn .shrew = true → s.captQ n = r :: q → Completes (.captPop n) s (fun t =>
        t.rdata = [2 ^ 31 + r.half.toNat * 2 ^ 30 + r.ns] ∧ t.captQ n = q ∧ (∀ m, m ≠ n.val → t.captQ m = s.captQ m) ∧
        t.get F.timeCapSecEdge n = r.fall.toNat ∧ t.get F.timeCapSecSec n = r.sec8 % 2 ^ F.timeCapSecSec.w ∧
        t.get F.timeCapAxLo n = r.ax % 2 ^ 32 ∧ t.get F.timeCapAxHi n = r.ax / 2 ^ 32 % 2 ^ F.timeCapAxHi.w ∧
        s.sameRegs [F.timeCapSecEdge, F.timeCapSecSec, F.timeCapAxLo, F.timeCapAxHi] t)))

/-- SOFT axes and the mains PLLs (R58, R60-R63): a write of SET_LO loads a SOFT axis and marks the jump, and is ignored on another; eight
good cycles lock a PLL, whose phase is judged against the crossing plus OFS; two missing cycles are a holdover, which stops the axis
after HOLD_S.
The event calendar (R64-R66, R70, R73, R79): an armed entry whose time has come and whose turn it is fires its action and moves on
by its interval, or disarms without one; a late one is missed, or fires once for all; entries that came due while RUN was 0 are late;
a window open for its longest time closes. -/
def Obligations.AxesPllsAndCalendar : Prop :=
  (∀ (s : State),
    (∀ (k : Fin 4) (v : BitVec 32),
      let x := (v.toNat + 2 ^ 32 * s.get F.phsPxSetHi k) % s.axMod k
      s.off = false → s.domOn .core = true →
      (s.act F.phsPxCfgSrc k = 6 → Completes (.axisSoftSet k v) s (fun t =>
        (t.axis k).val = x ∧ t.get F.phsPxSetLo k = v.toNat ∧
        (x ≠ s.axVal k → t.get F.phsPxStatJump k = 1 ∧ t.get F.phsPxStatReverse k = if x < s.axVal k then 1 else 0) ∧
        (∀ j, j ≠ k.val → t.axis j = s.axis j) ∧ s.sameRegs [F.phsPxSetLo, F.phsPxStatJump, F.phsPxStatReverse] t ∧
        t = { s with live := t.live, axes := t.axes, cal := t.cal })) ∧
      (s.act F.phsPxCfgSrc k ≠ 6 → Completes (.axisSoftSet k v) s (fun t => t = s))) ∧
    (∀ (m : Fin 2) (ns : Fin 4) (half : Bool), s.on F.phsMCfgEn m = true → s.domOn .shrew = true →
      let sub := 2 * ns.val + half.toNat
      let now := 2 * s.up + sub
      let ref := ((-(sgn 24 (s.act F.phsMOfs m)) * 10 ^ 12 - s.get F.phsMFreq m * sub * 2 ^ 23) % (2 ^ 24 * 10 ^ 12)).toNat
      let regs := [F.phsMFreq, F.phsMStatStopped, F.phsMStatState, F.phsPxStatJump, F.phsPxStatReverse]
      ((s.pll m).lastAt = none → Completes (.mainsCrossing m ns half) s (fun t =>
        t.get F.phsMStatState m = (if s.get F.phsMStatState m = 2 then 2 else 1) ∧ t.get F.phsMStatStopped m = 0 ∧
        t.get F.phsMFreq m = s.get F.phsMFreq m ∧ (t.pll m).good = 0 ∧ (t.pll m).lastAt = some now ∧ (t.pll m).ref = ref ∧
        s.sameRegs regs t ∧ s.sameMem t)) ∧
      (∀ at0, (s.pll m).lastAt = some at0 → s.get F.phsMStatState m = 1 →
        let freq := 2 * 10 ^ 12 / (now - at0)
        40000 ≤ freq → freq ≤ 70000 → (pllDiff (s.pll m).ang ref).natAbs < 2 ^ 14 * 10 ^ 12 →
        Completes (.mainsCrossing m ns half) s (fun t =>
          t.get F.phsMFreq m = freq ∧ t.get F.phsMStatStopped m = 0 ∧ (t.pll m).lastAt = some now ∧ (t.pll m).ref = ref ∧
          ((s.pll m).good < 7 → t.get F.phsMStatState m = 1 ∧ (t.pll m).good = (s.pll m).good + 1) ∧
          (7 ≤ (s.pll m).good → t.get F.phsMStatState m = 2) ∧ s.sameRegs regs t ∧ s.sameMem t)) ∧
      (∀ at0, (s.pll m).lastAt = some at0 → s.get F.phsMStatState m = 1 → 2 ^ 14 * 10 ^ 12 ≤ (pllDiff (s.pll m).ang ref).natAbs →
        Completes (.mainsCrossing m ns half) s (fun t =>
          t.get F.phsMStatState m = 1 ∧ (t.pll m).good = 0 ∧ s.sameRegs regs t ∧ s.sameMem t))) ∧
    (∀ m : Fin 2,
      (s.get F.phsMStatState m = 1 ∨ s.get F.phsMStatState m = 2 →
        s.tmPast (tmMains m) (2 * (10 ^ 12 / s.get F.phsMFreq m)) = true → Completes (.mainsHoldover m) s (fun t =>
        t.get F.phsMStatState m = 3 ∧ t.get F.phsMStatLost m = 1 ∧ (t.pll m).good = 0 ∧
        t.get F.phsMStatStopped m = (if s.act F.phsMCfgHoldS m = 0 then 1 else s.get F.phsMStatStopped m) ∧
        s.sameRegs [F.phsMStatState, F.phsMStatLost, F.phsMStatStopped] t)) ∧
      (s.get F.phsMStatState m = 3 → s.tmPast (tmMains m) (s.act F.phsMCfgHoldS m * 1000000000) = true →
        Completes (.mainsStop m) s (fun t =>
          t.get F.phsMStatStopped m = 1 ∧ s.sameRegs [F.phsMStatStopped] t ∧ t = { s with live := t.live })))) ∧
  (∀ (s : State),
    (∀ (e : Fin 512) (same : Bool), s.get F.phsCtrlRun ≠ 0 → s.calActs e = true → s.calTurn e = true →
      let m := s.axMod (s.act F.phsCalCtrlAxis e)
      let p := (s.calE e).p % m
      let iv := s.calIv e
      let c : CalEnt := { s.calE e with p := s.calStep e (s.calN e), late := false, armed := iv != 0 }
      (s.calLate e = false → Completes (.calEntryFire e same) s (fun t => t = (s.setCal e c).calFire e same)) ∧
      (s.calLate e = false → s.act F.phsCalCtrlAction e = 9 → Completes (.calEntryFire e same) s (fun t =>
        (t.calE e).armed = decide (iv ≠ 0) ∧ (t.calE e).late = false ∧
        (iv = 0 → (t.calE e).p = p) ∧
        (iv ≠ 0 → (t.calE e).p = if s.on F.phsCalCtrlDir e = true then (p + m - iv % m) % m else (p + iv) % m) ∧
        t.get F.phsCalFired e = (s.get F.phsCalFired e + 1) % 2 ^ F.phsCalFired.w ∧
        t.get F.mbxD2hPend = setBit (s.get F.mbxD2hPend) (s.act F.phsCalCtrlArg e % 32) % 2 ^ 32 ∧
        s.sameRegs [F.phsCalFired, F.mbxD2hPend] t ∧ (∀ x, x ≠ e.val → t.calE x = s.calE x) ∧ s.sameMem t)) ∧
      (s.calLate e = true → s.act F.phsCalCtrlCatchup e ≠ 0 → Completes (.calEntryFire e same) s (fun t =>
        (t.calE e).late = false ∧ (t.calE e).armed = decide (iv ≠ 0) ∧
        t.get F.phsCalMissed e = satAdd F.phsCalMissed.w (s.get F.phsCalMissed e) (s.calN e) ∧
        s.sameRegs [F.phsCalMissed] t ∧ t = { s with live := t.live, cal := t.cal })) ∧
      (s.calLate e = true → s.act F.phsCalCtrlCatchup e = 0 → Completes (.calEntryFire e same) s (fun t =>
        t = ((s.setCal e c).inc F.phsCalMissed e (s.calN e - 1)).calFire e same))) ∧
    (∀ (e : Fin 512) (same : Bool), s.get F.phsCtrlRun = 0 ∨ s.calActs e = false ∨ s.calTurn e = false →
      Completes (.calEntryFire e same) s (fun t => t = s)) ∧
    (∀ v : Bool, s.off = false → s.domOn .core = true → Completes (.phsRunSet v) s (fun t =>
      t.get F.phsCtrlRun = v.toNat ∧ s.sameRegs [F.phsCtrlRun] t ∧ t = { s with live := t.live, cal := t.cal } ∧
      (∀ e, (t.calE e).armed = (s.calE e).armed ∧ (t.calE e).p = (s.calE e).p) ∧
      (v = true → s.get F.phsCtrlRun = 0 → ∀ e, s.calDue e = true → (t.calE e).late = true))) ∧
    (∀ c : Fin 8, s.window c = true → s.tmPast (tmQw c) (min 1000000 (s.act F.phsQwMax c) * 1000) = true →
      Completes (.qwTimeout c) s (fun t =>
        t.get F.phsQwState = clrBit (s.get F.phsQwState) c % 2 ^ 8 ∧
        t.get F.phsQwTimeout = setBit (s.get F.phsQwTimeout) c % 2 ^ F.phsQwTimeout.w ∧
        s.sameRegs [F.phsQwState, F.phsQwTimeout] t ∧ t = { s with live := t.live })))

/-- IMG_APPLY_CTRL (R275, R277, R281): GO makes the request pending, or shows RESULT 3 while one is pending, 4 for an empty scope, 2
for WHEN = 3; CANCEL withdraws the pending request with RESULT 5 and no active value changes, but not once its commit edge has come;
GO with CANCEL replaces the request, or asks again after it.
The APPLY edge (R17, R276): when a block in scope refuses its pending values, no active value changes, RESULT is 2 and BLOCK the
lowest such scope bit; else RESULT is 1 and, of the blocks that only hold values, every S field in scope becomes active. -/
def Obligations.ApplyIsAllOrNothing : Prop :=
  (∀ (v : BitVec 32) (s : State), s.off = false → s.domOn .core = true →
    let whn := v.toNat % 4
    let k := bitsAt v.toNat 4 2
    let scope := s.get F.imgApplyScope
    let ph := s.get F.imgApplyPhLo + 2 ^ 32 * s.get F.imgApplyPhHi
    let late : Bool := whn == 1 && s.phaseDue k ph
    let asked := [F.imgApplyCtrlAxis, F.imgApplyCtrlWhen, F.imgApplyStatPending, F.imgApplyStatResult, F.imgApplyStatLate]
    let req : ApplyReq := { scope := scope, whn := if late then 0 else whn, axis := k, phase := ph, late := late, mbx := none }
    (s.apply = none → scope ≠ 0 → whn ≠ 3 → Completes (.applyRequest v) s (fun t =>
        t.apply = some req ∧ t.get F.imgApplyStatPending = 1 ∧ t.get F.imgApplyStatResult = 0 ∧
        t.get F.imgApplyStatLate = (if late then 1 else s.get F.imgApplyStatLate) ∧ s.sameRegs asked t ∧
        t = { s with live := t.live, pend := t.pend, apply := t.apply })) ∧
    (∀ n, ((s.apply ≠ none ∧ hasBit v.toNat 30 = false ∧ n = 3) ∨ (s.apply = none ∧ scope = 0 ∧ n = 4) ∨
           (s.apply = none ∧ scope ≠ 0 ∧ whn = 3 ∧ n = 2)) →
      Completes (.applyRequest v) s (fun t => t.get F.imgApplyStatResult = n ∧ s.sameRegs asked t ∧
        t = { s with live := t.live, pend := t.pend })) ∧
    (∀ r, s.apply = some r → r.mbx = none → r.due = false →
      Completes (.applyCancel v) s (fun t =>
        t.apply = none ∧ t.get F.imgApplyStatPending = 0 ∧ t.get F.imgApplyStatResult = 5 ∧ s.sameRegs asked t ∧
        t = { s with live := t.live, pend := t.pend, apply := none }) ∧
      (hasBit v.toNat 30 = true → scope ≠ 0 → whn ≠ 3 → Completes (.applyRequest v) s (fun t =>
        t.apply = some req ∧ t.get F.imgApplyStatPending = 1 ∧ t.get F.imgApplyStatResult = 5 ∧ s.sameRegs asked t ∧
        t = { s with live := t.live, pend := t.pend, apply := t.apply }))) ∧
    (∀ r, s.apply = some r → r.due = true →
      Completes (.applyCancel v) s (fun t => s.sameRegs [F.imgApplyCtrlAxis, F.imgApplyCtrlWhen] t ∧
        t = { s with live := t.live, pend := t.pend }) ∧
      (hasBit v.toNat 30 = true → Completes (.applyRequest v) s (fun t => t.apply = some { r with again := true } ∧
        s.sameRegs [F.imgApplyCtrlAxis, F.imgApplyCtrlWhen] t ∧ t = { s with live := t.live, pend := t.pend, apply := t.apply })))) ∧
  (∀ (s : State) (r : ApplyReq), s.apply = some r → r.mbx = none → r.again = false → s.applyDue r = true →
    (∀ b, s.refuses State.owlBad r.scope = some b → Completes .applyEdge s (fun t =>
      t.actv = s.actv ∧ t.get F.imgApplyStatResult = 2 ∧ t.get F.imgApplyStatBlock = b ∧ t.get F.imgApplyStatPending = 0 ∧
      s.sameRegs [F.imgApplyStatPending, F.imgApplyStatResult, F.imgApplyStatBlock] t ∧
      t = { s with live := t.live, apply := none })) ∧
    (s.refuses State.owlBad r.scope = none → Completes .applyEdge s (fun t =>
      t.get F.imgApplyStatResult = 1 ∧ t.get F.imgApplyStatBlock = 0 ∧
      ((∀ b, hasBit r.scope b = true → b = 3 ∨ b = 5 ∨ b = 15 ∨ b = 16 ∨ b = 17) →
        t.apply = none ∧ s.sameMem t ∧ t.frames = s.frames ∧
        ∀ (f : Field) (i : Nat), f.staged = true →
          t.act f i = if inScope r.scope (f.key i) = true then s.get f i else s.act f i))))

/-- The commit edge (R260, R261, R264, R267, R272): the back image becomes the current one, EPOCH and COMMITS count, further requests
are merged; while a lease is open, no byte of the host's leased view changes; a snapshot that waits for a commit copies every counter
before the edge counts. Stated with no profile switch under way. -/
def Obligations.CommitEdges : Prop :=
  ∀ s : State,
    let snap : Bool := s.get F.imgCsnapStatPending != 0 && s.snapWhn && !s.snapDue
    (s.switch = none → 0 < s.commitReq → Completes .epochCommit s (fun t =>
      (∀ a, SMap.get 0 t.imgCur a = s.backByte a) ∧ (∀ a, t.backByte a = s.backByte a) ∧ t.backBlk = [] ∧ t.commitReq = 0 ∧
      t.get F.imgEpoch = (s.get F.imgEpoch + 1) % 2 ^ F.imgEpoch.w ∧
      (snap = false ∨ s.snapClr = false →
        t.get F.imgCommits = (s.get F.imgCommits + 1) % 2 ^ F.imgCommits.w ∧
        t.get F.imgMerged = satAdd F.imgMerged.w (s.get F.imgMerged) (s.commitReq - 1) ∧
        s.sameRegs [F.imgEpoch, F.imgCommits, F.imgMerged] t) ∧
      (snap = true → t.snapDue = true ∧
        ∀ (f : Field) (i : Nat), f.staged = false → SMap.get (f.reset i) t.held (f.key i) = s.get f i) ∧
      t.cram = s.cram ∧ t.dm = s.dm ∧ t.threads = s.threads ∧
      (s.get F.imgLeaseStatOpen ≠ 0 → ∀ a, t.viewByte a = s.viewByte a) ∧
      (s.get F.imgLeaseStatOpen = 0 → ∀ a, t.viewByte a = s.backByte a))) ∧
    (s.commitReq = 0 → Completes .epochCommit s (fun t => t = s)) ∧
    (s.off = false → s.domOn .core = true → Completes .commitNow s (fun t => t = { s with commitReq := s.commitReq + 1 }))

/-- Leases and counter snapshots (R264-R267, R270-R272): opening and closing a lease, and its expiry when its timer is 0; a snapshot
holds every counter as it stood, shows the held values until RELEASE, and with CLEAR restarts the counters at once. -/
def Obligations.LeasesAndSnapshots : Prop :=
  ∀ s : State,
    (s.off = false → s.domOn .core = true →
      (∀ v : BitVec 32, let n := v.toNat % 2 ^ 14
        (n = 0 → Completes (.imgLeaseOpen v) s (fun t => t.get F.imgLeaseStatZero = 1 ∧ s.sameRegs [F.imgLeaseStatZero] t ∧
          t = { s with live := t.live })) ∧
        (n ≠ 0 → Completes (.imgLeaseOpen v) s (fun t =>
          t.get F.imgLeaseStatOpen = 1 ∧ t.get F.imgLeaseStatEpoch = s.get F.imgEpoch % 2 ^ F.imgLeaseStatEpoch.w ∧
          t.get F.imgLeaseStatExpired = 0 ∧ t.leaseNs = min n 10000 * 1000000 ∧ (∀ a, t.viewByte a = SMap.get 0 s.imgCur a) ∧
          s.sameRegs [F.imgLeaseStatOpen, F.imgLeaseStatEpoch, F.imgLeaseStatExpired] t ∧ t.cram = s.cram ∧ t.imgCur = s.imgCur))) ∧
      (s.get F.imgLeaseStatOpen = 0 → Completes .imgLeaseClose s (fun t => t = s)) ∧
      (s.get F.imgLeaseStatOpen ≠ 0 →
        Completes .imgLeaseClose s (fun t => t.get F.imgLeaseStatOpen = 0 ∧ t.leaseNs = 0 ∧
          s.sameRegs [F.imgLeaseStatOpen] t ∧ (∀ a, t.viewByte a = SMap.get 0 s.imgCur a))) ∧
      (∀ whn clear : Bool,
        let set := [F.imgCsnapCtrlWhen, F.imgCsnapCtrlClear, F.imgCsnapStatPending, F.imgCsnapStatBusy]
        (s.get F.imgCsnapStatPending = 0 → s.get F.imgCsnapStatHeld = 0 → Completes (.csnapGo whn clear) s (fun t =>
          t.get F.imgCsnapStatPending = 1 ∧ t.get F.imgCsnapCtrlWhen = whn.toNat ∧ t.get F.imgCsnapCtrlClear = clear.toNat ∧
          t.snapWhn = whn ∧ t.snapClr = clear ∧ t.snapDue = false ∧ s.sameRegs set t ∧ t.held = s.held ∧ s.sameMem t)) ∧
        (s.get F.imgCsnapStatPending ≠ 0 ∨ s.get F.imgCsnapStatHeld ≠ 0 → Completes (.csnapGo whn clear) s (fun t =>
          t.get F.imgCsnapStatBusy = 1 ∧ t.get F.imgCsnapStatPending = s.get F.imgCsnapStatPending ∧
          t.snapWhn = s.snapWhn ∧ t.snapClr = s.snapClr ∧ s.sameRegs set t ∧ t.held = s.held ∧ s.sameMem t))) ∧
      (s.get F.imgCsnapStatHeld = 0 → Completes .csnapRelease s (fun t => t = s)) ∧
      (s.get F.imgCsnapStatHeld ≠ 0 → Completes .csnapRelease s (fun t => t.get F.imgCsnapStatHeld = 0 ∧
        s.sameRegs [F.imgCsnapStatHeld] t ∧ t = { s with live := t.live, held := [] })) ∧
      (s.get F.imgCsnapStatPending = 0 ∨ s.snapDue = true → Completes .csnapCancel s (fun t => t = s)) ∧
      (s.get F.imgCsnapStatPending ≠ 0 → s.snapDue = false →
        (s.snapMbx = none → Completes .csnapCancel s (fun t => t.get F.imgCsnapStatPending = 0 ∧
          s.sameRegs [F.imgCsnapStatPending] t ∧ s.sameMem t)) ∧
        (∀ m, s.snapMbx = some m → Completes .csnapCancel s (fun t =>
          t = State.cmdEnd { s.snapCancel with snapMbx := none } m 5 (some []))))) ∧
    (s.get F.imgLeaseStatOpen ≠ 0 → s.leaseNs = 0 →
      Completes .leaseExpire s (fun t => t.get F.imgLeaseStatOpen = 0 ∧ t.get F.imgLeaseStatExpired = 1 ∧ t.leaseNs = 0 ∧
        t.get F.mbxD2hPend = setBit (s.get F.mbxD2hPend) 29 % 2 ^ 32 ∧
        s.sameRegs [F.imgLeaseStatOpen, F.imgLeaseStatExpired, F.mbxD2hPend] t ∧ t.imgCur = s.imgCur)) ∧
    (s.get F.imgLeaseStatOpen = 0 ∨ s.leaseNs ≠ 0 → Completes .leaseExpire s (fun t => t = s)) ∧
    (s.get F.imgCsnapStatPending ≠ 0 → s.snapMbx = none →
      let edge (t : State) : Prop := t.get F.imgCsnapStatPending = 0 ∧ t.get F.imgCsnapStatHeld = 1 ∧
        t.get F.imgCsnapStatEpoch = s.get F.imgEpoch % 2 ^ F.imgCsnapStatEpoch.w ∧
        t.get F.imgCsnapNs = s.time.ns % 2 ^ F.imgCsnapNs.w ∧ t.get F.imgCsnapSecLo = s.time.sec % 2 ^ F.imgCsnapSecLo.w ∧
        s.sameMem t
      (s.snapWhn = false → Completes .snapshotEdge s (fun t => edge t ∧
        (∀ (f : Field) (i : Nat), f.counter = true → f.staged = false → t.shown f i = s.get f i) ∧
        (∀ r ∈ regRows, ∀ f ∈ r.fields, f.counter = true → ∀ i,
          t.get f i = if s.snapClr = false then s.get f i else f.reset i))) ∧
      (s.snapWhn = true → s.snapDue = true → Completes .snapshotEdge s (fun t => edge t ∧ t.held = s.held ∧ t.snapDue = false)) ∧
      (s.snapWhn = true → s.snapDue = false → Completes .snapshotEdge s (fun t => t = s)))

/-- Host writes of BAR2 (R255, R556, R562, R617): bytes of Common RAM banks the host owns are written, and only those; a write
that touches a bank of another owner changes no byte and is logged; an image write lands in the back image inside an open OUT
segment only. A flow whose staleness timer ends shows STALE (R253). -/
def Obligations.HostMemoryWritesAndStaleFlows : Prop :=
  ∀ (s : State) (a : BitVec 24) (l : List Byte), s.domOn .host = true → l ≠ [] →
    let n := l.length
    (s.hostOwns a.toNat n = true → (∀ j, j < n → s.clearing (a.toNat + j) = false) →
      Completes (.hostMemoryWrite a l false) s (fun t =>
        (∀ j, j < n → SMap.get 0 t.cram (a.toNat + j) = l.getD j 0) ∧
        (∀ x, x < a.toNat ∨ a.toNat + n ≤ x → SMap.get 0 t.cram x = SMap.get 0 s.cram x) ∧
        t = { s with cram := t.cram, poison := t.poison })) ∧
    (a.toNat < 0x200000 → ∀ x, s.refusedAt (· == 16) a.toNat n = some x →
      Completes (.hostMemoryWrite a l false) s (fun t =>
        s.sameMem t ∧ t.get F.memCRefused = satAdd F.memCRefused.w (s.get F.memCRefused) 1 ∧
        t.refLog = (if s.refLog.length < 16 then
            s.refLog ++ [{ wr := true, req := 16, bank := x / 65536, ofs := x % 65536 }] else s.refLog) ∧
        s.sameRegs [F.memCRefused, F.mbxPweTotal, F.mbxPweOvf, F.mbxD2hPend] t)) ∧
    (0x800000 ≤ a.toNat → a.toNat + n ≤ 0x900000 →
      ((∀ j, j < n → s.inOut (a.toNat - 0x800000 + j) = true) → Completes (.hostMemoryWrite a l false) s (fun t =>
        (∀ j, j < n → t.backByte (a.toNat - 0x800000 + j) = l.getD j 0) ∧
        (∀ x, x < a.toNat - 0x800000 ∨ a.toNat - 0x800000 + n ≤ x → t.backByte x = s.backByte x) ∧ t.imgCur = s.imgCur ∧
        t.cram = s.cram ∧ s.sameRegs [] t)) ∧
      ((∃ j, j < n ∧ s.inOut (a.toNat - 0x800000 + j) = false) → Completes (.hostMemoryWrite a l false) s (fun t =>
        s.sameMem t ∧ t.get F.imgStageRefused = satAdd F.imgStageRefused.w (s.get F.imgStageRefused) 1 ∧
        s.sameRegs [F.imgStageRefused, F.mbxPweTotal, F.mbxPweOvf, F.mbxD2hPend] t))) ∧
    (∀ x : Fin 1024, s.staleTimer x = true → s.tmPast (tmStale x) (s.act F.flowTmoTmoUs x * 1000) = true →
      Completes (.flowStale x) s (fun t =>
      t.get F.flowStatStale x = 1 ∧ t.get F.flowStatEverStale x = 1 ∧ t.evq = s.evAfter 0x08 0 x.val 0 ∧
      s.sameRegs [F.flowStatStale, F.flowStatEverStale, F.evtCEvents, F.evtCInLost] t ∧
      t = { s.tmStop (tmStale x) with live := t.live, evq := t.evq }))

/-- The lookup of a frame (R208-R210, R250): the lowest open matching flow context decides, else the lowest matching FDB entry,
else the default port; and a frame is never sent back to the input it came from.
A frame that arrives on P0-P7 or T0-T3 in native mode is cancelled for one cause in the order runt, oversize, FCS error, lost
cell, no room, no route (R204-R207, R227, R251), and only that cause is counted. A frame whose tail has not come waits in reception; one
at a port that is down is not taken. -/
def Obligations.ReceptionAndLookup : Prop :=
  (∀ (s : State) (i : Nat) (hd : Hdr) (l : List Byte) (push : Option Nat),
    let k := s.lookup i hd l push
    i ∉ k.targets ∧
    (∀ x, s.flowMatch i hd l = some x → k.flow = some x ∧ k.cls = s.act F.flowCtrlClass x ∧
      s.flowHit i hd l x = true ∧ ∀ o, o < 32 → (o ∈ k.targets ↔ o ≠ i ∧ hasBit (s.act F.flowTargets x) o = true)) ∧
    (∀ e, s.flowMatch i hd l = none → s.fdbMatch hd = some e → k.flow = none ∧
      (∀ o, o < 32 → (o ∈ k.targets ↔ o ≠ i ∧ hasBit (s.act F.swFdbPorts e) o = true)) ∧
      k.aon = s.on F.swFdbCtrlAon e) ∧
    (s.flowMatch i hd l = none → s.fdbMatch hd = none →
      k.targets = if s.on F.swPCfgMiss i = true ∧ s.act F.swPCfgDefPort i ≠ i then [s.act F.swPCfgDefPort i] else [])) ∧
  (∀ (p : Fin 32) (f : RxFrame) (s : State), p.val < 12 →
    let n := f.bytes.length
    let sfd := s.asOf (s.up - f.sfdAgo)
    let hdr := s.asOf (s.up - f.hdrAgo)
    let ctrs := [F.swCRunt, F.swCOversize, F.swCFcsErr, F.swCLost, F.swCReserveFull, F.swCNoRoute]
    let only (c : Field) (t : State) : Prop :=
      t.get c p = satAdd c.w (s.get c p) 1 ∧ (∀ g ∈ ctrs, g.id ≠ c.id → t.get g p = s.get g p) ∧ t.subm = s.subm ∧ s.sameMem t ∧
      t.threads = s.threads
    let max := sfd.maxFrame p
    let room := s.charge p (cellsFor n)
    (s.linkUp p = false ∨ s.domOn (portDom p) = false → Completes (.frameReceived p f) s (fun t => t = s)) ∧
    (s.linkUp p = true → s.domOn (portDom p) = true →
      (f.tail = false → Completes (.frameReceived p f) s (fun t => t = s.setArriving p (some f))) ∧
      (f.tail = true → sfd.compat p = false →
        (n < 64 → Completes (.frameReceived p f) s (only F.swCRunt)) ∧
        (64 ≤ n → max < n → Completes (.frameReceived p f) s (only F.swCOversize)) ∧
        (64 ≤ n → n ≤ max → f.fcs = false → Completes (.frameReceived p f) s (only F.swCFcsErr)) ∧
        (64 ≤ n → n ≤ max → f.fcs = true → (parseHdr f.bytes).etype ≠ 0x8808 →
          (f.lost = true → Completes (.frameReceived p f) s (only F.swCLost)) ∧
          (f.lost = false → room.1 + room.2 < cellsFor n → Completes (.frameReceived p f) s (only F.swCReserveFull)) ∧
          (f.lost = false → cellsFor n ≤ room.1 + room.2 →
            (hdr.lookup p (parseHdr (f.bytes.take 48)) (f.bytes.take 48) none).targets = [] →
            Completes (.frameReceived p f) s (only F.swCNoRoute))))))

/-- Frames on their way (R201, R203, R212, R231, R234): the oldest pushed frame reaches its verdict and enters the pin queue of its
flow hash; stage 1 copies its descriptor per target, and a held all-or-none frame at the head blocks it; stage 2 moves it to the
output's FIFO of its class. -/
def Obligations.FramesMoveThroughTheFabric : Prop :=
  ∀ (s : State),
    (∀ (i : Fin 32) (f : RxFrame), 14 ≤ i.val →
      (takeFirst (fun d => d.a == i.val) s.subm = none → Completes (.frameReceived i f) s (fun t => t = s)) ∧
      (∀ d q, takeFirst (fun d => d.a == i.val) s.subm = some (d, q) →
        Completes (.frameReceived i f) s (fun t => t = State.verdictInt { s with subm := q } i d.h d.b f.mirror.toNat) ∧
        (∀ o, d.b % 32 = o → hasBit d.b 10 = false → (s.frame d.h).lost = false →
          s.judge d.h false o (bitsAt d.b 5 3) (s.frame d.h).len = .accept →
          Completes (.frameReceived i f) s (fun t =>
            t.subm = q ∧ (t.frame d.h).todo = [o] ∧ (t.frame d.h).cls = bitsAt d.b 5 3 ∧ (t.frame d.h).inport = i ∧
            t.get F.swCRxFrames i = satAdd F.swCRxFrames.w (s.get F.swCRxFrames i) 1 ∧ s.sameMem t ∧ t.threads = s.threads ∧
            (s.act F.swPMirRxN i = 0 → s.sameRegs [F.swCRxFrames] t ∧
              t.pinQ = s.pinQ ++ [{ a := i, b := (t.frame d.h).hash % 32, h := d.h }]))))) ∧
    (∀ (i k : Fin 32),
      (takeFirst (fun d => d.a == i.val && d.b == k.val) s.pinQ = none → Completes (.stage1Transfer i k) s (fun t => t = s)) ∧
      (∀ d q, takeFirst (fun d => d.a == i.val && d.b == k.val) s.pinQ = some (d, q) →
        ((s.frame d.h).aon = true → Completes (.stage1Transfer i k) s (fun t => t = s)) ∧
        ((s.frame d.h).aon = false → Completes (.stage1Transfer i k) s (fun t =>
          t = { s with pinQ := q, midQ := s.midQ ++ (s.frame d.h).todo.map (fun o => { a := k.val, b := o, h := d.h }) })))) ∧
    (∀ (k o : Fin 32) (d : Desc) (q : List Desc), takeFirst (fun d => d.a == k.val && d.b == o.val) s.midQ = some (d, q) →
      let u : State := { s with midQ := q, outQ := s.outQ ++ [{ a := o.val, b := (s.frame d.h).cls, h := d.h }] }
      Completes (.stage2Transfer k o) s (fun t => t = u.purge o) ∧
      ((∀ e ∈ s.frames, e.2.lost = false) → Completes (.stage2Transfer k o) s (fun t => t = u)))

/-- An output starts the head frame of its highest eligible class (R219, R223, R49): on the wire it is in transmission with its
transmit timestamp; at a logical engine its handle, or that of a copy while other targets remain, enters the receive queue of the
thread the class maps to, with the event; at FP15 the supervisor takes it.
The end of a transmission, a frame that ages, and held all-or-none frames (R176, R222, R233, R234): a frame whose last output is
done gives its completion and leaves Sett; a head frame past its class limit is dropped at an idle output; a held frame is released
when every target accepts it and dropped once AON_DL has passed. -/
def Obligations.OutputsStartAndFinishFrames : Prop :=
  (∀ (o : Fin 32) (x : TxInfo) (s : State) (h : Nat), SMap.get 0 s.txing o = 0 → s.plcaHolds o = false → s.pickFrame o = some h →
    h ≠ 0 → s.tooOld (s.frame h) = false → (s.frame h).lost = false →
    let intact := ∀ e ∈ s.frames, e.2.lost = false
    let left := s.outQ.filter (fun d => !(d.h == h && d.a == o.val))
    (o.val < 12 →
      Completes (.transmitStart o x) s (fun t =>
        SMap.get 0 t.txing o = h ∧ (∀ p, p ≠ o.val → SMap.get 0 t.txing p = SMap.get 0 s.txing p) ∧
        (t.frame h).txts = some (s.txStamp o x.mac) ∧ (t.port o).att = 0 ∧ (t.port o).slots = none ∧ s.sameMem t) ∧
      (intact → s.act F.swPMirTxN o = 0 → Completes (.transmitStart o x) s (fun t =>
        (s.ptpAt o (s.frame h).all = none → (t.port o).wire = (s.frame h).all) ∧ t.outQ = left ∧
        t.get F.swCTxFrames o = satAdd F.swCTxFrames.w (s.get F.swCTxFrames o) 1 ∧
        (o.val < 8 → t.get F.ethCTxOctets o = satAdd F.ethCTxOctets.w (s.get F.ethCTxOctets o) (s.frame h).len) ∧
        t.threads = s.threads))) ∧
    (o.val = 15 → intact → s.act F.swPMirTxN o = 0 → Completes (.transmitStart o x) s (fun t =>
      t.get F.swCTxFrames o = satAdd F.swCTxFrames.w (s.get F.swCTxFrames o) 1 ∧ t.outQ = left ∧
      (t.frame h).todo.contains 15 = false ∧ s.sameMem t)) ∧
    (16 ≤ o.val →
      let k := 4 * (o.val - 16) + bitsAt (s.act F.swPEqmap o) (2 * (s.frame h).cls) 2
      (intact → s.act F.swPMirTxN o = 0 → ∃ g, Completes (.transmitStart o x) s (fun t =>
        (t.th k).rxq = (s.th k).rxq ++ [g] ∧ (t.th k).w = (s.th k).w ∧ t.outQ = left ∧
        ((s.th k).started = true → (t.th k).evp.getLsbD 1 = true) ∧ s.sameMem t)) ∧
      (intact → s.act F.swPMirTxN o = 0 → (s.frame h).todo = [o.val] → (s.frame h).cpl = none → (s.frame h).hcpl = none →
        Completes (.transmitStart o x) s (fun t =>
          (t.th k).rxq = (s.th k).rxq ++ [h] ∧ (∀ j, j ≠ k → t.th j = s.th j) ∧ (t.th k).w = (s.th k).w ∧
          ((s.th k).started = true → (t.th k).evp = (s.th k).evp ||| 2) ∧ t.outQ = left ∧ (t.frame h).todo = [] ∧
          (∀ y, y ≠ h → t.frame y = s.frame y) ∧ s.sameRegs [F.swCTxFrames, F.swCLatMax] t ∧ s.sameMem t)))) ∧
  (∀ (s : State),
    (∀ o : Fin 32,
      let h := SMap.get 0 s.txing o
      let f := s.frame h
      (h ≠ 0 → (s.port o).slots = none →
        Completes (.transmitComplete o) s (fun t => SMap.get 0 t.txing o = 0 ∧ s.sameMem t) ∧
        (∀ (k : Nat) (tag : W24), o.val < 8 → f.todo = [o.val] → f.sent = [] → f.drops = [] → f.owner = none →
          f.cpl = some (k, tag) → f.hcpl = none → (∀ e ∈ s.txing, e.2 = h → e.1 = o.val) →
          Completes (.transmitComplete o) s (fun t =>
            t.frame h = {} ∧ (∀ y, y ≠ h → t.frame y = s.frame y) ∧
            (t.th k).comps = (s.th k).comps ++ [{ tag := tag, status := 0, egress := o.val, txts := f.txts }] ∧
            (t.th k).w = (s.th k).w))) ∧
      (h = 0 ∨ (s.port o).slots ≠ none → Completes (.transmitComplete o) s (fun t => t = s))) ∧
    (∀ (o : Fin 32) (c : Fin 8) (h : Nat), s.headOf o c = some h →
      (s.tooOld (s.frame h) = true → SMap.get 0 s.txing o = 0 →
        Completes (.frameAged o c) s (fun t =>
          t.get F.swCAged o = satAdd F.swCAged.w (s.get F.swCAged o) 1 ∧ (t.frame h).todo.contains o.val = false ∧ s.sameMem t) ∧
        ((∀ e ∈ s.frames, e.2.lost = false) → Completes (.frameAged o c) s (fun t =>
          t.outQ = s.outQ.filter (fun d => !(d.h == h && d.a == o.val))))) ∧
      (s.tooOld (s.frame h) = false ∨ SMap.get 0 s.txing o ≠ 0 → Completes (.frameAged o c) s (fun t => t = s))) ∧
    (∀ (i k : Fin 32), s.aonAt i k = [] →
      Completes (.aonReevaluate i k) s (fun t => t = s) ∧ Completes (.aonExpire i k) s (fun t => t = s)) ∧
    (∀ (i k : Fin 32) (h : Nat), s.aonAt i k = [h] →
      let f := s.frame h
      let ok := f.todo.all (fun o => s.judge h (decide (i.val < 14)) o f.cls f.len == .accept)
      (ok = true → Completes (.aonReevaluate i k) s (fun t =>
        t = (s.setFrame h { f with aon := false }).passed i h 0)) ∧
      (ok = true → f.flow = none → s.act F.swPMirRxN i = 0 → Completes (.aonReevaluate i k) s (fun t =>
        t.frame h = { f with aon := false } ∧ (∀ y, y ≠ h → t.frame y = s.frame y) ∧ t.pinQ = s.pinQ ∧
        t.get F.swCRxFrames i = satAdd F.swCRxFrames.w (s.get F.swCRxFrames i) 1 ∧
        s.sameRegs [F.swCRxFrames] t ∧ s.sameMem t ∧ t.threads = s.threads)) ∧
      (ok = false → Completes (.aonReevaluate i k) s (fun t => t = s)) ∧
      (f.aonDl ≤ s.up → Completes (.aonExpire i k) s (fun t =>
        t.get F.swCAonExpired i = satAdd F.swCAonExpired.w (s.get F.swCAonExpired i) 1 ∧
        t.pinQ = s.pinQ.filter (fun e => e.h != h) ∧ (t.frame h).todo = [] ∧ (t.frame h).aon = false ∧ s.sameMem t)) ∧
      (s.up < f.aonDl → Completes (.aonExpire i k) s (fun t => t = s))))

/-- Loss and return of a link of P0-P7 and T0-T3, and the end of the hold time (R238, R239, R335, R336): the status bits, the count,
the event; frames are held for HOLD_MS and then flushed. A port that is down does not go down again. -/
def Obligations.LinksGoDownAndUp : Prop :=
  ∀ (p : Fin 12) (s : State),
    (∀ part : Option RxFrame,
      (s.linkUp p = false → Completes (.linkLoss p part) s (fun t => t = s)) ∧
      (s.linkUp p = true → Completes (.linkLoss p part) s (fun t =>
        t.get F.swPStatLinkUp p = 0 ∧ t.get F.swPStatHolding p = (if s.holdMs p = 0 then 0 else (!(t.heldAt p).isEmpty).toNat) ∧
        (p.val < 8 → t.get F.ethStatusLink p = 0 ∧ t.get F.ethStatusPaused p = 0 ∧ t.get F.ethStatusLpiTx p = 0 ∧
          t.get F.ethStatusLpiRx p = 0 ∧ t.get F.ethCLinkDown p = satAdd F.ethCLinkDown.w (s.get F.ethCLinkDown p) 1) ∧
        (8 ≤ p.val → t.get F.t1sStatusLink (p.val - 8) = 0 ∧
          t.get F.t1sCLinkDown (p.val - 8) = satAdd F.t1sCLinkDown.w (s.get F.t1sCLinkDown (p.val - 8)) 1) ∧
        SMap.get 0 t.txing p = 0 ∧ t.evq = s.evAfter 0x20 p 0 0 ∧ s.sameMem t))) ∧
    (∀ q : Fin 14,
      (s.tmPast (tmHold q) (s.holdMs q * 1000000) = true → Completes (.holdExpire q) s (fun t =>
        t.get F.swPStatHolding q = 0 ∧ t.get F.swPStatLinkUp q = s.get F.swPStatLinkUp q ∧ t.heldAt q = [] ∧ t.evq = s.evq ∧
        s.sameMem t)) ∧
      (s.tmPast (tmHold q) (s.holdMs q * 1000000) = false → Completes (.holdExpire q) s (fun t => t = s))) ∧
    (∀ mdix : Bool, s.linkUp p = false → s.retired 0 p = false → s.domOn (portDom p) = true → s.iso = false →
      (if p.val < 8 then s.on F.ethCfgEn p = true ∧ (s.on F.ethCfgAnEn p = false ∨ s.get F.ethStatusAnDone p ≠ 0)
       else s.on F.t1sCfgEn (p.val - 8) = true ∧ (s.port p).fault = false) →
      Completes (.linkUp ⟨p, mdix⟩) s (fun t =>
        t.get F.swPStatLinkUp p = 1 ∧ t.get F.swPStatHolding p = 0 ∧ s.sameMem t ∧
        ((s.port p).lostAt = none → t.evq = s.evAfter 0x21 p 0 0) ∧
        (p.val < 8 → t.get F.ethStatusLink p = 1) ∧
        (p.val < 8 → s.on F.ethCfgAnEn p = false → t.get F.ethStatusSpeed p = s.act F.ethCfgForceSpeed p % 4 ∧
          t.get F.ethStatusFd p = s.act F.ethCfgForceFd p % 2 ∧ t.get F.ethStatusMdixAct p = s.pairing p mdix) ∧
        (p.val < 8 → s.on F.ethCfgAnEn p = true → t.get F.ethStatusSpeed p = s.get F.ethStatusSpeed p ∧
          t.get F.ethStatusFd p = s.get F.ethStatusFd p) ∧
        (8 ≤ p.val → t.get F.t1sStatusLink (p.val - 8) = 1)))

/-- Auto-negotiation (R331-R334): the highest common mode in the order 1000, 100 full, 100 half, 10 full, 10 half, with master or slave
resolved at 1000; without a mode, or with a master/slave fault at 1000, AN_FAIL. The pairing in use is the forced one. A restart clears
what negotiation found. -/
def Obligations.NegotiationResolves : Prop :=
  (∀ m : Nat, anMode m =
    if hasBit m 4 = true then some (2, true) else if hasBit m 3 = true then some (1, true)
    else if hasBit m 2 = true then some (1, false) else if hasBit m 1 = true then some (0, true)
    else if hasBit m 0 = true then some (0, false) else none) ∧
  (∀ (n : Fin 8) (s : State),
    (s.off = true → Completes (.restartAn n) s (fun t => t = s)) ∧
    (s.off = false → s.domOn .phyg = true → Completes (.restartAn n) s (fun t =>
      t.get F.ethStatusAnDone n = 0 ∧ t.get F.ethStatusEeeAct n = 0 ∧ t.get F.ethStatusTxPause n = 0 ∧
      t.get F.ethStatusRxPause n = 0 ∧ (s.linkUp n = true → t.get F.ethStatusLink n = 0 ∧ t.get F.swPStatLinkUp n = 0 ∧
        t.get F.ethCLinkDown n = satAdd F.ethCLinkDown.w (s.get F.ethCLinkDown n) 1) ∧ s.sameMem t)) ∧
    (s.off = false → s.domOn .phyg = true → s.linkUp n = false → Completes (.restartAn n) s (fun t =>
      s.sameRegs [F.ethStatusAnDone, F.ethStatusEeeAct, F.ethStatusTxPause, F.ethStatusRxPause] t ∧
      t = { s with live := t.live }))) ∧
  ∀ (n : Fin 8) (r : AnResult) (s : State),
    let runs := s.on F.ethCfgEn n = true ∧ s.on F.ethCfgAnEn n = true ∧ s.retired 0 n = false ∧ s.domOn .phyg = true
    let m := if r.neg then anMode (Nat.land (s.act F.ethAnAdvModes n) r.abil.toNat)
      else if r.pd100 then (if hasBit (s.act F.ethAnAdvModes n) 2 then some (1, false) else none)
      else (if hasBit (s.act F.ethAnAdvModes n) 0 then some (0, false) else none)
    let own := s.act F.ethAnAdvMs n
    let partner := bitsAt r.abil.toNat 7 2
    let ms := if 2 ≤ own then (if own = partner then none else some (own == 2)) else if 2 ≤ partner then some (partner == 3)
      else if own = partner then some r.master else some (own == 0)
    let bad (sp : Nat) := sp = 2 ∧ (r.msFault = true ∨ ms = none)
    let failed (t : State) : Prop := t.get F.ethStatusAnFail n = 1 ∧ t.get F.ethStatusAnDone n = 0 ∧
      t.get F.ethCAnFailCnt n = satAdd F.ethCAnFailCnt.w (s.get F.ethCAnFailCnt n) 1 ∧ s.sameMem t ∧ t.frames = s.frames
    let found := [F.ethPartner, F.ethStatusSpeed, F.ethStatusFd, F.ethStatusTxPause, F.ethStatusRxPause, F.ethStatusEeeAct,
      F.ethStatusMaster, F.ethStatusMdixAct, F.ethStatusAnDone]
    (¬ runs → Completes (.anResolution n r) s (fun t => t = s)) ∧
    (runs → ∀ sp fd, m = some (sp, fd) →
      (bad sp → Completes (.anResolution n r) s failed) ∧
      (¬ bad sp → Completes (.anResolution n r) s (fun t =>
        t.get F.ethStatusSpeed n = sp ∧ t.get F.ethStatusFd n = fd.toNat ∧ t.get F.ethStatusAnDone n = 1 ∧
        t.get F.ethStatusMaster n = (if sp = 2 ∧ ms = some true then 1 else 0) ∧
        t.get F.ethStatusMdixAct n = (match s.act F.ethCfgMdix n with | 1 => 0 | 2 => 1 | _ => r.mdix.toNat) ∧
        (fd = false → t.get F.ethStatusTxPause n = 0 ∧ t.get F.ethStatusRxPause n = 0) ∧
        s.sameRegs found t ∧ t = { s with live := t.live }))) ∧
    (runs → m = none → Completes (.anResolution n r) s failed)

/-- Half duplex, PAUSE and LPI (R338-R347): collisions back off up to 15 times, the 16th and a late one abort the frame; a PAUSE frame
stops the port for its quanta; the port repeats its own while flow control stays asserted, after a frame in progress; LPI is entered
when EEE is active and nothing has waited for LPI_IDLE_US, and ends ahead of a gate opening; LPI of the partner is shown and timed. -/
def Obligations.HalfDuplexPauseAndLpi : Prop :=
  (∀ (p : Fin 12) (r : BitVec 10) (late : Bool) (s : State),
    SMap.get 0 s.txing p = 0 ∨ (p.val < 8 ∧ s.get F.ethStatusFd p ≠ 0) ∨ (s.port p).slots ≠ none →
    Completes (.collision p late r) s (fun t => t = s)) ∧
  ∀ (n : Fin 8) (s : State),
    let p : Fin 12 := ⟨n.val, by omega⟩
    let h := SMap.get 0 s.txing n
    let empty := s.outQ.any (fun d => d.a == n.val) = false ∧ h = 0 ∧ (s.port n).busyAt + s.act F.ethEeeLpiIdleUs n * 1000 ≤ s.up
    (∀ r : BitVec 10, h ≠ 0 → s.get F.ethStatusFd n = 0 → (s.port n).slots = none →
      ((s.port n).att + 1 < 16 → Completes (.collision p false r) s (fun t =>
        (t.port n).att = (s.port n).att + 1 ∧ (t.port n).slots = some (r.toNat % 2 ^ min ((s.port n).att + 1) 10) ∧
        t.get F.ethCCollisions n = satAdd F.ethCCollisions.w (s.get F.ethCCollisions n) 1 ∧ s.sameRegs [F.ethCCollisions] t ∧
        t = { s.tmStart (tmBack n) with live := t.live, ports := t.ports })) ∧
      (16 ≤ (s.port n).att + 1 → Completes (.collision p false r) s (fun t =>
        t.get F.ethCExcCol n = satAdd F.ethCExcCol.w (s.get F.ethCExcCol n) 1 ∧ SMap.get 0 t.txing n = 0 ∧ s.sameMem t)) ∧
      Completes (.collision p true r) s (fun t =>
        t.get F.ethCLateCol n = satAdd F.ethCLateCol.w (s.get F.ethCLateCol n) 1 ∧ SMap.get 0 t.txing n = 0 ∧ s.sameMem t)) ∧
    (∀ (mac k : Nat), h ≠ 0 → (s.port n).slots = some k → s.tmPast (tmBack n) (k * 512 * s.psPerByte n / 8000) = true →
      Completes (.backoffExpire p mac) s (fun t =>
        (t.port n).slots = none ∧ (t.frame h).txts = some (s.txStamp n mac) ∧ t.txing = s.txing ∧ s.sameRegs [] t ∧
        t = { s with ports := t.ports, frames := t.frames })) ∧
    (s.get F.swPStatResActive n ≠ 0 → s.act F.ethFcQuanta n ≠ 0 → s.on F.ethFcTxPauseEn n = true →
      s.get F.ethStatusTxPause n ≠ 0 → s.get F.ethStatusFd n ≠ 0 → s.get F.ethStatusLink n ≠ 0 →
      s.tmPast (tmPause n) (s.act F.ethFcQuanta n * 256 * s.psPerByte n / 8000) = true →
      (h = 0 → Completes (.pauseRepeat n) s (fun t =>
        (t.port n).pauseSent = some (s.act F.ethFcQuanta n) ∧ (t.port n).pauseDue = none ∧
        (t.port n).pauseWire = s.pauseBytes n (s.act F.ethFcQuanta n) ∧
        t.get F.ethCTxPause n = satAdd F.ethCTxPause.w (s.get F.ethCTxPause n) 1 ∧
        t.get F.ethCTxFrames n = satAdd F.ethCTxFrames.w (s.get F.ethCTxFrames n) 1 ∧
        t.get F.ethCTxOctets n = satAdd F.ethCTxOctets.w (s.get F.ethCTxOctets n) 64 ∧ t.get F.ethStatusLpiTx n = 0 ∧
        s.sameRegs [F.ethCTxPause, F.ethCTxFrames, F.ethCTxOctets, F.ethStatusLpiTx, F.ethTwAct, F.ethCLpiTxUs] t ∧
        t = { s.tmStart (tmPause n) with live := t.live, ports := t.ports })) ∧
      (h ≠ 0 → Completes (.pauseRepeat n) s (fun t =>
        (t.port n).pauseDue = some (s.act F.ethFcQuanta n) ∧ s.sameRegs [] t ∧ t = { s with ports := t.ports }))) ∧
    (∀ q : BitVec 16, s.linkUp n = true → s.on F.ethFcRxPauseEn n = true → s.get F.ethStatusRxPause n ≠ 0 →
      s.get F.ethStatusFd n ≠ 0 → Completes (.pauseFrame n q) s (fun t =>
        t.get F.ethStatusPaused n = (if q = 0 then 0 else 1) ∧ (t.port n).pausedQ = q.toNat ∧ (t.port n).pausedAt = s.up ∧
        t.get F.ethCRxPause n = satAdd F.ethCRxPause.w (s.get F.ethCRxPause n) 1 ∧
        t.get F.ethCRxFrames n = satAdd F.ethCRxFrames.w (s.get F.ethCRxFrames n) 1 ∧
        t.get F.ethCRxOctets n = satAdd F.ethCRxOctets.w (s.get F.ethCRxOctets n) 64 ∧
        s.sameRegs [F.ethCRxPause, F.ethCPausedUs, F.ethStatusPaused, F.ethCRxOctets, F.ethCRxFrames, F.ethCRxMcast] t ∧
        t = { s with live := t.live, ports := t.ports })) ∧
    (s.get F.ethStatusPaused n ≠ 0 → (s.port n).pausedAt + (s.port n).pausedQ * 512 * s.psPerByte n / 8000 ≤ s.up →
      Completes (.pauseExpire n) s (fun t => t.get F.ethStatusPaused n = 0 ∧
        t.get F.ethCPausedUs n = satAdd F.ethCPausedUs.w (s.get F.ethCPausedUs n) ((s.up - (s.port n).pausedAt) / 1000) ∧
        s.sameRegs [F.ethStatusPaused, F.ethCPausedUs] t ∧ t = { s with live := t.live })) ∧
    (s.up < (s.port n).pausedAt + (s.port n).pausedQ * 512 * s.psPerByte n / 8000 →
      Completes (.pauseExpire n) s (fun t => t = s)) ∧
    (s.get F.ethStatusEeeAct n ≠ 0 → s.on F.ethEeeEn n = true → s.linkUp n = true → s.get F.ethStatusLpiTx n = 0 →
      (empty → (s.on F.ethEeeGateWake n = true → hasBit s.gates n = false ∧ ∀ d, s.nextGate n = some d → 250000 + s.wakeNs n < d) →
        Completes (.lpiEnter ⟨n, none⟩) s (fun t =>
          t.get F.ethStatusLpiTx n = 1 ∧ (t.port n).lpiAt = s.up ∧
          t.get F.ethCLpiTxEntries n = satAdd F.ethCLpiTxEntries.w (s.get F.ethCLpiTxEntries n) 1 ∧
          s.sameRegs [F.ethStatusLpiTx, F.ethCLpiTxEntries] t ∧ t = { s with live := t.live, ports := t.ports })) ∧
      (¬ empty → Completes (.lpiEnter ⟨n, none⟩) s (fun t => t = s))) ∧
    (s.get F.ethStatusEeeAct n ≠ 0 → s.linkUp n = true → s.get F.ethStatusLpiRx n = 0 →
      Completes (.lpiEnter ⟨n, some true⟩) s (fun t => t.get F.ethStatusLpiRx n = 1 ∧ (t.port n).lpiRxAt = s.up ∧
        s.sameRegs [F.ethStatusLpiRx] t ∧ t = { s with live := t.live, ports := t.ports })) ∧
    (s.get F.ethStatusLpiRx n ≠ 0 → Completes (.lpiEnter ⟨n, some false⟩) s (fun t => t.get F.ethStatusLpiRx n = 0 ∧
      t.get F.ethCLpiRxUs n = satAdd F.ethCLpiRxUs.w (s.get F.ethCLpiRxUs n) ((s.up - (s.port n).lpiRxAt) / 1000) ∧
      s.sameRegs [F.ethStatusLpiRx, F.ethCLpiRxUs] t ∧ t = { s with live := t.live })) ∧
    (∀ d, s.on F.ethEeeGateWake n = true → s.get F.ethStatusLpiTx n ≠ 0 → s.nextGate n = some d →
      (d ≤ s.wakeNs n + 1000 → Completes (.lpiGateWake n) s (fun t =>
        t.get F.ethStatusLpiTx n = 0 ∧
        t.get F.ethCLpiTxUs n = satAdd F.ethCLpiTxUs.w (s.get F.ethCLpiTxUs n) ((s.up - (s.port n).lpiAt) / 1000) ∧
        s.sameRegs [F.ethStatusLpiTx, F.ethTwAct, F.ethCLpiTxUs] t ∧ t = { s with live := t.live })) ∧
      (s.wakeNs n + 1000 < d → Completes (.lpiGateWake n) s (fun t => t = s)))

/-- T1S: PLCA beacons, fallback and opportunities, the threshold loop, the line monitor, and the LVX-1208 runt counters, which a
delivered read clears in both modes (R336, R348, R350, R353-R356). -/
def Obligations.T1sAndCompatibility : Prop :=
  ∀ (t : Fin 4) (s : State),
    let p := 8 + t.val
    (s.on F.t1sCfgPlcaEn t = true → s.linkUp p = true → s.act F.t1sCfgNodeId t ≠ 0 → Completes (.plcaBeacon t) s (fun u =>
      u.get F.t1sStatusPlcaAct t = 1 ∧ u.get F.t1sCBeaconRx t = satAdd F.t1sCBeaconRx.w (s.get F.t1sCBeaconRx t) 1 ∧
      u.port p = { s.port p with plca := 0, burst := 0 } ∧ s.sameRegs [F.t1sStatusPlcaAct, F.t1sCBeaconRx] u ∧
      u = { (s.tmStart (tmOpp p)).tmStart (tmBeacon t) with live := u.live, ports := u.ports })) ∧
    (s.get F.t1sStatusPlcaAct t ≠ 0 → s.act F.t1sCfgNodeId t ≠ 0 →
      (s.tmPast (tmBeacon t) 400000 = true → Completes (.plcaFallback t) s (fun u =>
        u.get F.t1sStatusPlcaAct t = 0 ∧ u.get F.t1sCPlcaFallback t = satAdd F.t1sCPlcaFallback.w (s.get F.t1sCPlcaFallback t) 1 ∧
        u.evq = s.evAfter 0x24 p 0 0 ∧ s.sameRegs ([F.t1sStatusPlcaAct, F.t1sCPlcaFallback] ++ evRegs) u ∧
        u = { s.tmStop (tmBeacon t) with live := u.live, evq := u.evq })) ∧
      (s.tmPast (tmBeacon t) 400000 = false → Completes (.plcaFallback t) s (fun u => u = s))) ∧
    (s.get F.t1sStatusPlcaAct t ≠ 0 → SMap.get 0 s.txing p = 0 →
      s.tmPast (tmOpp p) ((if (s.port p).burst = 0 then s.act F.t1sPlcaTmrToTmr t else s.act F.t1sPlcaTmrBurstTmr t) * 100) = true →
      Completes (.plcaOpportunityTimeout t) s (fun u =>
        (u.port p).burst = 0 ∧
        (u.port p).plca = (if s.act F.t1sCfgNodeCnt t ≤ (s.port p).plca + 1 ∧ s.get F.t1sStatusCoord t ≠ 0 then 0
                           else (s.port p).plca + 1) ∧ u = { s.tmStart (tmOpp p) with ports := u.ports })) ∧
    (∀ rise : Bool, s.on F.t1sThrAdaptEn t = true → s.window 5 = true → SMap.get 0 s.txing p = 0 →
      SMap.get none s.arriving p = none → s.tmOn (tmThr t) = false ∨ s.tmPast (tmThr t) 10000 = true →
      let c := s.get F.t1sThrCur t
      (if rise then c < 31 else 0 < c ∧ c ≤ 32) → Completes (.t1sThresholdStep t rise) s (fun u =>
        u.get F.t1sThrCur t = (if rise then c + 1 else c - 1) ∧
        u.get F.t1sCThrSteps t = satAdd F.t1sCThrSteps.w (s.get F.t1sCThrSteps t) 1 ∧
        s.sameRegs [F.t1sThrCur, F.t1sCThrSteps] u ∧ u = { s.tmStart (tmThr t) with live := u.live })) ∧
    (∀ rise : Bool, SMap.get 0 s.txing p ≠ 0 ∨ SMap.get none s.arriving p ≠ none ∨ s.window 5 = false →
      Completes (.t1sThresholdStep t rise) s (fun u => u = s)) ∧
    (s.on F.t1sCfgEn t = true → s.linkUp p = true → Completes (.t1sPhyFault ⟨t, false⟩) s (fun u =>
      u.get F.t1sStatusPhyFault t = 1 ∧ u.get F.t1sStatusLink t = 0 ∧ u.get F.swPStatLinkUp p = 0 ∧ (u.port p).fault = true ∧
      s.sameMem u)) ∧
    (s.on F.t1sCfgEn t = true → s.linkUp p = false → s.retired 0 p = false → s.domOn .phyt = true → s.iso = false →
      Completes (.t1sPhyFault ⟨t, true⟩) s (fun u => u.get F.t1sStatusLink t = 1 ∧ u.get F.swPStatLinkUp p = 1 ∧
        (u.port p).fault = false ∧ s.sameMem u)) ∧
    (∀ q : Fin 12, s.domOn (portDom q) = true → q.val < 8 →
      let shown (f : Field) (v : Nat) := if s.on F.ethCfgCompat q = true then s.shown f v else 0
      (s.get F.imgCsnapStatHeld = 0 →
        Completes (.l1208Read q true) s (fun u => u.rdata = [shown F.ethL1208Frag q] ∧ u.get F.ethL1208Frag q = 0 ∧
          s.sameRegs [F.ethL1208Frag] u ∧ u = { s with live := u.live, rdata := u.rdata }) ∧
        Completes (.l1208Read q false) s (fun u =>
          u.rdata = [shown F.ethL1208RuntBad q * 65536 + shown F.ethL1208RuntGood q] ∧ u.get F.ethL1208RuntBad q = 0 ∧
          u.get F.ethL1208RuntGood q = 0 ∧ s.sameRegs [F.ethL1208RuntBad, F.ethL1208RuntGood] u ∧
          u = { s with live := u.live, rdata := u.rdata })) ∧
      (s.get F.imgCsnapStatHeld ≠ 0 → Completes (.l1208Read q true) s (fun u =>
        u = { s with rdata := [shown F.ethL1208Frag q] }))) ∧
    (∀ (q : Fin 12) (frag : Bool), s.domOn (portDom q) = false → Completes (.l1208Read q frag) s (fun u => u = { s with rdata := [0] }))

/-- CAN reception and the buffer lock (R365, R366, R370, R373-R378, R383): a matching frame is written to its buffer with FULL, OVR and
its header; without a match it is only counted; a locked buffer without a chain loses it; nothing is taken during integration or in a
format that is not enabled; the holder's release empties the buffer, and a lock held for LOCK_US ends.
CAN detection and time-triggered operation (R367, R368, R386-R389): the first good frame ends a search with its candidate, and a
window without one moves to the next; the master's reference message of the next cycle; a backup takes over after its wait; a trigger
makes its buffer's attempt or counts a miss; synchronisation is lost without references. -/
def Obligations.CanReceivesAndDetects : Prop :=
  (∀ (n : Fin 4) (s : State), s.canMode n ≠ 0 →
    (∀ (f : CanFrame), s.get F.canStatusEstate n < 2 → s.canInt n = true →
      Completes (.canFrameReceive n f) s (fun t => t = s.tmStop (tmCanInt n))) ∧
    (∀ (f : CanFrame), s.get F.canStatusEstate n < 2 → s.canInt n = false → s.canFmt n f.fmt = false → s.on F.canCfgPex n = true →
      Completes (.canFrameReceive n f) s (fun t => t = s.tmStart (tmCanInt n))) ∧
    (∀ (f : CanFrame), s.get F.canStatusEstate n < 2 → s.canInt n = false →
      (f.fmt.val = 0 ∨ (f.fmt.val = 1 ∧ s.on F.canCfgFdEn n = true) ∨ (f.fmt.val = 2 ∧ s.on F.canCfgXlEn n = true)) →
      ((s.canBufs n 1).find? (s.canHit n f) = none → Completes (.canFrameReceive n f) s (fun t =>
        t.get F.canCNoMatch n = satAdd F.canCNoMatch.w (s.get F.canCNoMatch n) 1 ∧ (t.can n).ack = decide (s.canMode n = 1) ∧
        s.sameMem t ∧ t.threads = s.threads ∧ t.frames = s.frames)) ∧
      (∀ b, (s.canBufs n 1).find? (s.canHit n f) = some b → s.canHolder n b = 0 → f.data.length ≤ 64 →
        (s.can n).seq < 256 → Completes (.canFrameReceive n f) s (fun t =>
          let a := s.canBuf n b
          t.canWord n b 0 = 2 ^ 31 + bitIf (s.canFull n b) 30 + f.fmt.val * 2 ^ 28 + bitIf f.ide 27 + bitIf f.rtr 26 +
            bitIf f.brs 25 + bitIf f.esi 24 + f.data.length * 2 ^ 12 + (s.can n).seq ∧
          t.canWord n b 1 = f.id.toNat ∧
          (∀ j, j < f.data.length → SMap.get 0 t.cram (a + 8 + j) = f.data.getD j 0) ∧
          (∀ x, (x < a ∨ a + 72 ≤ x) → (x < s.canAuxAt n b ∨ s.canAuxAt n b + 16 ≤ x) →
            SMap.get 0 t.cram x = SMap.get 0 s.cram x) ∧
          t.get F.canCRxFrames n = satAdd F.canCRxFrames.w (s.get F.canCRxFrames n) 1 ∧
          t.get F.canCOvrCnt n = (if s.canFull n b then satAdd F.canCOvrCnt.w (s.get F.canCOvrCnt n) 1 else s.get F.canCOvrCnt n) ∧
          (t.can n).seq = ((s.can n).seq + 1) % 256 ∧ t.frames = s.frames)) ∧
      (∀ b, (s.canBufs n 1).find? (s.canHit n f) = some b → s.canHolder n b = 0 → f.fmt.val = 2 → 64 < f.data.length →
        s.on F.canBcfgEvtHost (canI n b) = true → Completes (.canFrameReceive n f) s (fun t =>
          t.get F.canCXlNoSett n = satAdd F.canCXlNoSett.w (s.get F.canCXlNoSett n) 1 ∧ s.sameMem t ∧ t.frames = s.frames)) ∧
      (∀ b, (s.canBufs n 1).find? (s.canHit n f) = some b → s.canHolder n b ≠ 0 → s.canChain n b 256 = [] →
        s.canMode n ≠ 3 → s.on F.canTtCfgTtEn n = false →
        s.get F.canStatusEstate n = 0 → s.get F.canErrcTec n < 128 → s.get F.canErrcRec n < 128 →
        Completes (.canFrameReceive n f) s (fun t =>
          t.get F.canCChainLost n = satAdd F.canCChainLost.w (s.get F.canCChainLost n) 1 ∧ t.evq = s.evAfter 0x29 n 0 0 ∧
          s.sameMem t ∧ t.frames = s.frames))) ∧
    (∀ (r : Req) (b : Fin 256),
      (s.canHolder n b = 0 → Completes (.canBufferLock r n b) s (fun t => t.canHolder n b = holderOf r ∧
        (∀ x, x ≠ b.val → x < 256 → t.canHolder n x = s.canHolder n x) ∧
        t = { s.tmStart (tmCanLock (canI n b)) with canLocks := t.canLocks })) ∧
      (s.canHolder n b ≠ 0 → Completes (.canBufferLock r n b) s (fun t => t = s)) ∧
      (s.canHolder n b = holderOf r → Completes (.canBufferRelease r n b) s (fun t =>
        t.canHolder n b = 0 ∧ t.canFull n b = false ∧ t.canWord n b 0 = clrBit (clrBit (s.canWord n b 0) 31) 30 ∧
        (∀ x, (x < s.canBuf n b ∨ s.canBuf n b + 4 ≤ x) → SMap.get 0 t.cram x = SMap.get 0 s.cram x) ∧
        t = { s with cram := t.cram, poison := t.poison, canLocks := t.canLocks })) ∧
      (s.canHolder n b ≠ holderOf r → Completes (.canBufferRelease r n b) s (fun t => t = s)) ∧
      (s.on F.canLockEn n = true → s.canHolder n b ≠ 0 →
        (s.tmPast (tmCanLock (canI n b)) (s.act F.canLockLockUs n * 1000) = true → Completes (.canLockTimeout n b) s (fun t =>
          t.canHolder n b = 0 ∧ t.get F.canCLockTmo n = satAdd F.canCLockTmo.w (s.get F.canCLockTmo n) 1 ∧
          s.sameRegs [F.canCLockTmo] t ∧ t = { s with live := t.live, canLocks := t.canLocks })) ∧
        (s.tmPast (tmCanLock (canI n b)) (s.act F.canLockLockUs n * 1000) = false →
          Completes (.canLockTimeout n b) s (fun t => t = s))))) ∧
  (∀ (n : Fin 4) (s : State),
    (s.canMode n = 3 → s.get F.canDetResDone n = 0 →
      (∀ f : CanFrame, s.get F.canStatusEstate n < 2 → s.canInt n = false → s.canFmt n f.fmt = true →
        s.on F.canTtCfgTtEn n = false → (s.canBufs n 1).find? (s.canHit n f) = none → Completes (.canFrameReceive n f) s (fun t =>
          t.get F.canDetResDone n = 1 ∧ t.get F.canDetResFound n = 1 ∧
          t.get F.canDetResCand n = (s.can n).cand % 2 ^ F.canDetResCand.w ∧ t.evq = s.evAfter 0x28 n 0 0)) ∧
      (s.tmPast (tmCanDet n) (s.act F.canDetWinMs n * 1000000) = true →
        (∀ r j, s.canNextCand n (s.can n).round ((s.can n).cand + 1) = some (r, j) → Completes (.canDetectWindow n) s (fun t =>
          (t.can n).round = r ∧ (t.can n).cand = j ∧ t = { s.tmStart (tmCanDet n) with cans := t.cans })) ∧
        (s.canNextCand n (s.can n).round ((s.can n).cand + 1) = none → Completes (.canDetectWindow n) s (fun t =>
          t.get F.canDetResDone n = 1 ∧ t.get F.canDetResFound n = 0 ∧ s.sameRegs [F.canDetResDone, F.canDetResFound] t ∧
          t = { s with live := t.live })))) ∧
    (s.ttMaster n = true → s.get F.canStatusTtMasterAct n ≠ 0 →
      (s.ttPeriod n ≠ (s.can n).refIx → Completes (.ttRefSend n) s (fun t =>
        (t.can n).due = some ((s.get F.canTtStatCycle n + 1) % 64) ∧ (t.can n).refIx = s.ttPeriod n ∧
        t = { s with cans := t.cans })) ∧
      (s.ttPeriod n = (s.can n).refIx → Completes (.ttRefSend n) s (fun t => t = s))) ∧
    (s.ttMaster n = true → s.get F.canStatusTtMasterAct n = 0 →
      s.tmPast (tmCanRef n) (s.ntuNs n (s.act F.canTtCycCycleNtu n + 16 * (s.act F.canTtCfgPrio n + 1))) = true →
      Completes (.ttBackupTimeout n) s (fun t =>
        (t.can n).due = some ((s.get F.canTtStatCycle n + 1) % 64) ∧ t.get F.canStatusTtMasterAct n = 1 ∧
        t.evq = s.evAfter 0x2D n 0 0 ∧ s.sameRegs ([F.canStatusTtMasterAct] ++ evRegs) t ∧
        t = { s with live := t.live, evq := t.evq, cans := t.cans })) ∧
    (∀ (b : Fin 256) (hit : Bool), s.on F.canTtCfgTtEn n = true → s.act F.canBcfgMode (canI n b) = 2 →
      s.on F.canBcfgTrigEn (canI n b) = true → s.canFull n b = true →
      s.get F.canTtStatCycle n % 2 ^ s.act F.canBtrigRepLog (canI n b) = s.act F.canBtrigOfs (canI n b) →
      ((s.can n).tried.contains b.val = false → s.act F.canBtrigTrigNtu (canI n b) ≤ s.ttTime n →
        Completes (.ttTxTrigger n b hit) s (fun t =>
          (t.can n).tried = b.val :: (s.can n).tried ∧
          (hit = true → s.ttTime n ≤ s.act F.canBtrigTrigNtu (canI n b) + s.act F.canTtCycTxWin n →
            (t.can n).trig = b.val :: (s.can n).trig ∧ t = { s with cans := t.cans }) ∧
          (hit = false ∨ s.act F.canBtrigTrigNtu (canI n b) + s.act F.canTtCycTxWin n < s.ttTime n → (t.can n).trig = (s.can n).trig ∧
            t.get F.canCTtMiss n = satAdd F.canCTtMiss.w (s.get F.canCTtMiss n) 1 ∧ s.sameRegs [F.canCTtMiss] t ∧
            t = { s with live := t.live, cans := t.cans }))) ∧
      ((s.can n).tried.contains b.val = true ∨ s.ttTime n < s.act F.canBtrigTrigNtu (canI n b) →
        Completes (.ttTxTrigger n b hit) s (fun t => t = s))) ∧
    (let late := s.tmPast (tmCanRef n) (s.ntuNs n (s.act F.canTtCycCycleNtu n + 256))
     (late = true → Completes (.ttSyncLost n) s (fun t => t.get F.canStatusTtSync n = 0 ∧ s.sameRegs [F.canStatusTtSync] t ∧
       t = { s with live := t.live })) ∧
     (late = false → Completes (.ttSyncLost n) s (fun t => t = s))))

/-- CAN transmission and error confinement (R379-R382, R385, R386): arming passes a Sett payload to the controller, or clears a buffer
whose handle or length is bad; arbitration starts the due reference message or the picked buffer; a sent buffer is empty again, its Sett
frame is released and TEC falls; an error raises TEC or REC and the error state follows them; recovery ends with all counts zero. -/
def Obligations.CanTransmitsAndConfinesErrors : Prop :=
  ∀ (n : Fin 4) (s : State), s.canMode n ≠ 0 →
    (∀ b : Fin 256, s.act F.canBcfgMode (canI n b) = 2 →
      let h := s.canHandle n b
      let sett := s.canIsSett n b = true ∧ (s.frame h).owner = some (canOwner n)
      (s.canFull n b = true → s.canIsSett n b = false → Completes (.canArm n b) s (fun t => t = s)) ∧
      (s.canFull n b = true → s.canIsSett n b = true → h ≠ 0 →
        (s.frame h).owner = some (s.act F.canBcfgEvtLe (canI n b)) →
        s.act F.canBcfgEvtLe (canI n b) < 16 → 0 < (s.frame h).len → (s.frame h).len ≤ 2048 →
        Completes (.canArm n b) s (fun t => (t.frame h).owner = some (canOwner n) ∧
          (∀ y, y ≠ h → t.frame y = s.frame y) ∧ t = { s with frames := t.frames })) ∧
      (s.canFull n b = true → s.canIsSett n b = true → (s.frame h).owner ≠ some (canOwner n) →
        (h = 0 ∨ (s.frame h).owner ≠ some (s.act F.canBcfgEvtLe (canI n b)) ∨ (s.frame h).len = 0 ∨ 2048 < (s.frame h).len) →
        Completes (.canArm n b) s (fun t => t.canFull n b = false ∧ bitsAt (t.canWord n b 0) 12 12 = 0 ∧
          t.get F.canCTxBad n = satAdd F.canCTxBad.w (s.get F.canCTxBad n) 1 ∧ s.sameRegs [F.canCTxBad] t ∧
          (∀ x, (x < s.canBuf n b ∨ s.canBuf n b + 4 ≤ x) → SMap.get 0 t.cram x = SMap.get 0 s.cram x) ∧
          t = { s with live := t.live, cram := t.cram, poison := t.poison })) ∧
      (s.off = false → s.domOn .core = true → (s.can n).cur ≠ some (.buf b) → s.canFull n b = true →
        Completes (.canTxcancel n b) s (fun t => t.canFull n b = false ∧ (sett → t.frame h = {}) ∧
          (∀ x, (x < s.canBuf n b ∨ s.canBuf n b + 4 ≤ x) → SMap.get 0 t.cram x = SMap.get 0 s.cram x) ∧
          (¬ sett → t = { s with cram := t.cram, poison := t.poison }))) ∧
      (s.off = false → s.domOn .core = true → (s.can n).cur = some (.buf b) → Completes (.canTxcancel n b) s (fun t => t = s)) ∧
      (∀ (sec : BitVec 32) (ns : BitVec 30) (sof : Nat), (s.can n).cur = some (.buf b) →
        Completes (.canTxComplete n sec ns sof) s (fun t =>
          t.canWord n b 0 = clrBit (s.canWord n b 0) 31 ∧ (t.can n).cur = none ∧
          t.get F.canCTxFrames n = satAdd F.canCTxFrames.w (s.get F.canCTxFrames n) 1 ∧
          t.get F.canErrcTec n = (s.get F.canErrcTec n - 1) % 2 ^ F.canErrcTec.w ∧
          leBytes (t.cramBytes (s.canAuxAt n b) 4) = ns.toNat ∧ leBytes (t.cramBytes (s.canAuxAt n b + 4) 4) = sec.toNat ∧
          (sett → t.frame h = {}) ∧ (¬ sett → t.frames = s.frames) ∧
          (∀ x, (x < s.canBuf n b ∨ s.canBuf n b + 4 ≤ x) → (x < s.canAuxAt n b ∨ s.canAuxAt n b + 8 ≤ x) →
            SMap.get 0 t.cram x = SMap.get 0 s.cram x)))) ∧
    (∀ (c : Nat) (sec : BitVec 32) (ns : BitVec 30) (sof : Nat), (s.can n).cur = some (.ref c) →
      Completes (.canTxComplete n sec ns sof) s (fun t =>
        (t.can n).cur = none ∧ (t.can n).due = none ∧ (t.can n).mark = sof ∧ t.get F.canStatusTtSync n = 1 ∧
        t.get F.canTtStatCycle n = c % 2 ^ F.canTtStatCycle.w ∧
        t.get F.canCTxFrames n = satAdd F.canCTxFrames.w (s.get F.canCTxFrames n) 1 ∧ s.sameMem t ∧ t.frames = s.frames)) ∧
    (∀ (tdcv : Option (BitVec 8)), s.canActive n = true → (s.can n).cur = none →
      let a := (s.canBufs n 2).foldl (fun s b => s.canArm n b) (s.ttMissed n (fun b => !s.ttIn n b))
      (∀ c, (s.can n).due = some c → Completes (.canArbitration n tdcv) s (fun t => (t.can n).cur = some (.ref c) ∧
        t = { s with cans := t.cans })) ∧
      ((s.can n).due = none → a.canPick n = none → Completes (.canArbitration n tdcv) s (fun t => t = a)) ∧
      (∀ b, (s.can n).due = none → a.canPick n = some b → Completes (.canArbitration n tdcv) s (fun t =>
        (t.can n).cur = some (.buf b) ∧ t = { a with cans := t.cans, live := t.live } ∧
        (∀ v, tdcv = some v → bitsAt (a.canWord n b 0) 28 2 ≠ 0 → t.get F.canStatusTdcv n = v.toNat) ∧
        (tdcv = none ∨ bitsAt (a.canWord n b 0) 28 2 = 0 → t.live = a.live ∧ (t.can n).ssp = none))) ∧
      ((s.can n).due = none → (∀ b ∈ s.canBufs n 2, s.canIsSett n b = false) →
        Completes (.canArbitration n tdcv) s (fun t => (t.can n).cur = (s.canPick n).map .buf ∧
          s.sameRegs [F.canStatusTdcv, F.canCTtMiss] t ∧ s.sameMem t ∧ t.frames = s.frames))) ∧
    (∀ (kind : Fin 6) (tx : Bool) (inc : BitVec 4), s.get F.canStatusEstate n < 2 → s.canInt n = false →
      let tec := if tx then min 511 (s.get F.canErrcTec n + inc.toNat) else s.get F.canErrcTec n
      let rec' := if tx then s.get F.canErrcRec n else min 511 (s.get F.canErrcRec n + inc.toNat)
      (s.canMode n = 1 → Completes (.canError n kind tx inc) s (fun t =>
        t.get F.canStatusLec n = kind.val + 1 ∧ t.get F.canErrcTec n = tec ∧ t.get F.canErrcRec n = rec' ∧
        t.get F.canStatusEstate n = (if 255 < tec then 2 else if 128 ≤ tec ∨ 128 ≤ rec' then 1 else 0) ∧
        (255 < tec → t.get F.canStatusBusoffSeen n = 1) ∧ (tx = true → (t.can n).cur = none) ∧ s.sameMem t ∧
        t.frames = s.frames)) ∧
      (s.canMode n ≠ 1 → Completes (.canError n kind tx inc) s (fun t =>
        t.get F.canStatusLec n = kind.val + 1 ∧
        s.sameRegs [F.canStatusLec, F.canCStuffErr, F.canCFormErr, F.canCAckErr, F.canCCrcErr, F.canCBitErr] t ∧
        t = { s with live := t.live }))) ∧
    (s.get F.canStatusEstate n = 3 →
      (s.canMode n ≠ 0 → s.tmPast (tmCanRec n) (s.canBits n 1408) = true → Completes (.canRecoveryDone n) s (fun t =>
        t.get F.canStatusEstate n = 0 ∧ t.get F.canErrcTec n = 0 ∧ t.get F.canErrcRec n = 0 ∧ t.evq = s.evAfter 0x2C n 0 0 ∧
        s.sameRegs ([F.canStatusEstate, F.canErrcTec, F.canErrcRec] ++ evRegs) t ∧
        t = { s with live := t.live, evq := t.evq })) ∧
      (s.canMode n = 0 ∨ s.tmPast (tmCanRec n) (s.canBits n 1408) = false → Completes (.canRecoveryDone n) s (fun t => t = s)))

/-- BR, WAIT, LOOP, FLAG, SHIFT CLR, PUSH and PULL, LDC without strobe, MOV to a register and HALT (R399, R400, R402, R404, R406-R408,
R420): each legal word leaves its engine as its rule says and drives no pin. -/
def Obligations.ShrewCoreInstructions : Prop :=
  ∀ (e : Fin 32) (x : ShTick) (s : State), s.shRuns e x →
    let r := s.shr e
    let nx (r : Shrew) : Shrew := r.go (r.pc + 1)
    (∀ o : BitVec 12,
      let v := o.toNat
      Completes (.shrewBr e x o) s (ShrStep e
        (r.go (if s.shCond x e (bitsAt v 7 4) ≠ o.getLsbD 11 then bitsAt v 0 7 else r.pc + 1)) false s) ∧
      (bitsAt v 4 5 = 0 → bitsAt v 9 2 = 0 → bitsAt v 0 4 < 8 → Completes (.wait e x o) s (ShrStep e
        (if s.lane x e (bitsAt v 0 4) = o.getLsbD 11 then nx r else { r with st := .waiting }) false s)) ∧
      (bitsAt v 4 5 = 0 → bitsAt v 9 2 = 1 → bitsAt v 0 4 < 8 → Completes (.wait e x o) s (ShrStep e
        (if r.armed = true ∧ x.edge = true then nx r
         else { r with st := .waiting, armed := true, lvl := s.lane x e (bitsAt v 0 4) }) false s)) ∧
      (bitsAt v 4 5 = 0 → bitsAt v 9 2 = 2 → Completes (.wait e x o) s (ShrStep e
        (if hasBit s.shrFlags (bitsAt v 0 4) = o.getLsbD 11 then nx r else { r with st := .waiting }) false s)) ∧
      (bitsAt v 4 5 = 0 → bitsAt v 9 2 = 3 → bitsAt v 0 4 < 8 → o.getLsbD 11 = true → Completes (.wait e x o) s (fun t =>
        let i := s.get F.shrIrq e
        t.shr e = (if hasBit i (bitsAt v 0 4) = true then nx r else { r with st := .waiting }) ∧
        t.get F.shrIrq e = (if hasBit i (bitsAt v 0 4) = true then clrBit i (bitsAt v 0 4) % 2 ^ F.shrIrq.w else i) ∧
        (∀ j, j ≠ e.val → t.shr j = s.shr j) ∧ s.sameRegs [F.shrPinIn0, F.shrPinIn1, F.shrIrq] t ∧
        t = { s with shrews := t.shrews, live := t.live })) ∧
      (bitsAt v 7 4 = 0 → Completes (.loop e x o) s (ShrStep e
        (let c := r.cnt (o.getLsbD 11)
         if c = 0 then nx r
         else (r.setCnt (o.getLsbD 11) (c - 1)).go (if c = 1 then r.pc + 1 else bitsAt v 0 7)) false s)) ∧
      (let l := nx (r.setCnt (o.getLsbD 11) (BitVec.ofNat 16 (bitsAt v 0 10)))
       Completes (.ldc e x o) s (fun t => ShrStep e { l with kLeft := (t.shr e).kLeft } true s t ∧ t.gpOe = s.gpOe) ∧
       (o.getLsbD 10 = false → Completes (.ldc e x o) s (ShrStep e l false s))) ∧
      (bitsAt v 10 2 ≠ 3 → bitsAt v 4 6 = 0 → Completes (.flag e x o) s (fun t =>
        let f := bitsAt v 0 4
        t.shrFlags = (match bitsAt v 10 2 with
          | 0 => clrBit s.shrFlags f
          | 1 => setBit s.shrFlags f
          | _ => if hasBit s.shrFlags f then clrBit s.shrFlags f else setBit s.shrFlags f) ∧
        ShrStep e (nx r) false s { t with shrFlags := s.shrFlags })) ∧
      (bitsAt v 9 3 < 4 → bitsAt v 6 3 ≠ 7 → bitsAt v 4 2 ≠ 3 → bitsAt v 0 4 = 0 → Completes (.shrewMov e x o) s (ShrStep e
        (let a : W24 := match bitsAt v 6 3 with
           | 0 => r.sr
           | 1 => r.ca.setWidth 24
           | 2 => r.cb.setWidth 24
           | 3 => r.m
           | 4 => BitVec.ofNat 24 (s.lanes x e)
           | 5 => 0
           | _ => r.qpos.setWidth 24
         let b := match bitsAt v 4 2 with
           | 0 => a
           | 1 => ~~~a
           | _ => a ^^^ r.m
         nx (match bitsAt v 9 3 with
           | 0 => { r with sr := b, c := 24 }
           | 1 => { r with ca := b.setWidth 16 }
           | 2 => { r with cb := b.setWidth 16 }
           | _ => { r with m := b })) false s)) ∧
      (bitsAt v 9 3 = 4 ∨ bitsAt v 9 3 = 5 → bitsAt v 6 3 ≠ 7 → bitsAt v 4 2 ≠ 3 → bitsAt v 0 4 = 0 →
        Completes (.shrewMov e x o) s (fun t => ShrStep e (nx r) true s t ∧
          (bitsAt v 9 3 = 4 → t.gpOe = s.gpOe) ∧ (bitsAt v 9 3 = 5 → t.gpLvl = s.gpLvl) ∧
          (∀ p, (∀ l, l < 8 → s.lanePin e l = p → s.act F.shrPincfgOwner p ≠ e) →
            hasBit t.gpLvl p = hasBit s.gpLvl p ∧ hasBit t.gpOe p = hasBit s.gpOe p))) ∧
      (o = 0 → Completes (.halt e x o) s (ShrStep e { nx r with st := .halted, sr := 0, c := 0 } false s))) ∧
    (∀ o : BitVec 10, bitsAt o.toNat 0 9 = 0 →
      Completes (.shiftClr e x o) s (ShrStep e (nx { r with sr := 0, c := 0 }) false s) ∧
      Completes (.shiftPush e x o) s (ShrStep e
        (if r.c = 0 then nx { r with sr := 0 }
         else if r.rlat = none then
           nx { r with rlat := some (shWord (s.on F.shrCfgDir e) r.sr r.c), sr := 0, c := 0 }
         else if o.getLsbD 9 = true then nx r else { r with st := .stalled }) false s) ∧
      Completes (.shiftPull e x o) s (ShrStep e
        (match r.tlat with
         | none => if o.getLsbD 9 = true then nx r else { r with st := .stalled }
         | some w => nx { r with sr := shPlace (s.on F.shrCfgDir e) w (s.act F.shrCfgWlen e), c := s.act F.shrCfgWlen e,
                                 tlat := none }) false s))

/-- SET, OUT, IN, QSTEP and AXP (R402-R405, R411-R413): a pin changes only when the engine owns it; OUT and IN shift SR by n, take a
linked word from the transmit latch and hand one to the receive latch, or stall; a quadrature step and a posted count move QPOS.
Starting, stopping and swapping Shrew engines (R396, R418-R424), and a bank whose supply does not match (R414): a start begins
bank word 0 with cleared registers; STOP keeps the latches; a swap waits for a safe point; only engines of the mask change. -/
def Obligations.ShrewPinsAndControl : Prop :=
  (∀ (e : Fin 32) (x : ShTick) (s : State), s.shRuns e x →
    let r := s.shr e
    let nx (r : Shrew) : Shrew := r.go (r.pc + 1)
    let mine (t : State) : Prop := ∀ p, (∀ l, l < 8 → s.lanePin e l = p → s.act F.shrPincfgOwner p ≠ e) →
      hasBit t.gpLvl p = hasBit s.gpLvl p ∧ hasBit t.gpOe p = hasBit s.gpOe p
    (∀ o : BitVec 12,
      let v := o.toNat
      let n := bitsAt v 0 5
      (o.getLsbD 8 = false → Completes (.set e x o) s (fun t => ShrStep e { nx r with kLeft := (t.shr e).kLeft } true s t ∧
        mine t ∧ (o.getLsbD 11 = false → t.gpOe = s.gpOe) ∧
        (o.getLsbD 10 = false → (t.shr e).kLeft = r.kLeft ∧ (o.getLsbD 11 = true → t.gpLvl = s.gpLvl)))) ∧
      (let need : Bool := s.on F.shrCfgLinkTx e && r.c == 0
       let w := s.act F.shrCfgWlen e
       let r' : Shrew := match need, r.tlat with
         | true, some d => { r with sr := shPlace (s.on F.shrCfgDir e) d w, c := w, tlat := none }
         | _, _ => r
       (o.getLsbD 8 = false → n ≤ 24 → need = false ∨ r.tlat ≠ none → Completes (.out e x o) s (fun t =>
         (t.shr e).sr = (if s.on F.shrCfgDir e then BitVec.ofNat 24 (r'.sr.toNat / 2 ^ n)
                         else BitVec.ofNat 24 (r'.sr.toNat * 2 ^ n)) ∧ (t.shr e).c = r'.c - n ∧ (t.shr e).tlat = r'.tlat ∧
         (t.shr e).st = .running ∧ (bitsAt v 9 2 = 0 → (t.shr e).pc = (r.pc + 1) % 128) ∧
         ShrStep e (t.shr e) true s t ∧ mine t ∧ t.gpOe = s.gpOe)) ∧
       (o.getLsbD 8 = false → n ≤ 24 → need = true → r.tlat = none →
         Completes (.out e x o) s (ShrStep e { r with st := .stalled } false s))) ∧
      (o.getLsbD 8 = false → n ≤ 24 → o.getLsbD 11 = false → bitsAt v 9 2 = 0 → s.on F.shrCfgLinkTx e = false →
        Completes (.out e x o) s (fun t => ShrStep e
          (nx { r with sr := if s.on F.shrCfgDir e then BitVec.ofNat 24 (r.sr.toNat / 2 ^ n)
                             else BitVec.ofNat 24 (r.sr.toNat * 2 ^ n), c := r.c - n }) true s t ∧ t.gpOe = s.gpOe ∧
          (n = 1 → s.act F.shrPincfgOwner (s.lanePin e (bitsAt v 5 3)) = e → s.on F.shrCfgCkEn e = false →
            hasBit t.gpLvl (s.lanePin e (bitsAt v 5 3)) = if s.on F.shrCfgDir e then r.sr.getLsbD 0 else r.sr.getLsbD 23))) ∧
      (let data := if hasBit v 8 then 0 else maskOf ((List.range n).filter (fun j => s.lane x e (bitsAt v 5 3 + j)))
       let sr : W24 := if s.on F.shrCfgDir e then BitVec.ofNat 24 (r.sr.toNat / 2 ^ n + data * 2 ^ (24 - n))
         else BitVec.ofNat 24 (r.sr.toNat * 2 ^ n + data)
       let hand : Prop := s.on F.shrCfgLinkRx e = true ∧ n ≠ 0 ∧ s.act F.shrCfgWlen e ≤ min 24 (r.c + n)
       (n ≤ 24 → ¬ hand → Completes (.shIn e x o) s (fun t => (t.shr e).sr = sr ∧ (t.shr e).c = min 24 (r.c + n) ∧
         (t.shr e).rlat = r.rlat ∧ (t.shr e).st = .running ∧ ShrStep e (t.shr e) true s t ∧ mine t ∧ t.gpOe = s.gpOe)) ∧
       (n ≤ 24 → hand → r.rlat = none → Completes (.shIn e x o) s (fun t => (t.shr e).sr = 0 ∧ (t.shr e).c = 0 ∧
         (t.shr e).rlat = some (shWord (s.on F.shrCfgDir e) sr (s.act F.shrCfgWlen e)) ∧ (t.shr e).st = .running ∧
         ShrStep e (t.shr e) true s t ∧ mine t ∧ t.gpOe = s.gpOe)) ∧
       (n ≤ 24 → hand → r.rlat ≠ none → Completes (.shIn e x o) s (ShrStep e { r with st := .stalled } false s))) ∧
      (n ≤ 24 → o.getLsbD 11 = false → bitsAt v 9 2 = 0 → s.on F.shrCfgLinkRx e = false →
        Completes (.shIn e x o) s (ShrStep e
          (let data := if hasBit v 8 then 0 else maskOf ((List.range n).filter (fun j => s.lane x e (bitsAt v 5 3 + j)))
           nx { r with sr := if s.on F.shrCfgDir e then BitVec.ofNat 24 (r.sr.toNat / 2 ^ n + data * 2 ^ (24 - n))
                             else BitVec.ofNat 24 (r.sr.toNat * 2 ^ n + data), c := min 24 (r.c + n) }) false s)) ∧
      (bitsAt v 6 6 = 0 → Completes (.qstep e x o) s (fun t =>
        let p := (s.lane x e (bitsAt v 0 3)).toNat + 2 * (s.lane x e (bitsAt v 3 3)).toNat
        let d : BitVec 32 := if s.on F.shrCfgQinv e then -1 else 1
        let is (q : BitVec 32) : Prop := t.shr e = nx { r with qprev := some p, qpos := q } ∧
          (∀ j, j ≠ e.val → t.shr j = s.shr j) ∧ t.gpLvl = s.gpLvl ∧ t.gpOe = s.gpOe ∧ s.sameMem t ∧
          (s.axesOf 4 = [] → s.sameRegs [F.shrPinIn0, F.shrPinIn1] t)
        (r.qprev = none ∨ r.qprev = some p → is r.qpos) ∧
        (∀ q, q < 4 → r.qprev = some q →
          ((q = 0 ∧ p = 1) ∨ (q = 1 ∧ p = 3) ∨ (q = 3 ∧ p = 2) ∨ (q = 2 ∧ p = 0) → is (r.qpos + d)) ∧
          ((q = 1 ∧ p = 0) ∨ (q = 3 ∧ p = 1) ∨ (q = 2 ∧ p = 3) ∨ (q = 0 ∧ p = 2) → is (r.qpos - d)) ∧
          ((q = 0 ∧ p = 3) ∨ (q = 3 ∧ p = 0) ∨ (q = 1 ∧ p = 2) ∨ (q = 2 ∧ p = 1) →
            t.get F.shrQerr e = satAdd F.shrQerr.w (s.get F.shrQerr e) 1 ∧ (t.shr e).qpos = r.qpos)))) ∧
      (bitsAt v 8 3 = 0 → Completes (.axp e x o) s (fun t =>
        t.shr e = nx { r with qpos := r.qpos + BitVec.ofInt 32 (if o.getLsbD 11 then r.ca.toInt else sgn 8 v) } ∧
        (∀ j, j ≠ e.val → t.shr j = s.shr j) ∧ t.gpLvl = s.gpLvl ∧ t.gpOe = s.gpOe ∧ s.sameMem t ∧
        (s.axesOf 4 = [] → s.sameRegs [F.shrPinIn0, F.shrPinIn1] t))))) ∧
  (∀ (e : Fin 32) (s : State), s.domOn .shrew = true → s.off = false →
    let r := s.shr e
    let m : BitVec 32 := 1#32 <<< e.val
    let others (t : State) : Prop := ∀ j, j ≠ e.val → t.shr j = s.shr j
    (r.st ≠ .retired → r.st.live = false → r.swapPend = false → r.kLeft = 0 → Completes (.shrStartSet m) s (fun t =>
      t.shr e = { r with st := .running, pc := 0, sr := 0, c := 0, ca := 0, cb := 0, qprev := none, armed := false,
                         m := BitVec.ofNat 24 (s.act F.shrMatchValue e), phase := s.act F.shrDivRate e - 256 } ∧
      others t ∧ t.get F.shrIrq e = 0 ∧ s.sameRegs [F.shrIrq] t ∧ t = { s with shrews := t.shrews, live := t.live })) ∧
    (r.st ≠ .retired → r.st.live = false → Completes (.shrStartSet m) s (fun t =>
      (t.shr e).st = .running ∧ (t.shr e).pc = 0 ∧ (t.shr e).sr = 0 ∧ (t.shr e).c = 0 ∧ (t.shr e).kLeft = 0 ∧
      (t.shr e).bank = (if r.swapPend then !r.bank else r.bank) ∧ (t.shr e).swapPend = false ∧ others t ∧
      s.sameRegs [F.shrIrq, F.shrSwaps] t ∧ t = { s with shrews := t.shrews, live := t.live, gpLvl := t.gpLvl })) ∧
    (r.st ≠ .retired → r.st.live = true → Completes (.shrStartSet m) s (fun t =>
      t.get F.shrStartOvr e = satAdd F.shrStartOvr.w (s.get F.shrStartOvr e) 1 ∧ s.sameRegs [F.shrStartOvr] t ∧
      t = { s with live := t.live })) ∧
    (r.st ≠ .retired → Completes (.shrStop m) s (fun t =>
      t.shr e = { r with st := .stopped, sr := 0, c := 0, armed := false } ∧ others t ∧ t = { s with shrews := t.shrews })) ∧
    Completes (.shrSwap m) s (fun t => t.shr e = { r with swapPend := true } ∧ others t ∧ t = { s with shrews := t.shrews }) ∧
    (r.swapPend = true → r.safe = true → Completes (.swapAtSafePoint e) s (fun t =>
      (t.shr e).bank = !r.bank ∧ (t.shr e).swapPend = false ∧ (r.st.live = true → (t.shr e).pc = 0 ∧ (t.shr e).st = .running) ∧
      t.get F.shrSwaps e = satAdd F.shrSwaps.w (s.get F.shrSwaps e) 1 ∧ others t ∧ s.sameRegs [F.shrSwaps] t ∧
      t = { s with shrews := t.shrews, live := t.live })) ∧
    (r.st.live = false → Completes (.shrFswap m) s (fun t =>
      t.shr e = { r with bank := !r.bank, swapPend := false, sr := 0, c := 0 } ∧ others t ∧
      t.get F.shrShiftLost e = r.c % 2 ^ F.shrShiftLost.w ∧ s.sameRegs [F.shrShiftLost, F.shrSwaps] t)) ∧
    (r.st.live = true → Completes (.shrFswap m) s (fun t =>
      (t.shr e).bank = !r.bank ∧ (t.shr e).swapPend = false ∧ (t.shr e).sr = 0 ∧ (t.shr e).c = 0 ∧ (t.shr e).pc = 0 ∧
      (t.shr e).st = .running ∧ others t ∧ t.get F.shrShiftLost e = r.c % 2 ^ F.shrShiftLost.w ∧
      s.sameRegs [F.shrShiftLost, F.shrSwaps] t)) ∧
    Completes (.shrClkRestart m) s (fun t => (t.shr e).phase = s.act F.shrDivRate e - 256 ∧ (t.shr e).kLeft = 0 ∧ others t ∧
      s.sameRegs [] t ∧ t = { s with shrews := t.shrews, gpLvl := t.gpLvl }) ∧
    (r.kLeft = 0 → Completes (.shrClkRestart m) s (fun t =>
      t.shr e = { r with phase := s.act F.shrDivRate e - 256 } ∧ others t ∧ t = { s with shrews := t.shrews })) ∧
    (∀ (k : Fin 8) (v33 : Bool), Completes (.bankMismatch k v33) s (fun t =>
      hasBit t.vddio33 k = v33 ∧ (∀ j, j ≠ k.val → hasBit t.vddio33 j = hasBit s.vddio33 j) ∧ t.shrews = s.shrews ∧
      s.sameMem t ∧ t.threads = s.threads)))

/-- The FIFOs, latches and event latches of a Shrew engine, the flags and the program memory (R404, R408, R410, R416, R421). -/
def Obligations.ShrewFifosAndLatches : Prop :=
  ∀ (e : Fin 32) (s : State), s.domOn .shrew = true → s.off = false →
    let r := s.shr e
    let only (r' : Shrew) (t : State) : Prop := t.shr e = r' ∧ (∀ j, j ≠ e.val → t.shr j = s.shr j)
    (∀ w, r.rlat = some w → r.rxf.length < 8 → Completes (.rxLatchPass e) s (fun t =>
      only { r with rlat := none, rxf := r.rxf ++ [w] } t ∧ s.sameRegs [] t ∧
      t = { s with shrews := t.shrews, threads := t.threads })) ∧
    (∀ w q, r.tlat = none → r.txf = w :: q → Completes (.txLatchTake e) s (fun t =>
      only { r with tlat := some w, txf := q } t ∧ s.sameRegs [] t ∧ t = { s with shrews := t.shrews, threads := t.threads })) ∧
    (∀ v : BitVec 24,
      (r.txf.length < 8 → Completes (.shrTxf e v) s (fun t => only { r with txf := r.txf ++ [v] } t ∧
        t = { s with shrews := t.shrews })) ∧
      (8 ≤ r.txf.length → Completes (.shrTxf e v) s (fun t => t.get F.shrErrTxfOvf e = 1 ∧ s.sameRegs [F.shrErrTxfOvf] t ∧
        t = { s with live := t.live }))) ∧
    (∀ w q, r.rxf = w :: q → Completes (.shrRxf e) s (fun t => t.rdata = [2 ^ 31 + w.toNat] ∧ only { r with rxf := q } t ∧
      t = { s with shrews := t.shrews, rdata := t.rdata })) ∧
    (r.rxf = [] → Completes (.shrRxf e) s (fun t => t.rdata = [0] ∧ t.get F.shrErrRxfUnf e = 1 ∧
      s.sameRegs [F.shrErrRxfUnf] t ∧ t = { s with live := t.live, rdata := [0] })) ∧
    Completes (.flushTxf e) s (fun t => only { r with txf := [], tlat := none } t ∧ s.sameRegs [] t ∧
      t = { s with shrews := t.shrews, threads := t.threads }) ∧
    Completes (.flushRxf e) s (fun t => only { r with rxf := [], rlat := none } t ∧ t = { s with shrews := t.shrews }) ∧
    (∀ v : BitVec 16,
      Completes (.shrFlagsSet v) s (fun t => t = { s with shrFlags := Nat.lor s.shrFlags v.toNat }) ∧
      Completes (.shrFlagsClr v) s (fun t => t = { s with shrFlags := t.shrFlags } ∧
        ∀ f, hasBit t.shrFlags f = (hasBit s.shrFlags f && !hasBit v.toNat f))) ∧
    (∀ v : BitVec 8, Completes (.shrIrqSet e v) s (fun t =>
      t.get F.shrIrq e = Nat.lor (s.get F.shrIrq e) v.toNat % 2 ^ F.shrIrq.w ∧ s.sameRegs [F.shrIrq] t ∧
      t = { s with live := t.live })) ∧
    (∀ q : Req,
     let i := s.get F.shrPmIdx (pmIdx e q.copy)
     let a := e.val * 256 + (if r.bank then 0 else 128) + i
     (∀ v : BitVec 16, Completes (.shrPmData q e (some v)) s (fun t =>
        SMap.get 0 t.shrPm a = v ∧ (∀ y, y ≠ a → SMap.get 0 t.shrPm y = SMap.get 0 s.shrPm y) ∧
        t.get F.shrPmIdx (pmIdx e q.copy) = (i + 1) % 2 ^ F.shrPmIdx.w ∧ s.sameRegs [F.shrPmIdx] t)) ∧
     (Completes (.shrPmData q e none) s (fun t =>
        t.rdata = [(SMap.get 0 s.shrPm a).toNat] ∧ t.shrPm = s.shrPm ∧
        t.get F.shrPmIdx (pmIdx e q.copy) = (i + 1) % 2 ^ F.shrPmIdx.w ∧ s.sameRegs [F.shrPmIdx] t)))

/-- A gateway pass that executes one local entry (R432-R435, R438): the source field, rescaled and clamped to the target's range, is
what the target field of the back image reads afterwards; no byte of the back image outside it and no byte of the current image
changes. A bad entry only counts and reports; a frame pass releases its frame. A pass runs its entries in ascending order after the
queued host records, and a commit edge that falls into it makes it late (R435, R437, R444). -/
def Obligations.GatewayPassesWriteTheirTargets : Prop :=
  (∀ (j : Fin 8) (s : State), s.gwRuns j = true →
    let k := s.gwThread j
    let run (h : Nat) (l : List (Nat × GwEntry)) (u : State) := l.foldl (fun u p => u.gwExec (u.act F.gwThrLe j) p.1 p.2 h) u
    ((s.th k).evp.getLsbD 0 = true →
      let u := (s.updTh k (fun x => { x with evp := x.evp &&& ~~~1 })).gwStart j
      let l := u.gwEntries (u.act F.gwCfgSel) j none
      Completes (.phasePass j none) s (fun t => t = run 0 l u) ∧
      (∀ c : Fin 4096, s.commitReq = 0 → Completes (.phasePass j (some c)) s (fun t =>
        t = run 0 (l.filter (fun p => decide (c.val < p.1))) (run 0 (l.filter (fun p => decide (p.1 ≤ c.val))) u)))) ∧
    ((s.th k).evp.getLsbD 0 = false → ∀ cut, Completes (.phasePass j cut) s (fun t => t = s)) ∧
    (∀ h x, s.gwHead j = some h → (s.frame h).flow = some x → Completes (.framePass j) s (fun t =>
      t = (run h ((s.gwStart j).gwEntries ((s.gwStart j).act F.gwCfgSel) j (some x)) (s.gwStart j)).gwDrop j h))) ∧
  ∀ (j : Fin 8) (s : State), s.hwq = [] → s.gwRuns j = true →
    let k := s.gwThread j
    let sel := s.act F.gwCfgSel
    let wrote (x : GwEntry) (h : Nat) (t : State) : Prop :=
      let ts := locSpec x.w3
      let o := locOfs x.w3
      let n := locSpan x.w3
      let r := gwScale x (s.gwSource x h)
      let c := gwClamp ts r
      fieldAt ts ((List.range n).map (fun i => t.backByte (o + i))) (locBit x.w3) = wrapI ts.len (if x.wraps then r else c) ∧
      (∀ y, y < o ∨ o + n ≤ y → t.backByte y = s.backByte y) ∧ t.imgCur = s.imgCur ∧ t.cram = s.cram ∧
      t.get F.gwCExec = satAdd F.gwCExec.w (s.get F.gwCExec) 1 ∧
      t.get F.gwCClamped = (if x.wraps = false ∧ c ≠ r then satAdd F.gwCClamped.w (s.get F.gwCClamped) 1
                            else s.get F.gwCClamped)
    let good (x : GwEntry) : Prop :=
      s.gwBad x = false ∧ x.remote = false ∧ (locSpec x.w2).len ≠ 0 ∧ (locSpec x.w3).len ≠ 0
    ((s.th k).evp.getLsbD 0 = true →
      (∀ e x, s.gwEntries sel j none = [(e, x)] → good x → Completes (.phasePass j none) s (fun t =>
        wrote x 0 t ∧ t.frames = s.frames ∧ s.thIs k { s.th k with evp := (s.th k).evp &&& ~~~1 } t)) ∧
      (∀ e x, s.gwEntries sel j none = [(e, x)] → s.gwBad x = true → Completes (.phasePass j none) s (fun t =>
        t.get F.gwCBadEntry = satAdd F.gwCBadEntry.w (s.get F.gwCBadEntry) 1 ∧ t.evq = s.evAfter 0x34 0 e 0 ∧ s.sameMem t))) ∧
    (∀ h f, s.gwHead j = some h → (s.frame h).flow = some f →
      (∀ e x, s.gwEntries sel j (some f) = [(e, x)] → good x → Completes (.framePass j) s (fun t =>
        wrote x h t ∧ t.frame h = {} ∧ (t.th k).rxq = (s.th k).rxq.drop 1 ∧ ∀ y, y ≠ h → t.frame y = s.frame y)) ∧
      (s.gwEntries sel j (some f) = [] → Completes (.framePass j) s (fun t =>
        t.frame h = {} ∧ (t.th k).rxq = (s.th k).rxq.drop 1 ∧ (∀ y, y ≠ h → t.frame y = s.frame y) ∧ s.sameMem t)))

/-- Remotes, the host queue and the gateway's counters (R441-R446): a due remote is polled or missed; a done message acknowledges or
reports; GW_RACK clears PENDING; a push queues a record under the next number; the flipped bank goes to the host. -/
def Obligations.GatewayRemotesAndQueue : Prop :=
  ∀ (s : State), s.domOn .core = true → s.off = false →
    (∀ r : Fin 256, s.on F.gwCfgEn = true → s.on F.gwRcfgEn r = true → s.act F.gwRcfgPeriodMs r ≠ 0 →
      (s.tmPast (tmPoll r) (min 1000 (s.act F.gwRcfgPeriodMs r) * 1000000) = false →
        Completes (.remotePollDue r) s (fun t => t = s)) ∧
      (s.tmPast (tmPoll r) (min 1000 (s.act F.gwRcfgPeriodMs r) * 1000000) = true →
      let j := s.act F.gwRcfgThr r
      let le := s.act F.gwThrLe j
      (s.get F.gwRstatPending r = 0 → Completes (.remotePollDue r) s (fun t =>
        t.get F.gwRstatPending r = 1 ∧ t.get F.gwCPolls = satAdd F.gwCPolls.w (s.get F.gwCPolls) 1 ∧ s.sameMem t)) ∧
      (s.get F.gwRstatPending r = 0 → s.gwRuns j = true → s.gwRoom le = true → Completes (.remotePollDue r) s (fun t =>
        t.get F.gwRstatPending r = 1 ∧ t.get F.gwCPolls = satAdd F.gwCPolls.w (s.get F.gwCPolls) 1 ∧ s.sameMem t ∧
        (let h := s.handle 0
         (t.frame h).bytes 0 16 = gwMsg 1 r 0 0 0 0 0 0 ∧
         t.subm = s.subm ++ [{ a := 16 + le, b := 192 + (16 + s.act F.gwRcfgProtoLe r), h := h }] ∧
         ∀ y, y ≠ h → t.frame y = s.frame y))) ∧
      (s.get F.gwRstatPending r ≠ 0 → Completes (.remotePollDue r) s (fun t =>
        t.get F.gwRstatMissRun r = min 3 (s.get F.gwRstatMissRun r + 1) ∧
        t.get F.gwCPollMissed = satAdd F.gwCPollMissed.w (s.get F.gwCPollMissed) 1 ∧
        (2 ≤ s.get F.gwRstatMissRun r → s.get F.gwRstatLost r = 0 → t.get F.gwRstatLost r = 1 ∧
          t.evq = s.evAfter 0x35 (s.act F.gwRcfgProtoLe r) r 0) ∧
        s.sameRegs ([F.gwRstatMissRun, F.gwCPollMissed, F.gwRstatLost] ++ evRegs) t ∧
        t = { s with live := t.live, evq := t.evq, timers := t.timers })))) ∧
    (∀ (r : Fin 256) (int : Bool), Completes (.gwRack r int) s (fun t =>
      t.get F.gwRstatPending r = 0 ∧ t.get F.gwRstatMissRun r = 0 ∧ t.get F.gwRstatLost r = 0 ∧
      t.get F.gwRlastNs r = s.time.ns % 2 ^ F.gwRlastNs.w ∧
      (int = true → s.on F.gwRcfgDbEn r = true →
        t.get F.mbxD2hPend = setBit (s.get F.mbxD2hPend) (s.act F.gwRcfgDbBit r % 32) % 2 ^ 32) ∧
      s.sameRegs [F.gwRstatPending, F.gwRstatMissRun, F.gwRstatLost, F.gwRlastNs, F.mbxD2hPend] t ∧ s.sameMem t)) ∧
    (∀ (j : Fin 8) (h : Nat), s.gwHead j = some h → s.gwIsMsg h = true →
      let l := s.frameBytes h 0 16
      let popped (t : State) : Prop := (t.th (s.gwThread j)).rxq = (s.th (s.gwThread j)).rxq.drop 1 ∧ t.frame h = {} ∧
        (∀ y, y ≠ h → t.frame y = s.frame y) ∧ s.sameMem t
      (gwMsgBad l = true → Completes (.pollDone j) s (fun t => popped t ∧
        t.get F.gwCBadMsg = satAdd F.gwCBadMsg.w (s.get F.gwCBadMsg) 1)) ∧
      (gwMsgBad l = false → byteAt l 0 = 3 → Completes (.pollDone j) s (fun t => popped t ∧
        t.get F.gwRstatPending (byteAt l 1) = 0)) ∧
      (gwMsgBad l = false → byteAt l 0 = 4 → hasBit (byteAt l 6) 0 = false → byteAt l 7 ≠ 0 →
        Completes (.writeDone j) s (fun t => popped t ∧ t.get F.gwCWriteFail = satAdd F.gwCWriteFail.w (s.get F.gwCWriteFail) 1)) ∧
      (∀ r, gwMsgBad l = false → byteAt l 0 = 4 → hasBit (byteAt l 6) 0 = true →
        s.hwq.find? (fun r => r.sent && r.seq == byteAt l 2 + 256 * byteAt l 3) = some r →
        Completes (.writeDone j) s (fun t => popped t ∧ t.hwq = s.hwq.filter (fun x => x.seq != byteAt l 2 + 256 * byteAt l 3) ∧
          (byteAt l 7 = 0 → t.pwe = s.pwe) ∧
          (byteAt l 7 ≠ 0 → s.pwe.length < 64 → t.pwe = s.pwe ++ [
            { tag := r.tag, cause := 0x10 + min (byteAt l 7) 3,
              target := r.ofs, space := 2, remote := r.remote, width := r.width, ns := s.time.ns }]))) ∧
      (gwMsgBad l = false → byteAt l 0 = 4 → hasBit (byteAt l 6) 0 = false → byteAt l 7 = 0 →
        Completes (.writeDone j) s popped)) ∧
    (∀ tag : BitVec 16,
      let w := s.get F.gwHwqDataWidth
      let q := (s.get F.gwHwqStatLastSeq + 1) % 65536
      (w ≠ 0 → (s.hwq.filter (fun r => !r.sent)).length < 64 → Completes (.gwHwqPush tag) s (fun t =>
        t.hwq = s.hwq ++ [{ seq := q, tag := tag.toNat, remote := s.get F.gwHwqAddrRemote, ofs := s.get F.gwHwqAddrOfs,
                            width := w, value := s.get F.gwHwqDataValue }] ∧
        t.get F.gwHwqStatLastSeq = q ∧ s.sameRegs [F.gwHwqStatLastSeq, F.gwHwqStatLevel, F.gwHwqDone] t ∧
        t = { s with live := t.live, hwq := t.hwq })) ∧
      (w = 0 ∨ 64 ≤ (s.hwq.filter (fun r => !r.sent)).length → Completes (.gwHwqPush tag) s (fun t =>
        t.hwq = s.hwq ∧ t.get F.gwCHwqDrop = satAdd F.gwCHwqDrop.w (s.get F.gwCHwqDrop) 1 ∧
        s.sameRegs [F.gwCHwqDrop, F.mbxPweTotal, F.mbxPweOvf, F.mbxD2hPend] t ∧ s.sameMem t))) ∧
    (∀ (sel : Fin 16) (n : BitVec 24),
      (∀ f, [F.gwCExec, F.gwCBadEntry, F.gwCClamped, F.gwCBackoff, F.gwCPassLate, F.gwCHwqDrop, F.gwCPollMissed, F.gwCWriteFail,
             F.gwCBadMsg, F.gwCPolls][sel.val]? = some f → Completes (.gwCntAdd sel n) s (fun t =>
        t.get f = satAdd f.w (s.get f) n.toNat ∧ s.sameRegs [f] t ∧ t = { s with live := t.live })) ∧
      (10 ≤ sel.val → Completes (.gwCntAdd sel n) s (fun t => t = s))) ∧
    (s.get F.gwStatHandover ≠ 0 → s.retired 3 (s.gwBank (1 - s.act F.gwCfgSel)) = false → Completes .gwHandoverDone s (fun t =>
      t.get F.memBankOwnOwner (s.gwBank (1 - s.act F.gwCfgSel)) = 16 ∧ t.get F.gwStatHandover = 0 ∧
      s.sameRegs [F.memBankOwnOwner, F.gwStatHandover] t ∧ t = { s with live := t.live }))

/-- The lock-out latch (R450, R455, R470, R657): a supply or clock out of its window, a readback that differs, FORCE_LOCK and an internal
fault set it with their cause, so every safe output is low and disarmed; a second internal fault within 1 s halts Owl. -/
def Obligations.FaultsLockTheOutputs : Prop :=
  ∀ s : State,
    (s.off = false → Completes .forceLock s (fun t => s.lockedBy 9 t ∧ s.sameRegs lockRegs t ∧
      t = { s with live := t.live, owl := t.owl })) ∧
    (∀ m : Fin 5, s.owl.halted = false → Completes (.supplyFault m) s (fun t => s.lockedBy 3 t ∧ t.evq = s.evAfter 0x3A m 0 0 ∧
      s.sameRegs (evRegs ++ lockRegs) t ∧
      t = { s with live := t.live, owl := t.owl, evq := t.evq, supOut := setBit s.supOut m })) ∧
    (∀ m : Fin 5, Completes (.supplyReturn m) s (fun t => t = { s with supOut := clrBit s.supOut m })) ∧
    (∀ k : Fin 6, (s.owl.halted = false → s.clockOn k = true → Completes (.clockFault k) s (fun t =>
        s.lockedBy 4 t ∧ t.evq = s.evAfter 0x3B k 0 0 ∧
        s.sameRegs (evRegs ++ lockRegs) t ∧ t = { s with live := t.live, owl := t.owl, evq := t.evq })) ∧
      (s.clockOn k = false → Completes (.clockFault k) s (fun t => t = s))) ∧
    (∀ (k : Fin 4) (a b : BitVec 4),
      (s.owl.halted = false → a.getLsbD k ≠ s.energised k ∨ b.getLsbD k ≠ s.energised k →
        Completes (.readbackFault k a b) s (fun t =>
          s.lockedBy 7 t ∧ t.evq = s.evAfter 0x3E k 0 0 ∧ t.get F.owlOutStatRbA = a.toNat ∧ t.get F.owlOutStatRbB = b.toNat ∧
          s.sameRegs (evRegs ++ lockRegs) t ∧ t = { s with live := t.live, owl := t.owl, evq := t.evq })) ∧
      (a.getLsbD k = s.energised k → b.getLsbD k = s.energised k → Completes (.readbackFault k a b) s (fun t => t = s))) ∧
    (∀ (k : Fin 4) (fail : Bool), s.owl.halted = false → s.act F.owlCfgTpMs ≠ 0 → s.energised k = true →
      (s.tpDue k = true → Completes (.testPulse k fail) s (fun t =>
        t.owl.tpB = putBitN s.owl.tpB k (!hasBit s.owl.tpB k) ∧
        (fail = false → t = { s.tmStart (tmTp k) with owl := { s.owl with tpB := t.owl.tpB } }) ∧
        (fail = true → s.lockedBy 7 t ∧ t.evq = s.evAfter 0x3E k 0 0 ∧ s.sameRegs (evRegs ++ lockRegs) t))) ∧
      (s.tpDue k = false → Completes (.testPulse k fail) s (fun t => t = s))) ∧
    (s.owl.halted = false → Completes .owlInternalFault s (fun t =>
      s.lockedBy 8 t ∧ t.owl.intAt = some s.up ∧ t.evq = s.evAfter 0x3F 0 0 0 ∧
      (t.owl.halted = true ↔ ∃ u, s.owl.intAt = some u ∧ s.up < u + 1000000000) ∧
      s.sameRegs (evRegs ++ lockRegs) t ∧ t = { s with live := t.live, owl := t.owl, evq := t.evq })) ∧
    (s.owl.halted = false → Completes .txEnabledGateClosed s (fun t => t.evq = s.evAfter 0x3D 0 0 0 ∧
      (s.act F.owlGuardReact = 0 → s.lockedBy 6 t) ∧
      (s.act F.owlGuardReact ≠ 0 → t.owl = s.owl ∧ s.sameRegs evRegs t) ∧
      s.sameRegs (evRegs ++ lockRegs) t ∧ t = { s with live := t.live, owl := t.owl, evq := t.evq }))

/-- No command of Owl drives an output while the latch is set, and none clears the latch: that is for SAFE_UNLOCK (R470, R471). -/
def Obligations.OwlCommandsKeepTheLatch : Prop :=
  ∀ (s t : State) (c : Instr), owlCommand c = true → s.latchSafe = true → exec c s = .next t →
    t.latchSafe = true ∧ (s.locked = true → t.locked = true)

/-- Demands and safety threads (R451, R453, R454, R656): a demand with its complement is taken and arms an output by its rising edge;
a restart taken too soon or a thread that stops is a fault, which locks or drops the outputs under REACT; OWL_TW_ACK runs it again. -/
def Obligations.DemandsAndSafetyThreads : Prop :=
  ∀ s : State,
    (∀ v : BitVec 32, s.off = false → s.owl.halted = false →
      let w := v.toNat % 4096
      (demandOk w = true → Completes (.owlDemand v) s (fun t =>
        t.get F.owlDemand = w ∧
        (∀ k, k < 4 → s.outFree k = true → s.on F.owlOutSrc k = false →
          (t.energised k = true ↔ hasBit w k = true ∧ (hasBit (s.get F.owlOutStatArmed) k = true ∨ hasBit s.owl.dem k = false))) ∧
        (∀ k, k < 4 → s.outFree k = false → t.energised k = false) ∧
        s.sameRegs (F.owlDemand :: driveRegs) t ∧ t = { s with live := t.live, owl := t.owl })) ∧
      (demandOk w = false → (∃ k, k < 4 ∧ s.on F.owlOutSrc k = false) → Completes (.owlDemand v) s (fun t =>
        s.lockedBy 10 t ∧ t.evq = s.evAfter 0x41 0 0 0 ∧ t.get F.owlDemand = s.get F.owlDemand ∧
        s.sameRegs (evRegs ++ lockRegs) t ∧ t = { s with live := t.live, owl := t.owl, evq := t.evq }))) ∧
    (∀ r q, s.owlRep = r :: q → Completes .owlThreadReport s (fun t => t.owlRep = q ∧ (s.locked = true → t.locked = true) ∧
      t = { s with live := t.live, owl := t.owl, owlRep := q, tws := t.tws, timers := t.timers, evq := t.evq })) ∧
    (∀ (k : Fin 16) (r : OwlReport) (v : BitVec 24), s.owl.halted = false → s.owlRep = [r] → r.value = some v →
      (∀ j, j < 16 → (s.on F.owlTwEn j = true ∧ 4 * s.act F.owlTwLe j + s.act F.owlTwT j = r.k ↔ j = k.val)) →
      (∀ u, (s.tw k).last = some u → u + s.act F.owlTwMinUs k * 1000 ≤ s.up) → demandOk v.toNat = true →
      Completes .owlThreadReport s (fun t => t.owlRep = [] ∧ (t.tw k).dem = v.toNat % 16 ∧ (t.tw k).last = some s.up ∧
        t.twSt k = (if s.twSt k = 2 ∧ 4 ≤ (s.tw k).n + 1 then 3 else s.twSt k) ∧
        s.sameRegs (F.owlTwStat :: driveRegs) t ∧
        t = { s.tmStart (tmTw k) with live := t.live, owl := t.owl, owlRep := [], tws := t.tws })) ∧
    (∀ k : Fin 16, s.tmPast (tmTw k) (s.act F.owlTwMaxUs k * 1000) = false → Completes (.owlThreadTimeout k) s (fun t => t = s)) ∧
    (∀ k : Fin 16, s.owl.halted = false → s.on F.owlTwEn k = true → s.tmPast (tmTw k) (s.act F.owlTwMaxUs k * 1000) = true →
      Completes (.owlThreadTimeout k) s (fun t => t.twSt k = 2 ∧ (t.tw k).n = 0 ∧ t.evq = s.evAfter 0x39 k 0 0 ∧
      (s.act F.owlTwReact k = 0 → s.lockedBy 2 t) ∧
      (s.act F.owlTwReact k = 1 → ∀ j, j < 4 → s.act F.owlOutTw j = k.val → t.energised j = false) ∧
      s.sameRegs (F.owlTwStat :: evRegs ++ lockRegs) t ∧
      t = { s.tmStart (tmTw k) with live := t.live, owl := t.owl, evq := t.evq, tws := t.tws })) ∧
    (∀ m : BitVec 16, s.off = false → Completes (.owlTwAck m) s (fun t =>
      (∀ k, k < 16 → t.twSt k = if m.getLsbD k = true ∧ s.twSt k = 3 then 1 else s.twSt k) ∧
      s.sameRegs (F.owlTwStat :: driveRegs) t ∧ t = { s with live := t.live, owl := t.owl }))

/-- Safe-channel connections (R459-R468): a good message in step is accepted, counted and sets the next deadline; a wrong check value
counts towards CHK_MAX; a deadline or backstop is a fault that locks or drops outputs under REACT; OWL_C_ACK leaves WAIT_ACK. -/
def Obligations.SafeChannelConnections : Prop :=
  ∀ s : State, s.owl.halted = false →
    (∀ a q', s.taps = a :: q' → s.uscMode a.c = 1 → s.get F.owlCStatState a.c = 2 → s.act F.owlCPosOfs a.c + s.uscLen a.c ≤ a.len →
      let l := a.msg.take (s.uscLen a.c)
      let q := beBytes ((l.drop 4).take 3)
      let m := s.axMod (s.act F.owlCCfgAxis a.c)
      (uscCrcOk l = true → beBytes (l.take 4) = s.act F.owlCId a.c → q = s.get F.owlCSeq a.c → s.get F.owlCSeq a.c < 2 ^ 24 →
        0 < s.act F.owlCPosSeqWin a.c → s.on F.owlCCfgTstamp a.c = false →
        Completes .uscMessage s (fun t => t.taps = q' ∧
          t.get F.owlCSeq a.c = (q + 1) % 2 ^ 24 ∧ t.get F.owlCcAccepted a.c = satAdd F.owlCcAccepted.w (s.get F.owlCcAccepted a.c) 1 ∧
          t.get F.owlCStatState a.c = 2 ∧ (t.conn a.c).chk = 0 ∧ (t.conn a.c).back = true ∧
          (t.conn a.c).dl = some ((a.ax + s.act F.owlCTexpLo a.c + 2 ^ 32 * s.act F.owlCTexpHi a.c) % m) ∧
          s.sameRegs ([F.owlCSeq, F.owlCcAccepted, F.owlCcLostMsg] ++ driveRegs) t ∧
          t = { s.tmStart (tmBackstop a.c) with live := t.live, owl := t.owl, taps := q', conns := t.conns, flowMem := t.flowMem })) ∧
      (uscCrcOk l = false → (s.conn a.c).chk + 1 < s.act F.owlCPosChkMax a.c → Completes .uscMessage s (fun t =>
        t.taps = q' ∧ (t.conn a.c).chk = (s.conn a.c).chk + 1 ∧
        t.get F.owlCcChkFail a.c = satAdd F.owlCcChkFail.w (s.get F.owlCcChkFail a.c) 1 ∧
        s.sameRegs [F.owlCcChkFail] t ∧ t = { s with live := t.live, taps := q', conns := t.conns, flowMem := t.flowMem })) ∧
      (uscCrcOk l = false → s.act F.owlCPosChkMax a.c ≤ (s.conn a.c).chk + 1 → Completes .uscMessage s (fun t =>
        t.taps = q' ∧ s.connFaulted a.c 1 t))) ∧
    (∀ a q', s.taps = a :: q' → s.uscMode a.c = 1 → s.get F.owlCStatState a.c ≠ 0 → a.len < s.act F.owlCPosOfs a.c + s.uscLen a.c →
      s.act F.owlCPosChkMax a.c ≤ (s.conn a.c).chk + 1 → Completes .uscMessage s (fun t => t.taps = q' ∧ s.connFaulted a.c 1 t)) ∧
    (∀ a q', s.taps = a :: q' → 2 ≤ s.uscMode a.c → s.get F.owlCStatState a.c ≠ 0 →
      a.port = s.act F.owlCPathPathA a.c ∨ a.port = s.act F.owlCPathPathB a.c → s.act F.owlCPosOfs a.c + s.uscLen a.c ≤ a.len →
      s.skewPast a.c = false → (s.uscMode a.c = 3 → uscCrcOk (a.msg.take (s.uscLen a.c)) = true) →
      let path := if a.port = s.act F.owlCPathPathA a.c then 0 else 1
      ((s.conn a.c).win = none → Completes .uscMessage s (fun t =>
        (t.conn a.c).win = some (path, a.msg.take (s.uscLen a.c)) ∧
        t = { s.tmStart (tmSkew a.c) with taps := q', conns := t.conns })) ∧
      (∀ m, (s.conn a.c).win = some (path, m) → Completes .uscMessage s (fun t => t.taps = q' ∧
        t.get F.owlCcDup a.c = satAdd F.owlCcDup.w (s.get F.owlCcDup a.c) 1 ∧ (t.conn a.c).win = some (path, m) ∧
        s.sameRegs [F.owlCcDup] t)) ∧
      (∀ p m, (s.conn a.c).win = some (p, m) → p ≠ path → m ≠ a.msg.take (s.uscLen a.c) → Completes .uscMessage s (fun t =>
        t.taps = q' ∧ t.get F.owlCStatFault a.c = 5 ∧ t.get F.owlCStatState a.c = 3))) ∧
    (∀ c : Fin 256, s.get F.owlCStatState c ≠ 0 →
      let m := s.axMod (s.act F.owlCCfgAxis c)
      let due (d : Nat) := 2 * ((s.axVal (s.act F.owlCCfgAxis c) + m - d % m) % m) < m
      (∀ d, s.get F.owlCStatState c ≠ 3 → (s.conn c).dl = some d → (s.conn c).late = true ∨ due d →
        Completes (.uscDeadline c) s (fun t => s.connFaulted c 6 t)) ∧
      (∀ d, (s.conn c).dl = some d → (s.conn c).late = false → ¬ due d → Completes (.uscDeadline c) s (fun t => t = s)) ∧
      (let back := s.tmPast (tmBackstop c) (s.act F.owlCBackstop c * 1000)
       (s.get F.owlCStatState c ≠ 3 → (s.conn c).back = true → back = true →
         Completes (.uscBackstop c) s (fun t => s.connFaulted c 7 t)) ∧
       ((s.conn c).back = false ∨ back = false → Completes (.uscBackstop c) s (fun t => t = s)))) ∧
    (∀ c : Fin 256, s.skewPast c = false → Completes (.uscSkewClose c) s (fun t => t = s)) ∧
    (∀ (c : Fin 256) (p : Nat) (l : List Byte), (s.conn c).win = some (p, l) → s.skewPast c = true → s.uscMode c = 2 →
      s.healedPath c = false →
      (s.act F.owlCPathSingleMax c ≤ (s.conn c).singles + 1 → s.get F.owlCStatState c ≠ 0 → Completes (.uscSkewClose c) s (fun t =>
        (t.conn c).win = none ∧ t.get F.owlCStatDegraded c = (if s.get F.owlCStatDegraded c = 0 then 1 else s.get F.owlCStatDegraded c) ∧
        t.get F.owlCcSingle c = satAdd F.owlCcSingle.w (s.get F.owlCcSingle c) 1)) ∧
      ((s.conn c).singles + 1 < s.act F.owlCPathSingleMax c →
      Completes (.uscSkewClose c) s (fun t => (t.conn c).win = none ∧ (t.conn c).singles = (s.conn c).singles + 1 ∧
        (t.conn c).duals = 0 ∧ t.get F.owlCcSingle c = satAdd F.owlCcSingle.w (s.get F.owlCcSingle c) 1 ∧
        t.get F.owlCStatState c = s.get F.owlCStatState c ∧ t.get F.owlCSeq c = s.get F.owlCSeq c))) ∧
    (∀ c : Fin 256, s.off = false → s.get F.owlCStatState c = 4 → Completes (.owlCAck c) s (fun t => t.get F.owlCStatState c = 2 ∧
      (∀ x, s.uscFlow c = some x → t.get F.flowStatUscFail x = 0) ∧
      s.sameRegs ([F.owlCStatState, F.flowStatUscFail] ++ driveRegs) t ∧
      t = { s with live := t.live, owl := t.owl, flowMem := t.flowMem }))

/-- The pushbutton and the authorisation (R471, R474-R477, R657, R658): a push of 100 ms to 30 s ends the causes that hold no more and
opens the unlock window with a nonce; a longer one is stuck; REQ and GO authorise the pending configuration by its hash. -/
def Obligations.UnlockWindowAndAuthorisation : Prop :=
  ∀ s : State,
    (s.owl.halted = false → s.get F.owlStatusAck ≠ 3 → Completes .safeAckFall s (fun t =>
      t.get F.owlStatusAck = 1 ∧ (∀ i, i < 4 → t.get F.owlNonce i = 0) ∧ s.sameRegs [F.owlStatusAck, F.owlNonce] t ∧
      t = { s with live := t.live, owl := { s.owl with ackAt := s.up, win := false } })) ∧
    (∀ clk : Bool, s.owl.halted = false → s.get F.owlStatusAck = 1 →
      (s.owl.ackAt + 100000000 ≤ s.up → s.up ≤ s.owl.ackAt + 30000000000 → s.denOk = true →
        Completes (.safeAckRise clk) s (fun t => t.get F.owlStatusAck = 2 ∧ t.owl = { s.owl with win := true } ∧
          t.get F.owlCauses = Nat.land (s.get F.owlCauses) (s.causeHolds clk) % 2 ^ 11 ∧
          (∀ i, i < 4 → t.get F.owlNonce i = (Config.trng (s.trngN + i)).toNat) ∧ t.trngN = s.trngN + 4 ∧
          s.sameRegs [F.owlStatusAck, F.owlCauses, F.owlNonce] t ∧
          t = { s.tmStart tmUnlock with live := t.live, owl := t.owl, trngN := t.trngN })) ∧
      (s.up < s.owl.ackAt + 100000000 → Completes (.safeAckRise clk) s (fun t =>
        t.get F.owlStatusAck = 0 ∧ s.sameRegs [F.owlStatusAck] t ∧ t = { s with live := t.live })) ∧
      (s.owl.ackAt + 30000000000 < s.up → Completes (.safeAckRise clk) s (fun t =>
        t.get F.owlStatusAck = 3 ∧ s.sameRegs [F.owlStatusAck] t ∧ t = { s.tmStart tmAckHigh with live := t.live }))) ∧
    (s.get F.owlStatusAck = 1 →
      (s.owl.halted = false → s.owl.ackAt + 30000000000 < s.up → Completes .ackStuck s (fun t =>
        t.get F.owlStatusAck = 3 ∧ s.sameRegs [F.owlStatusAck] t ∧ t = { s with live := t.live })) ∧
      (s.up ≤ s.owl.ackAt + 30000000000 → Completes .ackStuck s (fun t => t = s))) ∧
    (s.get F.owlStatusAck = 3 →
      (s.tmPast tmAckHigh 1000000000 = true → Completes .ackStuckClear s (fun t =>
        t.get F.owlStatusAck = 0 ∧ s.sameRegs [F.owlStatusAck] t ∧ t = { s.tmStop tmAckHigh with live := t.live })) ∧
      (s.tmPast tmAckHigh 1000000000 = false → Completes .ackStuckClear s (fun t => t = s))) ∧
    (s.get F.owlStatusAck = 2 → s.tmPast tmUnlock 10000000000 = true → Completes .unlockWindowExpire s (fun t => t.owl = { s.owl with win := false } ∧
      (∀ i, i < 4 → t.get F.owlNonce i = 0) ∧ s.sameRegs [F.owlNonce] t ∧ t = { s with live := t.live, owl := t.owl })) ∧
    (s.off = false → s.denOk = true → s.owl.halted = false → Completes .owlAuthReq s (fun t =>
      (∀ i, i < 4 → t.get F.owlAuthNonce i = (Config.trng (s.trngN + i)).toNat) ∧ t.trngN = s.trngN + 4 ∧
      t.owl = { s.owl with nonceOk := true, req := true, hash := s.contentHash, want := false } ∧
      t.get F.owlAuthStatReady = 0 ∧ s.sameRegs [F.owlAuthNonce, F.owlAuthStatReady] t ∧
      t = { s with live := t.live, owl := t.owl, trngN := t.trngN })) ∧
    (s.off = false → s.owl.halted = false →
      (s.owl.nonceOk = true → s.owl.req = true → s.denOk = true →
        s.fieldBytes F.owlToken 4 = s.expect [0x43, 0x4F, 0x4E, 0x46] s.owl.hash → Completes .owlAuthGo s (fun t =>
          t.owl.want = true ∧ t.owl.nonceOk = false ∧ t.get F.owlLogSeq = (s.get F.owlLogSeq + 1) % 2 ^ 32 ∧
          t.owl.toFlash = s.owl.toFlash ++ [(t.get F.owlLogSeq, t.owl.log.headD [])] ∧
          s.sameRegs [F.owlLogSeq, F.owlLogHead] t ∧ t = { s with live := t.live, owl := t.owl })) ∧
      (s.owl.nonceOk = false ∨ s.owl.req = false ∨ s.denOk = false ∨
        s.fieldBytes F.owlToken 4 ≠ s.expect [0x43, 0x4F, 0x4E, 0x46] s.owl.hash → Completes .owlAuthGo s (fun t =>
          t.get F.owlAuthStatBadToken = 1 ∧ t.owl = { s.owl with nonceOk := false, req := false, want := false } ∧
          s.sameRegs [F.owlAuthStatBadToken] t ∧ t = { s with live := t.live, owl := t.owl }))) ∧
    (∀ n e q, s.pfail = false → s.owl.toFlash = (n, e) :: q → Completes .logEntryWritten s (fun t =>
      SMap.get [] t.flashLog (n % 4096) = e ∧ t.owl.toFlash = q ∧
      (e.getD 14 0 = 1 → s.owl.want = true → t.get F.owlAuthStatReady = 1 ∧ t.owl.readyAt = s.up) ∧
      s.sameRegs [F.owlAuthStatReady] t ∧ t = { s with live := t.live, owl := t.owl, flashLog := t.flashLog }))

/-- Doorbells, mailboxes and the link (R483, R492-R497, R500, R505): PEND is W1C but for bits set on the same edge, MASK decides what interrupts, H2D bits reach the
threads of DBMASK; a post waits for its fetch, a second one is refused and logged; the fetched block becomes the mailbox's command. -/
def Obligations.DoorbellsMailboxesAndLink : Prop :=
  ∀ s : State, s.domOn .host = true → s.off = false →
    (∀ v keep : BitVec 32, Completes (.mbxD2hPend ⟨v, keep⟩) s (fun t =>
      t.get F.mbxD2hPend = andnN (s.get F.mbxD2hPend) (andnN v.toNat keep.toNat) % 2 ^ 32 ∧ s.sameRegs [F.mbxD2hPend] t ∧ t = { s with live := t.live })) ∧
    (∀ v : BitVec 32, Completes (.mbxD2hMask v) s (fun t =>
      t.get F.mbxD2hMask = v.toNat ∧ s.sameRegs [F.mbxD2hMask] t ∧
      t = { s with live := t.live, irqSent := t.irqSent, pba := t.pba, d3pend := t.d3pend } ∧
      (s.get F.mbxHostifSel = 0 → s.d3hot = false → s.irqMode = 1 → ∀ b, b < 32 → hasBit (s.get F.mbxD2hPend) b = true →
        v.getLsbD b = true → hasBit (s.get F.mbxD2hMask) b = false → b % 2 ^ s.msiLog ∈ t.irqSent))) ∧
    (∀ (set : Bool) (v : BitVec 32),
      let p := (if set then Nat.lor (s.get F.mbxH2dPend) v.toNat else s.get F.mbxH2dPend) % 2 ^ 32
      let m := Nat.land p (if set then s.get F.mbxH2dMask else v.toNat)
      s.get F.mbxH2dPend < 2 ^ 32 → Completes (if set then .mbxH2dSet v else .mbxH2dMask v) s (fun t =>
        t.get F.mbxH2dPend = andnN p m ∧ t.get F.mbxH2dMask = (if set then s.get F.mbxH2dMask else v.toNat) ∧
        (∀ k, k < 64 → t.th k = if (s.th k).started = true ∧ Nat.land (s.get F.foxTDbmask k) m ≠ 0 then
          { s.th k with evp := (s.th k).evp ||| 64 } else s.th k) ∧
        (∀ k, 64 ≤ k → t.th k = s.th k) ∧ s.sameRegs [F.mbxH2dPend, F.mbxH2dMask] t ∧
        t = { s with live := t.live, threads := t.threads })) ∧
    (∀ (n : Fin 8) (v : BitVec 32),
      (s.get F.mbxStatState n ≠ 1 → Completes (.mbxPost n v) s (fun t =>
        t.get F.mbxStatState n = 1 ∧ (t.mb n).phase = .posted ∧ (t.mb n).space = v.toNat % 2 ∧ (t.mb n).seq = s.mbxSeq ∧
        (t.mb n).addr = s.get F.mbxPtrLo n + 2 ^ 32 * s.get F.mbxPtrHi n ∧ s.sameRegs [F.mbxStatState] t ∧
        (∀ k, k ≠ n.val → t.mb k = s.mb k) ∧ t = { s with live := t.live, mbx := t.mbx, mbxSeq := s.mbxSeq + 1 })) ∧
      (s.get F.mbxStatState n = 1 → Completes (.mbxPost n v) s (fun t =>
        t.get F.mbxStatRefused n = 1 ∧ t.get F.mbxPweTotal = (s.get F.mbxPweTotal + 1) % 2 ^ 32 ∧ t.mbx = s.mbx ∧
        (s.pwe.length < 64 → t.pwe = s.pwe ++ [{ tag := s.get F.mbxWtag, cause := 6, target := 0x2C108 + 0x20 * n.val,
                                                 width := 4, ns := s.time.ns }]) ∧
        s.sameRegs (F.mbxStatRefused :: pweRegs) t))) ∧
    (∀ (n : Fin 8) (data : Option (List Byte)), (s.mb n).phase = .posted → (s.d3hot = true → (s.mb n).space = 1) →
      let x := s.mb n
      (s.fetch x.space x.addr 16 data = none → Completes (.mailboxFetch n data) s (fun t =>
        (t.mb n).phase = .idle ∧ t.get F.mbxAckTag n = 0xFFFF ∧ t.get F.mbxAckCode n = 0x10 ∧ t.get F.mbxStatState n = 2 ∧
        s.rang 24 t ∧ s.sameRegs cmdRegs t ∧ s.sameMem t)) ∧
      (∀ h l, s.fetch x.space x.addr 16 data = some h →
        (let len := leBytes ((h.drop 4).take 4)
         s.fetch x.space x.addr (if 16 ≤ len ∧ len ≤ 4096 then len else 16) data = some l) →
        (∀ y, parseBlk x l = .inr y → Completes (.mailboxFetch n data) s (fun t => t = s.setMb n y ∧ y.phase = .ready ∧
          y.op = leBytes (l.take 2) ∧ y.tag = leBytes ((l.drop 2).take 2))) ∧
        (∀ c, parseBlk x l = .inl c → Completes (.mailboxFetch n data) s (fun t =>
          (c = 4 ∨ c = 0x11 ∨ c = 0x12) ∧ (t.mb n).phase = .idle ∧ t.get F.mbxAckTag n = leBytes ((l.drop 2).take 2) % 2 ^ 16 ∧
          t.get F.mbxAckCode n = c ∧ t.get F.mbxStatState n = 2 ∧ s.rang 24 t ∧ s.sameRegs cmdRegs t ∧ s.sameMem t)))) ∧
    (s.pwe = [] → Completes .mbxPwePop s (fun t => t = { s with rdata := [0] })) ∧
    (∀ r q, s.pwe = r :: q → Completes .mbxPwePop s (fun t => t.pwe = q ∧
      t.rdata = [2 ^ 31 + r.cause % 256 * 65536 + r.tag % 65536] ∧ t.get F.mbxPweTarget = r.target % 2 ^ F.mbxPweTarget.w ∧
      t.get F.mbxPweNs = r.ns % 2 ^ F.mbxPweNs.w ∧
      s.sameRegs [F.mbxPweTarget, F.mbxPweInfoSpace, F.mbxPweInfoRemote, F.mbxPweInfoWidth, F.mbxPweNs] t ∧
      t = { s with live := t.live, pwe := q, rdata := t.rdata })) ∧
    (s.get F.mbxHostifSel = 0 →
      (s.get F.mbxHostifLink ≠ 0 →
        Completes .d3hotEntry s (fun t => t = { s with d3hot := true }) ∧
        Completes .hostLinkDown s (fun t => t.get F.mbxHostifLink = 0 ∧ t.get F.mbxHostifWidth = 0 ∧ t.irqMode = 0 ∧ t.msix = [] ∧
          t.d3hot = false ∧ t.htx = [] ∧ t.htxc = s.htxc ++ s.htx.map (fun r => (r.tag, 16, 0)) ∧
          (∀ n, n < 8 → (s.mb n).phase = .posted → (t.mb n).phase = .idle ∧ t.get F.mbxAckCode n = 0x10) ∧
          t.evq = s.evAfter 0x50 0 0 0 ∧ s.sameRegs ([F.mbxHostifLink, F.mbxHostifWidth] ++ cmdRegs ++ evRegs) t ∧ s.sameMem t)) ∧
      (s.get F.mbxHostifLink = 0 → ∀ (two : Bool) (rate : Fin 3), Completes (.hostLinkUp two rate) s (fun t =>
        t.get F.mbxHostifLink = 1 ∧ t.get F.mbxHostifWidth = (if two then 2 else 1) ∧ t.get F.mbxHostifRate = rate.val ∧
        t.evq = s.evAfter 0x51 0 0 0 ∧ s.rang 30 t ∧
        s.sameRegs ([F.mbxHostifLink, F.mbxHostifWidth, F.mbxHostifRate, F.mbxD2hPend] ++ evRegs) t ∧ s.sameMem t))) ∧
    Completes .d0Return s (fun t => t.d3hot = false ∧ s.sameRegs [] t ∧
      t = { s with d3hot := false, d3pend := t.d3pend, irqSent := t.irqSent, pba := t.pba })

/-- Host frames (R502-R504): a submission is queued while the queues have room, copied into Sett and submitted from FP14, or ends with
its status; a received frame is written into the ring with its header, and PROD moves on. -/
def Obligations.HostFramesInAndOut : Prop :=
  ∀ s : State, s.domOn .host = true → s.off = false →
    (∀ v : BitVec 32,
      (s.htx.length < 32 → s.htx.length + s.hostBusy + s.htxc.length < 64 → Completes (.mbxHtxPush v) s (fun t =>
        t = { s with htx := s.htx ++ [{ tag := v.toNat % 65536, addr := s.get F.mbxHtxAddrLo + 2 ^ 32 * s.get F.mbxHtxAddrHi,
                                        space := s.get F.mbxHtxLenSpace, cls := s.get F.mbxHtxLenClass,
                                        len := s.get F.mbxHtxLenLen }] })) ∧
      (32 ≤ s.htx.length ∨ 64 ≤ s.htx.length + s.hostBusy + s.htxc.length → Completes (.mbxHtxPush v) s (fun t => t.htx = s.htx ∧
        t.get F.mbxPweTotal = (s.get F.mbxPweTotal + 1) % 2 ^ 32 ∧
        (s.pwe.length < 64 → t.pwe = s.pwe ++ [{ tag := s.get F.mbxWtag, cause := 7, target := 0x2C30C, width := 4, ns := s.time.ns }]) ∧
        s.sameRegs pweRegs t ∧ s.sameMem t))) ∧
    (∀ (r : HtxRec) (q : List HtxRec) (l : List Byte) (h : BitVec 24), s.htx = r :: q →
      let ended (st : Nat) (t : State) : Prop := t.htx = q ∧ t.htxc = s.htxc ++ [(r.tag, st, 0)] ∧ s.rang 28 t ∧
        s.sameRegs [F.mbxD2hPend] t ∧ s.sameMem t ∧ t.frames = s.frames
      (r.len = 0 → Completes (.htxCopy (some l) h) s (ended 1)) ∧
      (9600 < r.len → Completes (.htxCopy (some l) h) s (ended 2)) ∧
      (0 < r.len → r.len ≤ 9600 → r.space = 0 → s.d3hot = false → s.stageUse 16 + cellsFor r.len ≤ s.stageCap 16 →
        (s.get F.mbxHostifSel = 0 → s.get F.mbxHostifLink ≠ 0 → r.len ≤ l.length → Completes (.htxCopy (some l) h) s (fun t =>
          let x := s.handle h.toNat
          t.htx = q ∧ (t.frame x).bytes 0 r.len = l.take r.len ∧ (t.frame x).len = r.len ∧ (t.frame x).inport = 14 ∧
          (t.frame x).cls = r.cls ∧ (t.frame x).hcpl = some r.tag ∧ (∀ y, y ≠ x → t.frame y = s.frame y) ∧
          t.subm = s.subm ++ [{ a := 14, b := 1024 + 32 * r.cls, h := x }] ∧ s.sameMem t ∧ t.threads = s.threads)) ∧
        Completes (.htxCopy none h) s (ended 16)) ∧
      (∀ d, 0 < r.len → r.len ≤ 9600 → r.space = 1 → s.stageUse 16 + cellsFor r.len ≤ s.stageCap 16 →
        Completes (.htxCopy d h) s (fun t =>
          let x := s.handle h.toNat
          t.htx = q ∧ (t.frame x).bytes 0 r.len = (List.range r.len).map (fun j =>
            if s.bankOwner (r.addr + j) = 16 then s.hostCram (r.addr + j) else 0) ∧ (t.frame x).hcpl = some r.tag ∧
          t.subm = s.subm ++ [{ a := 14, b := 1024 + 32 * r.cls, h := x }] ∧ s.sameMem t)) ∧
      (0 < r.len → r.len ≤ 9600 → s.stageCap 16 < s.stageUse 16 + cellsFor r.len → Completes (.htxCopy (some l) h) s (fun t => t = s))) ∧
    (s.htxc = [] → Completes .mbxHtxcPop s (fun t => t = { s with rdata := [0] })) ∧
    (∀ tag st eg q, s.htxc = (tag, st, eg) :: q → Completes .mbxHtxcPop s (fun t =>
      t = { s with htxc := q, rdata := [2 ^ 31 + eg % 32 * 2 ^ 24 + st % 256 * 65536 + tag % 65536] })) ∧
    (∀ mh : BitVec 24, s.hrxRoom = false → Completes (.hrxWrite mh) s (fun t => t = s)) ∧
    (∀ (mh : BitVec 24) (u : State) (h : Nat), s.hrxRoom = true → s.takeHead 14 (s.outQ.length + 1) = (u, some h) →
      let f := u.frame h
      let size := s.act F.mbxHrxCfgBufSize
      (f.len + 16 ≤ size → s.act F.mbxHrxCfgSpace = 0 → Completes (.hrxWrite mh) s (fun t =>
        t.hostMem = SMap.fill 0 s.hostMem (s.act F.mbxHrxBaseLo + 2 ^ 32 * s.act F.mbxHrxBaseHi + s.get F.mbxHrxProd * size)
          (f.hrxHdr ++ f.all) ∧
        t.get F.mbxHrxProd = (s.get F.mbxHrxProd + 1) % s.act F.mbxHrxCfgEntries % 2 ^ F.mbxHrxProd.w ∧
        hasBit (t.get F.mbxD2hPend) 27 = true ∧ t.cram = s.cram)) ∧
      (let a := s.act F.mbxHrxBaseLo + 2 ^ 32 * s.act F.mbxHrxBaseHi + s.get F.mbxHrxProd * size
       f.len + 16 ≤ size → s.act F.mbxHrxCfgSpace = 1 → u.hostOwns a (f.len + 16) = true → Completes (.hrxWrite mh) s (fun t =>
        t.cram = SMap.fill 0 s.cram a (f.hrxHdr ++ f.all) ∧
        t.get F.mbxHrxProd = (s.get F.mbxHrxProd + 1) % s.act F.mbxHrxCfgEntries % 2 ^ F.mbxHrxProd.w ∧
        hasBit (t.get F.mbxD2hPend) 27 = true ∧ t.hostMem = s.hostMem)) ∧
      (size < f.len + 16 → Completes (.hrxWrite mh) s (fun t =>
        t.get F.mbxHrxToobig = satAdd F.mbxHrxToobig.w (s.get F.mbxHrxToobig) 1 ∧ t.get F.mbxHrxProd = s.get F.mbxHrxProd ∧
        t.hostMem = s.hostMem ∧ t.cram = s.cram)))

/-- Sessions, leases and snapshots by command (R509, R510, R514, R517): a command that is not allowed or malformed ends with its code; the
others have their effect and answer DONE with their result bytes. Stated for the mailboxes; START is a statement of its own. -/
def Obligations.SessionLeaseAndSnapshotCommands : Prop :=
  ∀ (s : State) (m : Fin 9), m.val < 8 →
    let x := s.mb m
    (∀ c op, cmdOpcode c = some (m, op) → x.phase = .ready → x.op = op → s.cmdMay m x = true →
      (s.cmdDenied m x = true → Completes c s (fun t => s.acked m 0x13 [] t)) ∧
      (s.cmdDenied m x = false → x.bad = true → Completes c s (fun t => s.acked m 2 (x.out []) t))) ∧
    (s.cmdRuns m 0x01 →
      (x.p 16 2 ≤ 0x100 ∧ 0x100 ≤ x.p 18 2 → Completes (.hello m) s (fun t => t.get F.glbStatusSession = 1 ∧
        s.replied m 1 (toLe 0x100 2 ++ toLe 0x103 2 ++ toLe 4096 4 ++ toLe (s.get F.pwrStateState) 1 ++ toLe (s.get F.denBootSlot) 1)
          [F.glbStatusSession] t)) ∧
      (0x100 < x.p 16 2 ∨ x.p 18 2 < 0x100 → Completes (.hello m) s (fun t => s.replied m 0x100 [] [] t))) ∧
    (s.cmdRuns m 0x02 → Completes (.getInfo m) s (fun t =>
      s.replied m 1 (toLe Config.nodeId.toNat 6 ++ [0xB1] ++ toLe (s.get F.pwrStateState) 1 ++ toLe (s.get F.denBootSlot) 1 ++
        toLe (s.get F.denBootCopy) 1 ++ toLe 0x103 2 ++ toLe (s.get F.imgEpoch) 4 ++ toLe ((s.up - s.relAt) / 1000000000) 4) [] t)) ∧
    (s.cmdRuns m 0x40 →
      (x.p 16 4 = 0 → Completes (.leaseOpen m) s (fun t => t.get F.imgLeaseStatZero = 1 ∧ s.replied m 4 [] [F.imgLeaseStatZero] t)) ∧
      (x.p 16 4 ≠ 0 → Completes (.leaseOpen m) s (fun t =>
        t.get F.imgLeaseStatOpen = 1 ∧ t.get F.imgLeaseStatEpoch = s.get F.imgEpoch % 2 ^ F.imgLeaseStatEpoch.w ∧
        t.leaseNs = min (x.p 16 4) 10000 * 1000000 ∧ (∀ a, t.viewByte a = SMap.get 0 s.imgCur a) ∧
        s.replied m 1 (toLe (t.get F.imgLeaseStatEpoch) 4 ++ toLe (min (x.p 16 4) 10000) 4)
          [F.imgLeaseStatOpen, F.imgLeaseStatEpoch, F.imgLeaseStatExpired] t))) ∧
    (s.cmdRuns m 0x41 → Completes (.leaseClose m) s (fun t =>
      t.get F.imgLeaseStatOpen = 0 ∧ (s.get F.imgLeaseStatOpen ≠ 0 → t.leaseNs = 0) ∧
      s.replied m 1 (toLe (s.get F.imgLeaseStatEpoch) 4 ++
        [if s.get F.imgLeaseStatOpen ≠ 0 then 1 else 0, if s.get F.imgLeaseStatOpen = 0 ∧ s.leaseExp = true then 1 else 0])
        [F.imgLeaseStatOpen] t)) ∧
    (s.cmdRuns m 0x50 →
      (x.p 16 1 = 1 → x.p 17 1 ≤ 1 → x.p 18 1 ≤ 1 →
        (s.get F.imgCsnapStatPending = 0 → s.get F.imgCsnapStatHeld = 0 → (x.p 17 1 = 1 → x.p 20 4 ≠ 0) →
          Completes (.counterSnapshotTake m) s (fun t => t.get F.imgCsnapStatPending = 1 ∧ t.get F.imgCsnapCtrlWhen = x.p 17 1 ∧
            t.get F.imgCsnapCtrlClear = x.p 18 1 ∧ t.snapMbx = some m.val ∧ t.snapWhn = (x.p 17 1 == 1) ∧ t.snapClr = (x.p 18 1 == 1) ∧
            s.waits m [F.imgCsnapStatPending, F.imgCsnapCtrlWhen, F.imgCsnapCtrlClear] t)) ∧
        (s.get F.imgCsnapStatPending = 0 → s.get F.imgCsnapStatHeld = 0 → x.p 17 1 = 1 → x.p 20 4 = 0 →
          Completes (.counterSnapshotTake m) s (fun t => t.get F.imgCsnapStatPending = 0 ∧ t.snapMbx = none ∧
            s.replied m 0x14 [] [F.imgCsnapStatPending, F.imgCsnapCtrlWhen, F.imgCsnapCtrlClear] t)) ∧
        (s.get F.imgCsnapStatPending ≠ 0 ∨ s.get F.imgCsnapStatHeld ≠ 0 → Completes (.counterSnapshotTake m) s (fun t =>
          s.replied m 3 [] [F.imgCsnapStatBusy, F.imgCsnapCtrlWhen, F.imgCsnapCtrlClear] t))) ∧
      (x.p 16 1 = 0 ∨ 3 < x.p 16 1 → Completes (.counterSnapshotTake m) s (fun t => s.replied m 2 [] [] t)) ∧
      (x.p 16 1 = 2 → Completes (.counterSnapshotRelease m) s (fun t =>
        t.get F.imgCsnapStatHeld = 0 ∧ (s.get F.imgCsnapStatHeld ≠ 0 → t.held = []) ∧ s.replied m 1 [] [F.imgCsnapStatHeld] t)) ∧
      (x.p 16 1 = 3 → s.get F.imgCsnapStatPending = 0 ∨ s.snapDue = true → Completes (.counterSnapshotCancel m) s (fun t =>
        s.replied m 1 [] [] t)) ∧
      (x.p 16 1 = 3 → s.get F.imgCsnapStatPending ≠ 0 → s.snapDue = false →
        (s.snapMbx = none → Completes (.counterSnapshotCancel m) s (fun t =>
          t.get F.imgCsnapStatPending = 0 ∧ s.replied m 1 [] [F.imgCsnapStatPending] t)) ∧
        (∀ k, s.snapMbx = some k → k < 8 → k ≠ m.val → Completes (.counterSnapshotCancel m) s (fun t =>
          t.get F.imgCsnapStatPending = 0 ∧ t.snapMbx = none ∧ (t.mb k).phase = .idle ∧ t.get F.mbxAckCode k = 5 ∧
          (t.mb m).phase = .idle ∧ t.get F.mbxAckCode m = 1)))) ∧
    (s.snapMbx = some m.val → s.get F.imgCsnapStatPending = 1 → (s.snapWhn = false ∨ s.snapDue = true) →
      Completes .snapshotEdge s (fun t => t.snapMbx = none ∧ t.get F.imgCsnapStatHeld = 1 ∧
        s.acked m 1 (x.out (toLe (t.get F.imgCsnapStatEpoch) 4 ++ toLe (t.get F.imgCsnapNs) 4 ++ toLe (t.get F.imgCsnapSecLo) 4)) t))

/-- APPLY, the flow commands and RING_ROLE (R515, R516, R520): they write pending values, request one APPLY and wait for its edge, which
answers with its RESULT; a request while another is pending, for no scope or out of range, is answered at once. -/
def Obligations.ApplyFlowAndRingCommands : Prop :=
  ∀ (s : State) (m : Fin 9), m.val < 8 →
    let x := s.mb m
    let ctl := [F.imgApplyScope, F.imgApplyCtrlWhen, F.imgApplyCtrlAxis, F.imgApplyPhLo, F.imgApplyPhHi, F.imgApplyStatPending,
      F.imgApplyStatResult, F.imgApplyStatLate]
    let asked (scope : Nat) (t : State) : Prop := t.get F.imgApplyStatPending = 1 ∧ t.get F.imgApplyStatResult = 0 ∧
      t.mb m = { x with phase := .waiting, startAt := s.up } ∧
      ∃ r, t.apply = some r ∧ r.scope = scope ∧ r.mbx = some m.val
    (s.cmdRuns m 0x20 →
      (3 < x.p 16 1 ∨ 3 < x.p 17 1 → Completes (.apply m) s (fun t => s.replied m 2 (s.applyRes 2 0 false false) [] t)) ∧
      (x.p 16 1 ≤ 3 → x.p 17 1 ≤ 3 →
        (s.apply ≠ none → Completes (.apply m) s (fun t => s.replied m 3 (s.applyRes 3 0 false false) [] t)) ∧
        (s.apply = none → x.p 20 4 % 2 ^ 19 = 0 → Completes (.apply m) s (fun t =>
          s.replied m 4 (s.applyRes 4 0 false false) ctl t)) ∧
        (s.apply = none → x.p 20 4 % 2 ^ 19 ≠ 0 → x.p 16 1 = 3 → Completes (.apply m) s (fun t =>
          s.replied m 2 (s.applyRes 2 0 false false) ctl t)) ∧
        (s.apply = none → x.p 20 4 % 2 ^ 19 ≠ 0 → (x.p 16 1 = 0 ∨ (x.p 16 1 < 3 ∧ x.p 32 4 ≠ 0)) →
          Completes (.apply m) s (fun t => asked (x.p 20 4 % 2 ^ 19) t ∧ s.waits m ctl t)) ∧
        (s.apply = none → x.p 20 4 % 2 ^ 19 ≠ 0 → x.p 16 1 = 2 → x.p 32 4 = 0 → Completes (.apply m) s (fun t =>
          t.apply = none ∧ s.replied m 0x14 (s.applyRes 5 0 false false) ctl t)))) ∧
    (∀ r, s.apply = some r → r.mbx = some m.val → s.applyDue r = true → (x.op = 0x20 ∨ x.op = 0x30 ∨ x.op = 0x31) →
      (∀ b, s.refuses State.owlBad r.scope = some b → Completes .applyEdge s (fun t =>
        t.actv = s.actv ∧ t.apply = none ∧ s.acked m 2 (x.out (s.applyRes 2 b r.late true)) t)) ∧
      (s.refuses State.owlBad r.scope = none → Completes .applyEdge s (fun t =>
        (t.mb m).phase = .idle ∧ t.get F.mbxAckCode m = 1 ∧ t.get F.imgApplyStatResult = 1))) ∧
    (s.cmdRuns m 0x30 → (x.p 16 1 = 0 ∨ (x.p 16 1 < 3 ∧ x.p 32 4 ≠ 0)) → x.p 17 1 ≤ 3 →
      let es := flowEntries (x.p 18 2) (x.bytes 40 4032)
      (x.p 18 2 = 0 → Completes (.flowOpen m) s (fun t => s.replied m 4 (s.applyRes 4 0 false false) [] t)) ∧
      (72 < x.p 18 2 → Completes (.flowOpen m) s (fun t => s.replied m 2 (s.applyRes 2 0 false false) [] t)) ∧
      (0 < x.p 18 2 → x.p 18 2 ≤ 72 →
        ((∃ e ∈ es, e.opens = false ∨ 1024 ≤ e.idx) → Completes (.flowOpen m) s (fun t =>
          s.replied m 2 (s.applyRes 2 0 false false) [] t)) ∧
        ((∀ e ∈ es, e.opens = true ∧ e.idx < 1024) → es.Pairwise (fun a b => a.idx ≠ b.idx) → s.apply = none →
          Completes (.flowOpen m) s (fun t => asked (setBit (x.p 20 4) 4 % 2 ^ 19) t ∧ s.sameMem t ∧ t.actv = s.actv ∧
            ∀ e ∈ es, t.get F.flowCtrlOpen e.idx = 1 ∧
              ∀ j, j < 13 → ∀ r a b, findReg (0x8040 + 4 * j) = some (r, a, b) → ∀ f ∈ r.fields, f.acc = .rw →
                t.get f e.idx = bitsAt (e.words.getD j 0) f.lo f.w)))) ∧
    (s.cmdRuns m 0x31 → (x.p 16 1 = 0 ∨ (x.p 16 1 < 3 ∧ x.p 32 4 ≠ 0)) → x.p 17 1 ≤ 3 → 0 < x.p 18 2 → x.p 18 2 ≤ 1024 →
      let is := flowIdxs (x.p 18 2) (x.bytes 40 2048)
      ((∃ i ∈ is, 1024 ≤ i) → Completes (.flowClose m) s (fun t => s.replied m 2 (s.applyRes 2 0 false false) [] t)) ∧
      ((∀ i ∈ is, i < 1024) → s.apply = none → Completes (.flowClose m) s (fun t =>
        asked (setBit (x.p 20 4) 4 % 2 ^ 19) t ∧ (∀ i ∈ is, t.get F.flowCtrlOpen i = 0) ∧
        s.waits m (F.flowCtrlOpen :: ctl) t ∧ t.actv = s.actv))) ∧
    (s.cmdRuns m 0x90 → x.roleBad = false →
      (s.apply ≠ none → x.p 16 1 = 0 → Completes (.ringRoleSet m) s (fun t => s.replied m 3 (toLe s.ringStatusWord 4) [] t)) ∧
      (s.apply = none →
        (x.p 16 1 = 0 → Completes (.ringRoleSet m) s (fun t => asked 64 t ∧ t.get F.ringCfgRank = x.p 17 1 ∧
          t.get F.ringCfgColdEn = x.p 18 1 ∧ s.waits m ([F.ringCfgRank, F.ringCfgColdEn] ++ ctl) t)) ∧
        (x.p 16 1 = 2 → Completes (.ringRoleLeave m) s (fun t => asked 64 t ∧ t.get F.ringCfgEn = 0 ∧ s.waits m (F.ringCfgEn :: ctl) t)) ∧
        (x.p 16 1 = 3 → Completes (.ringRoleEnter m) s (fun t => asked 64 t ∧ t.get F.ringCfgEn = 1 ∧ s.waits m (F.ringCfgEn :: ctl) t))) ∧
      (x.p 16 1 = 1 →
        (s.rst = 5 ∨ s.rst = 6 → Completes (.ringRoleResync m) s (fun t => t.rst = 7 ∧ t.get F.ringStatusLoCause = 5 ∧
          (t.mb m).phase = .idle ∧ t.get F.mbxAckCode m = 1)) ∧
        (s.rst < 5 → Completes (.ringRoleResync m) s (fun t => s.replied m 1 (toLe s.ringStatusWord 4) [] t))))

/-- Engines, channels and SYNC by command (R501, R518, R519, R521): an image that verifies is loaded, engines start together, a stop and a
retirement wait for their end, SYNC answers when every earlier write has landed, and TIMEOUT ends what waits too long. -/
def Obligations.EngineAndChannelCommands : Prop :=
  ∀ (s : State) (m : Fin 9), m.val < 8 →
    let x := s.mb m
    let ended (code : Nat) (t : State) : Prop := (t.mb m).phase = .idle ∧ t.get F.mbxAckCode m = code ∧ t.get F.mbxStatState m = 2
    (∀ (data : Option (List Byte)) (l : List Byte), s.cmdRuns m 0x60 → x.p 16 1 ≤ 15 → x.p 17 1 ≤ 1 → x.p 20 4 ≠ 0 →
      s.carried (x.p 16 1) = true → s.get F.foxStatusState (x.p 16 1) < 2 → s.fetch (x.p 17 1) (x.p 24 8) (x.p 20 4) data = some l →
      Completes (.engineLoad m data) s (fun t => t.threads = s.threads ∧ t.frames = s.frames ∧
        (s.objFault l 1 = 2 → ended 0x104 t ∧ t.im = s.im) ∧
        (s.objFault l 1 = 1 ∨ s.objFault l 1 = 3 → ended 0x103 t ∧ t.im = s.im ∧
          t.get F.denSigFail = satAdd F.denSigFail.w (s.get F.denSigFail) 1) ∧
        (s.objFault l 1 = 0 → ∀ b, parseImage (objBody (objOf l)) = some b →
          (s.imageBad (x.p 16 1) (objKeysel l) b = true → ended 2 t ∧ t.im = s.im) ∧
          (s.imageBad (x.p 16 1) (objKeysel l) b = false → ended 1 t ∧ t.get F.foxStatusState (x.p 16 1) = 1 ∧
            t.leHash (x.p 16 1) = sha384 (objOf l) ∧
            ∀ i, i < b.im.length → SMap.get 0 t.im (x.p 16 1 * 16384 + i) = b.im.getD i 0)))) ∧
    (s.cmdRuns m 0x61 →
      let l := bitsOf (x.p 16 2) 16
      (x.p 16 2 = 0 → Completes (.engineStart m) s (fun t => s.replied m 4 [] [] t)) ∧
      ((∃ e ∈ l, s.get F.foxStatusState e = 0) → Completes (.engineStart m) s (fun t => s.replied m 0x13 [] [] t)) ∧
      (l ≠ [] → (∀ e ∈ l, s.get F.foxStatusState e = 1 ∧ s.carried e = true) → Completes (.engineStart m) s (fun t =>
        s.acked m 1 (x.out (toLe (x.p 16 2) 2)) t ∧ s.sameRegs (cmdRegs ++ [F.foxStatusState, F.foxCycles]) t ∧
        (∀ e ∈ l, t.get F.foxStatusState e = 2 ∧ ∀ u, u < 4 → s.get F.foxTTcfgEn (4 * e + u) ≠ 0 →
          (t.th (4 * e + u)).st = .ready ∧ (t.th (4 * e + u)).pc = BitVec.ofNat 14 (s.get F.foxTTcfgStartPc (4 * e + u)) ∧
          ∀ r : Fin 16, (t.th (4 * e + u)).w[r] = 0) ∧
        (∀ k, k / 4 ∉ l → t.th k = s.th k)))) ∧
    (s.cmdRuns m 0x62 →
      (x.p 16 2 = 0 → Completes (.engineStop m) s (fun t => s.replied m 4 [] [] t)) ∧
      ((∃ e ∈ bitsOf (x.p 16 2) 16, s.migrating e = true) → Completes (.engineStop m) s (fun t => s.replied m 3 [] [] t)) ∧
      (x.p 16 2 ≠ 0 → (∀ e ∈ bitsOf (x.p 16 2) 16, s.active e = false ∧ s.migrating e = false) → Completes (.engineStop m) s (fun t => s.replied m 1 [] [] t)) ∧
      ((∃ e ∈ bitsOf (x.p 16 2) 16, s.active e = true) → (∀ e ∈ bitsOf (x.p 16 2) 16, s.migrating e = false) → Completes (.engineStop m) s (fun t =>
        (t.mb m).phase = .waiting ∧ (t.mb m).acc = maskOf ((bitsOf (x.p 16 2) 16).filter s.active) ∧
        (∀ e ∈ bitsOf (x.p 16 2) 16, s.get F.foxStatusState e = 2 → t.get F.foxStatusState e = 3) ∧
        s.sameRegs [F.foxStatusState] t ∧ s.sameMem t ∧ t.threads = s.threads))) ∧
    (s.cmdRuns m 0x70 → x.p 17 1 < chanCount (x.p 16 1) → x.p 18 1 ≤ 1 →
      let k := x.p 16 1 * 64 + x.p 17 1
      (s.retired (x.p 16 1) (x.p 17 1) = true → Completes (.retire m) s (fun t => s.replied m 1 [1] [] t)) ∧
      let moves := x.p 16 1 = 1 ∧ ∃ e, s.leOf (x.p 17 1) = some e ∧ s.migrating e = true
      (s.retired (x.p 16 1) (x.p 17 1) = false → (s.chan k).retire = none →
        (moves → Completes (.retire m) s (fun t => s.replied m 3 [] [] t)) ∧
        (¬ moves → x.p 16 1 = 1 → s.leOf (x.p 17 1) ≠ none → s.spareFor (x.p 17 1) = none → x.p 18 1 = 0 →
          Completes (.retire m) s (fun t => s.replied m 0x106 [] [] t)) ∧
        (¬ moves → (x.p 16 1 ≠ 1 ∨ s.leOf (x.p 17 1) = none ∨ s.spareFor (x.p 17 1) ≠ none ∨ x.p 18 1 = 1) →
          Completes (.retire m) s (fun t => (t.chan k).retire = some 5 ∧ t.get F.evtChstatCause k = 5 ∧
            t.health.length = s.health.length + 1 ∧ s.waits m [F.evtChstatCause] t)))) ∧
    (s.cmdRuns m 0x71 → x.p 17 1 < chanCount (x.p 16 1) → x.p 18 1 ≤ 1 →
      (s.retired (x.p 16 1) (x.p 17 1) = false → Completes (.retireClear m) s (fun t => s.replied m 0x107 [] [] t)) ∧
      (s.retired (x.p 16 1) (x.p 17 1) = true → Completes (.retireClear m) s (fun t =>
        t.retired (x.p 16 1) (x.p 17 1) = false ∧ ended 1 t ∧
        (x.p 16 1 = 3 → t.get F.memBankOwnOwner (x.p 17 1) = 16) ∧
        (x.p 16 1 = 5 → (t.shr (x.p 17 1)).st = .stopped)))) ∧
    (s.cmdRuns m 0x80 →
      let d := (s.get F.mbxPweTotal + 2 ^ 32 - s.syncTotal) % 2 ^ 32
      (s.synced x.noteSeq = true → Completes (.sync m) s (fun t => t.syncTotal = s.get F.mbxPweTotal ∧
        s.replied m (if d = 0 then 1 else 0x16) (toLe (s.get F.mbxPweTotal) 4 ++ toLe d 4) [] t)) ∧
      (s.synced x.noteSeq = false → x.p 16 4 ≠ 0 → Completes (.sync m) s (fun t => s.waits m [] t))) ∧
    (x.phase = .waiting → x.op = 0x80 →
      let d := (s.get F.mbxPweTotal + 2 ^ 32 - s.syncTotal) % 2 ^ 32
      (s.synced x.noteSeq = true → Completes (.sync m) s (fun t =>
        s.replied m (if d = 0 then 1 else 0x16) (toLe (s.get F.mbxPweTotal) 4 ++ toLe d 4) [] t)) ∧
      (s.overdue m = true → Completes (.commandTimeout m) s (fun t =>
        s.replied m 0x14 (toLe (s.get F.mbxPweTotal) 4 ++ toLe d 4) [] t))) ∧
    (s.overdue m = false → Completes (.commandTimeout m) s (fun t => t = s)) ∧
    (s.overdue m = true →
      (x.op = 0x70 → Completes (.commandTimeout m) s (fun t => ended 0x14 t ∧
        ((s.chan (x.p 16 1 * 64 + x.p 17 1)).retire = some 5 → (t.chan (x.p 16 1 * 64 + x.p 17 1)).retire = none) ∧
        ((s.chan (x.p 16 1 * 64 + x.p 17 1)).retire ≠ some 5 → s.replied m 0x14 [] [] t))) ∧
      (x.op = 0x62 → Completes (.commandTimeout m) s (fun t => s.replied m 0x14 (toLe x.acc 2) [] t)) ∧
      (x.op = 0x20 ∨ x.op = 0x30 ∨ x.op = 0x31 → ∀ r, s.apply = some r → r.mbx = some m.val → r.whn ≠ 0 → r.due = false →
        Completes (.commandTimeout m) s (fun t => t.apply = none ∧ ended 0x14 t ∧ t.actv = s.actv)) ∧
      (x.op = 0x50 → s.snapMbx = some m.val → s.get F.imgCsnapStatPending ≠ 0 → s.snapDue = false →
        Completes (.commandTimeout m) s (fun t => t.get F.imgCsnapStatPending = 0 ∧ t.snapMbx = none ∧ ended 0x14 t))) ∧
    (s.cmdRuns m 0xA0 → x.p 16 1 ≤ 3 → x.p 17 1 ≤ 1 →
      (s.get F.canStatusEstate (x.p 16 1) = 2 → Completes (.canRecover m) s (fun t =>
        t.get F.canStatusEstate (x.p 16 1) = 3 ∧ ended 1 t)) ∧
      (s.get F.canStatusEstate (x.p 16 1) ≠ 2 → Completes (.canRecover m) s (fun t =>
        s.replied m 1 (toLe (s.get F.canStatusEstate (x.p 16 1)) 1) [] t)))

/-- Profiles, Owl, Den, the march test and the device states by command (R471-R475, R523-R526, R534, R548, R551-R554): what a
verified object, a token or a key leads to is stated for whatever Den's opaque functions answer. -/
def Obligations.ProfileSafetyAndDenCommands : Prop :=
  ∀ (s : State) (m : Fin 9), m.val < 8 →
    let x := s.mb m
    let ended (code : Nat) (t : State) : Prop := (t.mb m).phase = .idle ∧ t.get F.mbxAckCode m = code ∧ t.get F.mbxStatState m = 2
    (s.cmdRuns m 0x10 → x.p 16 1 ≤ 7 ∨ x.p 16 1 = 0xFF → ∀ ok : Bool,
      let seq := match s.selPick.1 with | some r => r.1 + 1 | none => 1
      (s.slotLocked (x.p 16 1) = true → Completes (.profileSelect m ok) s (fun t => t.selRec = s.selRec ∧ s.replied m 0x102 [] [] t)) ∧
      (s.slotLocked (x.p 16 1) = false →
        (x.p 16 1 ≠ 0xFF → s.slotFull (x.p 16 1) = false → Completes (.profileSelect m ok) s (fun t =>
          t.selRec = s.selRec ∧ s.replied m 0x10D [] [] t)) ∧
        (x.p 16 1 = 0xFF ∨ s.slotFull (x.p 16 1) = true → s.pfail = false → Completes (.profileSelect m ok) s (fun t =>
          SMap.get [] t.selRec s.selPick.2 = (if ok then selBytes seq (x.p 16 1) else []) ∧
          (∀ c, c ≠ s.selPick.2 → SMap.get [] t.selRec c = SMap.get [] s.selRec c) ∧
          s.replied m (if ok then 1 else 0x108) [] [] t)))) ∧
    (∀ (data : Option (List Byte)) (okA okB : Bool) (l : List Byte), s.cmdRuns m 0x12 → x.p 16 1 ≤ 7 → x.p 17 1 ≤ 1 → x.p 20 4 ≠ 0 →
      s.fetch (x.p 17 1) (x.p 24 8) (x.p 20 4) data = some l → s.pfail = false →
      Completes (.profileStore m data okA okB) s (fun t =>
        (s.bundleFault l = 0 →
          s.replied m (if okA && okB then 1 else 0x108) (if okA && okB then [3] else if okA then [1] else []) [] t ∧
          t.slotCopy (x.p 16 1) 0 = (if okA then objOf l else []) ∧
          t.slotCopy (x.p 16 1) 1 = (if !okA then s.slotCopy (x.p 16 1) 1 else if okB then objOf l else [])) ∧
        (s.bundleFault l = 2 → t.prof = s.prof ∧ s.replied m 0x104 [] [] t) ∧
        (s.bundleFault l ≠ 0 → s.bundleFault l ≠ 2 → t.prof = s.prof ∧ s.replied m 0x103 [] [F.denSigFail] t))) ∧
    (s.cmdRuns m 0x11 → x.p 16 1 ≤ 7 → x.p 17 1 ≤ 1 → s.slotLocked (x.p 16 1) = false →
      let u := s.setMb m { x with phase := .waiting, startAt := s.up }
      let obj := objOf (s.slotCopy (x.p 16 1) 0)
      (s.slotFull (x.p 16 1) = false → Completes (.profileSwitch m .fail .fail) s (fun t => s.replied m 0x10D [] [] t)) ∧
      Completes (.profileSwitch m .ok .fail) s (fun t =>
        (s.denOk = true → s.bundleFault (s.slotCopy (x.p 16 1) 0) = 0 →
          (u.compatible (u.withQ obj) obj = false → x.p 17 1 = 0 → s.replied m 0x105 [] [] t) ∧
          (u.compatible (u.withQ obj) obj = false → x.p 17 1 = 1 → s.waits m [] t ∧
            t.switch = some { slot := x.p 16 1, copy := 0, obj := obj, brk := true, stops := 0xFFFF, stage := .commit }) ∧
          (u.compatible (u.withQ obj) obj = true → ∀ e, e < 16 → s.leHash e ≠ bundleHash obj e → s.get F.foxStatusState e = 2 →
            t.get F.foxStatusState e = 3 ∧ (t.mb m).phase = .waiting)))) ∧
    (s.cmdRuns m 0xB0 →
      (s.locked = false → Completes (.safeUnlock m) s (fun t => t.locked = false ∧ s.replied m 1 [0] [] t)) ∧
      (s.locked = true →
        let e := s.unlockErr (x.bytes 16 16)
        Completes (.safeUnlock m) s (fun t => t.get F.owlLockUnlockErr = e ∧ (∀ i, i < 4 → t.get F.owlNonce i = 0) ∧
          (e = 0 → s.owl.halted = false → t.locked = false ∧ ended 1 t ∧ t.get F.owlLogSeq = (s.get F.owlLogSeq + 1) % 2 ^ 32) ∧
          (e ≠ 0 ∨ s.owl.halted = true → t.locked = true ∧ ended 0x15 t)))) ∧
    (s.cmdRuns m 0xB1 → 8 ≤ x.p 16 1 → x.p 16 1 ≤ 64 → Completes (.passwordChange m) s (fun t => t.owl.nonceOk = false ∧
      let good := s.owl.nonceOk = true ∧ s.owl.halted = false ∧ x.bytes 20 16 = s.expect [0x50, 0x57, 0x43, 0x48] []
      (good → ended 1 t ∧ t.pwHash = some (sha384 (s.nonce ++ x.bytes 36 (x.p 16 1))) ∧ t.get F.owlStatusNopw = 0 ∧
        t.trngN = s.trngN + 4 ∧ t.get F.owlLogSeq = (s.get F.owlLogSeq + 1) % 2 ^ 32) ∧
      (¬ good → t.pwHash = s.pwHash ∧ t.trngN = s.trngN ∧ s.replied m 0x15 [] [] t))) ∧
    (s.cmdRuns m 0xC0 → x.p 56 1 = 0 → x.space = 0 →
      let n := 1128 + certBytes.length
      let r := s.report (x.bytes 16 32)
      let doc := r ++ (List.range 96).map (Config.ecdsaSign (sha384 r))
      (x.p 60 4 < n → Completes (.attest m) s (fun t => s.replied m 0x10C (toLe n 4) [] t)) ∧
      (n ≤ x.p 60 4 → s.spaceOk 0 (x.p 48 8) n = true → (x.addr + 20 ≤ x.p 48 8 ∨ x.p 48 8 + doc.length ≤ x.addr + 16) →
        Completes (.attest m) s (fun t => ended 1 t ∧
          (∀ j, j < doc.length → SMap.get 0 t.hostMem (x.p 48 8 + j) = doc.getD j 0) ∧
          s.sameRegs cmdRegs t ∧ t.cram = s.cram))) ∧
    (∀ (enroll took ok : Bool) (data : Option (List Byte)) (l : List Byte), s.cmdRuns m (if enroll then 0xD0 else 0xD1) →
      x.p 16 1 ≤ 3 → x.p 17 1 ≤ 1 → x.p 20 4 ≠ 0 → s.fetch (x.p 17 1) (x.p 24 8) (x.p 20 4) data = some l →
      let k := x.p 16 1
      let h := if enroll then x.bytes 32 48 else List.replicate 48 0
      Completes (if enroll then .keyEnroll m data took ok else .keyRevoke m data took ok) s (fun t =>
        (s.authFits l (if enroll then 1 else 2) k h = false → ended 0x15 t ∧ t.get F.denOtpEnrolled = s.get F.denOtpEnrolled ∧
          t.get F.denOtpRevoked = s.get F.denOtpRevoked) ∧
        (s.authFits l (if enroll then 1 else 2) k h = true →
          (hasBit (s.get F.denOtpRevoked) k = true → ended 0x10B t) ∧
          (hasBit (s.get F.denOtpRevoked) k = false → enroll = true → hasBit (s.get F.denOtpEnrolled) k = true → ended 0x10A t) ∧
          (hasBit (s.get F.denOtpRevoked) k = false → enroll = true → hasBit (s.get F.denOtpEnrolled) k = false →
            ended (if ok then 1 else 0x108) t ∧ (took = true → hasBit (t.get F.denOtpEnrolled) k = true ∧ t.keyHash k = h)) ∧
          (hasBit (s.get F.denOtpRevoked) k = false → enroll = false → s.liveKeys = [k] → ended 2 t) ∧
          (hasBit (s.get F.denOtpRevoked) k = false → enroll = false → s.liveKeys ≠ [k] →
            ended (if ok then 1 else 0x108) t ∧ (took = true → hasBit (t.get F.denOtpRevoked) k = true))))) ∧
    (∀ fails : BitVec 64, s.cmdRuns m 0xE0 → x.p 16 1 ≤ 1 → x.p 17 1 ≤ 4 → x.p 24 8 < 2 ^ memUnits (x.p 17 1) → x.p 24 8 ≠ 0 →
      (x.p 16 1 = 0 → (∃ u ∈ bitsOf (x.p 24 8) 64, s.idleUnit (x.p 17 1) u = false) →
        Completes (.mbist m fails) s (fun t => s.replied m 0x13 [] [] t)) ∧
      (x.p 16 1 = 1 ∨ (∀ u ∈ bitsOf (x.p 24 8) 64, s.idleUnit (x.p 17 1) u = true) →
        let f := maskOf ((bitsOf (x.p 24 8) 64).filter (fun u => fails.getLsbD u && !s.unitRetired (x.p 17 1) u))
        Completes (.mbist m fails) s (fun t => ended (if f = 0 then 1 else 0x109) t ∧ t.get F.memMbistStatMode = x.p 16 1 ∧
          t.get F.memMbistStatTarget = x.p 17 1 ∧ t.get F.memMbistFailLo = f % 2 ^ 32 ∧ t.get F.memMbistFailHi = f / 2 ^ 32 % 2 ^ 32 ∧
          (x.p 16 1 = 1 → f = 0 → x.space = 0 → t.cram = s.cram ∧ t.im = s.im ∧ t.dm = s.dm ∧ t.flowMem = s.flowMem) ∧
          (x.p 16 1 = 0 → x.p 17 1 = 1 → x.space = 0 → ∀ u ∈ bitsOf (x.p 24 8) 64, s.unitRetired 1 u = false →
            ∀ a, a < 65536 → SMap.get 0 t.cram (u * 65536 + a) = 0)))) ∧
    (∀ (pub sig : List Byte) (level : Byte), s.denOk = true → Completes (.jtagAuth pub sig level) s (fun t => t.trngN = s.trngN + 8 ∧
      let n := (List.range 8).flatMap (fun i => toLe (Config.trng (s.trngN + i)).toNat 4)
      let good := s.jtagMay pub level.toNat = true ∧ Config.ecdsaOk pub (sha384 (n ++ toLe Config.nodeId.toNat 6 ++ [level])) sig = true
      (good → t.get F.denJtagLevel = max (s.get F.denJtagLevel) level.toNat % 2 ^ F.denJtagLevel.w ∧ t.evq = s.evAfter 0x4B level.toNat 0 0 ∧ s.lockedBy 9 t ∧
        s.sameRegs (F.denJtagLevel :: evRegs ++ lockRegs) t) ∧
      (¬ good → t.get F.denJtagFail = satAdd F.denJtagFail.w (s.get F.denJtagFail) 1 ∧ s.sameRegs [F.denJtagFail] t))) ∧
    (s.off = false → s.domOn .den = true → Completes .denTrng s (fun t =>
      t = if s.on F.denCfgTrngHost = true ∧ s.get F.denStatusTrngFail = 0 then
          { s with rdata := [(Config.trng s.trngN).toNat], trngN := s.trngN + 1 } else { s with rdata := [0] }))

/-- POWER_STATE (R526, R593-R595, Table 19-2): RUN has every domain on, TRIM the domains its mask leaves on unless one is in use, HOLD
stops engines and links, OFF locks the outputs and leaves the AON domain alone. -/
def Obligations.DeviceStates : Prop :=
  ∀ (s : State) (m : Fin 9), m.val < 8 → s.cmdRuns m 0xF0 →
    let x := s.mb m
    let st := x.p 16 1
    let d := x.p 20 4
    let old := s.get F.pwrStateState
    let ended (code : Nat) (t : State) : Prop := (t.mb m).phase = .idle ∧ t.get F.mbxAckCode m = code ∧ t.get F.mbxStatState m = 2
    (3 < st → Completes (.powerState m) s (fun t => s.replied m 2 (toLe old 1) [] t)) ∧
    (st = old → st ≤ 3 → Completes (.powerState m) s (fun t => s.replied m 1 (toLe old 1) [] t)) ∧
    (st ≠ old →
      (st = 0 → Completes (.powerState m) s (fun t => t.get F.pwrStateDomainsOn = 0x3FF ∧ t.get F.pwrStateState = 0 ∧ ended 1 t)) ∧
      (st = 1 → d = 0 → Completes (.powerState m) s (fun t => s.replied m 4 (toLe old 1) [] t)) ∧
      (st = 1 → d ≠ 0 → d % 2 = 0 → d < 1024 →
        (s.trimBusy d = true → Completes (.powerState m) s (fun t => s.replied m 3 (toLe old 1) [] t)) ∧
        (s.trimBusy d = false → Completes (.powerState m) s (fun t => t.get F.pwrStateDomainsOn = andnN 0x3FF d ∧
          t.get F.pwrStateState = 1 ∧ t.get F.pwrTrimMask = d / 2 ∧
          t.get F.pwrCTrimEntries = satAdd F.pwrCTrimEntries.w (s.get F.pwrCTrimEntries) 1 ∧ ended 1 t ∧ t.owl = s.owl))) ∧
      (st = 2 → Completes (.powerState m) s (fun t => t.get F.pwrStateDomainsOn = 0x2CF ∧ t.get F.pwrStateState = 2 ∧ ended 1 t ∧
        (∀ e, e < 16 → s.get F.foxStatusState e = 2 → t.get F.foxStatusState e = if s.safePoint e = true then 1 else 3) ∧
        (∀ e, e < 32 → (t.shr e).st.live = false))) ∧
      (st = 3 → Completes (.powerState m) s (fun t => t.off = true ∧ t.locked = true ∧ t.get F.owlOutStatEnergised = 0 ∧
        t.get F.pwrStateDomainsOn = 1 ∧ t.threads = [] ∧ t.frames = [] ∧ t.cram = [] ∧ t.flashLog = s.flashLog ∧ t.prof = s.prof)))

/-- Common RAM banks, scrubbing and retirement (R560-R564, R570, R575, R580): a handover sets the owner or is refused, a clearing leaves
zero and then the writes that waited; the logs are popped oldest first; a decided retirement takes its channel out of service. -/
def Obligations.BanksScrubbingAndRetirement : Prop :=
  ∀ s : State,
    (∀ (b : Fin 32) (v : BitVec 32),
      let o := v.toNat % 32
      let regs := [F.memBankOwnOwner, F.memBankOwnClearing, F.memBankOwnRefusedWr]
      (s.off = false → s.domOn .core = true → (o ≤ 18 ∨ o = 31) → s.retired 3 b = false → s.gwHolds b = false → Completes (.bankHandover b v) s (fun t =>
        t.get F.memBankOwnOwner b = o ∧ t.get F.memBankOwnClearing b = (if hasBit v.toNat 8 = true then 1 else s.get F.memBankOwnClearing b) ∧
        t.get F.memBankOwnRefusedWr b = (if hasBit v.toNat 29 = true then 0 else s.get F.memBankOwnRefusedWr b) ∧
        s.sameRegs regs t ∧ (∀ f ∈ regs, s.sameElse f b t) ∧ t = { s with live := t.live })) ∧
      (s.off = false → s.domOn .core = true → (18 < o ∧ o ≠ 31) ∨ s.retired 3 b = true ∨ s.gwHolds b = true →
        Completes (.bankHandover b v) s (fun t => t.get F.memBankOwnRefusedWr b = 1 ∧ t.get F.memBankOwnOwner b = s.get F.memBankOwnOwner b ∧
        s.sameRegs [F.memBankOwnRefusedWr] t ∧ t = { s with live := t.live })) ∧
      (s.get F.memBankOwnClearing b ≠ 0 → Completes (.bankClearDone b) s (fun t =>
        t.get F.memBankOwnClearing b = 0 ∧ t.waitWr = s.waitWr.filter (fun p => p.1 / 65536 != b.val) ∧
        (∀ a, a / 65536 ≠ b.val → SMap.get 0 t.cram a = SMap.get 0 s.cram a) ∧
        (∀ a, a / 65536 = b.val → (∀ p ∈ s.waitWr, p.1 ≠ a) → SMap.get 0 t.cram a = 0) ∧
        (∀ l p r, s.waitWr = l ++ p :: r → p.1 / 65536 = b.val → (∀ q ∈ r, q.1 ≠ p.1) → SMap.get 0 t.cram p.1 = p.2) ∧
        s.sameRegs [F.memBankOwnClearing] t ∧
        t = { s with live := t.live, cram := t.cram, poison := t.poison, waitWr := t.waitWr }))) ∧
    (s.on F.memScrubEn = true →
      (s.tmOn tmScrubLate = false → s.scrubPast = true →
        Completes (.scrubPassEnd true) s (fun t =>
          t.get F.memCScrubPasses = satAdd F.memCScrubPasses.w (s.get F.memCScrubPasses) 1 ∧
          s.sameRegs [F.memCScrubPasses] t ∧ t = { s.tmStart tmScrub with live := t.live }) ∧
        Completes (.scrubPassEnd false) s (fun t => t.get F.memScrubStatLate = 1 ∧ s.sameRegs [F.memScrubStatLate] t ∧
          t = { s.tmStart tmScrubLate with live := t.live })) ∧
      (s.tmOn tmScrubLate = false → s.scrubPast = false → ∀ d, Completes (.scrubPassEnd d) s (fun t => t = s)) ∧
      (s.tmOn tmScrubLate = true → Completes (.scrubPassEnd true) s (fun t =>
        t.get F.memCScrubPasses = satAdd F.memCScrubPasses.w (s.get F.memCScrubPasses) 1 ∧
        s.sameRegs [F.memCScrubPasses] t ∧ t = { (s.tmStop tmScrubLate).tmStart tmScrub with live := t.live })) ∧
      (∀ (u : Fin 64) (w : BitVec 16), u.val < 48 → s.marked 2 u w.toNat = false →
        Completes (.scrubCorrection 2 u w false true) s (fun t =>
          t.get F.memCCeImg = satAdd F.memCCeImg.w (s.get F.memCCeImg) 1 ∧
          t.get F.memCScrubFixed = satAdd F.memCScrubFixed.w (s.get F.memCScrubFixed) 1 ∧
          s.sameRegs [F.memCCeImg, F.memCScrubFixed] t ∧ t = { s with live := t.live }) ∧
        Completes (.scrubCorrection 2 u w true true) s (fun t =>
          t.get F.memCUeTotal = satAdd F.memCUeTotal.w (s.get F.memCUeTotal) 1 ∧
          t.ueLog = (if s.ueLog.length < 16 then s.ueLog ++ [{ target := 2, unit := u.val, word := w.toNat }] else s.ueLog) ∧
          t.evq = s.evAfter 0x44 (128 + u.val) 0 0 ∧ s.sameRegs (F.memCUeTotal :: evRegs) t ∧
          t = { s with live := t.live, ueLog := t.ueLog, evq := t.evq })) ∧
      (∀ (u : Fin 64) (w : BitVec 16), u.val < 18 → s.unitRetired 4 u = false → s.marked 4 u w.toNat = false →
        Completes (.scrubCorrection 4 u w true true) s (fun t => t.marked 4 u w.toNat = true ∧
          t.get F.memCUeTotal = satAdd F.memCUeTotal.w (s.get F.memCUeTotal) 1 ∧ s.sameMem t))) ∧
    (s.off = false → s.ueLog = [] → Completes .memUePop s (fun t => t = { s with rdata := [0] })) ∧
    (∀ r q, s.off = false → s.ueLog = r :: q → Completes .memUePop s (fun t =>
      t = { s with ueLog := q, rdata := [2 ^ 31 + r.target % 8 * 2 ^ 24 + r.unit % 64 * 2 ^ 16 + r.word % 2 ^ 16] })) ∧
    (s.off = false → s.refLog = [] → Completes .memRefusePop s (fun t => t = { s with rdata := [0] })) ∧
    (∀ r q, s.off = false → s.refLog = r :: q → Completes .memRefusePop s (fun t =>
      t = { s with refLog := q, rdata := [2 ^ 31 + r.wr.toNat * 2 ^ 30 + r.req % 32 * 2 ^ 24 + r.bank % 32 * 2 ^ 16 + r.ofs % 2 ^ 16] })) ∧
    (∀ (kind : Fin 6) (n : Fin 34),
      let k := kind.val * 64 + n.val
      (s.chan k).retire ≠ none → s.retired kind n = false →
      (3 ≤ kind.val → Completes (.retirement kind n) s (fun t =>
        t.retired kind n = true ∧ (t.chan k).retire = none ∧
        t.get F.evtCRetirements = satAdd F.evtCRetirements.w (s.get F.evtCRetirements) 1 ∧
        (kind = 3 → t.get F.memBankOwnOwner n = 31) ∧ (kind = 5 → n.val < 32 → (t.shr n).st = .retired))) ∧
      (∀ le x, kind = 1 → s.leOf n = some le → (s.eng le).mig = none → s.spareFor n = some x →
        Completes (.retirement kind n) s (fun t =>
          (t.eng le).mig = some x ∧ (t.eng le).migRetire = true ∧ (t.eng le).was = s.get F.foxStatusState le ∧
          t.get F.foxStatusState le = 4 ∧ t.get F.foxSpares = clrBit (s.get F.foxSpares) x % 2 ^ F.foxSpares.w ∧
          s.sameRegs [F.foxSpares, F.foxStatusState] t ∧
          t = { s.tmStart (tmMig le) with live := t.live, engines := t.engines }))) ∧
    (∀ (ok : Bool) h q, s.health = h :: q → s.pfail = false → Completes (.healthLogWrite ok) s (fun t =>
      t.health = q ∧ t.healthSeq = s.healthSeq + 1 ∧
      SMap.get [] t.hlog (s.healthSeq % 7168) = (if ok then h.bytes s.healthSeq else []) ∧
      (ok = true → t.get F.evtCHlogWrites = satAdd F.evtCHlogWrites.w (s.get F.evtCHlogWrites) 1 ∧ t.evq = s.evq) ∧
      (ok = false → t.get F.evtCHlogFailCnt = satAdd F.evtCHlogFailCnt.w (s.get F.evtCHlogFailCnt) 1 ∧ t.evq = s.evAfter 0x62 0 0 0) ∧
      s.sameRegs ([F.evtCHlogWrites, F.evtCHlogFailCnt] ++ evRegs) t ∧
      t = { s with live := t.live, evq := t.evq, health := q, healthSeq := t.healthSeq, hlog := t.hlog }))

/-- The event unit (R582-R584, R588): an event joins the open record of its cause and subject, or opens one, closing the oldest of 64; a
closed record enters the host FIFO of 256 unless masked; EVT_POP takes the oldest into the hold registers. -/
def Obligations.EventRecordsReachTheHost : Prop :=
  ∀ s : State,
    let taken (r : EvRec) : Bool := hasBit (s.get F.evtMask (r.cause / 32)) (r.cause % 32)
    (∀ e q, s.evq = e :: q →
      ((∃ r ∈ s.evOpen, r.has e = true) → Completes .eventAggregate s (fun t =>
        t = { s with evq := q, evOpen := s.evOpen.map (fun r => if r.has e = true then
          { r with count := min 65535 (r.count + 1), sat := r.sat || decide (65535 ≤ r.count), lns := e.ns, lsec := e.sec,
                   lastAt := e.at_ } else r) })) ∧
      ((∀ r ∈ s.evOpen, r.has e = false) →
        (s.evOpen.length < 64 → Completes .eventAggregate s (fun t => t = { s with evq := q, evOpen := s.evOpen ++ [e.open] })) ∧
        (64 ≤ s.evOpen.length → Completes .eventAggregate s (fun t => t.evq = q ∧ t.evOpen.length = s.evOpen.length ∧
          t.evOpen.getLast? = some e.open ∧
          t.get F.evtCEarlyCnt = satAdd F.evtCEarlyCnt.w (s.get F.evtCEarlyCnt) 1 ∧
          t.get F.evtCRecords = satAdd F.evtCRecords.w (s.get F.evtCRecords) 1 ∧
          s.sameRegs [F.evtCEarlyCnt, F.evtCRecords, F.evtCEvtLost, F.mbxD2hPend] t)))) ∧
    (∀ (i : Fin 64) r, s.evOpen[i.val]? = some r → s.recDue r = false → Completes (.recordClose i) s (fun t => t = s)) ∧
    (∀ (i : Fin 64) r, s.evOpen[i.val]? = some r →
      r.lastAt + s.act F.evtCfgHoldUs * 1000 ≤ s.up ∨ r.firstAt + min 1000 (s.act F.evtCfgMaxMs) * 1000000 ≤ s.up →
      Completes (.recordClose i) s (fun t =>
      t.evOpen = s.evOpen.eraseIdx i ∧ t.get F.evtCRecords = satAdd F.evtCRecords.w (s.get F.evtCRecords) 1 ∧
      (taken r = false → t.evFifo = s.evFifo) ∧
      (taken r = true → s.evFifo.length < 256 → t.evFifo = s.evFifo ++ [r] ∧ s.rang 26 t) ∧
      (taken r = true → 256 ≤ s.evFifo.length → t.evFifo = s.evFifo ∧
        t.get F.evtCEvtLost = satAdd F.evtCEvtLost.w (s.get F.evtCEvtLost) 1) ∧
      s.sameRegs [F.evtCRecords, F.evtCEvtLost, F.mbxD2hPend] t ∧ s.sameMem t ∧ t.evq = s.evq)) ∧
    (s.off = false → s.domOn .core = true → Completes .evtFlush s (fun t => t.evOpen = [] ∧ t.evq = s.evq ∧
      (s.evFifo.length + s.evOpen.length ≤ 256 → t.evFifo = s.evFifo ++ s.evOpen.filter taken) ∧
      s.sameRegs [F.evtCRecords, F.evtCEvtLost, F.mbxD2hPend] t ∧ s.sameMem t)) ∧
    (s.off = false → s.evFifo = [] → Completes .evtPop s (fun t => t = { s with rdata := [0] })) ∧
    (∀ r q, s.off = false → s.evFifo = r :: q → Completes .evtPop s (fun t => t.evFifo = q ∧
      t.rdata = [2 ^ 31 + r.early.toNat * 2 ^ 30 + r.sat.toNat * 2 ^ 29 + r.cause % 256 * 65536 + r.count % 65536] ∧
      t.get F.evtSubjSubject = r.subj % 2 ^ 16 ∧ t.get F.evtSubjPartner = r.partner % 2 ^ 16 ∧ t.get F.evtDetail = r.detail % 2 ^ 32 ∧
      t.get F.evtFirstNs = r.fns % 2 ^ F.evtFirstNs.w ∧ t.get F.evtFirstSec = r.fsec % 2 ^ F.evtFirstSec.w ∧
      t.get F.evtLastNs = r.lns % 2 ^ F.evtLastNs.w ∧ t.get F.evtLastSec = r.lsec % 2 ^ F.evtLastSec.w ∧
      s.sameRegs [F.evtSubjSubject, F.evtSubjPartner, F.evtDetail, F.evtFirstNs, F.evtFirstSec, F.evtLastNs, F.evtLastSec] t ∧
      t = { s with live := t.live, evFifo := q, rdata := t.rdata }))

/-- Resets and the boot (R470, R477, R533-R537, R545, R590, R619, R634, R658): a reset leaves flash, Owl and the AON registers and
returns the rest to its reset values; its release samples the pins and, with TEST_EN low, boots; VDD_AON rising locks the outputs. -/
def Obligations.ResetsAndBoot : Prop :=
  ∀ s : State,
    (∀ c : Fin 3, Completes (.reset c) s (fun t => t.released = false ∧ t.off = false ∧ t.pending = s.pending ∧
      t.owl = { s.owl with nonceOk := false } ∧ t.locked = s.locked ∧ t.get F.owlOutStatEnergised = s.get F.owlOutStatEnergised ∧
      (∀ i, i < 4 → t.get F.owlAuthNonce i = 0) ∧ (s.released = true → t.get F.glbResetCause = c.val + 1) ∧
      (∀ f i, aonKey (f.key i) = false → t.get f i = f.reset i ∧ t.act f i = f.reset i) ∧
      t.cram = [] ∧ t.im = [] ∧ t.dm = [] ∧ t.imgCur = [] ∧ t.imgBack = [] ∧ t.flowMem = [] ∧ t.shrPm = [] ∧ t.threads = [] ∧ t.frames = [] ∧
      t.time = State.reset.time ∧ t.hostMem = s.hostMem ∧ t.prof = s.prof ∧ t.flashLog = s.flashLog ∧ t.hlog = s.hlog ∧
      t.selRec = s.selRec ∧ t.pwHash = s.pwHash)) ∧
    (∀ b : BootIn, s.released = false → s.supOut = 0 → s.hlog = [] → s.selRec = [] → s.startQ = [] → s.switch = none → b.fails = [] →
      s.get F.denOtpProfileLockEn = 0 → s.get F.glbStatusBooted = 0 → s.bundle = [] → s.domOn .den = true → b.selftest = true → b.trng = true → b.rdA = .ok →
      b.testEn = false →
      Completes (.resetRelease b) s (fun t => t.released = true ∧ t.relAt = s.up ∧
        (s.prof = [] → b.rdB = .ok → t.get F.mbxHostifSel = b.hostSel.toNat ∧ t.get F.denProfPins = b.prof.toNat ∧
          t.get F.clkStatusLocked = b.locked.toNat ∧ t.get F.pwrInsCardPresent = b.card.toNat ∧ t.get F.denStatusReady = 1 ∧
          t.get F.denBootCauseA = 3 ∧ t.get F.denBootCauseB = 3 ∧ t.get F.glbStatusBooted = 1 ∧
          t.evq = s.evAfter 0x48 0 0 0 ∧ s.sameMem t ∧ t.threads = s.threads) ∧
        (s.bundleFault (s.slotCopy b.prof.toNat 0) = 0 → t.bundle = objOf (s.slotCopy b.prof.toNat 0) ∧
          t.get F.glbStatusProfile = 1))) ∧
    (s.released = true ∨ s.supOut ≠ 0 → ∀ b : BootIn, Completes (.resetRelease b) s (fun t => t = s)) ∧
    (∀ b : BootIn, s.released = false → s.supOut = 0 →
      (b.testEn = true → Completes (.resetRelease b) s (fun t => t = s.bootPins b ∧ t.released = true ∧ t.bundle = s.bundle ∧
        t.get F.glbStatusBooted = s.get F.glbStatusBooted)) ∧
      (b.testEn = false → Completes (.resetRelease b) s (fun t =>
        t = (((s.bootPins b).healthRetire).each b.fails (fun u f => u.startupFail f.1.val f.2.val)).bootLoad b))) ∧
    Completes .vddAonRise s (fun t => t.locked = true ∧ t.get F.owlStatusCause = 5 ∧ t.get F.owlOutStatEnergised = 0 ∧
      t.released = false ∧ t.off = false ∧ t.conns = [] ∧ t.tws = [] ∧ t.owl.halted = false ∧ t.prof = s.prof ∧ t.pwHash = s.pwHash ∧
      t.flashLog = s.flashLog ∧ t.pending = s.pending) ∧
    (s.startQ = [] → s.switch = none → s.get F.glbStatusBooted = 0 → s.cmdRuns 8 0x41 → Completes (.leaseClose 8) s (fun t =>
      t.get F.glbStatusBooted = 1 ∧ t.get F.imgLeaseStatOpen = 0 ∧ (t.mb 8).phase = .idle ∧ t.hostMem = s.hostMem)) ∧
    (∀ b q x, s.startQ = b :: q → parseBlk {} b = .inr x → s.cmdRuns 8 0x41 → Completes (.leaseClose 8) s (fun t =>
      t.startQ = q ∧ t.mb 8 = x ∧ t.get F.imgLeaseStatOpen = 0))

/-- Power failure, PLL references and the adaptive loops (R585, R587, R597, R600-R607): the power-fail event reaches the host at once and
a last gasp is built; each loop takes its step inside its window; heat caps and trips; a card that leaves is isolated. -/
def Obligations.PowerFailLoopsAndInsertion : Prop :=
  ∀ s : State,
    (∀ pin core serdes aon : Bool,
      (s.pfail = false → (pin || core || serdes || aon) = true →
        Completes (.powerFail pin core serdes aon) s (fun t => t.pfail = true ∧ t.tmOn tmPfail = true ∧
          (pin = true → t.get F.pwrBodPfail = 1) ∧ (core = true → t.get F.pwrBodCore = 1) ∧ (serdes = true → t.get F.pwrBodSerdes = 1) ∧
          (aon = true → t.get F.pwrBodAon = 1) ∧ t.get F.evtCEvents = satAdd F.evtCEvents.w (s.get F.evtCEvents) 1 ∧
          (hasBit (s.get F.evtMask 3) 0 = true → s.evFifo.length < 256 → t.evFifo.length = s.evFifo.length + 1 ∧
            t.evFifo.getLast?.map (fun r => (r.cause, r.count)) = some (0x60, 1) ∧ s.rang 26 t) ∧
          (s.on F.ringLgCfgEn = true → s.ringOn = true → t.ring.gasp = some (s.up, s.gaspFrame (if pin then 1 else 2))) ∧
          s.sameRegs [F.pwrBodPfail, F.pwrBodCore, F.pwrBodSerdes, F.pwrBodAon, F.evtCEvents, F.evtCRecords, F.evtCEvtLost, F.mbxD2hPend] t ∧
          s.sameMem t)) ∧
      (s.pfail = true ∨ (pin || core || serdes || aon) = false →
        Completes (.powerFail pin core serdes aon) s (fun t => t.pfail = s.pfail ∧ t.evFifo = s.evFifo ∧ t.ring = s.ring ∧
          s.sameRegs [F.pwrBodPfail, F.pwrBodCore, F.pwrBodSerdes, F.pwrBodAon] t ∧
          t = { s with live := t.live, timers := t.timers }))) ∧
    (s.pfail = true ∧ s.tmPast tmPfail 10000000 = true → Completes .pwrRestored s (fun t => t.evq = s.evAfter 0x61 0 0 0 ∧
      s.sameRegs evRegs t ∧ t = { s with pfail := false, live := t.live, evq := t.evq })) ∧
    (s.pfail = false ∨ s.tmPast tmPfail 10000000 = false → Completes .pwrRestored s (fun t => t = s)) ∧
    (∀ k : Fin 6,
      Completes (.referenceLoss k) s (fun t => t.get F.clkStatusLocked = clrBit (s.get F.clkStatusLocked) k % 2 ^ 6 ∧
        t.get F.clkStatusLost = setBit (s.get F.clkStatusLost) k % 2 ^ 6 ∧
        (k.val < 3 → s.sameRegs [F.clkStatusLocked, F.clkStatusLost] t ∧ t = { s with live := t.live }) ∧
        (k = 5 → t.get F.ringGstatInternalOsc ≠ 0) ∧ (k = 4 → s.get F.mbxHostifSel = 0 → t.get F.mbxHostifLink = 0)) ∧
      Completes (.referenceReturn k) s (fun t => t.get F.clkStatusLocked = setBit (s.get F.clkStatusLocked) k % 2 ^ 6 ∧
        s.sameRegs [F.clkStatusLocked] t ∧ (k ≠ 3 → t = { s with live := t.live }) ∧
        (k = 3 → ∀ p, p < 2 → s.ringOn = true → s.laneLive p = false → s.retired 0 (12 + p) = false → (t.rLane p).training = true))) ∧
    (∀ (d : Fin 10) (slack : BitVec 8),
      let runs := d.val ≠ 0 ∧ hasBit (s.get F.pwrStateDomainsOn) d = true ∧ s.on F.pwrAvsCfgEn = true
      let tg := s.get F.pwrAvsDTargetMv d
      let m := s.act F.pwrAvsCfgMarginMv
      let loop := [F.pwrAvsDSlack, F.pwrAvsDTargetMv, F.pwrCAvsSteps, F.pwrVcoreReqMv]
      (¬ runs → Completes (.avsStep d slack) s (fun t => t = s)) ∧
      (runs → s.window 0 = false → Completes (.avsStep d slack) s (fun t => t.get F.pwrAvsDSlack d = slack.toNat ∧
        t.get F.pwrAvsDStarved d = (if slack.toNat < m then 1 else s.get F.pwrAvsDStarved d) ∧
        s.sameRegs [F.pwrAvsDSlack, F.pwrAvsDStarved] t ∧ t = { s with live := t.live })) ∧
      (runs → s.window 0 = true →
        (hasBit s.stepMask d = true ∨ (s.tmOn tmAvs = true ∧ s.tmPast tmAvs 10000 = false) ∨ (m ≤ slack.toNat ∧ slack.toNat ≤ m + 2) →
          Completes (.avsStep d slack) s (fun t => t.get F.pwrAvsDSlack d = slack.toNat ∧ s.sameRegs [F.pwrAvsDSlack] t ∧
            t = { s with live := t.live })) ∧
        (hasBit s.stepMask d = false → (s.tmOn tmAvs = true → s.tmPast tmAvs 10000 = true) →
          (slack.toNat < m → tg + 5 ≤ s.act F.pwrAvsCfgVmaxMv → s.act F.pwrAvsCfgVmaxMv < 2 ^ 10 →
            Completes (.avsStep d slack) s (fun t => t.get F.pwrAvsDTargetMv d = tg + 5 ∧ t.get F.pwrAvsDSlack d = slack.toNat ∧
              t.get F.pwrCAvsSteps = satAdd F.pwrCAvsSteps.w (s.get F.pwrCAvsSteps) 1 ∧
              t.get F.pwrVcoreReqMv % 2 ^ 10 = t.avsReq % 2 ^ 10 ∧ t.tmOn tmAvs = true ∧ s.sameRegs loop t ∧
              t = { s with live := t.live, stepMask := setBit s.stepMask d, timers := t.timers })) ∧
          (m + 2 < slack.toNat → s.act F.pwrAvsCfgVminMv + 5 ≤ tg → tg < 2 ^ 10 →
            Completes (.avsStep d slack) s (fun t => t.get F.pwrAvsDTargetMv d = tg - 5 ∧ t.get F.pwrAvsDSlack d = slack.toNat ∧
              t.get F.pwrCAvsSteps = satAdd F.pwrCAvsSteps.w (s.get F.pwrCAvsSteps) 1 ∧
              t.get F.pwrVcoreReqMv % 2 ^ 10 = t.avsReq % 2 ^ 10 ∧ s.sameRegs loop t ∧
              t = { s with live := t.live, stepMask := setBit s.stepMask d, timers := t.timers }))))) ∧
    (s.on F.pwrAvsCfgEn = true ∧ s.tmPast tmVcore 5000 = true → Completes .avsTimeout s (fun t => t.get F.pwrVcoreAvsTmo = 1 ∧
      s.sameRegs [F.pwrVcoreAvsTmo] t ∧ t = { s.tmStop tmVcore with live := t.live, stepMask := Nat.lor s.stepMask 1023 })) ∧
    (s.on F.pwrAvsCfgEn = false ∨ s.tmPast tmVcore 5000 = false → Completes .avsTimeout s (fun t => t = s)) ∧
    (∀ (c : Fin 2) (occ : BitVec 8),
      let runs := s.domOn (if c = 0 then .foxa else .foxb) = true ∧ s.get F.pwrStateState ≠ 2
      let goes (st : Nat) (t : State) : Prop := t.fclkStep c = st ∧ t.get F.clkDfsStatOccPct c = occ.toNat ∧
        s.sameRegs [F.clkDfsStatOccPct, F.pwrCDfsStepsA, F.pwrCDfsStepsB] t ∧
        t = { s with live := t.live, fstep := t.fstep, stepMask := setBit s.stepMask (10 + c.val) }
      (¬ runs → Completes (.dfsStep c occ) s (fun t => t = s)) ∧
      (runs → s.window (1 + c.val) = false ∨ hasBit s.stepMask (10 + c.val) = true → Completes (.dfsStep c occ) s (fun t =>
        t.get F.clkDfsStatOccPct c = occ.toNat ∧ s.sameRegs [F.clkDfsStatOccPct] t ∧ t = { s with live := t.live })) ∧
      (runs → s.window (1 + c.val) = true → hasBit s.stepMask (10 + c.val) = false →
        (s.on F.clkDfsEn c = true → s.act F.clkDfsUpPct c < occ.toNat → s.fclkStep c < s.act F.clkDfsMax c →
          s.fclkStep c < s.get F.clkDfsStatCap c → Completes (.dfsStep c occ) s (goes (s.fclkStep c + 1))) ∧
        (s.on F.clkDfsEn c = true → s.get F.clkDfsStatCap c < s.fclkStep c ∨ (s.fclkStep c ≤ s.get F.clkDfsStatCap c ∧
            occ.toNat ≤ s.act F.clkDfsUpPct c ∧ occ.toNat < s.act F.clkDfsDownPct c ∧ s.act F.clkDfsMin c < s.fclkStep c) →
          Completes (.dfsStep c occ) s (goes (s.fclkStep c - 1))) ∧
        (s.on F.clkDfsEn c = false →
          (s.fclkStep c < s.act F.clkDfsMax c → Completes (.dfsStep c occ) s (goes (s.fclkStep c + 1))) ∧
          (s.act F.clkDfsMax c < s.fclkStep c → Completes (.dfsStep c occ) s (goes (s.fclkStep c - 1)))))) ∧
    (∀ (m : Fin 2) (mid : BitVec 10),
      let cur := sgn 10 (s.get F.clkMthrCurMv m)
      let may := s.on F.clkMthrAdaptEn m = true ∧ s.window 6 = true ∧ s.domOn .shrew = true ∧ s.mthrMay m = true
      let goes (v : Int) (t : State) : Prop := t.get F.clkMthrCurMv m = wrapI 10 v ∧
        t.get F.pwrCMainsThrSteps = satAdd F.pwrCMainsThrSteps.w (s.get F.pwrCMainsThrSteps) 1 ∧
        s.sameRegs [F.clkMthrCurMv, F.pwrCMainsThrSteps] t ∧ t = { s.tmStart (tmMthr m) with live := t.live }
      (¬ may ∨ (sgn 10 mid.toNat - cur).natAbs < 2 → Completes (.mainsThresholdStep m mid) s (fun t => t = s)) ∧
      (may → cur + 2 ≤ sgn 10 mid.toNat → Completes (.mainsThresholdStep m mid) s (goes (cur + 2))) ∧
      (may → sgn 10 mid.toNat + 2 ≤ cur → Completes (.mainsThresholdStep m mid) s (goes (cur - 2)))) ∧
    (∀ a b c d : BitVec 11,
      let hot := max (max a.toInt b.toInt) (max c.toInt d.toInt)
      let w : Int := 4 * s.act F.pwrThermCfgWarnC
      let h : Int := 4 * s.act F.pwrThermCfgHotC
      Completes (.thermalCap a b c d) s (fun t => t.get F.pwrThermStatWarn = (if w ≤ hot then 1 else 0) ∧
        t.get F.pwrThermStatHot = (if h ≤ hot then 1 else 0) ∧
        (h ≤ hot → t.get F.clkDfsStatCap 0 = 1 ∧ t.get F.clkDfsStatCap 1 = 1) ∧
        (w ≤ hot → hot < h → t.get F.clkDfsStatCap 0 = 2 ∧ t.get F.clkDfsStatCap 1 = 2) ∧
        (hot < w - 20 → hot < h → t.get F.clkDfsStatCap 0 = 3 ∧ t.get F.clkDfsStatCap 1 = 3) ∧
        t.get F.pwrTemp 0 = a.toNat ∧ t.get F.pwrTemp 3 = d.toNat ∧
        s.sameRegs [F.pwrTemp, F.pwrThermStatWarn, F.pwrThermStatHot, F.pwrCThermCaps, F.clkDfsStatCap] t ∧ t.tmOn tmTrip = decide (4 * tripC ≤ hot) ∧
        t = { s with live := t.live, timers := t.timers })) ∧
    (s.off = true ∨ s.tmPast tmTrip 10000 = false → Completes .thermalTrip s (fun t => t = s)) ∧
    (s.off = false → s.tmPast tmTrip 10000 = true → Completes .thermalTrip s (fun t => t.off = true ∧ t.get F.pwrThermStatTripSeen = 1 ∧ t.locked = true ∧
      t.get F.owlOutStatEnergised = 0 ∧ t.get F.pwrStateDomainsOn = 1)) ∧
    (∀ le : Fin 16,
      let c := s.phys le / 9
      let clean := s.freeSpares.filter (fun y => s.inWindow 1 y == 0)
      let may := s.on F.clkPlaceEn = true ∧ s.window 7 = true ∧ hasBit s.stepMask 12 = false ∧ s.get F.pwrStateState ≠ 2 ∧
        s.switch = none ∧ s.carried le = true ∧ (s.eng le).mig = none
      let goes (x : Nat) (t : State) : Prop := (t.eng le).mig = some x ∧ (t.eng le).migRetire = false ∧
        t.get F.foxStatusState le = 4 ∧ t.get F.foxSpares = clrBit (s.get F.foxSpares) x % 2 ^ 18 ∧
        t.get F.pwrCPlaceMoves = satAdd F.pwrCPlaceMoves.w (s.get F.pwrCPlaceMoves) 1 ∧
        s.sameRegs [F.foxStatusState, F.foxSpares, F.pwrCPlaceMoves] t ∧
        t = { s.tmStart (tmMig le) with live := t.live, engines := t.engines, stepMask := setBit s.stepMask 12 }
      (¬ may → Completes (.placementMigration le) s (fun t => t = s)) ∧
      (∀ x, may → s.faultMove le = true → clean.find? (fun y => y / 9 == c) = some x →
        Completes (.placementMigration le) s (goes x)) ∧
      (∀ x, may → s.faultMove le = true → clean.find? (fun y => y / 9 == c) = none → clean.head? = some x →
        Completes (.placementMigration le) s (goes x)) ∧
      (∀ x, may → (∀ e, e < 16 → s.faultMove e = false) → s.hotter c = true → s.tmPast (tmHot c) 10000000 = true →
        clean.find? (fun y => y / 9 == 1 - c) = some x → Completes (.placementMigration le) s (goes x))) ∧
    Completes .cardInsert s (fun t => t.get F.pwrInsCardPresent = 1 ∧ t.iso = false ∧
      (s.iso = true → s.on F.ringCfgEn = true → s.domOn .ring = true → s.rst = 0 → t.rst = 1) ∧
      s.sameRegs [F.pwrInsCardPresent, F.pwrInsIso, F.ringStatusState] t ∧ t = { s with live := t.live }) ∧
    Completes .cardExtract s (fun t => t.get F.pwrInsCardPresent = 0 ∧ t.iso = true ∧ t.get F.pwrInsExtractSeen = 1 ∧ t.rst = 0 ∧
      ∀ p, p < 12 → t.linkUp p = false)

/-- Ring lanes and the states of the node (R284, R299-R304, R306, R310, R314-R316, R321): training, LOS, link state and echo per lane;
LISTEN, COLDSTART and FIRST by their timeouts, LISTEN_ONLY by RESYNC, LISTEN again without CSM. -/
def Obligations.RingLanesAndNodeStates : Prop :=
  ∀ (s : State), s.ringOn = true →
    (∀ p : Fin 2,
      let only (g : Lane) (t : State) : Prop := t.rLane p = g ∧ (∀ q, q ≠ p.val → t.rLane q = s.rLane q) ∧
        t = { s with ringLanes := t.ringLanes }
      let l := s.rLane p
      let trains : Prop := s.laneLive p = false ∧ s.retired 0 (12 + p.val) = false ∧ l.training = false
      (¬ trains → Completes (.ringSignalDetected p) s (fun t => t = s)) ∧
      (trains → Completes (.ringSignalDetected p) s (fun t => t.rLane p = { l with training := true } ∧ t.tmOn (tmTrain p) = true ∧
        t = { s.tmStart (tmTrain p) with ringLanes := t.ringLanes })) ∧
      (trains → s.tmPast (tmTrain p) 100000000 = true → Completes (.ringTrainRetry p) s (fun t =>
        t.rLane p = { l with training := true } ∧ t = { s.tmStart (tmTrain p) with ringLanes := t.ringLanes })) ∧
      (¬ trains ∨ s.tmPast (tmTrain p) 100000000 = false → Completes (.ringTrainRetry p) s (fun t => t = s)) ∧
      (∀ (ok : Bool) (rate : Fin 3) (ctle dfe : BitVec 8),
        (l.training = false → Completes (.ringTrainEnd p ok ⟨rate, ctle, dfe⟩) s (fun t => t = s)) ∧
        (l.training = true → ok = true → s.tmPast (tmTrain p) 20000001 = false →
          Completes (.ringTrainEnd p ok ⟨rate, ctle, dfe⟩) s (fun t => t.get F.ringLTrained p = 1 ∧ t.laneLive p = true ∧
            t.get F.ringLRate p = max rate.val (s.act F.ringCfgRateMax) % 4 ∧ (t.rLane p).training = false ∧ (t.rLane p).fails = 0 ∧
            (t.rLane p).ctle = ctle.toNat ∧ (t.rLane p).dfe = dfe.toNat ∧
            t.rst = (if s.rst = 1 then (if s.on F.ringCfgColdEn = true ∧ s.act F.ringListenListenUs = 0 then 3 else 2) else s.rst) ∧
            (s.inRing = false → s.nbrMember p = false → t.joined p = true))) ∧
        (l.training = true → ok = false ∨ s.tmPast (tmTrain p) 20000001 = true →
          Completes (.ringTrainEnd p ok ⟨rate, ctle, dfe⟩) s (fun t =>
            t.get F.ringLcTrainFail p = satAdd F.ringLcTrainFail.w (s.get F.ringLcTrainFail p) 1 ∧
            (t.rLane p).training = false ∧ (t.rLane p).fails = l.fails + 1 ∧ t.laneLive p = s.laneLive p ∧ t.rst = s.rst))) ∧
      (s.laneLive p = false → l.training = false → Completes (.ringLos p) s (fun t => t = s)) ∧
      (s.laneLive p = true ∨ l.training = true → Completes (.ringLos p) s (fun t => t.get F.ringLLosSeen p = 1 ∧ t.laneLive p = false ∧
        t.get F.ringLTrained p = 0 ∧ t.joined p = false ∧
        t.get F.ringLcLosEvents p = satAdd F.ringLcLosEvents.w (s.get F.ringLcLosEvents p) 1)) ∧
      (∀ (dfe : Bool) (code : BitVec 8),
        (s.window (3 + p.val) = true ∧ s.get F.ringLTrained p ≠ 0 →
          Completes (.ringEqStep p dfe code) s (only (if dfe then { l with dfe := code.toNat } else { l with ctle := code.toNat }))) ∧
        (¬ (s.window (3 + p.val) = true ∧ s.get F.ringLTrained p ≠ 0) → Completes (.ringEqStep p dfe code) s (fun t => t = s))) ∧
      (∀ (q : BitVec 8) (res : BitVec 32), s.get F.ringLTrained p ≠ 0 →
        Completes (.echoReq p q res) s (only { l with blocks := [.echoResp q.toNat res.toNat] })) ∧
      (∀ (q : BitVec 8) (res : BitVec 32) (n t1 t4 : Nat), l.echo = some (n, t1) → n = q.toNat →
        let v : Int := ((t4 * 8 : Nat) - (t1 * 8 : Nat) - (res.toNat : Int)) / 2
        let m := (v :: l.samples).take 64
        Completes (.echoResp p q res t4) s (fun t => t.rLane p = { l with echo := none, samples := m } ∧
          t.get F.ringLDelay p = (m.foldl (· + ·) 0 / (m.length : Int)).toNat % 2 ^ 16 ∧ s.sameRegs [F.ringLDelay] t ∧
          t = { s with live := t.live, ringLanes := t.ringLanes })) ∧
      (∀ (member : Bool) (node : Fin 32) (id : BitVec 32), s.laneLive p = true → Completes (.linkState p member node id) s (fun t =>
        (t.rLane p).nbr = some (member, node.val, id.toNat) ∧
        (s.inRing = false → member = true → l.nbr = none → t.joined p = false) ∧
        (s.inRing = false → member = true → l.nbr ≠ none → t.joined p = s.joined p) ∧
        (s.inRing = false → member = false → t.joined p = true) ∧ (s.inRing = true → t.joined p = s.joined p))) ∧
      (s.inRing = true → s.laneLive p = true → ∀ id : BitVec 48, Completes (.joinA p id) s (only { l with joinId := some id.toNat })) ∧
      (∀ (id : Nat) (node : Fin 32) (hash : BitVec 32), l.joinId = some id → s.joined p = false → s.rst = 5 →
        Completes (.joinB p node hash) s (only { l with joinId := none,
                                                        req := some { id := id, node := node, west := p == 1, hash := hash.toNat,
                                                                      delay := s.get F.ringLDelay p } })) ∧
      (∀ t1 : Nat,
        let due := s.get F.ringLTrained p ≠ 0 ∧ (s.tmOn (tmEcho p) = true → s.tmPast (tmEcho p) 124000 = true)
        let q := (l.seq + 1) % 256
        let b : List Block66 := [.echoReq q, .linkState s.inRing s.rnode s.ringId]
        (¬ due → Completes (.controlBlockSend p t1) s (fun t => t = s)) ∧
        (due → s.get F.ringStatusOutside = 0 ∨ s.get F.ringStatusLocked = 0 → Completes (.controlBlockSend p t1) s (fun t =>
          t.rLane p = { l with seq := q, echo := some (q, t1), blocks := b } ∧
          t = { s.tmStart (tmEcho p) with ringLanes := t.ringLanes })) ∧
        (due → s.get F.ringStatusOutside ≠ 0 → s.get F.ringStatusLocked ≠ 0 → Completes (.controlBlockSend p t1) s (fun t =>
          t.rLane p = { l with seq := q, echo := some (q, t1),
                               blocks := if s.joinErr = 0 then b ++ [.joinA s.rid, .joinB s.rnode (s.get F.ringHash)] else b } ∧
          (s.joinErr ≠ 0 → t.get F.ringStatusJoinErr = s.joinErr) ∧ s.sameRegs [F.ringStatusJoinErr] t ∧
          t = { s.tmStart (tmEcho p) with live := t.live, ringLanes := t.ringLanes }))) ∧
      (∀ ty : Fin 16, ¬ (s.laneLive p = true ∧ (ty.val = 0 ∨ 8 ≤ ty.val)) → Completes (.reservedControlBlock p ty) s (fun t => t = s)) ∧
      (∀ ty : Fin 16, s.laneLive p = true → (ty.val = 0 ∨ 8 ≤ ty.val) → Completes (.reservedControlBlock p ty) s (fun t =>
        t.get F.ringLcCtrlBad p = satAdd F.ringLcCtrlBad.w (s.get F.ringLcCtrlBad p) 1 ∧ s.sameRegs [F.ringLcCtrlBad] t ∧
        t = { s with live := t.live }))) ∧
    (let due := s.tmPast tmListen (s.act F.ringListenListenUs * 1000) = true
     (due → s.rst = 2 → s.on F.ringCfgColdEn = true → Completes .listenTimeout s (fun t =>
        t.rst = 3 ∧ s.sameRegs [F.ringStatusState] t ∧ t = { s.tmStart tmCold with live := t.live })) ∧
     (due → s.rst = 4 → Completes .listenTimeout s (fun t => t = s.rejoin 2 ∧ t.get F.ringMembers = 0 ∧ t.ring.known = false)) ∧
     (¬ due ∨ (s.rst = 2 ∧ s.on F.ringCfgColdEn = false) ∨ (s.rst ≠ 2 ∧ s.rst ≠ 4) →
        Completes .listenTimeout s (fun t => t = s))) ∧
    (s.rst = 3 →
      Completes .cstartSend s (fun t => ∀ p, p < 2 → s.joined p = true →
        ((∀ u, (s.rLane p).lastIns = some u → u + 10000 ≤ s.up) → (t.rLane p).out = s.newHdr 1 p none ++ s.cstartBody ∧
          t.get F.ringLcInserted p = satAdd F.ringLcInserted.w (s.get F.ringLcInserted p) 1) ∧
        (∀ u, (s.rLane p).lastIns = some u → s.up < u + 10000 → (t.rLane p).out = (s.rLane p).out ∧
          t.get F.ringLcInserted p = s.get F.ringLcInserted p)) ∧
      (s.tmPast tmCold 300000 = true → Completes .coldstartEnd s (fun t => t.rst = 6 ∧ t.get F.ringStatusFirst = s.rnode % 2 ^ 5 ∧
        t.get F.ringMembers = setBit (s.get F.ringMembers) s.rnode % 2 ^ 32 ∧ t.ring.known = true))) ∧
    (s.rst ≠ 3 → Completes .cstartSend s (fun t => t = s)) ∧
    (s.rst ≠ 3 ∨ s.tmPast tmCold 300000 = false → Completes .coldstartEnd s (fun t => t = s)) ∧
    (let due := (s.rst = 4 ∨ s.rst = 5 ∨ s.rst = 7) ∧ s.tmPast tmCsm (3 * s.tcNs) = true
     (due → s.ring.other = none → Completes .csmLoss s (fun t => t = s.rejoin 2 ∧
        t.rst = (if s.on F.ringCfgColdEn = true ∧ s.act F.ringListenListenUs = 0 then 3 else 2) ∧
        t.get F.ringStatusLocked = 0 ∧ t.get F.ringStatusLoCause = 0 ∧ t.get F.ringMembers = 0 ∧
        (s.act F.timeCtrlSrc = 1 → s.srcLock = 1 → t.srcLock = 2 ∧ t.get F.timeStatusSrcLost = 1))) ∧
     (due → ∀ n, s.ring.other = some n → Completes .csmLoss s (fun t => t.rst = 4 ∧ t.get F.ringStatusFirst = n % 2 ^ 5 ∧
        t.get F.ringStatusLocked = 0)) ∧
     (¬ due → Completes .csmLoss s (fun t => t = s))) ∧
    (∀ n : Fin 32,
      let due := (n.val ≠ s.rnode ∨ s.get F.ringStatusOutside ≠ 0) ∧ s.tmPast (tmStat n) (3 * s.tcNs) = true ∧
        hasBit (s.get F.ringMembers) n = true
      (due → Completes (.nodeLost n) s (fun t =>
        t.get F.ringMembers = clrBit (s.get F.ringMembers) n % 2 ^ 32 ∧ SMap.get 0 t.ring.stat n = 0 ∧
        t.get F.ringStatusMembers = popCount (clrBit (s.get F.ringMembers) n) 32 % 2 ^ 6)) ∧
      (¬ due → Completes (.nodeLost n) s (fun t => t = s))) ∧
    (s.off = true ∨ (s.domOn .ring = true ∧ ¬ (s.rst = 5 ∨ s.rst = 6 ∨ s.rst = 7)) → Completes .ringResync s (fun t => t = s)) ∧
    (s.off = false → s.domOn .ring = true → s.rst = 5 ∨ s.rst = 6 ∨ s.rst = 7 → Completes .ringResync s (fun t => t.rst = 7 ∧ t.get F.ringStatusLoCause = 5 ∧
      t.get F.ringCListenOnlyEntries = satAdd F.ringCListenOnlyEntries.w (s.get F.ringCListenOnlyEntries) 1 ∧
      t.evq = s.evAfter 0x14 5 0 0 ∧ s.sameRegs ([F.ringStatusState, F.ringStatusLoCause, F.ringCListenOnlyEntries] ++ evRegs) t ∧
      t = { s with live := t.live, evq := t.evq, ring := t.ring, ringLanes := t.ringLanes })) ∧
    (s.get F.ringGstatInternalOsc ≠ 0 → Completes .guardClkLoss s (fun t => t = s)) ∧
    (s.get F.ringGstatInternalOsc = 0 → Completes .guardClkLoss s (fun t => t.get F.ringGstatInternalOsc = 1 ∧
      s.sameRegs (F.ringGstatInternalOsc :: evRegs) t ∧ t = { s with live := t.live, evq := t.evq }))

/-- Ring frames (R285-R293, R301, R308, R320-R326): a bad header is counted, an own frame is stripped, a frame for others goes on with
its hop count, one for this node is copied into the fabric; the control frames have their effect. -/
def Obligations.RingFramesAreRelayedAndCopied : Prop :=
  ∀ (s : State) (p : Fin 2), s.ringOn = true → s.laneLive p = true →
    (∀ (hdr : List Byte) (f : RxFrame), 2 ≤ s.rst →
      let b0 := byteAt hdr 0
      let good := hdr.length = 10 ∧ b0 / 64 = 1 ∧ beAt hdr 8 2 = hcrc hdr
      let own := byteAt hdr 2 % 32 = s.rnode
      let hops := byteAt hdr 1 % 64 + 1
      (¬ good → Completes (.ringFrame p hdr f) s (fun t =>
        t.get F.ringLcHdrErr p = satAdd F.ringLcHdrErr.w (s.get F.ringLcHdrErr p) 1 ∧ s.sameRegs [F.ringLcHdrErr] t ∧
        t = { s with live := t.live })) ∧
      (good → own → s.joined p = true → s.get F.ringStatusHealed = 0 → Completes (.ringFrame p hdr f) s (fun t => t = s)) ∧
      (good → ¬ own → s.joined p = true → s.get F.ringStatusHealed = 0 → bitsAt b0 4 2 = 0 →
        byteAt hdr 3 / 128 ≠ 1 → byteAt hdr 3 % 32 ≠ s.rnode →
        (63 < hops → Completes (.ringFrame p hdr f) s (fun t =>
          t.get F.ringLcHopsDrop p = satAdd F.ringLcHopsDrop.w (s.get F.ringLcHopsDrop p) 1 ∧ s.sameRegs [F.ringLcHopsDrop] t ∧
          t = { s with live := t.live })) ∧
        (hops ≤ 63 → s.joined (otherLane p) = true → s.inserting (otherLane p) = false →
          Completes (.ringFrame p hdr f) s (fun t =>
            let h := toBe b0 1 ++ toBe hops 1 ++ (hdr.drop 2).take 6
            (t.rLane (otherLane p)).out = h ++ toBe (hcrc h) 2 ++ f.bytes ∧
            t.get F.ringLcRelayed p = satAdd F.ringLcRelayed.w (s.get F.ringLcRelayed p) 1 ∧ s.sameRegs [F.ringLcRelayed] t ∧
            t = { s with live := t.live, ringLanes := t.ringLanes }))) ∧
      (good → ¬ own → s.joined p = true → s.get F.ringStatusHealed = 0 → bitsAt b0 4 2 = 0 →
        (byteAt hdr 3 / 128 = 1 ∨ byteAt hdr 3 % 32 = s.rnode) → Completes (.ringFrame p hdr f) s (fun t =>
          t.get F.ringLcDelivered p = satAdd F.ringLcDelivered.w (s.get F.ringLcDelivered p) 1))) ∧
    (∀ b : List Byte, byteAt b 0 = 1 → byteAt b 1 % 32 ≠ s.rnode → Completes (.status p b) s (fun t =>
      t.get F.ringMembers = setBit (s.get F.ringMembers) (byteAt b 1 % 32) % 2 ^ 32 ∧
      SMap.get 0 t.ring.stat (byteAt b 1 % 32) = 4 + bitAt (byteAt b 9) 1 + 2 * bitAt (byteAt b 9) 2)) ∧
    (∀ b : List Byte, byteAt b 0 = 2 → byteAt b 1 % 32 ≠ s.rnode → s.rst ≠ 6 →
      (s.ring.known = false ∨ s.get F.ringStatusFirst = byteAt b 1 % 32) → beAt b 22 4 = s.get F.ringHash → byteAt b 27 < 128 →
      Completes (.timeAnn p b) s (fun t =>
        t = { s with ring := { s.ring with ann := some { node := byteAt b 1 % 32, ns := beAt b 8 6 * 1000000000 + beAt b 14 4,
                                                         cycle := beAt b 18 3, hash := beAt b 22 4,
                                                         rank := byteAt b 33 % 16, id := beAt b 2 6 } } })) ∧
    (∀ b : List Byte, byteAt b 0 = 3 → s.rst = 3 → beats (byteAt b 8 % 16) (beAt b 2 6) (s.act F.ringCfgRank) s.rid = true →
      Completes (.cstart p b) s (fun t => t.rst = 4 ∧ t.ring.stepped = false ∧ s.sameRegs [F.ringStatusState] t ∧
        t = { s.tmStart tmListen with live := t.live, ring := t.ring })) ∧
    (∀ b : List Byte, byteAt b 0 ≠ 3 ∨ s.rst ≠ 3 → Completes (.cstart p b) s (fun t => t = s)) ∧
    (∀ b : List Byte, byteAt b 0 = 4 → s.rst = 6 → s.get F.ringStatusOutside = 0 →
      let n := byteAt b 14 % 32
      let id := beAt b 8 6
      (beAt b 16 4 ≠ s.get F.ringHash → Completes (.spliceReq p b) s (fun t =>
        t.get F.ringCSpliceRefused = satAdd F.ringCSpliceRefused.w (s.get F.ringCSpliceRefused) 1 ∧ t.evq = s.evAfter 0x12 n 0 0 ∧
        s.sameRegs (F.ringCSpliceRefused :: evRegs) t ∧ t = { s with live := t.live, evq := t.evq })) ∧
      (beAt b 16 4 = s.get F.ringHash → id ≠ 0 → hasBit (s.get F.ringMembers) n = false → s.ring.plan = none →
        s.get F.ringStatusMembers < s.act F.ringCfgNmax → beAt b 20 2 ≤ s.act F.ringLmaxLmaxNs * 16 →
        Completes (.spliceReq p b) s (fun t =>
          t.ring.plan = some { ks := (s.get F.ringCycleNo + 3) % cycMod, a := byteAt b 1 % 32, b := none, j := some n, id := id } ∧
          t = { s with ring := { s.ring with missed := false, plan := t.ring.plan } }))) ∧
    (∀ (src : Fin 32) (west : Bool) (f : RxFrame), s.joined p = true → src.val ≠ s.rnode →
      Completes (.lastgaspRx p src west f) s (fun t =>
        t.get F.ringLcDelivered p = satAdd F.ringLcDelivered.w (s.get F.ringLcDelivered p) 1 ∧
        t.evq = (s.terminate p west f).evAfter 0x17 src 0 0)) ∧
    (s.ring.sp.all (fun sp => !s.spliceDue sp.ks) = true → Completes .spliceSwitch s (fun t => t = s)) ∧
    (∀ sp : Splice, s.ring.sp = some sp → s.spliceDue sp.ks = true →
      let both := (sp.ks + cycMod - 2) % cycMod ∈ s.ring.got ∧ (sp.ks + cycMod - 1) % cycMod ∈ s.ring.got
      (¬ both → Completes .spliceSwitch s (fun t => t.ring.sp = none ∧ t.get F.ringSplicePending = 0 ∧ t.ring.plan = s.ring.plan ∧
        s.sameRegs [F.ringSplicePending] t ∧ t = { s with live := t.live, ring := t.ring })) ∧
      (both → s.inRing = true → sp.a = s.rnode → Completes .spliceSwitch s (fun t => t.ring.sp = none ∧
        t.get F.ringSplicePending = 0 ∧ t.joined p = true))) ∧
    (let due := (s.rLane p).fresh = true ∧ s.tmPast (tmFresh p) (200 + s.tfNs) = true
     (due → Completes (.spliceFoldback p) s (fun t => t.joined p = false)) ∧
     (¬ due → Completes (.spliceFoldback p) s (fun t => t = s)))

/-- Ring time, cycles and slots (R294-R297, R301, R302, R305, R307-R313): a CSM takes a listening node to JOIN and gives a follower its cycle;
it is relayed with what it took; FIRST sends its own; an own slot sends control frames while the guardian's gate is open. -/
def Obligations.RingClockCyclesAndSlots : Prop :=
  ∀ (s : State), s.ringOn = true →
    (∀ (p : Fin 2) (x : CsmIn), s.laneLive p = true → 2 ≤ s.rst →
      (s.rst ≠ 6 → s.joined p = true → x.hops.toNat < 63 → Completes (.csmA p x) s (fun t =>
        (t.rLane (s.exitLane p)).blocks = [.csmA x.cycle.toNat ((x.corr.toNat + s.get F.ringLDelay p + x.res.toNat) % 2 ^ 28),
          .csmB (x.hops.toNat + 1) ((x.folds.toNat + s.folds.toNat) % 4) x.dir.toNat x.first])) ∧
      (s.rst = 2 ∨ s.rst = 3 → Completes (.csmA p x) s (fun t => (s.get F.ringStatusLocked = 0 → t.rst = 4) ∧ t.get F.ringStatusFirst = x.first.val ∧
        t.get F.ringCycleNo = x.cycle.toNat ∧ t.ring.known = true ∧ t.ring.seen = true)) ∧
      (s.rst = 5 → s.ring.known = true → s.get F.ringStatusFirst = x.first.val → Completes (.csmA p x) s (fun t =>
        t.get F.ringCycleNo = x.cycle.toNat ∧ t.ring.seen = true)) ∧
      (s.rst = 6 → x.first.val ≠ s.rnode → Completes (.csmA p x) s (fun t => t.ring.other = some x.first.val ∧ t.rst = 6 ∧
        t.evq = s.evAfter 0x16 x.first 0 0)) ∧
      (s.rst = 6 → x.first.val = s.rnode → Completes (.csmA p x) s (fun t => t.rLane p = { s.rLane p with fresh := false } ∧
        t = { s with ringLanes := t.ringLanes })) ∧
      (s.joined p = true → (s.rst = 6 → x.first.val ≠ s.rnode) → x.hops.toNat < 63 →
        Completes (.csmB p x.hops x.folds x.dir x.first) s (fun t =>
          Block66.csmB (x.hops.toNat + 1) ((x.folds.toNat + s.folds.toNat) % 4) x.dir.toNat x.first ∈ (t.rLane (s.exitLane p)).blocks ∧
          t = { s with ringLanes := t.ringLanes }))) ∧
    (∀ gtk : Nat, s.rst < 4 ∨ s.tcNs = 0 → Completes (.cycleStart gtk) s (fun t => t = s)) ∧
    (∀ gtk : Nat, s.tcNs ≠ 0 →
      let k := (s.time.lin + s.tcNs / 2) / s.tcNs % cycMod
      (s.rst = 6 → s.ring.yields = false → s.ring.csmGate = true → Completes (.cycleStart gtk) s (fun t =>
        t.get F.ringCycleNo = k ∧ ∀ p, p < 2 → s.joined p = true → (t.rLane p).blocks = [.csmA k 0, .csmB 0 0 p s.rnode])) ∧
      (s.rst = 5 → Completes (.cycleStart gtk) s (fun t => t.get F.ringCycleNo = k ∧ t.rst = 5 ∧ t.ring.seen = false ∧
        t.get F.ringCCsmMissed = (if s.ring.seen = true then s.get F.ringCCsmMissed
          else satAdd F.ringCCsmMissed.w (s.get F.ringCCsmMissed) 1)))) ∧
    (∀ (i : Fin 256) (x : TxInfo),
      let p := s.act F.ringSlotCtrlLane i
      let l := s.rLane p
      let e := s.laneFree p + 84 * s.byteTime p
      p < 2 → (s.rst = 5 ∨ s.rst = 6) →
      (s.slotDue i = false ∨ s.joined p = false → Completes (.slotStart i x) s (fun t => t = s)) ∧
      (s.slotDue i = true → s.joined p = true → s.gaspDue = none → l.ctl = [1] →
        (l.gate = true → e ≤ s.up * 10 + s.slotLeft i → Completes (.slotStart i x) s (fun t =>
          (t.rLane p).out = ringHdr 1 p 0 0 s.rnode none i (s.get F.ringCycleNo) ++ s.statusBody ∧ (t.rLane p).ctl = [] ∧
          (t.rLane p).endAt = s.up * 10 + s.slotLeft i ∧ e ∈ (t.rLane p).ends ∧
          t.get F.ringLcInserted p = satAdd F.ringLcInserted.w (s.get F.ringLcInserted p) 1)) ∧
        (l.gate = true → s.up * 10 + s.slotLeft i < e → s.outQ = [] → Completes (.slotStart i x) s (fun t =>
          (t.rLane p).out = l.out ∧ (t.rLane p).ctl = [1] ∧ t.get F.ringLcInserted p = s.get F.ringLcInserted p)) ∧
        (l.gate = false → Completes (.slotStart i x) s (fun t =>
          t.get F.ringCGblock = satAdd F.ringCGblock.w (s.get F.ringCGblock) 1 ∧
          t.get F.ringGstatConsec = min 3 (s.get F.ringGstatConsec + 1) ∧ (t.rLane p).out = l.out ∧
          t.get F.ringLcInserted p = s.get F.ringLcInserted p)))) ∧
    (∀ (i : Fin 256) (gtk : Nat),
      (s.ring.gown.find? (fun o => o.1 == i.val) = none → Completes (.guardGateOpen ⟨some i, gtk⟩) s (fun t => t = s)) ∧
      (∀ j p b n, s.ring.gown.find? (fun o => o.1 == i.val) = some (j, p, b, n) → p < 2 →
        let g := s.act F.ringGuardGuardNs
        let opens := ∀ c, s.gpos gtk = some c → b * 10 ≤ c + g ∧ c ≤ (b + n) * 10 + g
        (opens → Completes (.guardGateOpen ⟨some i, gtk⟩) s (fun t =>
          t.rLane p = { s.rLane p with gate := true, gateIx := i } ∧ t.get F.ringGstatOpen = 1 ∧
          (∀ q, q ≠ p → t.rLane q = s.rLane q) ∧ s.sameRegs [F.ringGstatOpen] t ∧
          t = { s with live := t.live, ringLanes := t.ringLanes })) ∧
        (¬ opens → Completes (.guardGateOpen ⟨some i, gtk⟩) s (fun t => t = s)))) ∧
    (∀ i : Fin 256,
      let held := [0, 1].find? (fun p => (s.rLane p).gate && (s.rLane p).gateIx == i.val)
      (held = none → Completes (.guardGateClose (some i)) s (fun t => t = s)) ∧
      (∀ p, held = some p →
        (s.inserting p = false → Completes (.guardGateClose (some i)) s (fun t =>
          t.rLane p = { s.rLane p with gate := false, endAt := 0, ends := [] } ∧ (∀ q, q ≠ p → t.rLane q = s.rLane q) ∧
          t.get F.ringGstatConsec = (if (s.rLane p).ends = [] then s.get F.ringGstatConsec else 0) ∧
          s.sameRegs [F.ringGstatOpen, F.ringGstatConsec] t ∧ t = { s with live := t.live, ringLanes := t.ringLanes })) ∧
        (s.inserting p = true → Completes (.guardGateClose (some i)) s (fun t => (t.rLane p).gate = false ∧ (t.rLane p).ends = [] ∧
          t.get F.ringCGblock = satAdd F.ringCGblock.w (s.get F.ringCGblock) 1)))) ∧
    (∀ gtk : Nat,
      let g := s.act F.ringGuardGuardNs
      let opens := s.rst = 6 ∧ ∀ c, s.gpos gtk = some c → c ≤ g ∨ s.tcNs ≤ c + g
      (opens → Completes (.guardGateOpen ⟨none, gtk⟩) s (fun t => t.ring = { s.ring with csmGate := true } ∧
        t.get F.ringGstatOpen = 1 ∧ t.ringLanes = s.ringLanes)) ∧
      (¬ opens → Completes (.guardGateOpen ⟨none, gtk⟩) s (fun t => t = s))) ∧
    Completes (.guardGateClose none) s (fun t => t.ring = { s.ring with csmGate := false } ∧ t.ringLanes = s.ringLanes)
end

