-- ==== Sys2Proof/Laws/SMap.lean ====
section
/-!
SUPPORT. Laws of the sparse map: a write is read back, it leaves every other number alone, and every operation keeps the
canonical form.
-/
namespace Sys2Proof

/-! ## Reads after writes -/

/-- No entry of a map without `x` is numbered `x`. -/
theorem SMap.del_absent {α : Type} (x : Nat) (m : SMap α) : ∀ e ∈ SMap.del x m, e.1 ≠ x := by
  induction m with
  | nil => simp [SMap.del]
  | cons e r ih =>
    obtain ⟨k, w⟩ := e
    unfold SMap.del
    split
    · exact ih
    · rename_i h
      intro e he
      rcases List.mem_cons.mp he with rfl | he
      · exact fun hk => h hk.symm
      · exact ih e he

/-- Deleting one number leaves what every other number holds. -/
theorem SMap.get_del_ne {α : Type} (d : α) (m : SMap α) {x y : Nat} (h : y ≠ x) : SMap.get d (SMap.del x m) y = SMap.get d m y := by
  induction m with
  | nil => rfl
  | cons e r ih =>
    obtain ⟨k, w⟩ := e
    by_cases hk : x = k
    · subst hk; simp [SMap.del, SMap.get, h, ih]
    · simp [SMap.del, SMap.get, hk, ih]

/-- A deleted number holds the default. -/
theorem SMap.get_del_same {α : Type} (d : α) (m : SMap α) (x : Nat) : SMap.get d (SMap.del x m) x = d := by
  induction m with
  | nil => rfl
  | cons e r ih =>
    obtain ⟨k, w⟩ := e
    by_cases hk : x = k
    · simp [SMap.del, hk]; subst hk; exact ih
    · simp [SMap.del, SMap.get, hk, ih]

/-- What is put in is read back. -/
theorem SMap.get_ins_same {α : Type} (d v : α) (x : Nat) (m : SMap α) (h : ∀ e ∈ m, e.1 ≠ x) :
    SMap.get d (SMap.ins x v m) x = v := by
  induction m with
  | nil => simp [SMap.ins, SMap.get]
  | cons e r ih =>
    obtain ⟨k, w⟩ := e
    have hk : x ≠ k := fun hx => h (k, w) (by simp) hx.symm
    have ih := ih (fun e he => h e (List.mem_cons_of_mem _ he))
    unfold SMap.ins
    split <;> simp_all [SMap.get]

/-- Putting in one number leaves every other. -/
theorem SMap.get_ins_ne {α : Type} (d v : α) {x y : Nat} (m : SMap α) (h : y ≠ x) : SMap.get d (SMap.ins x v m) y = SMap.get d m y := by
  induction m with
  | nil => simp [SMap.ins, SMap.get, h]
  | cons e r ih =>
    obtain ⟨k, w⟩ := e
    unfold SMap.ins
    split <;> simp [SMap.get, h, ih]

/-- A write is read back. -/
@[simp] theorem SMap.get_set_same {α : Type} [DecidableEq α] (d : α) (m : SMap α) (x : Nat) (v : α) :
    SMap.get d (SMap.set d m x v) x = v := by
  unfold SMap.set
  split
  · rename_i h; rw [SMap.get_del_same, h]
  · exact SMap.get_ins_same d v x _ (SMap.del_absent x m)

/-- A write leaves every other number alone. -/
theorem SMap.get_set_ne {α : Type} [DecidableEq α] (d : α) (m : SMap α) (v : α) {x y : Nat} (h : y ≠ x) :
    SMap.get d (SMap.set d m x v) y = SMap.get d m y := by
  unfold SMap.set
  split
  · exact SMap.get_del_ne d m h
  · rw [SMap.get_ins_ne d v _ h, SMap.get_del_ne d m h]

/-- Writing one number leaves every other, whatever an unlisted number is taken to hold. -/
theorem SMap.get_set_other {α : Type} [DecidableEq α] (d d' : α) (m : SMap α) (v : α) {x y : Nat} (h : y ≠ x) :
    SMap.get d' (SMap.set d m x v) y = SMap.get d' m y := by
  unfold SMap.set
  split
  · exact SMap.get_del_ne d' m h
  · rw [SMap.get_ins_ne d' v _ h, SMap.get_del_ne d' m h]

/-- What a read of a written map gives. -/
theorem SMap.get_set {α : Type} [DecidableEq α] (d : α) (m : SMap α) (x y : Nat) (v : α) :
    SMap.get d (SMap.set d m x v) y = if y = x then v else SMap.get d m y := by
  split
  · rename_i h; rw [h, SMap.get_set_same]
  · rename_i h; exact SMap.get_set_ne d m v h

/-- Writing consecutive values: the values are read back in their range, every other number is left alone. -/
theorem SMap.get_fill {α : Type} [DecidableEq α] (d : α) (l : List α) (m : SMap α) (x y : Nat) :
    SMap.get d (SMap.fill d m x l) y = if x ≤ y ∧ y < x + l.length then l.getD (y - x) d else SMap.get d m y := by
  induction l generalizing m x with
  | nil => simp [SMap.fill] <;> omega
  | cons v r ih =>
    rw [SMap.fill, ih]
    by_cases hy : y = x
    · subst hy
      have : ¬ (y + 1 ≤ y ∧ y < y + 1 + r.length) := by omega
      simp [this]
    · rw [SMap.get_set_ne d m v hy]
      by_cases hin : x + 1 ≤ y ∧ y < x + 1 + r.length
      · have h2 : x ≤ y ∧ y < x + (v :: r).length := by simp; omega
        rw [if_pos hin, if_pos h2]
        obtain ⟨n, rfl⟩ : ∃ n, y = x + 1 + n := ⟨y - (x + 1), by omega⟩
        have e1 : x + 1 + n - (x + 1) = n := by omega
        have e2 : x + 1 + n - x = n + 1 := by omega
        rw [e1, e2]; rfl
      · have h2 : ¬ (x ≤ y ∧ y < x + (v :: r).length) := by simp; omega
        rw [if_neg hin, if_neg h2]

/-! ## The canonical form -/

/-- The form from a bound on. -/
theorem SMap.wfFrom_cons {α : Type} (isD : Nat → α → Bool) (lo : Option Nat) (k : Nat) (v : α) (r : SMap α) :
    SMap.wfFrom isD lo ((k, v) :: r) = true ↔
      (∀ b, lo = some b → b < k) ∧ isD k v = false ∧ SMap.wfFrom isD (some k) r = true := by
  cases lo <;> simp [SMap.wfFrom, and_assoc]

/-- A smaller bound, or none, is met as well. -/
theorem SMap.wfFrom_weaken {α : Type} (isD : Nat → α → Bool) {lo lo' : Option Nat} (m : SMap α)
    (h : SMap.wfFrom isD lo m = true) (hl : ∀ b, lo' = some b → ∃ c, lo = some c ∧ b ≤ c) : SMap.wfFrom isD lo' m = true := by
  cases m with
  | nil => cases lo' <;> rfl
  | cons e r =>
    obtain ⟨k, v⟩ := e
    rw [SMap.wfFrom_cons] at h ⊢
    refine ⟨fun b hb => ?_, h.2⟩
    obtain ⟨c, hc, hbc⟩ := hl b hb
    have := h.1 c hc
    omega

/-- The tail of a canonical map is canonical. -/
theorem SMap.wfFrom_tail {α : Type} (isD : Nat → α → Bool) {lo : Option Nat} {e : Nat × α} {r : SMap α}
    (h : SMap.wfFrom isD lo (e :: r) = true) : SMap.wfFrom isD lo r = true := by
  obtain ⟨k, v⟩ := e
  rw [SMap.wfFrom_cons] at h
  refine SMap.wfFrom_weaken isD r h.2.2 (fun b hb => ⟨k, rfl, ?_⟩)
  have := h.1 b hb
  omega

/-- Filtering keeps the form. -/
theorem SMap.wfFrom_filter {α : Type} (isD : Nat → α → Bool) (p : Nat × α → Bool) (lo : Option Nat) (m : SMap α)
    (h : SMap.wfFrom isD lo m = true) : SMap.wfFrom isD lo (m.filter p) = true := by
  induction m generalizing lo with
  | nil => exact h
  | cons e r ih =>
    by_cases hp : p e = true
    · rw [List.filter_cons_of_pos hp]
      obtain ⟨k, v⟩ := e
      rw [SMap.wfFrom_cons] at h ⊢
      exact ⟨h.1, h.2.1, ih _ h.2.2⟩
    · rw [List.filter_cons_of_neg hp]
      exact ih _ (SMap.wfFrom_tail isD h)

/-- Deleting keeps the form. -/
theorem SMap.wfFrom_del {α : Type} (isD : Nat → α → Bool) (x : Nat) (lo : Option Nat) (m : SMap α)
    (h : SMap.wfFrom isD lo m = true) : SMap.wfFrom isD lo (SMap.del x m) = true := by
  induction m generalizing lo with
  | nil => exact h
  | cons e r ih =>
    obtain ⟨k, v⟩ := e
    unfold SMap.del
    split
    · exact ih _ (SMap.wfFrom_tail isD h)
    · rw [SMap.wfFrom_cons] at h ⊢
      exact ⟨h.1, h.2.1, ih _ h.2.2⟩

/-- Putting in a value that is not the default keeps the form. -/
theorem SMap.wfFrom_ins {α : Type} (isD : Nat → α → Bool) (x : Nat) (v : α) (lo : Option Nat) (m : SMap α)
    (h : SMap.wfFrom isD lo m = true) (hx : ∀ e ∈ m, e.1 ≠ x) (hlo : ∀ b, lo = some b → b < x) (hv : isD x v = false) :
    SMap.wfFrom isD lo (SMap.ins x v m) = true := by
  induction m generalizing lo with
  | nil =>
    unfold SMap.ins
    rw [SMap.wfFrom_cons]
    exact ⟨hlo, hv, rfl⟩
  | cons e r ih =>
    obtain ⟨k, w⟩ := e
    have hk : k ≠ x := hx (k, w) (by simp)
    rw [SMap.wfFrom_cons] at h
    unfold SMap.ins
    split
    · rename_i hlt
      rw [SMap.wfFrom_cons, SMap.wfFrom_cons]
      refine ⟨hlo, hv, fun b hb => ?_, h.2⟩
      cases hb; exact hlt
    · rename_i hge
      rw [SMap.wfFrom_cons]
      refine ⟨h.1, h.2.1, ih (some k) h.2.2 (fun e he => hx e (List.mem_cons_of_mem _ he)) (fun b hb => ?_)⟩
      cases hb; omega

/-- A write keeps the form. -/
theorem SMap.wf_set {α : Type} [DecidableEq α] (isD : Nat → α → Bool) (d : α) (m : SMap α) (x : Nat) (v : α)
    (hd : v ≠ d → isD x v = false) (h : SMap.wf isD m = true) : SMap.wf isD (SMap.set d m x v) = true := by
  unfold SMap.wf SMap.set at *
  split
  · exact SMap.wfFrom_del isD x none m h
  · rename_i hv
    exact SMap.wfFrom_ins isD x v none _ (SMap.wfFrom_del isD x none m h) (SMap.del_absent x m) (by simp) (hd hv)

/-- Writing consecutive values keeps the form. -/
theorem SMap.wf_fill {α : Type} [DecidableEq α] (isD : Nat → α → Bool) (d : α) (l : List α) (m : SMap α) (x : Nat)
    (hd : ∀ y v, v ≠ d → isD y v = false) (h : SMap.wf isD m = true) : SMap.wf isD (SMap.fill d m x l) = true := by
  induction l generalizing m x with
  | nil => exact h
  | cons v r ih => exact ih _ _ (SMap.wf_set isD d m x v (hd x v) h)

/-- Filtering keeps the form. -/
theorem SMap.wf_filter {α : Type} (isD : Nat → α → Bool) (p : Nat × α → Bool) (m : SMap α)
    (h : SMap.wf isD m = true) : SMap.wf isD (m.filter p) = true := SMap.wfFrom_filter isD p none m h

/-- Keeping some numbers keeps the form. -/
theorem SMap.wf_keep {α : Type} (isD : Nat → α → Bool) (p : Nat → Bool) (m : SMap α)
    (h : SMap.wf isD m = true) : SMap.wf isD (SMap.keep p m) = true := SMap.wf_filter isD _ m h

/-- The empty map has the form. -/
@[simp] theorem SMap.wf_nil {α : Type} (isD : Nat → α → Bool) : SMap.wf isD [] = true := rfl

/-- A union shows the first map where it lists a number, else the second. -/
theorem SMap.get_join {α : Type} (d : α) (l m : SMap α) (x : Nat) :
    SMap.get d (SMap.join l m) x = SMap.get (SMap.get d m x) l x := by
  induction l with
  | nil => rfl
  | cons e r ih =>
    obtain ⟨k, v⟩ := e
    by_cases h : x = k
    · subst h
      simp only [SMap.join, SMap.get]
      exact SMap.get_ins_same d v x _ (SMap.del_absent x _)
    · simp only [SMap.join, SMap.get, if_neg h]
      rw [SMap.get_ins_ne d v _ h, SMap.get_del_ne d _ h, ih]

end Sys2Proof
end

