-- ==== Sys2Proof/Laws/State.lean ====
section
/-!
SUPPORT. What the plain updates of the state leave alone, one law per update, and what a register field, a thread, a
frame and the other records read as after one of them.
-/
namespace Sys2Proof.Machine

/-- `put` changes `pend`, `live` and nothing else. -/
@[simp] theorem State.put_frame (s : State) (f : Field) (i v : Nat) :
    (s.put f i v).pending = s.pending ∧ (s.put f i v).actv = s.actv ∧ (s.put f i v).held = s.held ∧ (s.put f i v).fresh
    = s.fresh ∧ (s.put f i v).rdata = s.rdata ∧ (s.put f i v).time = s.time ∧ (s.put f i v).up = s.up ∧ (s.put f i
    v).relAt = s.relAt ∧ (s.put f i v).timers = s.timers ∧ (s.put f i v).slew = s.slew ∧ (s.put f i v).ppsGood =
    s.ppsGood ∧ (s.put f i v).srcLock = s.srcLock ∧ (s.put f i v).ppsOut = s.ppsOut ∧ (s.put f i v).axes = s.axes ∧
    (s.put f i v).plls = s.plls ∧ (s.put f i v).cal = s.cal ∧ (s.put f i v).capt = s.capt ∧ (s.put f i v).gates =
    s.gates ∧ (s.put f i v).threads = s.threads ∧ (s.put f i v).engines = s.engines ∧ (s.put f i v).sigs = s.sigs ∧
    (s.put f i v).im = s.im ∧ (s.put f i v).dm = s.dm ∧ (s.put f i v).frames = s.frames ∧ (s.put f i v).pinQ = s.pinQ ∧
    (s.put f i v).midQ = s.midQ ∧ (s.put f i v).outQ = s.outQ ∧ (s.put f i v).txing = s.txing ∧ (s.put f i v).stage =
    s.stage ∧ (s.put f i v).mirUse = s.mirUse ∧ (s.put f i v).rxNum = s.rxNum ∧ (s.put f i v).txNum = s.txNum ∧ (s.put f
    i v).subm = s.subm ∧ (s.put f i v).cram = s.cram ∧ (s.put f i v).poison = s.poison ∧ (s.put f i v).hostMem =
    s.hostMem ∧ (s.put f i v).pwe = s.pwe ∧ (s.put f i v).htx = s.htx ∧ (s.put f i v).htxc = s.htxc ∧ (s.put f i v).mbx
    = s.mbx ∧ (s.put f i v).syncTotal = s.syncTotal ∧ (s.put f i v).evq = s.evq ∧ (s.put f i v).evOpen = s.evOpen ∧
    (s.put f i v).evFifo = s.evFifo ∧ (s.put f i v).ueLog = s.ueLog ∧ (s.put f i v).refLog = s.refLog ∧ (s.put f i
    v).chans = s.chans ∧ (s.put f i v).health = s.health ∧ (s.put f i v).healthSeq = s.healthSeq ∧ (s.put f i v).irqSent
    = s.irqSent ∧ (s.put f i v).irqMode = s.irqMode ∧ (s.put f i v).msiLog = s.msiLog ∧ (s.put f i v).d3hot = s.d3hot ∧
    (s.put f i v).lbusLow = s.lbusLow ∧ (s.put f i v).lbusHold = s.lbusHold ∧ (s.put f i v).lbusLast = s.lbusLast ∧
    (s.put f i v).imgCur = s.imgCur ∧ (s.put f i v).imgBack = s.imgBack ∧ (s.put f i v).imgLease = s.imgLease ∧ (s.put f
    i v).backBlk = s.backBlk ∧ (s.put f i v).leaseBlk = s.leaseBlk ∧ (s.put f i v).commitReq = s.commitReq ∧ (s.put f i
    v).leaseNs = s.leaseNs ∧ (s.put f i v).leaseExp = s.leaseExp ∧ (s.put f i v).flowMem = s.flowMem ∧ (s.put f i
    v).apply = s.apply ∧ (s.put f i v).olds = s.olds ∧ (s.put f i v).snapDue = s.snapDue ∧ (s.put f i v).snapWhn =
    s.snapWhn ∧ (s.put f i v).snapClr = s.snapClr ∧ (s.put f i v).snapMbx = s.snapMbx ∧ (s.put f i v).shrews = s.shrews
    ∧ (s.put f i v).shrPm = s.shrPm ∧ (s.put f i v).shrFlags = s.shrFlags ∧ (s.put f i v).gpLvl = s.gpLvl ∧ (s.put f i
    v).gpOe = s.gpOe ∧ (s.put f i v).vddio33 = s.vddio33 ∧ (s.put f i v).ports = s.ports ∧ (s.put f i v).arriving =
    s.arriving ∧ (s.put f i v).ring = s.ring ∧ (s.put f i v).ringLanes = s.ringLanes ∧ (s.put f i v).cans = s.cans ∧
    (s.put f i v).canLocks = s.canLocks ∧ (s.put f i v).hwq = s.hwq ∧ (s.put f i v).owlRep = s.owlRep ∧ (s.put f i
    v).owl = s.owl ∧ (s.put f i v).conns = s.conns ∧ (s.put f i v).tws = s.tws ∧ (s.put f i v).taps = s.taps ∧ (s.put f
    i v).flashLog = s.flashLog ∧ (s.put f i v).supOut = s.supOut ∧ (s.put f i v).pwHash = s.pwHash ∧ (s.put f i v).trngN
    = s.trngN ∧ (s.put f i v).hlog = s.hlog ∧ (s.put f i v).waitWr = s.waitWr ∧ (s.put f i v).pfail = s.pfail ∧ (s.put f
    i v).off = s.off ∧ (s.put f i v).released = s.released ∧ (s.put f i v).mbxSeq = s.mbxSeq ∧ (s.put f i v).msix =
    s.msix ∧ (s.put f i v).pba = s.pba ∧ (s.put f i v).selRec = s.selRec ∧ (s.put f i v).prof = s.prof ∧ (s.put f i
    v).bundle = s.bundle ∧ (s.put f i v).startQ = s.startQ ∧ (s.put f i v).switch = s.switch ∧ (s.put f i v).imgHash =
    s.imgHash ∧ (s.put f i v).settOut = s.settOut ∧ (s.put f i v).fstep = s.fstep ∧ (s.put f i v).stepMask = s.stepMask
    ∧ (s.put f i v).d3pend = s.d3pend := by
  unfold State.put
  split <;> exact ⟨rfl, rfl, rfl, rfl, rfl, rfl, rfl, rfl, rfl, rfl, rfl, rfl, rfl, rfl, rfl, rfl, rfl, rfl, rfl, rfl, rfl, rfl, rfl,
      rfl, rfl, rfl, rfl, rfl, rfl, rfl, rfl, rfl, rfl, rfl, rfl, rfl, rfl, rfl, rfl, rfl, rfl, rfl, rfl, rfl, rfl, rfl,
      rfl, rfl, rfl, rfl, rfl, rfl, rfl, rfl, rfl, rfl, rfl, rfl, rfl, rfl, rfl, rfl, rfl, rfl, rfl, rfl, rfl, rfl, rfl,
      rfl, rfl, rfl, rfl, rfl, rfl, rfl, rfl, rfl, rfl, rfl, rfl, rfl, rfl, rfl, rfl, rfl, rfl, rfl, rfl, rfl, rfl, rfl,
      rfl, rfl, rfl, rfl, rfl, rfl, rfl, rfl, rfl, rfl, rfl, rfl, rfl, rfl, rfl, rfl, rfl, rfl, rfl⟩

/-- `putAct` changes `actv` and nothing else. -/
@[simp] theorem State.putAct_frame (s : State) (f : Field) (i v : Nat) :
    (s.putAct f i v).pending = s.pending ∧ (s.putAct f i v).pend = s.pend ∧ (s.putAct f i v).live = s.live ∧ (s.putAct f
    i v).held = s.held ∧ (s.putAct f i v).fresh = s.fresh ∧ (s.putAct f i v).rdata = s.rdata ∧ (s.putAct f i v).time =
    s.time ∧ (s.putAct f i v).up = s.up ∧ (s.putAct f i v).relAt = s.relAt ∧ (s.putAct f i v).timers = s.timers ∧
    (s.putAct f i v).slew = s.slew ∧ (s.putAct f i v).ppsGood = s.ppsGood ∧ (s.putAct f i v).srcLock = s.srcLock ∧
    (s.putAct f i v).ppsOut = s.ppsOut ∧ (s.putAct f i v).axes = s.axes ∧ (s.putAct f i v).plls = s.plls ∧ (s.putAct f i
    v).cal = s.cal ∧ (s.putAct f i v).capt = s.capt ∧ (s.putAct f i v).gates = s.gates ∧ (s.putAct f i v).threads =
    s.threads ∧ (s.putAct f i v).engines = s.engines ∧ (s.putAct f i v).sigs = s.sigs ∧ (s.putAct f i v).im = s.im ∧
    (s.putAct f i v).dm = s.dm ∧ (s.putAct f i v).frames = s.frames ∧ (s.putAct f i v).pinQ = s.pinQ ∧ (s.putAct f i
    v).midQ = s.midQ ∧ (s.putAct f i v).outQ = s.outQ ∧ (s.putAct f i v).txing = s.txing ∧ (s.putAct f i v).stage =
    s.stage ∧ (s.putAct f i v).mirUse = s.mirUse ∧ (s.putAct f i v).rxNum = s.rxNum ∧ (s.putAct f i v).txNum = s.txNum ∧
    (s.putAct f i v).subm = s.subm ∧ (s.putAct f i v).cram = s.cram ∧ (s.putAct f i v).poison = s.poison ∧ (s.putAct f i
    v).hostMem = s.hostMem ∧ (s.putAct f i v).pwe = s.pwe ∧ (s.putAct f i v).htx = s.htx ∧ (s.putAct f i v).htxc =
    s.htxc ∧ (s.putAct f i v).mbx = s.mbx ∧ (s.putAct f i v).syncTotal = s.syncTotal ∧ (s.putAct f i v).evq = s.evq ∧
    (s.putAct f i v).evOpen = s.evOpen ∧ (s.putAct f i v).evFifo = s.evFifo ∧ (s.putAct f i v).ueLog = s.ueLog ∧
    (s.putAct f i v).refLog = s.refLog ∧ (s.putAct f i v).chans = s.chans ∧ (s.putAct f i v).health = s.health ∧
    (s.putAct f i v).healthSeq = s.healthSeq ∧ (s.putAct f i v).irqSent = s.irqSent ∧ (s.putAct f i v).irqMode =
    s.irqMode ∧ (s.putAct f i v).msiLog = s.msiLog ∧ (s.putAct f i v).d3hot = s.d3hot ∧ (s.putAct f i v).lbusLow =
    s.lbusLow ∧ (s.putAct f i v).lbusHold = s.lbusHold ∧ (s.putAct f i v).lbusLast = s.lbusLast ∧ (s.putAct f i
    v).imgCur = s.imgCur ∧ (s.putAct f i v).imgBack = s.imgBack ∧ (s.putAct f i v).imgLease = s.imgLease ∧ (s.putAct f i
    v).backBlk = s.backBlk ∧ (s.putAct f i v).leaseBlk = s.leaseBlk ∧ (s.putAct f i v).commitReq = s.commitReq ∧
    (s.putAct f i v).leaseNs = s.leaseNs ∧ (s.putAct f i v).leaseExp = s.leaseExp ∧ (s.putAct f i v).flowMem = s.flowMem
    ∧ (s.putAct f i v).apply = s.apply ∧ (s.putAct f i v).olds = s.olds ∧ (s.putAct f i v).snapDue = s.snapDue ∧
    (s.putAct f i v).snapWhn = s.snapWhn ∧ (s.putAct f i v).snapClr = s.snapClr ∧ (s.putAct f i v).snapMbx = s.snapMbx ∧
    (s.putAct f i v).shrews = s.shrews ∧ (s.putAct f i v).shrPm = s.shrPm ∧ (s.putAct f i v).shrFlags = s.shrFlags ∧
    (s.putAct f i v).gpLvl = s.gpLvl ∧ (s.putAct f i v).gpOe = s.gpOe ∧ (s.putAct f i v).vddio33 = s.vddio33 ∧ (s.putAct
    f i v).ports = s.ports ∧ (s.putAct f i v).arriving = s.arriving ∧ (s.putAct f i v).ring = s.ring ∧ (s.putAct f i
    v).ringLanes = s.ringLanes ∧ (s.putAct f i v).cans = s.cans ∧ (s.putAct f i v).canLocks = s.canLocks ∧ (s.putAct f i
    v).hwq = s.hwq ∧ (s.putAct f i v).owlRep = s.owlRep ∧ (s.putAct f i v).owl = s.owl ∧ (s.putAct f i v).conns =
    s.conns ∧ (s.putAct f i v).tws = s.tws ∧ (s.putAct f i v).taps = s.taps ∧ (s.putAct f i v).flashLog = s.flashLog ∧
    (s.putAct f i v).supOut = s.supOut ∧ (s.putAct f i v).pwHash = s.pwHash ∧ (s.putAct f i v).trngN = s.trngN ∧
    (s.putAct f i v).hlog = s.hlog ∧ (s.putAct f i v).waitWr = s.waitWr ∧ (s.putAct f i v).pfail = s.pfail ∧ (s.putAct f
    i v).off = s.off ∧ (s.putAct f i v).released = s.released ∧ (s.putAct f i v).mbxSeq = s.mbxSeq ∧ (s.putAct f i
    v).msix = s.msix ∧ (s.putAct f i v).pba = s.pba ∧ (s.putAct f i v).selRec = s.selRec ∧ (s.putAct f i v).prof =
    s.prof ∧ (s.putAct f i v).bundle = s.bundle ∧ (s.putAct f i v).startQ = s.startQ ∧ (s.putAct f i v).switch =
    s.switch ∧ (s.putAct f i v).imgHash = s.imgHash ∧ (s.putAct f i v).settOut = s.settOut ∧ (s.putAct f i v).fstep =
    s.fstep ∧ (s.putAct f i v).stepMask = s.stepMask ∧ (s.putAct f i v).d3pend = s.d3pend := by
  exact ⟨rfl, rfl, rfl, rfl, rfl, rfl, rfl, rfl, rfl, rfl, rfl, rfl, rfl, rfl, rfl, rfl, rfl, rfl, rfl, rfl, rfl, rfl, rfl,
    rfl, rfl, rfl, rfl, rfl, rfl, rfl, rfl, rfl, rfl, rfl, rfl, rfl, rfl, rfl, rfl, rfl, rfl, rfl, rfl, rfl, rfl, rfl,
    rfl, rfl, rfl, rfl, rfl, rfl, rfl, rfl, rfl, rfl, rfl, rfl, rfl, rfl, rfl, rfl, rfl, rfl, rfl, rfl, rfl, rfl, rfl,
    rfl, rfl, rfl, rfl, rfl, rfl, rfl, rfl, rfl, rfl, rfl, rfl, rfl, rfl, rfl, rfl, rfl, rfl, rfl, rfl, rfl, rfl, rfl,
    rfl, rfl, rfl, rfl, rfl, rfl, rfl, rfl, rfl, rfl, rfl, rfl, rfl, rfl, rfl, rfl, rfl, rfl, rfl, rfl⟩

/-- `setTh` changes `threads` and nothing else. -/
@[simp] theorem State.setTh_frame (s : State) (k : Nat) (x : Thread) :
    (s.setTh k x).pending = s.pending ∧ (s.setTh k x).pend = s.pend ∧ (s.setTh k x).actv = s.actv ∧ (s.setTh k x).live =
    s.live ∧ (s.setTh k x).held = s.held ∧ (s.setTh k x).fresh = s.fresh ∧ (s.setTh k x).rdata = s.rdata ∧ (s.setTh k
    x).time = s.time ∧ (s.setTh k x).up = s.up ∧ (s.setTh k x).relAt = s.relAt ∧ (s.setTh k x).timers = s.timers ∧
    (s.setTh k x).slew = s.slew ∧ (s.setTh k x).ppsGood = s.ppsGood ∧ (s.setTh k x).srcLock = s.srcLock ∧ (s.setTh k
    x).ppsOut = s.ppsOut ∧ (s.setTh k x).axes = s.axes ∧ (s.setTh k x).plls = s.plls ∧ (s.setTh k x).cal = s.cal ∧
    (s.setTh k x).capt = s.capt ∧ (s.setTh k x).gates = s.gates ∧ (s.setTh k x).engines = s.engines ∧ (s.setTh k x).sigs
    = s.sigs ∧ (s.setTh k x).im = s.im ∧ (s.setTh k x).dm = s.dm ∧ (s.setTh k x).frames = s.frames ∧ (s.setTh k x).pinQ
    = s.pinQ ∧ (s.setTh k x).midQ = s.midQ ∧ (s.setTh k x).outQ = s.outQ ∧ (s.setTh k x).txing = s.txing ∧ (s.setTh k
    x).stage = s.stage ∧ (s.setTh k x).mirUse = s.mirUse ∧ (s.setTh k x).rxNum = s.rxNum ∧ (s.setTh k x).txNum = s.txNum
    ∧ (s.setTh k x).subm = s.subm ∧ (s.setTh k x).cram = s.cram ∧ (s.setTh k x).poison = s.poison ∧ (s.setTh k
    x).hostMem = s.hostMem ∧ (s.setTh k x).pwe = s.pwe ∧ (s.setTh k x).htx = s.htx ∧ (s.setTh k x).htxc = s.htxc ∧
    (s.setTh k x).mbx = s.mbx ∧ (s.setTh k x).syncTotal = s.syncTotal ∧ (s.setTh k x).evq = s.evq ∧ (s.setTh k x).evOpen
    = s.evOpen ∧ (s.setTh k x).evFifo = s.evFifo ∧ (s.setTh k x).ueLog = s.ueLog ∧ (s.setTh k x).refLog = s.refLog ∧
    (s.setTh k x).chans = s.chans ∧ (s.setTh k x).health = s.health ∧ (s.setTh k x).healthSeq = s.healthSeq ∧ (s.setTh k
    x).irqSent = s.irqSent ∧ (s.setTh k x).irqMode = s.irqMode ∧ (s.setTh k x).msiLog = s.msiLog ∧ (s.setTh k x).d3hot =
    s.d3hot ∧ (s.setTh k x).lbusLow = s.lbusLow ∧ (s.setTh k x).lbusHold = s.lbusHold ∧ (s.setTh k x).lbusLast =
    s.lbusLast ∧ (s.setTh k x).imgCur = s.imgCur ∧ (s.setTh k x).imgBack = s.imgBack ∧ (s.setTh k x).imgLease =
    s.imgLease ∧ (s.setTh k x).backBlk = s.backBlk ∧ (s.setTh k x).leaseBlk = s.leaseBlk ∧ (s.setTh k x).commitReq =
    s.commitReq ∧ (s.setTh k x).leaseNs = s.leaseNs ∧ (s.setTh k x).leaseExp = s.leaseExp ∧ (s.setTh k x).flowMem =
    s.flowMem ∧ (s.setTh k x).apply = s.apply ∧ (s.setTh k x).olds = s.olds ∧ (s.setTh k x).snapDue = s.snapDue ∧
    (s.setTh k x).snapWhn = s.snapWhn ∧ (s.setTh k x).snapClr = s.snapClr ∧ (s.setTh k x).snapMbx = s.snapMbx ∧ (s.setTh
    k x).shrews = s.shrews ∧ (s.setTh k x).shrPm = s.shrPm ∧ (s.setTh k x).shrFlags = s.shrFlags ∧ (s.setTh k x).gpLvl =
    s.gpLvl ∧ (s.setTh k x).gpOe = s.gpOe ∧ (s.setTh k x).vddio33 = s.vddio33 ∧ (s.setTh k x).ports = s.ports ∧ (s.setTh
    k x).arriving = s.arriving ∧ (s.setTh k x).ring = s.ring ∧ (s.setTh k x).ringLanes = s.ringLanes ∧ (s.setTh k
    x).cans = s.cans ∧ (s.setTh k x).canLocks = s.canLocks ∧ (s.setTh k x).hwq = s.hwq ∧ (s.setTh k x).owlRep = s.owlRep
    ∧ (s.setTh k x).owl = s.owl ∧ (s.setTh k x).conns = s.conns ∧ (s.setTh k x).tws = s.tws ∧ (s.setTh k x).taps =
    s.taps ∧ (s.setTh k x).flashLog = s.flashLog ∧ (s.setTh k x).supOut = s.supOut ∧ (s.setTh k x).pwHash = s.pwHash ∧
    (s.setTh k x).trngN = s.trngN ∧ (s.setTh k x).hlog = s.hlog ∧ (s.setTh k x).waitWr = s.waitWr ∧ (s.setTh k x).pfail
    = s.pfail ∧ (s.setTh k x).off = s.off ∧ (s.setTh k x).released = s.released ∧ (s.setTh k x).mbxSeq = s.mbxSeq ∧
    (s.setTh k x).msix = s.msix ∧ (s.setTh k x).pba = s.pba ∧ (s.setTh k x).selRec = s.selRec ∧ (s.setTh k x).prof =
    s.prof ∧ (s.setTh k x).bundle = s.bundle ∧ (s.setTh k x).startQ = s.startQ ∧ (s.setTh k x).switch = s.switch ∧
    (s.setTh k x).imgHash = s.imgHash ∧ (s.setTh k x).settOut = s.settOut ∧ (s.setTh k x).fstep = s.fstep ∧ (s.setTh k
    x).stepMask = s.stepMask ∧ (s.setTh k x).d3pend = s.d3pend := by
  exact ⟨rfl, rfl, rfl, rfl, rfl, rfl, rfl, rfl, rfl, rfl, rfl, rfl, rfl, rfl, rfl, rfl, rfl, rfl, rfl, rfl, rfl, rfl, rfl,
    rfl, rfl, rfl, rfl, rfl, rfl, rfl, rfl, rfl, rfl, rfl, rfl, rfl, rfl, rfl, rfl, rfl, rfl, rfl, rfl, rfl, rfl, rfl,
    rfl, rfl, rfl, rfl, rfl, rfl, rfl, rfl, rfl, rfl, rfl, rfl, rfl, rfl, rfl, rfl, rfl, rfl, rfl, rfl, rfl, rfl, rfl,
    rfl, rfl, rfl, rfl, rfl, rfl, rfl, rfl, rfl, rfl, rfl, rfl, rfl, rfl, rfl, rfl, rfl, rfl, rfl, rfl, rfl, rfl, rfl,
    rfl, rfl, rfl, rfl, rfl, rfl, rfl, rfl, rfl, rfl, rfl, rfl, rfl, rfl, rfl, rfl, rfl, rfl, rfl, rfl⟩

/-- `updTh` changes `threads` and nothing else. -/
@[simp] theorem State.updTh_frame (s : State) (k : Nat) (g : Thread → Thread) :
    (s.updTh k g).pending = s.pending ∧ (s.updTh k g).pend = s.pend ∧ (s.updTh k g).actv = s.actv ∧ (s.updTh k g).live =
    s.live ∧ (s.updTh k g).held = s.held ∧ (s.updTh k g).fresh = s.fresh ∧ (s.updTh k g).rdata = s.rdata ∧ (s.updTh k
    g).time = s.time ∧ (s.updTh k g).up = s.up ∧ (s.updTh k g).relAt = s.relAt ∧ (s.updTh k g).timers = s.timers ∧
    (s.updTh k g).slew = s.slew ∧ (s.updTh k g).ppsGood = s.ppsGood ∧ (s.updTh k g).srcLock = s.srcLock ∧ (s.updTh k
    g).ppsOut = s.ppsOut ∧ (s.updTh k g).axes = s.axes ∧ (s.updTh k g).plls = s.plls ∧ (s.updTh k g).cal = s.cal ∧
    (s.updTh k g).capt = s.capt ∧ (s.updTh k g).gates = s.gates ∧ (s.updTh k g).engines = s.engines ∧ (s.updTh k g).sigs
    = s.sigs ∧ (s.updTh k g).im = s.im ∧ (s.updTh k g).dm = s.dm ∧ (s.updTh k g).frames = s.frames ∧ (s.updTh k g).pinQ
    = s.pinQ ∧ (s.updTh k g).midQ = s.midQ ∧ (s.updTh k g).outQ = s.outQ ∧ (s.updTh k g).txing = s.txing ∧ (s.updTh k
    g).stage = s.stage ∧ (s.updTh k g).mirUse = s.mirUse ∧ (s.updTh k g).rxNum = s.rxNum ∧ (s.updTh k g).txNum = s.txNum
    ∧ (s.updTh k g).subm = s.subm ∧ (s.updTh k g).cram = s.cram ∧ (s.updTh k g).poison = s.poison ∧ (s.updTh k
    g).hostMem = s.hostMem ∧ (s.updTh k g).pwe = s.pwe ∧ (s.updTh k g).htx = s.htx ∧ (s.updTh k g).htxc = s.htxc ∧
    (s.updTh k g).mbx = s.mbx ∧ (s.updTh k g).syncTotal = s.syncTotal ∧ (s.updTh k g).evq = s.evq ∧ (s.updTh k g).evOpen
    = s.evOpen ∧ (s.updTh k g).evFifo = s.evFifo ∧ (s.updTh k g).ueLog = s.ueLog ∧ (s.updTh k g).refLog = s.refLog ∧
    (s.updTh k g).chans = s.chans ∧ (s.updTh k g).health = s.health ∧ (s.updTh k g).healthSeq = s.healthSeq ∧ (s.updTh k
    g).irqSent = s.irqSent ∧ (s.updTh k g).irqMode = s.irqMode ∧ (s.updTh k g).msiLog = s.msiLog ∧ (s.updTh k g).d3hot =
    s.d3hot ∧ (s.updTh k g).lbusLow = s.lbusLow ∧ (s.updTh k g).lbusHold = s.lbusHold ∧ (s.updTh k g).lbusLast =
    s.lbusLast ∧ (s.updTh k g).imgCur = s.imgCur ∧ (s.updTh k g).imgBack = s.imgBack ∧ (s.updTh k g).imgLease =
    s.imgLease ∧ (s.updTh k g).backBlk = s.backBlk ∧ (s.updTh k g).leaseBlk = s.leaseBlk ∧ (s.updTh k g).commitReq =
    s.commitReq ∧ (s.updTh k g).leaseNs = s.leaseNs ∧ (s.updTh k g).leaseExp = s.leaseExp ∧ (s.updTh k g).flowMem =
    s.flowMem ∧ (s.updTh k g).apply = s.apply ∧ (s.updTh k g).olds = s.olds ∧ (s.updTh k g).snapDue = s.snapDue ∧
    (s.updTh k g).snapWhn = s.snapWhn ∧ (s.updTh k g).snapClr = s.snapClr ∧ (s.updTh k g).snapMbx = s.snapMbx ∧ (s.updTh
    k g).shrews = s.shrews ∧ (s.updTh k g).shrPm = s.shrPm ∧ (s.updTh k g).shrFlags = s.shrFlags ∧ (s.updTh k g).gpLvl =
    s.gpLvl ∧ (s.updTh k g).gpOe = s.gpOe ∧ (s.updTh k g).vddio33 = s.vddio33 ∧ (s.updTh k g).ports = s.ports ∧ (s.updTh
    k g).arriving = s.arriving ∧ (s.updTh k g).ring = s.ring ∧ (s.updTh k g).ringLanes = s.ringLanes ∧ (s.updTh k
    g).cans = s.cans ∧ (s.updTh k g).canLocks = s.canLocks ∧ (s.updTh k g).hwq = s.hwq ∧ (s.updTh k g).owlRep = s.owlRep
    ∧ (s.updTh k g).owl = s.owl ∧ (s.updTh k g).conns = s.conns ∧ (s.updTh k g).tws = s.tws ∧ (s.updTh k g).taps =
    s.taps ∧ (s.updTh k g).flashLog = s.flashLog ∧ (s.updTh k g).supOut = s.supOut ∧ (s.updTh k g).pwHash = s.pwHash ∧
    (s.updTh k g).trngN = s.trngN ∧ (s.updTh k g).hlog = s.hlog ∧ (s.updTh k g).waitWr = s.waitWr ∧ (s.updTh k g).pfail
    = s.pfail ∧ (s.updTh k g).off = s.off ∧ (s.updTh k g).released = s.released ∧ (s.updTh k g).mbxSeq = s.mbxSeq ∧
    (s.updTh k g).msix = s.msix ∧ (s.updTh k g).pba = s.pba ∧ (s.updTh k g).selRec = s.selRec ∧ (s.updTh k g).prof =
    s.prof ∧ (s.updTh k g).bundle = s.bundle ∧ (s.updTh k g).startQ = s.startQ ∧ (s.updTh k g).switch = s.switch ∧
    (s.updTh k g).imgHash = s.imgHash ∧ (s.updTh k g).settOut = s.settOut ∧ (s.updTh k g).fstep = s.fstep ∧ (s.updTh k
    g).stepMask = s.stepMask ∧ (s.updTh k g).d3pend = s.d3pend := by
  exact ⟨rfl, rfl, rfl, rfl, rfl, rfl, rfl, rfl, rfl, rfl, rfl, rfl, rfl, rfl, rfl, rfl, rfl, rfl, rfl, rfl, rfl, rfl, rfl,
    rfl, rfl, rfl, rfl, rfl, rfl, rfl, rfl, rfl, rfl, rfl, rfl, rfl, rfl, rfl, rfl, rfl, rfl, rfl, rfl, rfl, rfl, rfl,
    rfl, rfl, rfl, rfl, rfl, rfl, rfl, rfl, rfl, rfl, rfl, rfl, rfl, rfl, rfl, rfl, rfl, rfl, rfl, rfl, rfl, rfl, rfl,
    rfl, rfl, rfl, rfl, rfl, rfl, rfl, rfl, rfl, rfl, rfl, rfl, rfl, rfl, rfl, rfl, rfl, rfl, rfl, rfl, rfl, rfl, rfl,
    rfl, rfl, rfl, rfl, rfl, rfl, rfl, rfl, rfl, rfl, rfl, rfl, rfl, rfl, rfl, rfl, rfl, rfl, rfl, rfl⟩

/-- `setEng` changes `engines` and nothing else. -/
@[simp] theorem State.setEng_frame (s : State) (k : Nat) (x : Engine) :
    (s.setEng k x).pending = s.pending ∧ (s.setEng k x).pend = s.pend ∧ (s.setEng k x).actv = s.actv ∧ (s.setEng k
    x).live = s.live ∧ (s.setEng k x).held = s.held ∧ (s.setEng k x).fresh = s.fresh ∧ (s.setEng k x).rdata = s.rdata ∧
    (s.setEng k x).time = s.time ∧ (s.setEng k x).up = s.up ∧ (s.setEng k x).relAt = s.relAt ∧ (s.setEng k x).timers =
    s.timers ∧ (s.setEng k x).slew = s.slew ∧ (s.setEng k x).ppsGood = s.ppsGood ∧ (s.setEng k x).srcLock = s.srcLock ∧
    (s.setEng k x).ppsOut = s.ppsOut ∧ (s.setEng k x).axes = s.axes ∧ (s.setEng k x).plls = s.plls ∧ (s.setEng k x).cal
    = s.cal ∧ (s.setEng k x).capt = s.capt ∧ (s.setEng k x).gates = s.gates ∧ (s.setEng k x).threads = s.threads ∧
    (s.setEng k x).sigs = s.sigs ∧ (s.setEng k x).im = s.im ∧ (s.setEng k x).dm = s.dm ∧ (s.setEng k x).frames =
    s.frames ∧ (s.setEng k x).pinQ = s.pinQ ∧ (s.setEng k x).midQ = s.midQ ∧ (s.setEng k x).outQ = s.outQ ∧ (s.setEng k
    x).txing = s.txing ∧ (s.setEng k x).stage = s.stage ∧ (s.setEng k x).mirUse = s.mirUse ∧ (s.setEng k x).rxNum =
    s.rxNum ∧ (s.setEng k x).txNum = s.txNum ∧ (s.setEng k x).subm = s.subm ∧ (s.setEng k x).cram = s.cram ∧ (s.setEng k
    x).poison = s.poison ∧ (s.setEng k x).hostMem = s.hostMem ∧ (s.setEng k x).pwe = s.pwe ∧ (s.setEng k x).htx = s.htx
    ∧ (s.setEng k x).htxc = s.htxc ∧ (s.setEng k x).mbx = s.mbx ∧ (s.setEng k x).syncTotal = s.syncTotal ∧ (s.setEng k
    x).evq = s.evq ∧ (s.setEng k x).evOpen = s.evOpen ∧ (s.setEng k x).evFifo = s.evFifo ∧ (s.setEng k x).ueLog =
    s.ueLog ∧ (s.setEng k x).refLog = s.refLog ∧ (s.setEng k x).chans = s.chans ∧ (s.setEng k x).health = s.health ∧
    (s.setEng k x).healthSeq = s.healthSeq ∧ (s.setEng k x).irqSent = s.irqSent ∧ (s.setEng k x).irqMode = s.irqMode ∧
    (s.setEng k x).msiLog = s.msiLog ∧ (s.setEng k x).d3hot = s.d3hot ∧ (s.setEng k x).lbusLow = s.lbusLow ∧ (s.setEng k
    x).lbusHold = s.lbusHold ∧ (s.setEng k x).lbusLast = s.lbusLast ∧ (s.setEng k x).imgCur = s.imgCur ∧ (s.setEng k
    x).imgBack = s.imgBack ∧ (s.setEng k x).imgLease = s.imgLease ∧ (s.setEng k x).backBlk = s.backBlk ∧ (s.setEng k
    x).leaseBlk = s.leaseBlk ∧ (s.setEng k x).commitReq = s.commitReq ∧ (s.setEng k x).leaseNs = s.leaseNs ∧ (s.setEng k
    x).leaseExp = s.leaseExp ∧ (s.setEng k x).flowMem = s.flowMem ∧ (s.setEng k x).apply = s.apply ∧ (s.setEng k x).olds
    = s.olds ∧ (s.setEng k x).snapDue = s.snapDue ∧ (s.setEng k x).snapWhn = s.snapWhn ∧ (s.setEng k x).snapClr =
    s.snapClr ∧ (s.setEng k x).snapMbx = s.snapMbx ∧ (s.setEng k x).shrews = s.shrews ∧ (s.setEng k x).shrPm = s.shrPm ∧
    (s.setEng k x).shrFlags = s.shrFlags ∧ (s.setEng k x).gpLvl = s.gpLvl ∧ (s.setEng k x).gpOe = s.gpOe ∧ (s.setEng k
    x).vddio33 = s.vddio33 ∧ (s.setEng k x).ports = s.ports ∧ (s.setEng k x).arriving = s.arriving ∧ (s.setEng k x).ring
    = s.ring ∧ (s.setEng k x).ringLanes = s.ringLanes ∧ (s.setEng k x).cans = s.cans ∧ (s.setEng k x).canLocks =
    s.canLocks ∧ (s.setEng k x).hwq = s.hwq ∧ (s.setEng k x).owlRep = s.owlRep ∧ (s.setEng k x).owl = s.owl ∧ (s.setEng
    k x).conns = s.conns ∧ (s.setEng k x).tws = s.tws ∧ (s.setEng k x).taps = s.taps ∧ (s.setEng k x).flashLog =
    s.flashLog ∧ (s.setEng k x).supOut = s.supOut ∧ (s.setEng k x).pwHash = s.pwHash ∧ (s.setEng k x).trngN = s.trngN ∧
    (s.setEng k x).hlog = s.hlog ∧ (s.setEng k x).waitWr = s.waitWr ∧ (s.setEng k x).pfail = s.pfail ∧ (s.setEng k
    x).off = s.off ∧ (s.setEng k x).released = s.released ∧ (s.setEng k x).mbxSeq = s.mbxSeq ∧ (s.setEng k x).msix =
    s.msix ∧ (s.setEng k x).pba = s.pba ∧ (s.setEng k x).selRec = s.selRec ∧ (s.setEng k x).prof = s.prof ∧ (s.setEng k
    x).bundle = s.bundle ∧ (s.setEng k x).startQ = s.startQ ∧ (s.setEng k x).switch = s.switch ∧ (s.setEng k x).imgHash
    = s.imgHash ∧ (s.setEng k x).settOut = s.settOut ∧ (s.setEng k x).fstep = s.fstep ∧ (s.setEng k x).stepMask =
    s.stepMask ∧ (s.setEng k x).d3pend = s.d3pend := by
  exact ⟨rfl, rfl, rfl, rfl, rfl, rfl, rfl, rfl, rfl, rfl, rfl, rfl, rfl, rfl, rfl, rfl, rfl, rfl, rfl, rfl, rfl, rfl, rfl,
    rfl, rfl, rfl, rfl, rfl, rfl, rfl, rfl, rfl, rfl, rfl, rfl, rfl, rfl, rfl, rfl, rfl, rfl, rfl, rfl, rfl, rfl, rfl,
    rfl, rfl, rfl, rfl, rfl, rfl, rfl, rfl, rfl, rfl, rfl, rfl, rfl, rfl, rfl, rfl, rfl, rfl, rfl, rfl, rfl, rfl, rfl,
    rfl, rfl, rfl, rfl, rfl, rfl, rfl, rfl, rfl, rfl, rfl, rfl, rfl, rfl, rfl, rfl, rfl, rfl, rfl, rfl, rfl, rfl, rfl,
    rfl, rfl, rfl, rfl, rfl, rfl, rfl, rfl, rfl, rfl, rfl, rfl, rfl, rfl, rfl, rfl, rfl, rfl, rfl, rfl⟩

/-- `setFrame` changes `frames` and nothing else. -/
@[simp] theorem State.setFrame_frame (s : State) (k : Nat) (x : Frame) :
    (s.setFrame k x).pending = s.pending ∧ (s.setFrame k x).pend = s.pend ∧ (s.setFrame k x).actv = s.actv ∧ (s.setFrame
    k x).live = s.live ∧ (s.setFrame k x).held = s.held ∧ (s.setFrame k x).fresh = s.fresh ∧ (s.setFrame k x).rdata =
    s.rdata ∧ (s.setFrame k x).time = s.time ∧ (s.setFrame k x).up = s.up ∧ (s.setFrame k x).relAt = s.relAt ∧
    (s.setFrame k x).timers = s.timers ∧ (s.setFrame k x).slew = s.slew ∧ (s.setFrame k x).ppsGood = s.ppsGood ∧
    (s.setFrame k x).srcLock = s.srcLock ∧ (s.setFrame k x).ppsOut = s.ppsOut ∧ (s.setFrame k x).axes = s.axes ∧
    (s.setFrame k x).plls = s.plls ∧ (s.setFrame k x).cal = s.cal ∧ (s.setFrame k x).capt = s.capt ∧ (s.setFrame k
    x).gates = s.gates ∧ (s.setFrame k x).threads = s.threads ∧ (s.setFrame k x).engines = s.engines ∧ (s.setFrame k
    x).sigs = s.sigs ∧ (s.setFrame k x).im = s.im ∧ (s.setFrame k x).dm = s.dm ∧ (s.setFrame k x).pinQ = s.pinQ ∧
    (s.setFrame k x).midQ = s.midQ ∧ (s.setFrame k x).outQ = s.outQ ∧ (s.setFrame k x).txing = s.txing ∧ (s.setFrame k
    x).stage = s.stage ∧ (s.setFrame k x).mirUse = s.mirUse ∧ (s.setFrame k x).rxNum = s.rxNum ∧ (s.setFrame k x).txNum
    = s.txNum ∧ (s.setFrame k x).subm = s.subm ∧ (s.setFrame k x).cram = s.cram ∧ (s.setFrame k x).poison = s.poison ∧
    (s.setFrame k x).hostMem = s.hostMem ∧ (s.setFrame k x).pwe = s.pwe ∧ (s.setFrame k x).htx = s.htx ∧ (s.setFrame k
    x).htxc = s.htxc ∧ (s.setFrame k x).mbx = s.mbx ∧ (s.setFrame k x).syncTotal = s.syncTotal ∧ (s.setFrame k x).evq =
    s.evq ∧ (s.setFrame k x).evOpen = s.evOpen ∧ (s.setFrame k x).evFifo = s.evFifo ∧ (s.setFrame k x).ueLog = s.ueLog ∧
    (s.setFrame k x).refLog = s.refLog ∧ (s.setFrame k x).chans = s.chans ∧ (s.setFrame k x).health = s.health ∧
    (s.setFrame k x).healthSeq = s.healthSeq ∧ (s.setFrame k x).irqSent = s.irqSent ∧ (s.setFrame k x).irqMode =
    s.irqMode ∧ (s.setFrame k x).msiLog = s.msiLog ∧ (s.setFrame k x).d3hot = s.d3hot ∧ (s.setFrame k x).lbusLow =
    s.lbusLow ∧ (s.setFrame k x).lbusHold = s.lbusHold ∧ (s.setFrame k x).lbusLast = s.lbusLast ∧ (s.setFrame k
    x).imgCur = s.imgCur ∧ (s.setFrame k x).imgBack = s.imgBack ∧ (s.setFrame k x).imgLease = s.imgLease ∧ (s.setFrame k
    x).backBlk = s.backBlk ∧ (s.setFrame k x).leaseBlk = s.leaseBlk ∧ (s.setFrame k x).commitReq = s.commitReq ∧
    (s.setFrame k x).leaseNs = s.leaseNs ∧ (s.setFrame k x).leaseExp = s.leaseExp ∧ (s.setFrame k x).flowMem = s.flowMem
    ∧ (s.setFrame k x).apply = s.apply ∧ (s.setFrame k x).olds = s.olds ∧ (s.setFrame k x).snapDue = s.snapDue ∧
    (s.setFrame k x).snapWhn = s.snapWhn ∧ (s.setFrame k x).snapClr = s.snapClr ∧ (s.setFrame k x).snapMbx = s.snapMbx ∧
    (s.setFrame k x).shrews = s.shrews ∧ (s.setFrame k x).shrPm = s.shrPm ∧ (s.setFrame k x).shrFlags = s.shrFlags ∧
    (s.setFrame k x).gpLvl = s.gpLvl ∧ (s.setFrame k x).gpOe = s.gpOe ∧ (s.setFrame k x).vddio33 = s.vddio33 ∧
    (s.setFrame k x).ports = s.ports ∧ (s.setFrame k x).arriving = s.arriving ∧ (s.setFrame k x).ring = s.ring ∧
    (s.setFrame k x).ringLanes = s.ringLanes ∧ (s.setFrame k x).cans = s.cans ∧ (s.setFrame k x).canLocks = s.canLocks ∧
    (s.setFrame k x).hwq = s.hwq ∧ (s.setFrame k x).owlRep = s.owlRep ∧ (s.setFrame k x).owl = s.owl ∧ (s.setFrame k
    x).conns = s.conns ∧ (s.setFrame k x).tws = s.tws ∧ (s.setFrame k x).taps = s.taps ∧ (s.setFrame k x).flashLog =
    s.flashLog ∧ (s.setFrame k x).supOut = s.supOut ∧ (s.setFrame k x).pwHash = s.pwHash ∧ (s.setFrame k x).trngN =
    s.trngN ∧ (s.setFrame k x).hlog = s.hlog ∧ (s.setFrame k x).waitWr = s.waitWr ∧ (s.setFrame k x).pfail = s.pfail ∧
    (s.setFrame k x).off = s.off ∧ (s.setFrame k x).released = s.released ∧ (s.setFrame k x).mbxSeq = s.mbxSeq ∧
    (s.setFrame k x).msix = s.msix ∧ (s.setFrame k x).pba = s.pba ∧ (s.setFrame k x).selRec = s.selRec ∧ (s.setFrame k
    x).prof = s.prof ∧ (s.setFrame k x).bundle = s.bundle ∧ (s.setFrame k x).startQ = s.startQ ∧ (s.setFrame k x).switch
    = s.switch ∧ (s.setFrame k x).imgHash = s.imgHash ∧ (s.setFrame k x).settOut = s.settOut ∧ (s.setFrame k x).fstep =
    s.fstep ∧ (s.setFrame k x).stepMask = s.stepMask ∧ (s.setFrame k x).d3pend = s.d3pend := by
  exact ⟨rfl, rfl, rfl, rfl, rfl, rfl, rfl, rfl, rfl, rfl, rfl, rfl, rfl, rfl, rfl, rfl, rfl, rfl, rfl, rfl, rfl, rfl, rfl,
    rfl, rfl, rfl, rfl, rfl, rfl, rfl, rfl, rfl, rfl, rfl, rfl, rfl, rfl, rfl, rfl, rfl, rfl, rfl, rfl, rfl, rfl, rfl,
    rfl, rfl, rfl, rfl, rfl, rfl, rfl, rfl, rfl, rfl, rfl, rfl, rfl, rfl, rfl, rfl, rfl, rfl, rfl, rfl, rfl, rfl, rfl,
    rfl, rfl, rfl, rfl, rfl, rfl, rfl, rfl, rfl, rfl, rfl, rfl, rfl, rfl, rfl, rfl, rfl, rfl, rfl, rfl, rfl, rfl, rfl,
    rfl, rfl, rfl, rfl, rfl, rfl, rfl, rfl, rfl, rfl, rfl, rfl, rfl, rfl, rfl, rfl, rfl, rfl, rfl, rfl⟩

/-- `setCal` changes `cal` and nothing else. -/
@[simp] theorem State.setCal_frame (s : State) (k : Nat) (x : CalEnt) :
    (s.setCal k x).pending = s.pending ∧ (s.setCal k x).pend = s.pend ∧ (s.setCal k x).actv = s.actv ∧ (s.setCal k
    x).live = s.live ∧ (s.setCal k x).held = s.held ∧ (s.setCal k x).fresh = s.fresh ∧ (s.setCal k x).rdata = s.rdata ∧
    (s.setCal k x).time = s.time ∧ (s.setCal k x).up = s.up ∧ (s.setCal k x).relAt = s.relAt ∧ (s.setCal k x).timers =
    s.timers ∧ (s.setCal k x).slew = s.slew ∧ (s.setCal k x).ppsGood = s.ppsGood ∧ (s.setCal k x).srcLock = s.srcLock ∧
    (s.setCal k x).ppsOut = s.ppsOut ∧ (s.setCal k x).axes = s.axes ∧ (s.setCal k x).plls = s.plls ∧ (s.setCal k x).capt
    = s.capt ∧ (s.setCal k x).gates = s.gates ∧ (s.setCal k x).threads = s.threads ∧ (s.setCal k x).engines = s.engines
    ∧ (s.setCal k x).sigs = s.sigs ∧ (s.setCal k x).im = s.im ∧ (s.setCal k x).dm = s.dm ∧ (s.setCal k x).frames =
    s.frames ∧ (s.setCal k x).pinQ = s.pinQ ∧ (s.setCal k x).midQ = s.midQ ∧ (s.setCal k x).outQ = s.outQ ∧ (s.setCal k
    x).txing = s.txing ∧ (s.setCal k x).stage = s.stage ∧ (s.setCal k x).mirUse = s.mirUse ∧ (s.setCal k x).rxNum =
    s.rxNum ∧ (s.setCal k x).txNum = s.txNum ∧ (s.setCal k x).subm = s.subm ∧ (s.setCal k x).cram = s.cram ∧ (s.setCal k
    x).poison = s.poison ∧ (s.setCal k x).hostMem = s.hostMem ∧ (s.setCal k x).pwe = s.pwe ∧ (s.setCal k x).htx = s.htx
    ∧ (s.setCal k x).htxc = s.htxc ∧ (s.setCal k x).mbx = s.mbx ∧ (s.setCal k x).syncTotal = s.syncTotal ∧ (s.setCal k
    x).evq = s.evq ∧ (s.setCal k x).evOpen = s.evOpen ∧ (s.setCal k x).evFifo = s.evFifo ∧ (s.setCal k x).ueLog =
    s.ueLog ∧ (s.setCal k x).refLog = s.refLog ∧ (s.setCal k x).chans = s.chans ∧ (s.setCal k x).health = s.health ∧
    (s.setCal k x).healthSeq = s.healthSeq ∧ (s.setCal k x).irqSent = s.irqSent ∧ (s.setCal k x).irqMode = s.irqMode ∧
    (s.setCal k x).msiLog = s.msiLog ∧ (s.setCal k x).d3hot = s.d3hot ∧ (s.setCal k x).lbusLow = s.lbusLow ∧ (s.setCal k
    x).lbusHold = s.lbusHold ∧ (s.setCal k x).lbusLast = s.lbusLast ∧ (s.setCal k x).imgCur = s.imgCur ∧ (s.setCal k
    x).imgBack = s.imgBack ∧ (s.setCal k x).imgLease = s.imgLease ∧ (s.setCal k x).backBlk = s.backBlk ∧ (s.setCal k
    x).leaseBlk = s.leaseBlk ∧ (s.setCal k x).commitReq = s.commitReq ∧ (s.setCal k x).leaseNs = s.leaseNs ∧ (s.setCal k
    x).leaseExp = s.leaseExp ∧ (s.setCal k x).flowMem = s.flowMem ∧ (s.setCal k x).apply = s.apply ∧ (s.setCal k x).olds
    = s.olds ∧ (s.setCal k x).snapDue = s.snapDue ∧ (s.setCal k x).snapWhn = s.snapWhn ∧ (s.setCal k x).snapClr =
    s.snapClr ∧ (s.setCal k x).snapMbx = s.snapMbx ∧ (s.setCal k x).shrews = s.shrews ∧ (s.setCal k x).shrPm = s.shrPm ∧
    (s.setCal k x).shrFlags = s.shrFlags ∧ (s.setCal k x).gpLvl = s.gpLvl ∧ (s.setCal k x).gpOe = s.gpOe ∧ (s.setCal k
    x).vddio33 = s.vddio33 ∧ (s.setCal k x).ports = s.ports ∧ (s.setCal k x).arriving = s.arriving ∧ (s.setCal k x).ring
    = s.ring ∧ (s.setCal k x).ringLanes = s.ringLanes ∧ (s.setCal k x).cans = s.cans ∧ (s.setCal k x).canLocks =
    s.canLocks ∧ (s.setCal k x).hwq = s.hwq ∧ (s.setCal k x).owlRep = s.owlRep ∧ (s.setCal k x).owl = s.owl ∧ (s.setCal
    k x).conns = s.conns ∧ (s.setCal k x).tws = s.tws ∧ (s.setCal k x).taps = s.taps ∧ (s.setCal k x).flashLog =
    s.flashLog ∧ (s.setCal k x).supOut = s.supOut ∧ (s.setCal k x).pwHash = s.pwHash ∧ (s.setCal k x).trngN = s.trngN ∧
    (s.setCal k x).hlog = s.hlog ∧ (s.setCal k x).waitWr = s.waitWr ∧ (s.setCal k x).pfail = s.pfail ∧ (s.setCal k
    x).off = s.off ∧ (s.setCal k x).released = s.released ∧ (s.setCal k x).mbxSeq = s.mbxSeq ∧ (s.setCal k x).msix =
    s.msix ∧ (s.setCal k x).pba = s.pba ∧ (s.setCal k x).selRec = s.selRec ∧ (s.setCal k x).prof = s.prof ∧ (s.setCal k
    x).bundle = s.bundle ∧ (s.setCal k x).startQ = s.startQ ∧ (s.setCal k x).switch = s.switch ∧ (s.setCal k x).imgHash
    = s.imgHash ∧ (s.setCal k x).settOut = s.settOut ∧ (s.setCal k x).fstep = s.fstep ∧ (s.setCal k x).stepMask =
    s.stepMask ∧ (s.setCal k x).d3pend = s.d3pend := by
  exact ⟨rfl, rfl, rfl, rfl, rfl, rfl, rfl, rfl, rfl, rfl, rfl, rfl, rfl, rfl, rfl, rfl, rfl, rfl, rfl, rfl, rfl, rfl, rfl,
    rfl, rfl, rfl, rfl, rfl, rfl, rfl, rfl, rfl, rfl, rfl, rfl, rfl, rfl, rfl, rfl, rfl, rfl, rfl, rfl, rfl, rfl, rfl,
    rfl, rfl, rfl, rfl, rfl, rfl, rfl, rfl, rfl, rfl, rfl, rfl, rfl, rfl, rfl, rfl, rfl, rfl, rfl, rfl, rfl, rfl, rfl,
    rfl, rfl, rfl, rfl, rfl, rfl, rfl, rfl, rfl, rfl, rfl, rfl, rfl, rfl, rfl, rfl, rfl, rfl, rfl, rfl, rfl, rfl, rfl,
    rfl, rfl, rfl, rfl, rfl, rfl, rfl, rfl, rfl, rfl, rfl, rfl, rfl, rfl, rfl, rfl, rfl, rfl, rfl, rfl⟩

/-- `setAxis` changes `axes` and nothing else. -/
@[simp] theorem State.setAxis_frame (s : State) (k : Nat) (x : Axis) :
    (s.setAxis k x).pending = s.pending ∧ (s.setAxis k x).pend = s.pend ∧ (s.setAxis k x).actv = s.actv ∧ (s.setAxis k
    x).live = s.live ∧ (s.setAxis k x).held = s.held ∧ (s.setAxis k x).fresh = s.fresh ∧ (s.setAxis k x).rdata = s.rdata
    ∧ (s.setAxis k x).time = s.time ∧ (s.setAxis k x).up = s.up ∧ (s.setAxis k x).relAt = s.relAt ∧ (s.setAxis k
    x).timers = s.timers ∧ (s.setAxis k x).slew = s.slew ∧ (s.setAxis k x).ppsGood = s.ppsGood ∧ (s.setAxis k x).srcLock
    = s.srcLock ∧ (s.setAxis k x).ppsOut = s.ppsOut ∧ (s.setAxis k x).plls = s.plls ∧ (s.setAxis k x).cal = s.cal ∧
    (s.setAxis k x).capt = s.capt ∧ (s.setAxis k x).gates = s.gates ∧ (s.setAxis k x).threads = s.threads ∧ (s.setAxis k
    x).engines = s.engines ∧ (s.setAxis k x).sigs = s.sigs ∧ (s.setAxis k x).im = s.im ∧ (s.setAxis k x).dm = s.dm ∧
    (s.setAxis k x).frames = s.frames ∧ (s.setAxis k x).pinQ = s.pinQ ∧ (s.setAxis k x).midQ = s.midQ ∧ (s.setAxis k
    x).outQ = s.outQ ∧ (s.setAxis k x).txing = s.txing ∧ (s.setAxis k x).stage = s.stage ∧ (s.setAxis k x).mirUse =
    s.mirUse ∧ (s.setAxis k x).rxNum = s.rxNum ∧ (s.setAxis k x).txNum = s.txNum ∧ (s.setAxis k x).subm = s.subm ∧
    (s.setAxis k x).cram = s.cram ∧ (s.setAxis k x).poison = s.poison ∧ (s.setAxis k x).hostMem = s.hostMem ∧ (s.setAxis
    k x).pwe = s.pwe ∧ (s.setAxis k x).htx = s.htx ∧ (s.setAxis k x).htxc = s.htxc ∧ (s.setAxis k x).mbx = s.mbx ∧
    (s.setAxis k x).syncTotal = s.syncTotal ∧ (s.setAxis k x).evq = s.evq ∧ (s.setAxis k x).evOpen = s.evOpen ∧
    (s.setAxis k x).evFifo = s.evFifo ∧ (s.setAxis k x).ueLog = s.ueLog ∧ (s.setAxis k x).refLog = s.refLog ∧ (s.setAxis
    k x).chans = s.chans ∧ (s.setAxis k x).health = s.health ∧ (s.setAxis k x).healthSeq = s.healthSeq ∧ (s.setAxis k
    x).irqSent = s.irqSent ∧ (s.setAxis k x).irqMode = s.irqMode ∧ (s.setAxis k x).msiLog = s.msiLog ∧ (s.setAxis k
    x).d3hot = s.d3hot ∧ (s.setAxis k x).lbusLow = s.lbusLow ∧ (s.setAxis k x).lbusHold = s.lbusHold ∧ (s.setAxis k
    x).lbusLast = s.lbusLast ∧ (s.setAxis k x).imgCur = s.imgCur ∧ (s.setAxis k x).imgBack = s.imgBack ∧ (s.setAxis k
    x).imgLease = s.imgLease ∧ (s.setAxis k x).backBlk = s.backBlk ∧ (s.setAxis k x).leaseBlk = s.leaseBlk ∧ (s.setAxis
    k x).commitReq = s.commitReq ∧ (s.setAxis k x).leaseNs = s.leaseNs ∧ (s.setAxis k x).leaseExp = s.leaseExp ∧
    (s.setAxis k x).flowMem = s.flowMem ∧ (s.setAxis k x).apply = s.apply ∧ (s.setAxis k x).olds = s.olds ∧ (s.setAxis k
    x).snapDue = s.snapDue ∧ (s.setAxis k x).snapWhn = s.snapWhn ∧ (s.setAxis k x).snapClr = s.snapClr ∧ (s.setAxis k
    x).snapMbx = s.snapMbx ∧ (s.setAxis k x).shrews = s.shrews ∧ (s.setAxis k x).shrPm = s.shrPm ∧ (s.setAxis k
    x).shrFlags = s.shrFlags ∧ (s.setAxis k x).gpLvl = s.gpLvl ∧ (s.setAxis k x).gpOe = s.gpOe ∧ (s.setAxis k x).vddio33
    = s.vddio33 ∧ (s.setAxis k x).ports = s.ports ∧ (s.setAxis k x).arriving = s.arriving ∧ (s.setAxis k x).ring =
    s.ring ∧ (s.setAxis k x).ringLanes = s.ringLanes ∧ (s.setAxis k x).cans = s.cans ∧ (s.setAxis k x).canLocks =
    s.canLocks ∧ (s.setAxis k x).hwq = s.hwq ∧ (s.setAxis k x).owlRep = s.owlRep ∧ (s.setAxis k x).owl = s.owl ∧
    (s.setAxis k x).conns = s.conns ∧ (s.setAxis k x).tws = s.tws ∧ (s.setAxis k x).taps = s.taps ∧ (s.setAxis k
    x).flashLog = s.flashLog ∧ (s.setAxis k x).supOut = s.supOut ∧ (s.setAxis k x).pwHash = s.pwHash ∧ (s.setAxis k
    x).trngN = s.trngN ∧ (s.setAxis k x).hlog = s.hlog ∧ (s.setAxis k x).waitWr = s.waitWr ∧ (s.setAxis k x).pfail =
    s.pfail ∧ (s.setAxis k x).off = s.off ∧ (s.setAxis k x).released = s.released ∧ (s.setAxis k x).mbxSeq = s.mbxSeq ∧
    (s.setAxis k x).msix = s.msix ∧ (s.setAxis k x).pba = s.pba ∧ (s.setAxis k x).selRec = s.selRec ∧ (s.setAxis k
    x).prof = s.prof ∧ (s.setAxis k x).bundle = s.bundle ∧ (s.setAxis k x).startQ = s.startQ ∧ (s.setAxis k x).switch =
    s.switch ∧ (s.setAxis k x).imgHash = s.imgHash ∧ (s.setAxis k x).settOut = s.settOut ∧ (s.setAxis k x).fstep =
    s.fstep ∧ (s.setAxis k x).stepMask = s.stepMask ∧ (s.setAxis k x).d3pend = s.d3pend := by
  exact ⟨rfl, rfl, rfl, rfl, rfl, rfl, rfl, rfl, rfl, rfl, rfl, rfl, rfl, rfl, rfl, rfl, rfl, rfl, rfl, rfl, rfl, rfl, rfl,
    rfl, rfl, rfl, rfl, rfl, rfl, rfl, rfl, rfl, rfl, rfl, rfl, rfl, rfl, rfl, rfl, rfl, rfl, rfl, rfl, rfl, rfl, rfl,
    rfl, rfl, rfl, rfl, rfl, rfl, rfl, rfl, rfl, rfl, rfl, rfl, rfl, rfl, rfl, rfl, rfl, rfl, rfl, rfl, rfl, rfl, rfl,
    rfl, rfl, rfl, rfl, rfl, rfl, rfl, rfl, rfl, rfl, rfl, rfl, rfl, rfl, rfl, rfl, rfl, rfl, rfl, rfl, rfl, rfl, rfl,
    rfl, rfl, rfl, rfl, rfl, rfl, rfl, rfl, rfl, rfl, rfl, rfl, rfl, rfl, rfl, rfl, rfl, rfl, rfl, rfl⟩

/-- `setMb` changes `mbx` and nothing else. -/
@[simp] theorem State.setMb_frame (s : State) (k : Nat) (x : Mbx) :
    (s.setMb k x).pending = s.pending ∧ (s.setMb k x).pend = s.pend ∧ (s.setMb k x).actv = s.actv ∧ (s.setMb k x).live =
    s.live ∧ (s.setMb k x).held = s.held ∧ (s.setMb k x).fresh = s.fresh ∧ (s.setMb k x).rdata = s.rdata ∧ (s.setMb k
    x).time = s.time ∧ (s.setMb k x).up = s.up ∧ (s.setMb k x).relAt = s.relAt ∧ (s.setMb k x).timers = s.timers ∧
    (s.setMb k x).slew = s.slew ∧ (s.setMb k x).ppsGood = s.ppsGood ∧ (s.setMb k x).srcLock = s.srcLock ∧ (s.setMb k
    x).ppsOut = s.ppsOut ∧ (s.setMb k x).axes = s.axes ∧ (s.setMb k x).plls = s.plls ∧ (s.setMb k x).cal = s.cal ∧
    (s.setMb k x).capt = s.capt ∧ (s.setMb k x).gates = s.gates ∧ (s.setMb k x).threads = s.threads ∧ (s.setMb k
    x).engines = s.engines ∧ (s.setMb k x).sigs = s.sigs ∧ (s.setMb k x).im = s.im ∧ (s.setMb k x).dm = s.dm ∧ (s.setMb
    k x).frames = s.frames ∧ (s.setMb k x).pinQ = s.pinQ ∧ (s.setMb k x).midQ = s.midQ ∧ (s.setMb k x).outQ = s.outQ ∧
    (s.setMb k x).txing = s.txing ∧ (s.setMb k x).stage = s.stage ∧ (s.setMb k x).mirUse = s.mirUse ∧ (s.setMb k
    x).rxNum = s.rxNum ∧ (s.setMb k x).txNum = s.txNum ∧ (s.setMb k x).subm = s.subm ∧ (s.setMb k x).cram = s.cram ∧
    (s.setMb k x).poison = s.poison ∧ (s.setMb k x).hostMem = s.hostMem ∧ (s.setMb k x).pwe = s.pwe ∧ (s.setMb k x).htx
    = s.htx ∧ (s.setMb k x).htxc = s.htxc ∧ (s.setMb k x).syncTotal = s.syncTotal ∧ (s.setMb k x).evq = s.evq ∧ (s.setMb
    k x).evOpen = s.evOpen ∧ (s.setMb k x).evFifo = s.evFifo ∧ (s.setMb k x).ueLog = s.ueLog ∧ (s.setMb k x).refLog =
    s.refLog ∧ (s.setMb k x).chans = s.chans ∧ (s.setMb k x).health = s.health ∧ (s.setMb k x).healthSeq = s.healthSeq ∧
    (s.setMb k x).irqSent = s.irqSent ∧ (s.setMb k x).irqMode = s.irqMode ∧ (s.setMb k x).msiLog = s.msiLog ∧ (s.setMb k
    x).d3hot = s.d3hot ∧ (s.setMb k x).lbusLow = s.lbusLow ∧ (s.setMb k x).lbusHold = s.lbusHold ∧ (s.setMb k
    x).lbusLast = s.lbusLast ∧ (s.setMb k x).imgCur = s.imgCur ∧ (s.setMb k x).imgBack = s.imgBack ∧ (s.setMb k
    x).imgLease = s.imgLease ∧ (s.setMb k x).backBlk = s.backBlk ∧ (s.setMb k x).leaseBlk = s.leaseBlk ∧ (s.setMb k
    x).commitReq = s.commitReq ∧ (s.setMb k x).leaseNs = s.leaseNs ∧ (s.setMb k x).leaseExp = s.leaseExp ∧ (s.setMb k
    x).flowMem = s.flowMem ∧ (s.setMb k x).apply = s.apply ∧ (s.setMb k x).olds = s.olds ∧ (s.setMb k x).snapDue =
    s.snapDue ∧ (s.setMb k x).snapWhn = s.snapWhn ∧ (s.setMb k x).snapClr = s.snapClr ∧ (s.setMb k x).snapMbx =
    s.snapMbx ∧ (s.setMb k x).shrews = s.shrews ∧ (s.setMb k x).shrPm = s.shrPm ∧ (s.setMb k x).shrFlags = s.shrFlags ∧
    (s.setMb k x).gpLvl = s.gpLvl ∧ (s.setMb k x).gpOe = s.gpOe ∧ (s.setMb k x).vddio33 = s.vddio33 ∧ (s.setMb k
    x).ports = s.ports ∧ (s.setMb k x).arriving = s.arriving ∧ (s.setMb k x).ring = s.ring ∧ (s.setMb k x).ringLanes =
    s.ringLanes ∧ (s.setMb k x).cans = s.cans ∧ (s.setMb k x).canLocks = s.canLocks ∧ (s.setMb k x).hwq = s.hwq ∧
    (s.setMb k x).owlRep = s.owlRep ∧ (s.setMb k x).owl = s.owl ∧ (s.setMb k x).conns = s.conns ∧ (s.setMb k x).tws =
    s.tws ∧ (s.setMb k x).taps = s.taps ∧ (s.setMb k x).flashLog = s.flashLog ∧ (s.setMb k x).supOut = s.supOut ∧
    (s.setMb k x).pwHash = s.pwHash ∧ (s.setMb k x).trngN = s.trngN ∧ (s.setMb k x).hlog = s.hlog ∧ (s.setMb k x).waitWr
    = s.waitWr ∧ (s.setMb k x).pfail = s.pfail ∧ (s.setMb k x).off = s.off ∧ (s.setMb k x).released = s.released ∧
    (s.setMb k x).mbxSeq = s.mbxSeq ∧ (s.setMb k x).msix = s.msix ∧ (s.setMb k x).pba = s.pba ∧ (s.setMb k x).selRec =
    s.selRec ∧ (s.setMb k x).prof = s.prof ∧ (s.setMb k x).bundle = s.bundle ∧ (s.setMb k x).startQ = s.startQ ∧
    (s.setMb k x).switch = s.switch ∧ (s.setMb k x).imgHash = s.imgHash ∧ (s.setMb k x).settOut = s.settOut ∧ (s.setMb k
    x).fstep = s.fstep ∧ (s.setMb k x).stepMask = s.stepMask ∧ (s.setMb k x).d3pend = s.d3pend := by
  exact ⟨rfl, rfl, rfl, rfl, rfl, rfl, rfl, rfl, rfl, rfl, rfl, rfl, rfl, rfl, rfl, rfl, rfl, rfl, rfl, rfl, rfl, rfl, rfl,
    rfl, rfl, rfl, rfl, rfl, rfl, rfl, rfl, rfl, rfl, rfl, rfl, rfl, rfl, rfl, rfl, rfl, rfl, rfl, rfl, rfl, rfl, rfl,
    rfl, rfl, rfl, rfl, rfl, rfl, rfl, rfl, rfl, rfl, rfl, rfl, rfl, rfl, rfl, rfl, rfl, rfl, rfl, rfl, rfl, rfl, rfl,
    rfl, rfl, rfl, rfl, rfl, rfl, rfl, rfl, rfl, rfl, rfl, rfl, rfl, rfl, rfl, rfl, rfl, rfl, rfl, rfl, rfl, rfl, rfl,
    rfl, rfl, rfl, rfl, rfl, rfl, rfl, rfl, rfl, rfl, rfl, rfl, rfl, rfl, rfl, rfl, rfl, rfl, rfl, rfl⟩

/-- `setChan` changes `chans` and nothing else. -/
@[simp] theorem State.setChan_frame (s : State) (k : Nat) (x : Chan) :
    (s.setChan k x).pending = s.pending ∧ (s.setChan k x).pend = s.pend ∧ (s.setChan k x).actv = s.actv ∧ (s.setChan k
    x).live = s.live ∧ (s.setChan k x).held = s.held ∧ (s.setChan k x).fresh = s.fresh ∧ (s.setChan k x).rdata = s.rdata
    ∧ (s.setChan k x).time = s.time ∧ (s.setChan k x).up = s.up ∧ (s.setChan k x).relAt = s.relAt ∧ (s.setChan k
    x).timers = s.timers ∧ (s.setChan k x).slew = s.slew ∧ (s.setChan k x).ppsGood = s.ppsGood ∧ (s.setChan k x).srcLock
    = s.srcLock ∧ (s.setChan k x).ppsOut = s.ppsOut ∧ (s.setChan k x).axes = s.axes ∧ (s.setChan k x).plls = s.plls ∧
    (s.setChan k x).cal = s.cal ∧ (s.setChan k x).capt = s.capt ∧ (s.setChan k x).gates = s.gates ∧ (s.setChan k
    x).threads = s.threads ∧ (s.setChan k x).engines = s.engines ∧ (s.setChan k x).sigs = s.sigs ∧ (s.setChan k x).im =
    s.im ∧ (s.setChan k x).dm = s.dm ∧ (s.setChan k x).frames = s.frames ∧ (s.setChan k x).pinQ = s.pinQ ∧ (s.setChan k
    x).midQ = s.midQ ∧ (s.setChan k x).outQ = s.outQ ∧ (s.setChan k x).txing = s.txing ∧ (s.setChan k x).stage = s.stage
    ∧ (s.setChan k x).mirUse = s.mirUse ∧ (s.setChan k x).rxNum = s.rxNum ∧ (s.setChan k x).txNum = s.txNum ∧ (s.setChan
    k x).subm = s.subm ∧ (s.setChan k x).cram = s.cram ∧ (s.setChan k x).poison = s.poison ∧ (s.setChan k x).hostMem =
    s.hostMem ∧ (s.setChan k x).pwe = s.pwe ∧ (s.setChan k x).htx = s.htx ∧ (s.setChan k x).htxc = s.htxc ∧ (s.setChan k
    x).mbx = s.mbx ∧ (s.setChan k x).syncTotal = s.syncTotal ∧ (s.setChan k x).evq = s.evq ∧ (s.setChan k x).evOpen =
    s.evOpen ∧ (s.setChan k x).evFifo = s.evFifo ∧ (s.setChan k x).ueLog = s.ueLog ∧ (s.setChan k x).refLog = s.refLog ∧
    (s.setChan k x).health = s.health ∧ (s.setChan k x).healthSeq = s.healthSeq ∧ (s.setChan k x).irqSent = s.irqSent ∧
    (s.setChan k x).irqMode = s.irqMode ∧ (s.setChan k x).msiLog = s.msiLog ∧ (s.setChan k x).d3hot = s.d3hot ∧
    (s.setChan k x).lbusLow = s.lbusLow ∧ (s.setChan k x).lbusHold = s.lbusHold ∧ (s.setChan k x).lbusLast = s.lbusLast
    ∧ (s.setChan k x).imgCur = s.imgCur ∧ (s.setChan k x).imgBack = s.imgBack ∧ (s.setChan k x).imgLease = s.imgLease ∧
    (s.setChan k x).backBlk = s.backBlk ∧ (s.setChan k x).leaseBlk = s.leaseBlk ∧ (s.setChan k x).commitReq =
    s.commitReq ∧ (s.setChan k x).leaseNs = s.leaseNs ∧ (s.setChan k x).leaseExp = s.leaseExp ∧ (s.setChan k x).flowMem
    = s.flowMem ∧ (s.setChan k x).apply = s.apply ∧ (s.setChan k x).olds = s.olds ∧ (s.setChan k x).snapDue = s.snapDue
    ∧ (s.setChan k x).snapWhn = s.snapWhn ∧ (s.setChan k x).snapClr = s.snapClr ∧ (s.setChan k x).snapMbx = s.snapMbx ∧
    (s.setChan k x).shrews = s.shrews ∧ (s.setChan k x).shrPm = s.shrPm ∧ (s.setChan k x).shrFlags = s.shrFlags ∧
    (s.setChan k x).gpLvl = s.gpLvl ∧ (s.setChan k x).gpOe = s.gpOe ∧ (s.setChan k x).vddio33 = s.vddio33 ∧ (s.setChan k
    x).ports = s.ports ∧ (s.setChan k x).arriving = s.arriving ∧ (s.setChan k x).ring = s.ring ∧ (s.setChan k
    x).ringLanes = s.ringLanes ∧ (s.setChan k x).cans = s.cans ∧ (s.setChan k x).canLocks = s.canLocks ∧ (s.setChan k
    x).hwq = s.hwq ∧ (s.setChan k x).owlRep = s.owlRep ∧ (s.setChan k x).owl = s.owl ∧ (s.setChan k x).conns = s.conns ∧
    (s.setChan k x).tws = s.tws ∧ (s.setChan k x).taps = s.taps ∧ (s.setChan k x).flashLog = s.flashLog ∧ (s.setChan k
    x).supOut = s.supOut ∧ (s.setChan k x).pwHash = s.pwHash ∧ (s.setChan k x).trngN = s.trngN ∧ (s.setChan k x).hlog =
    s.hlog ∧ (s.setChan k x).waitWr = s.waitWr ∧ (s.setChan k x).pfail = s.pfail ∧ (s.setChan k x).off = s.off ∧
    (s.setChan k x).released = s.released ∧ (s.setChan k x).mbxSeq = s.mbxSeq ∧ (s.setChan k x).msix = s.msix ∧
    (s.setChan k x).pba = s.pba ∧ (s.setChan k x).selRec = s.selRec ∧ (s.setChan k x).prof = s.prof ∧ (s.setChan k
    x).bundle = s.bundle ∧ (s.setChan k x).startQ = s.startQ ∧ (s.setChan k x).switch = s.switch ∧ (s.setChan k
    x).imgHash = s.imgHash ∧ (s.setChan k x).settOut = s.settOut ∧ (s.setChan k x).fstep = s.fstep ∧ (s.setChan k
    x).stepMask = s.stepMask ∧ (s.setChan k x).d3pend = s.d3pend := by
  exact ⟨rfl, rfl, rfl, rfl, rfl, rfl, rfl, rfl, rfl, rfl, rfl, rfl, rfl, rfl, rfl, rfl, rfl, rfl, rfl, rfl, rfl, rfl, rfl,
    rfl, rfl, rfl, rfl, rfl, rfl, rfl, rfl, rfl, rfl, rfl, rfl, rfl, rfl, rfl, rfl, rfl, rfl, rfl, rfl, rfl, rfl, rfl,
    rfl, rfl, rfl, rfl, rfl, rfl, rfl, rfl, rfl, rfl, rfl, rfl, rfl, rfl, rfl, rfl, rfl, rfl, rfl, rfl, rfl, rfl, rfl,
    rfl, rfl, rfl, rfl, rfl, rfl, rfl, rfl, rfl, rfl, rfl, rfl, rfl, rfl, rfl, rfl, rfl, rfl, rfl, rfl, rfl, rfl, rfl,
    rfl, rfl, rfl, rfl, rfl, rfl, rfl, rfl, rfl, rfl, rfl, rfl, rfl, rfl, rfl, rfl, rfl, rfl, rfl, rfl⟩

/-- `setMark` changes `poison` and nothing else. -/
@[simp] theorem State.setMark_frame (s : State) (t u w : Nat) (b : Bool) :
    (s.setMark t u w b).pending = s.pending ∧ (s.setMark t u w b).pend = s.pend ∧ (s.setMark t u w b).actv = s.actv ∧
    (s.setMark t u w b).live = s.live ∧ (s.setMark t u w b).held = s.held ∧ (s.setMark t u w b).fresh = s.fresh ∧
    (s.setMark t u w b).rdata = s.rdata ∧ (s.setMark t u w b).time = s.time ∧ (s.setMark t u w b).up = s.up ∧ (s.setMark
    t u w b).relAt = s.relAt ∧ (s.setMark t u w b).timers = s.timers ∧ (s.setMark t u w b).slew = s.slew ∧ (s.setMark t
    u w b).ppsGood = s.ppsGood ∧ (s.setMark t u w b).srcLock = s.srcLock ∧ (s.setMark t u w b).ppsOut = s.ppsOut ∧
    (s.setMark t u w b).axes = s.axes ∧ (s.setMark t u w b).plls = s.plls ∧ (s.setMark t u w b).cal = s.cal ∧ (s.setMark
    t u w b).capt = s.capt ∧ (s.setMark t u w b).gates = s.gates ∧ (s.setMark t u w b).threads = s.threads ∧ (s.setMark
    t u w b).engines = s.engines ∧ (s.setMark t u w b).sigs = s.sigs ∧ (s.setMark t u w b).im = s.im ∧ (s.setMark t u w
    b).dm = s.dm ∧ (s.setMark t u w b).frames = s.frames ∧ (s.setMark t u w b).pinQ = s.pinQ ∧ (s.setMark t u w b).midQ
    = s.midQ ∧ (s.setMark t u w b).outQ = s.outQ ∧ (s.setMark t u w b).txing = s.txing ∧ (s.setMark t u w b).stage =
    s.stage ∧ (s.setMark t u w b).mirUse = s.mirUse ∧ (s.setMark t u w b).rxNum = s.rxNum ∧ (s.setMark t u w b).txNum =
    s.txNum ∧ (s.setMark t u w b).subm = s.subm ∧ (s.setMark t u w b).cram = s.cram ∧ (s.setMark t u w b).hostMem =
    s.hostMem ∧ (s.setMark t u w b).pwe = s.pwe ∧ (s.setMark t u w b).htx = s.htx ∧ (s.setMark t u w b).htxc = s.htxc ∧
    (s.setMark t u w b).mbx = s.mbx ∧ (s.setMark t u w b).syncTotal = s.syncTotal ∧ (s.setMark t u w b).evq = s.evq ∧
    (s.setMark t u w b).evOpen = s.evOpen ∧ (s.setMark t u w b).evFifo = s.evFifo ∧ (s.setMark t u w b).ueLog = s.ueLog
    ∧ (s.setMark t u w b).refLog = s.refLog ∧ (s.setMark t u w b).chans = s.chans ∧ (s.setMark t u w b).health =
    s.health ∧ (s.setMark t u w b).healthSeq = s.healthSeq ∧ (s.setMark t u w b).irqSent = s.irqSent ∧ (s.setMark t u w
    b).irqMode = s.irqMode ∧ (s.setMark t u w b).msiLog = s.msiLog ∧ (s.setMark t u w b).d3hot = s.d3hot ∧ (s.setMark t
    u w b).lbusLow = s.lbusLow ∧ (s.setMark t u w b).lbusHold = s.lbusHold ∧ (s.setMark t u w b).lbusLast = s.lbusLast ∧
    (s.setMark t u w b).imgCur = s.imgCur ∧ (s.setMark t u w b).imgBack = s.imgBack ∧ (s.setMark t u w b).imgLease =
    s.imgLease ∧ (s.setMark t u w b).backBlk = s.backBlk ∧ (s.setMark t u w b).leaseBlk = s.leaseBlk ∧ (s.setMark t u w
    b).commitReq = s.commitReq ∧ (s.setMark t u w b).leaseNs = s.leaseNs ∧ (s.setMark t u w b).leaseExp = s.leaseExp ∧
    (s.setMark t u w b).flowMem = s.flowMem ∧ (s.setMark t u w b).apply = s.apply ∧ (s.setMark t u w b).olds = s.olds ∧
    (s.setMark t u w b).snapDue = s.snapDue ∧ (s.setMark t u w b).snapWhn = s.snapWhn ∧ (s.setMark t u w b).snapClr =
    s.snapClr ∧ (s.setMark t u w b).snapMbx = s.snapMbx ∧ (s.setMark t u w b).shrews = s.shrews ∧ (s.setMark t u w
    b).shrPm = s.shrPm ∧ (s.setMark t u w b).shrFlags = s.shrFlags ∧ (s.setMark t u w b).gpLvl = s.gpLvl ∧ (s.setMark t
    u w b).gpOe = s.gpOe ∧ (s.setMark t u w b).vddio33 = s.vddio33 ∧ (s.setMark t u w b).ports = s.ports ∧ (s.setMark t
    u w b).arriving = s.arriving ∧ (s.setMark t u w b).ring = s.ring ∧ (s.setMark t u w b).ringLanes = s.ringLanes ∧
    (s.setMark t u w b).cans = s.cans ∧ (s.setMark t u w b).canLocks = s.canLocks ∧ (s.setMark t u w b).hwq = s.hwq ∧
    (s.setMark t u w b).owlRep = s.owlRep ∧ (s.setMark t u w b).owl = s.owl ∧ (s.setMark t u w b).conns = s.conns ∧
    (s.setMark t u w b).tws = s.tws ∧ (s.setMark t u w b).taps = s.taps ∧ (s.setMark t u w b).flashLog = s.flashLog ∧
    (s.setMark t u w b).supOut = s.supOut ∧ (s.setMark t u w b).pwHash = s.pwHash ∧ (s.setMark t u w b).trngN = s.trngN
    ∧ (s.setMark t u w b).hlog = s.hlog ∧ (s.setMark t u w b).waitWr = s.waitWr ∧ (s.setMark t u w b).pfail = s.pfail ∧
    (s.setMark t u w b).off = s.off ∧ (s.setMark t u w b).released = s.released ∧ (s.setMark t u w b).mbxSeq = s.mbxSeq
    ∧ (s.setMark t u w b).msix = s.msix ∧ (s.setMark t u w b).pba = s.pba ∧ (s.setMark t u w b).selRec = s.selRec ∧
    (s.setMark t u w b).prof = s.prof ∧ (s.setMark t u w b).bundle = s.bundle ∧ (s.setMark t u w b).startQ = s.startQ ∧
    (s.setMark t u w b).switch = s.switch ∧ (s.setMark t u w b).imgHash = s.imgHash ∧ (s.setMark t u w b).settOut =
    s.settOut ∧ (s.setMark t u w b).fstep = s.fstep ∧ (s.setMark t u w b).stepMask = s.stepMask ∧ (s.setMark t u w
    b).d3pend = s.d3pend := by
  exact ⟨rfl, rfl, rfl, rfl, rfl, rfl, rfl, rfl, rfl, rfl, rfl, rfl, rfl, rfl, rfl, rfl, rfl, rfl, rfl, rfl, rfl, rfl, rfl,
    rfl, rfl, rfl, rfl, rfl, rfl, rfl, rfl, rfl, rfl, rfl, rfl, rfl, rfl, rfl, rfl, rfl, rfl, rfl, rfl, rfl, rfl, rfl,
    rfl, rfl, rfl, rfl, rfl, rfl, rfl, rfl, rfl, rfl, rfl, rfl, rfl, rfl, rfl, rfl, rfl, rfl, rfl, rfl, rfl, rfl, rfl,
    rfl, rfl, rfl, rfl, rfl, rfl, rfl, rfl, rfl, rfl, rfl, rfl, rfl, rfl, rfl, rfl, rfl, rfl, rfl, rfl, rfl, rfl, rfl,
    rfl, rfl, rfl, rfl, rfl, rfl, rfl, rfl, rfl, rfl, rfl, rfl, rfl, rfl, rfl, rfl, rfl, rfl, rfl, rfl⟩

/-- `putCram` changes `cram`, `poison` and nothing else. -/
@[simp] theorem State.putCram_frame (s : State) (a : Nat) (l : List Byte) :
    (s.putCram a l).pending = s.pending ∧ (s.putCram a l).pend = s.pend ∧ (s.putCram a l).actv = s.actv ∧ (s.putCram a
    l).live = s.live ∧ (s.putCram a l).held = s.held ∧ (s.putCram a l).fresh = s.fresh ∧ (s.putCram a l).rdata = s.rdata
    ∧ (s.putCram a l).time = s.time ∧ (s.putCram a l).up = s.up ∧ (s.putCram a l).relAt = s.relAt ∧ (s.putCram a
    l).timers = s.timers ∧ (s.putCram a l).slew = s.slew ∧ (s.putCram a l).ppsGood = s.ppsGood ∧ (s.putCram a l).srcLock
    = s.srcLock ∧ (s.putCram a l).ppsOut = s.ppsOut ∧ (s.putCram a l).axes = s.axes ∧ (s.putCram a l).plls = s.plls ∧
    (s.putCram a l).cal = s.cal ∧ (s.putCram a l).capt = s.capt ∧ (s.putCram a l).gates = s.gates ∧ (s.putCram a
    l).threads = s.threads ∧ (s.putCram a l).engines = s.engines ∧ (s.putCram a l).sigs = s.sigs ∧ (s.putCram a l).im =
    s.im ∧ (s.putCram a l).dm = s.dm ∧ (s.putCram a l).frames = s.frames ∧ (s.putCram a l).pinQ = s.pinQ ∧ (s.putCram a
    l).midQ = s.midQ ∧ (s.putCram a l).outQ = s.outQ ∧ (s.putCram a l).txing = s.txing ∧ (s.putCram a l).stage = s.stage
    ∧ (s.putCram a l).mirUse = s.mirUse ∧ (s.putCram a l).rxNum = s.rxNum ∧ (s.putCram a l).txNum = s.txNum ∧ (s.putCram
    a l).subm = s.subm ∧ (s.putCram a l).hostMem = s.hostMem ∧ (s.putCram a l).pwe = s.pwe ∧ (s.putCram a l).htx = s.htx
    ∧ (s.putCram a l).htxc = s.htxc ∧ (s.putCram a l).mbx = s.mbx ∧ (s.putCram a l).syncTotal = s.syncTotal ∧ (s.putCram
    a l).evq = s.evq ∧ (s.putCram a l).evOpen = s.evOpen ∧ (s.putCram a l).evFifo = s.evFifo ∧ (s.putCram a l).ueLog =
    s.ueLog ∧ (s.putCram a l).refLog = s.refLog ∧ (s.putCram a l).chans = s.chans ∧ (s.putCram a l).health = s.health ∧
    (s.putCram a l).healthSeq = s.healthSeq ∧ (s.putCram a l).irqSent = s.irqSent ∧ (s.putCram a l).irqMode = s.irqMode
    ∧ (s.putCram a l).msiLog = s.msiLog ∧ (s.putCram a l).d3hot = s.d3hot ∧ (s.putCram a l).lbusLow = s.lbusLow ∧
    (s.putCram a l).lbusHold = s.lbusHold ∧ (s.putCram a l).lbusLast = s.lbusLast ∧ (s.putCram a l).imgCur = s.imgCur ∧
    (s.putCram a l).imgBack = s.imgBack ∧ (s.putCram a l).imgLease = s.imgLease ∧ (s.putCram a l).backBlk = s.backBlk ∧
    (s.putCram a l).leaseBlk = s.leaseBlk ∧ (s.putCram a l).commitReq = s.commitReq ∧ (s.putCram a l).leaseNs =
    s.leaseNs ∧ (s.putCram a l).leaseExp = s.leaseExp ∧ (s.putCram a l).flowMem = s.flowMem ∧ (s.putCram a l).apply =
    s.apply ∧ (s.putCram a l).olds = s.olds ∧ (s.putCram a l).snapDue = s.snapDue ∧ (s.putCram a l).snapWhn = s.snapWhn
    ∧ (s.putCram a l).snapClr = s.snapClr ∧ (s.putCram a l).snapMbx = s.snapMbx ∧ (s.putCram a l).shrews = s.shrews ∧
    (s.putCram a l).shrPm = s.shrPm ∧ (s.putCram a l).shrFlags = s.shrFlags ∧ (s.putCram a l).gpLvl = s.gpLvl ∧
    (s.putCram a l).gpOe = s.gpOe ∧ (s.putCram a l).vddio33 = s.vddio33 ∧ (s.putCram a l).ports = s.ports ∧ (s.putCram a
    l).arriving = s.arriving ∧ (s.putCram a l).ring = s.ring ∧ (s.putCram a l).ringLanes = s.ringLanes ∧ (s.putCram a
    l).cans = s.cans ∧ (s.putCram a l).canLocks = s.canLocks ∧ (s.putCram a l).hwq = s.hwq ∧ (s.putCram a l).owlRep =
    s.owlRep ∧ (s.putCram a l).owl = s.owl ∧ (s.putCram a l).conns = s.conns ∧ (s.putCram a l).tws = s.tws ∧ (s.putCram
    a l).taps = s.taps ∧ (s.putCram a l).flashLog = s.flashLog ∧ (s.putCram a l).supOut = s.supOut ∧ (s.putCram a
    l).pwHash = s.pwHash ∧ (s.putCram a l).trngN = s.trngN ∧ (s.putCram a l).hlog = s.hlog ∧ (s.putCram a l).waitWr =
    s.waitWr ∧ (s.putCram a l).pfail = s.pfail ∧ (s.putCram a l).off = s.off ∧ (s.putCram a l).released = s.released ∧
    (s.putCram a l).mbxSeq = s.mbxSeq ∧ (s.putCram a l).msix = s.msix ∧ (s.putCram a l).pba = s.pba ∧ (s.putCram a
    l).selRec = s.selRec ∧ (s.putCram a l).prof = s.prof ∧ (s.putCram a l).bundle = s.bundle ∧ (s.putCram a l).startQ =
    s.startQ ∧ (s.putCram a l).switch = s.switch ∧ (s.putCram a l).imgHash = s.imgHash ∧ (s.putCram a l).settOut =
    s.settOut ∧ (s.putCram a l).fstep = s.fstep ∧ (s.putCram a l).stepMask = s.stepMask ∧ (s.putCram a l).d3pend =
    s.d3pend := by
  exact ⟨rfl, rfl, rfl, rfl, rfl, rfl, rfl, rfl, rfl, rfl, rfl, rfl, rfl, rfl, rfl, rfl, rfl, rfl, rfl, rfl, rfl, rfl, rfl,
    rfl, rfl, rfl, rfl, rfl, rfl, rfl, rfl, rfl, rfl, rfl, rfl, rfl, rfl, rfl, rfl, rfl, rfl, rfl, rfl, rfl, rfl, rfl,
    rfl, rfl, rfl, rfl, rfl, rfl, rfl, rfl, rfl, rfl, rfl, rfl, rfl, rfl, rfl, rfl, rfl, rfl, rfl, rfl, rfl, rfl, rfl,
    rfl, rfl, rfl, rfl, rfl, rfl, rfl, rfl, rfl, rfl, rfl, rfl, rfl, rfl, rfl, rfl, rfl, rfl, rfl, rfl, rfl, rfl, rfl,
    rfl, rfl, rfl, rfl, rfl, rfl, rfl, rfl, rfl, rfl, rfl, rfl, rfl, rfl, rfl, rfl, rfl, rfl, rfl⟩

/-- `putHost` changes `hostMem` and nothing else. -/
@[simp] theorem State.putHost_frame (s : State) (a : Nat) (l : List Byte) :
    (s.putHost a l).pending = s.pending ∧ (s.putHost a l).pend = s.pend ∧ (s.putHost a l).actv = s.actv ∧ (s.putHost a
    l).live = s.live ∧ (s.putHost a l).held = s.held ∧ (s.putHost a l).fresh = s.fresh ∧ (s.putHost a l).rdata = s.rdata
    ∧ (s.putHost a l).time = s.time ∧ (s.putHost a l).up = s.up ∧ (s.putHost a l).relAt = s.relAt ∧ (s.putHost a
    l).timers = s.timers ∧ (s.putHost a l).slew = s.slew ∧ (s.putHost a l).ppsGood = s.ppsGood ∧ (s.putHost a l).srcLock
    = s.srcLock ∧ (s.putHost a l).ppsOut = s.ppsOut ∧ (s.putHost a l).axes = s.axes ∧ (s.putHost a l).plls = s.plls ∧
    (s.putHost a l).cal = s.cal ∧ (s.putHost a l).capt = s.capt ∧ (s.putHost a l).gates = s.gates ∧ (s.putHost a
    l).threads = s.threads ∧ (s.putHost a l).engines = s.engines ∧ (s.putHost a l).sigs = s.sigs ∧ (s.putHost a l).im =
    s.im ∧ (s.putHost a l).dm = s.dm ∧ (s.putHost a l).frames = s.frames ∧ (s.putHost a l).pinQ = s.pinQ ∧ (s.putHost a
    l).midQ = s.midQ ∧ (s.putHost a l).outQ = s.outQ ∧ (s.putHost a l).txing = s.txing ∧ (s.putHost a l).stage = s.stage
    ∧ (s.putHost a l).mirUse = s.mirUse ∧ (s.putHost a l).rxNum = s.rxNum ∧ (s.putHost a l).txNum = s.txNum ∧ (s.putHost
    a l).subm = s.subm ∧ (s.putHost a l).cram = s.cram ∧ (s.putHost a l).poison = s.poison ∧ (s.putHost a l).pwe = s.pwe
    ∧ (s.putHost a l).htx = s.htx ∧ (s.putHost a l).htxc = s.htxc ∧ (s.putHost a l).mbx = s.mbx ∧ (s.putHost a
    l).syncTotal = s.syncTotal ∧ (s.putHost a l).evq = s.evq ∧ (s.putHost a l).evOpen = s.evOpen ∧ (s.putHost a
    l).evFifo = s.evFifo ∧ (s.putHost a l).ueLog = s.ueLog ∧ (s.putHost a l).refLog = s.refLog ∧ (s.putHost a l).chans =
    s.chans ∧ (s.putHost a l).health = s.health ∧ (s.putHost a l).healthSeq = s.healthSeq ∧ (s.putHost a l).irqSent =
    s.irqSent ∧ (s.putHost a l).irqMode = s.irqMode ∧ (s.putHost a l).msiLog = s.msiLog ∧ (s.putHost a l).d3hot =
    s.d3hot ∧ (s.putHost a l).lbusLow = s.lbusLow ∧ (s.putHost a l).lbusHold = s.lbusHold ∧ (s.putHost a l).lbusLast =
    s.lbusLast ∧ (s.putHost a l).imgCur = s.imgCur ∧ (s.putHost a l).imgBack = s.imgBack ∧ (s.putHost a l).imgLease =
    s.imgLease ∧ (s.putHost a l).backBlk = s.backBlk ∧ (s.putHost a l).leaseBlk = s.leaseBlk ∧ (s.putHost a l).commitReq
    = s.commitReq ∧ (s.putHost a l).leaseNs = s.leaseNs ∧ (s.putHost a l).leaseExp = s.leaseExp ∧ (s.putHost a
    l).flowMem = s.flowMem ∧ (s.putHost a l).apply = s.apply ∧ (s.putHost a l).olds = s.olds ∧ (s.putHost a l).snapDue =
    s.snapDue ∧ (s.putHost a l).snapWhn = s.snapWhn ∧ (s.putHost a l).snapClr = s.snapClr ∧ (s.putHost a l).snapMbx =
    s.snapMbx ∧ (s.putHost a l).shrews = s.shrews ∧ (s.putHost a l).shrPm = s.shrPm ∧ (s.putHost a l).shrFlags =
    s.shrFlags ∧ (s.putHost a l).gpLvl = s.gpLvl ∧ (s.putHost a l).gpOe = s.gpOe ∧ (s.putHost a l).vddio33 = s.vddio33 ∧
    (s.putHost a l).ports = s.ports ∧ (s.putHost a l).arriving = s.arriving ∧ (s.putHost a l).ring = s.ring ∧ (s.putHost
    a l).ringLanes = s.ringLanes ∧ (s.putHost a l).cans = s.cans ∧ (s.putHost a l).canLocks = s.canLocks ∧ (s.putHost a
    l).hwq = s.hwq ∧ (s.putHost a l).owlRep = s.owlRep ∧ (s.putHost a l).owl = s.owl ∧ (s.putHost a l).conns = s.conns ∧
    (s.putHost a l).tws = s.tws ∧ (s.putHost a l).taps = s.taps ∧ (s.putHost a l).flashLog = s.flashLog ∧ (s.putHost a
    l).supOut = s.supOut ∧ (s.putHost a l).pwHash = s.pwHash ∧ (s.putHost a l).trngN = s.trngN ∧ (s.putHost a l).hlog =
    s.hlog ∧ (s.putHost a l).waitWr = s.waitWr ∧ (s.putHost a l).pfail = s.pfail ∧ (s.putHost a l).off = s.off ∧
    (s.putHost a l).released = s.released ∧ (s.putHost a l).mbxSeq = s.mbxSeq ∧ (s.putHost a l).msix = s.msix ∧
    (s.putHost a l).pba = s.pba ∧ (s.putHost a l).selRec = s.selRec ∧ (s.putHost a l).prof = s.prof ∧ (s.putHost a
    l).bundle = s.bundle ∧ (s.putHost a l).startQ = s.startQ ∧ (s.putHost a l).switch = s.switch ∧ (s.putHost a
    l).imgHash = s.imgHash ∧ (s.putHost a l).settOut = s.settOut ∧ (s.putHost a l).fstep = s.fstep ∧ (s.putHost a
    l).stepMask = s.stepMask ∧ (s.putHost a l).d3pend = s.d3pend := by
  exact ⟨rfl, rfl, rfl, rfl, rfl, rfl, rfl, rfl, rfl, rfl, rfl, rfl, rfl, rfl, rfl, rfl, rfl, rfl, rfl, rfl, rfl, rfl, rfl,
    rfl, rfl, rfl, rfl, rfl, rfl, rfl, rfl, rfl, rfl, rfl, rfl, rfl, rfl, rfl, rfl, rfl, rfl, rfl, rfl, rfl, rfl, rfl,
    rfl, rfl, rfl, rfl, rfl, rfl, rfl, rfl, rfl, rfl, rfl, rfl, rfl, rfl, rfl, rfl, rfl, rfl, rfl, rfl, rfl, rfl, rfl,
    rfl, rfl, rfl, rfl, rfl, rfl, rfl, rfl, rfl, rfl, rfl, rfl, rfl, rfl, rfl, rfl, rfl, rfl, rfl, rfl, rfl, rfl, rfl,
    rfl, rfl, rfl, rfl, rfl, rfl, rfl, rfl, rfl, rfl, rfl, rfl, rfl, rfl, rfl, rfl, rfl, rfl, rfl, rfl⟩

/-- `tookFree` changes `fresh` and nothing else. -/
@[simp] theorem State.tookFree_frame (s : State) :
    (s.tookFree).pending = s.pending ∧ (s.tookFree).pend = s.pend ∧ (s.tookFree).actv = s.actv ∧ (s.tookFree).live =
    s.live ∧ (s.tookFree).held = s.held ∧ (s.tookFree).rdata = s.rdata ∧ (s.tookFree).time = s.time ∧ (s.tookFree).up =
    s.up ∧ (s.tookFree).relAt = s.relAt ∧ (s.tookFree).timers = s.timers ∧ (s.tookFree).slew = s.slew ∧
    (s.tookFree).ppsGood = s.ppsGood ∧ (s.tookFree).srcLock = s.srcLock ∧ (s.tookFree).ppsOut = s.ppsOut ∧
    (s.tookFree).axes = s.axes ∧ (s.tookFree).plls = s.plls ∧ (s.tookFree).cal = s.cal ∧ (s.tookFree).capt = s.capt ∧
    (s.tookFree).gates = s.gates ∧ (s.tookFree).threads = s.threads ∧ (s.tookFree).engines = s.engines ∧
    (s.tookFree).sigs = s.sigs ∧ (s.tookFree).im = s.im ∧ (s.tookFree).dm = s.dm ∧ (s.tookFree).frames = s.frames ∧
    (s.tookFree).pinQ = s.pinQ ∧ (s.tookFree).midQ = s.midQ ∧ (s.tookFree).outQ = s.outQ ∧ (s.tookFree).txing = s.txing
    ∧ (s.tookFree).stage = s.stage ∧ (s.tookFree).mirUse = s.mirUse ∧ (s.tookFree).rxNum = s.rxNum ∧ (s.tookFree).txNum
    = s.txNum ∧ (s.tookFree).subm = s.subm ∧ (s.tookFree).cram = s.cram ∧ (s.tookFree).poison = s.poison ∧
    (s.tookFree).hostMem = s.hostMem ∧ (s.tookFree).pwe = s.pwe ∧ (s.tookFree).htx = s.htx ∧ (s.tookFree).htxc = s.htxc
    ∧ (s.tookFree).mbx = s.mbx ∧ (s.tookFree).syncTotal = s.syncTotal ∧ (s.tookFree).evq = s.evq ∧ (s.tookFree).evOpen =
    s.evOpen ∧ (s.tookFree).evFifo = s.evFifo ∧ (s.tookFree).ueLog = s.ueLog ∧ (s.tookFree).refLog = s.refLog ∧
    (s.tookFree).chans = s.chans ∧ (s.tookFree).health = s.health ∧ (s.tookFree).healthSeq = s.healthSeq ∧
    (s.tookFree).irqSent = s.irqSent ∧ (s.tookFree).irqMode = s.irqMode ∧ (s.tookFree).msiLog = s.msiLog ∧
    (s.tookFree).d3hot = s.d3hot ∧ (s.tookFree).lbusLow = s.lbusLow ∧ (s.tookFree).lbusHold = s.lbusHold ∧
    (s.tookFree).lbusLast = s.lbusLast ∧ (s.tookFree).imgCur = s.imgCur ∧ (s.tookFree).imgBack = s.imgBack ∧
    (s.tookFree).imgLease = s.imgLease ∧ (s.tookFree).backBlk = s.backBlk ∧ (s.tookFree).leaseBlk = s.leaseBlk ∧
    (s.tookFree).commitReq = s.commitReq ∧ (s.tookFree).leaseNs = s.leaseNs ∧ (s.tookFree).leaseExp = s.leaseExp ∧
    (s.tookFree).flowMem = s.flowMem ∧ (s.tookFree).apply = s.apply ∧ (s.tookFree).olds = s.olds ∧ (s.tookFree).snapDue
    = s.snapDue ∧ (s.tookFree).snapWhn = s.snapWhn ∧ (s.tookFree).snapClr = s.snapClr ∧ (s.tookFree).snapMbx = s.snapMbx
    ∧ (s.tookFree).shrews = s.shrews ∧ (s.tookFree).shrPm = s.shrPm ∧ (s.tookFree).shrFlags = s.shrFlags ∧
    (s.tookFree).gpLvl = s.gpLvl ∧ (s.tookFree).gpOe = s.gpOe ∧ (s.tookFree).vddio33 = s.vddio33 ∧ (s.tookFree).ports =
    s.ports ∧ (s.tookFree).arriving = s.arriving ∧ (s.tookFree).ring = s.ring ∧ (s.tookFree).ringLanes = s.ringLanes ∧
    (s.tookFree).cans = s.cans ∧ (s.tookFree).canLocks = s.canLocks ∧ (s.tookFree).hwq = s.hwq ∧ (s.tookFree).owlRep =
    s.owlRep ∧ (s.tookFree).owl = s.owl ∧ (s.tookFree).conns = s.conns ∧ (s.tookFree).tws = s.tws ∧ (s.tookFree).taps =
    s.taps ∧ (s.tookFree).flashLog = s.flashLog ∧ (s.tookFree).supOut = s.supOut ∧ (s.tookFree).pwHash = s.pwHash ∧
    (s.tookFree).trngN = s.trngN ∧ (s.tookFree).hlog = s.hlog ∧ (s.tookFree).waitWr = s.waitWr ∧ (s.tookFree).pfail =
    s.pfail ∧ (s.tookFree).off = s.off ∧ (s.tookFree).released = s.released ∧ (s.tookFree).mbxSeq = s.mbxSeq ∧
    (s.tookFree).msix = s.msix ∧ (s.tookFree).pba = s.pba ∧ (s.tookFree).selRec = s.selRec ∧ (s.tookFree).prof = s.prof
    ∧ (s.tookFree).bundle = s.bundle ∧ (s.tookFree).startQ = s.startQ ∧ (s.tookFree).switch = s.switch ∧
    (s.tookFree).imgHash = s.imgHash ∧ (s.tookFree).settOut = s.settOut ∧ (s.tookFree).fstep = s.fstep ∧
    (s.tookFree).stepMask = s.stepMask ∧ (s.tookFree).d3pend = s.d3pend := by
  exact ⟨rfl, rfl, rfl, rfl, rfl, rfl, rfl, rfl, rfl, rfl, rfl, rfl, rfl, rfl, rfl, rfl, rfl, rfl, rfl, rfl, rfl, rfl, rfl,
    rfl, rfl, rfl, rfl, rfl, rfl, rfl, rfl, rfl, rfl, rfl, rfl, rfl, rfl, rfl, rfl, rfl, rfl, rfl, rfl, rfl, rfl, rfl,
    rfl, rfl, rfl, rfl, rfl, rfl, rfl, rfl, rfl, rfl, rfl, rfl, rfl, rfl, rfl, rfl, rfl, rfl, rfl, rfl, rfl, rfl, rfl,
    rfl, rfl, rfl, rfl, rfl, rfl, rfl, rfl, rfl, rfl, rfl, rfl, rfl, rfl, rfl, rfl, rfl, rfl, rfl, rfl, rfl, rfl, rfl,
    rfl, rfl, rfl, rfl, rfl, rfl, rfl, rfl, rfl, rfl, rfl, rfl, rfl, rfl, rfl, rfl, rfl, rfl, rfl, rfl⟩

/-! ## Register fields -/

/-- Fields of different registers or bits have different numbers. -/
theorem Field.key_ne {f g : Field} (h : f.id ≠ g.id) (i j : Nat) : f.key i ≠ g.key j := by
  unfold Field.key; omega
/-- Instances of one field have different numbers. -/
theorem Field.key_inst {f : Field} {i j : Nat} (h : i % 1048576 ≠ j % 1048576) : f.key i ≠ f.key j := by
  unfold Field.key; omega

theorem State.get_put_ne (s : State) {f g : Field} {i j : Nat} (v : Nat) (h : f.key i ≠ g.key j) :
    (s.put f i v).get g j = s.get g j := by
  have h' : g.key j ≠ f.key i := fun e => h e.symm
  unfold State.put State.get
  cases f.staged <;> cases g.staged <;> simp [SMap.get_set_other _ _ _ _ h']
theorem State.act_put_ne (s : State) {f g : Field} {i j : Nat} (v : Nat) (h : f.key i ≠ g.key j) :
    (s.put f i v).act g j = s.act g j := by
  have h' : g.key j ≠ f.key i := fun e => h e.symm
  unfold State.put State.act
  cases f.staged <;> cases g.staged <;> simp [SMap.get_set_other _ _ _ _ h']
/-- A field reads as the value written, cut to its width. -/
@[simp] theorem State.get_put (s : State) (f : Field) (i v : Nat) : (s.put f i v).get f i = v % 2 ^ f.w := by
  unfold State.put State.get
  cases f.staged <;> simp
/-- Writing an S field leaves its active value (R16). -/
theorem State.act_put_staged (s : State) {f : Field} (h : f.staged = true) (i v : Nat) (g : Field) (j : Nat) :
    (s.put f i v).act g j = s.act g j := by
  unfold State.put State.act
  cases g.staged <;> simp [h]
/-- An L field has one value (R21). -/
theorem State.act_of_live (s : State) {f : Field} (h : f.staged = false) (i : Nat) : s.act f i = s.get f i := by
  unfold State.act State.get; simp [h]
@[simp] theorem State.get_put_id (s : State) {f g : Field} (i j v : Nat) (h : f.id ≠ g.id) :
    (s.put f i v).get g j = s.get g j := s.get_put_ne v (Field.key_ne h i j)
@[simp] theorem State.act_put_id (s : State) {f g : Field} (i j v : Nat) (h : f.id ≠ g.id) :
    (s.put f i v).act g j = s.act g j := s.act_put_ne v (Field.key_ne h i j)
@[simp] theorem State.on_put_id (s : State) {f g : Field} (i j v : Nat) (h : f.id ≠ g.id) :
    (s.put f i v).on g j = s.on g j := by unfold State.on; rw [s.act_put_id i j v h]
theorem State.act_putAct_ne (s : State) {f g : Field} {i j : Nat} (v : Nat) (h : f.key i ≠ g.key j) :
    (s.putAct f i v).act g j = s.act g j := by
  have h' : g.key j ≠ f.key i := fun e => h e.symm
  unfold State.putAct State.act
  cases g.staged <;> simp [SMap.get_set_other _ _ _ _ h']
@[simp] theorem State.act_putAct (s : State) {f : Field} (h : f.staged = true) (i v : Nat) :
    (s.putAct f i v).act f i = v % 2 ^ f.w := by
  unfold State.putAct State.act; simp [h]
@[simp] theorem State.get_putAct (s : State) (f g : Field) (i j v : Nat) : (s.putAct f i v).get g j = s.get g j := rfl

/-- What a read of any field returns depends on the pending and the live values only. -/
theorem State.get_congr {s t : State} (hp : t.pend = s.pend) (hl : t.live = s.live) (f : Field) (i : Nat) :
    t.get f i = s.get f i := by unfold State.get; rw [hp, hl]
theorem State.act_congr {s t : State} (ha : t.actv = s.actv) (hl : t.live = s.live) (f : Field) (i : Nat) :
    t.act f i = s.act f i := by unfold State.act; rw [ha, hl]
@[simp] theorem State.get_setTh (s : State) (k : Nat) (x : Thread) (f : Field) (j : Nat) : (s.setTh k x).get f j = s.get f j := rfl
@[simp] theorem State.act_setTh (s : State) (k : Nat) (x : Thread) (f : Field) (j : Nat) : (s.setTh k x).act f j = s.act f j := rfl
@[simp] theorem State.on_setTh (s : State) (k : Nat) (x : Thread) (f : Field) (j : Nat) : (s.setTh k x).on f j = s.on f j := rfl
@[simp] theorem State.get_updTh (s : State) (k : Nat) (g : Thread → Thread) (f : Field) (j : Nat) : (s.updTh k g).get f j = s.get f j := rfl
@[simp] theorem State.act_updTh (s : State) (k : Nat) (g : Thread → Thread) (f : Field) (j : Nat) : (s.updTh k g).act f j = s.act f j := rfl
@[simp] theorem State.on_updTh (s : State) (k : Nat) (g : Thread → Thread) (f : Field) (j : Nat) : (s.updTh k g).on f j = s.on f j := rfl
@[simp] theorem State.get_setEng (s : State) (k : Nat) (x : Engine) (f : Field) (j : Nat) : (s.setEng k x).get f j = s.get f j := rfl
@[simp] theorem State.act_setEng (s : State) (k : Nat) (x : Engine) (f : Field) (j : Nat) : (s.setEng k x).act f j = s.act f j := rfl
@[simp] theorem State.on_setEng (s : State) (k : Nat) (x : Engine) (f : Field) (j : Nat) : (s.setEng k x).on f j = s.on f j := rfl
@[simp] theorem State.get_setFrame (s : State) (k : Nat) (x : Frame) (f : Field) (j : Nat) : (s.setFrame k x).get f j = s.get f j := rfl
@[simp] theorem State.act_setFrame (s : State) (k : Nat) (x : Frame) (f : Field) (j : Nat) : (s.setFrame k x).act f j = s.act f j := rfl
@[simp] theorem State.on_setFrame (s : State) (k : Nat) (x : Frame) (f : Field) (j : Nat) : (s.setFrame k x).on f j = s.on f j := rfl
@[simp] theorem State.get_setCal (s : State) (k : Nat) (x : CalEnt) (f : Field) (j : Nat) : (s.setCal k x).get f j = s.get f j := rfl
@[simp] theorem State.act_setCal (s : State) (k : Nat) (x : CalEnt) (f : Field) (j : Nat) : (s.setCal k x).act f j = s.act f j := rfl
@[simp] theorem State.on_setCal (s : State) (k : Nat) (x : CalEnt) (f : Field) (j : Nat) : (s.setCal k x).on f j = s.on f j := rfl
@[simp] theorem State.get_setAxis (s : State) (k : Nat) (x : Axis) (f : Field) (j : Nat) : (s.setAxis k x).get f j = s.get f j := rfl
@[simp] theorem State.act_setAxis (s : State) (k : Nat) (x : Axis) (f : Field) (j : Nat) : (s.setAxis k x).act f j = s.act f j := rfl
@[simp] theorem State.on_setAxis (s : State) (k : Nat) (x : Axis) (f : Field) (j : Nat) : (s.setAxis k x).on f j = s.on f j := rfl
@[simp] theorem State.get_setMb (s : State) (k : Nat) (x : Mbx) (f : Field) (j : Nat) : (s.setMb k x).get f j = s.get f j := rfl
@[simp] theorem State.act_setMb (s : State) (k : Nat) (x : Mbx) (f : Field) (j : Nat) : (s.setMb k x).act f j = s.act f j := rfl
@[simp] theorem State.on_setMb (s : State) (k : Nat) (x : Mbx) (f : Field) (j : Nat) : (s.setMb k x).on f j = s.on f j := rfl
@[simp] theorem State.get_setChan (s : State) (k : Nat) (x : Chan) (f : Field) (j : Nat) : (s.setChan k x).get f j = s.get f j := rfl
@[simp] theorem State.act_setChan (s : State) (k : Nat) (x : Chan) (f : Field) (j : Nat) : (s.setChan k x).act f j = s.act f j := rfl
@[simp] theorem State.on_setChan (s : State) (k : Nat) (x : Chan) (f : Field) (j : Nat) : (s.setChan k x).on f j = s.on f j := rfl
@[simp] theorem State.get_setMark (s : State) (t u w : Nat) (b : Bool) (f : Field) (j : Nat) : (s.setMark t u w b).get f j = s.get f j := rfl
@[simp] theorem State.act_setMark (s : State) (t u w : Nat) (b : Bool) (f : Field) (j : Nat) : (s.setMark t u w b).act f j = s.act f j := rfl
@[simp] theorem State.on_setMark (s : State) (t u w : Nat) (b : Bool) (f : Field) (j : Nat) : (s.setMark t u w b).on f j = s.on f j := rfl
@[simp] theorem State.get_putCram (s : State) (a : Nat) (l : List Byte) (f : Field) (j : Nat) : (s.putCram a l).get f j = s.get f j := rfl
@[simp] theorem State.act_putCram (s : State) (a : Nat) (l : List Byte) (f : Field) (j : Nat) : (s.putCram a l).act f j = s.act f j := rfl
@[simp] theorem State.on_putCram (s : State) (a : Nat) (l : List Byte) (f : Field) (j : Nat) : (s.putCram a l).on f j = s.on f j := rfl
@[simp] theorem State.get_putHost (s : State) (a : Nat) (l : List Byte) (f : Field) (j : Nat) : (s.putHost a l).get f j = s.get f j := rfl
@[simp] theorem State.act_putHost (s : State) (a : Nat) (l : List Byte) (f : Field) (j : Nat) : (s.putHost a l).act f j = s.act f j := rfl
@[simp] theorem State.on_putHost (s : State) (a : Nat) (l : List Byte) (f : Field) (j : Nat) : (s.putHost a l).on f j = s.on f j := rfl
@[simp] theorem State.get_tookFree (s : State) (f : Field) (j : Nat) : (s.tookFree).get f j = s.get f j := rfl
@[simp] theorem State.act_tookFree (s : State) (f : Field) (j : Nat) : (s.tookFree).act f j = s.act f j := rfl
@[simp] theorem State.on_tookFree (s : State) (f : Field) (j : Nat) : (s.tookFree).on f j = s.on f j := rfl

/-! ## Records -/

@[simp] theorem State.th_setTh (s : State) (k : Nat) (x : Thread) : (s.setTh k x).th k = x := by
  simp [State.th, State.setTh]
theorem State.th_setTh_ne (s : State) {k j : Nat} (x : Thread) (h : j ≠ k) : (s.setTh k x).th j = s.th j := by
  simp [State.th, State.setTh, SMap.get_set_ne _ _ _ h]
@[simp] theorem State.th_put (s : State) (f : Field) (i v k : Nat) : (s.put f i v).th k = s.th k := by simp [State.th]
@[simp] theorem State.eng_setEng (s : State) (k : Nat) (x : Engine) : (s.setEng k x).eng k = x := by
  simp [State.eng, State.setEng]
theorem State.eng_setEng_ne (s : State) {k j : Nat} (x : Engine) (h : j ≠ k) : (s.setEng k x).eng j = s.eng j := by
  simp [State.eng, State.setEng, SMap.get_set_ne _ _ _ h]
@[simp] theorem State.eng_put (s : State) (f : Field) (i v k : Nat) : (s.put f i v).eng k = s.eng k := by simp [State.eng]
@[simp] theorem State.frame_setFrame (s : State) (k : Nat) (x : Frame) : (s.setFrame k x).frame k = x := by
  simp [State.frame, State.setFrame]
theorem State.frame_setFrame_ne (s : State) {k j : Nat} (x : Frame) (h : j ≠ k) : (s.setFrame k x).frame j = s.frame j := by
  simp [State.frame, State.setFrame, SMap.get_set_ne _ _ _ h]
@[simp] theorem State.frame_put (s : State) (f : Field) (i v k : Nat) : (s.put f i v).frame k = s.frame k := by simp [State.frame]
@[simp] theorem State.calE_setCal (s : State) (k : Nat) (x : CalEnt) : (s.setCal k x).calE k = x := by
  simp [State.calE, State.setCal]
theorem State.calE_setCal_ne (s : State) {k j : Nat} (x : CalEnt) (h : j ≠ k) : (s.setCal k x).calE j = s.calE j := by
  simp [State.calE, State.setCal, SMap.get_set_ne _ _ _ h]
@[simp] theorem State.calE_put (s : State) (f : Field) (i v k : Nat) : (s.put f i v).calE k = s.calE k := by simp [State.calE]
@[simp] theorem State.axis_setAxis (s : State) (k : Nat) (x : Axis) : (s.setAxis k x).axis k = x := by
  simp [State.axis, State.setAxis]
theorem State.axis_setAxis_ne (s : State) {k j : Nat} (x : Axis) (h : j ≠ k) : (s.setAxis k x).axis j = s.axis j := by
  simp [State.axis, State.setAxis, SMap.get_set_ne _ _ _ h]
@[simp] theorem State.axis_put (s : State) (f : Field) (i v k : Nat) : (s.put f i v).axis k = s.axis k := by simp [State.axis]
@[simp] theorem State.mb_setMb (s : State) (k : Nat) (x : Mbx) : (s.setMb k x).mb k = x := by
  simp [State.mb, State.setMb]
theorem State.mb_setMb_ne (s : State) {k j : Nat} (x : Mbx) (h : j ≠ k) : (s.setMb k x).mb j = s.mb j := by
  simp [State.mb, State.setMb, SMap.get_set_ne _ _ _ h]
@[simp] theorem State.mb_put (s : State) (f : Field) (i v k : Nat) : (s.put f i v).mb k = s.mb k := by simp [State.mb]
@[simp] theorem State.chan_setChan (s : State) (k : Nat) (x : Chan) : (s.setChan k x).chan k = x := by
  simp [State.chan, State.setChan]
theorem State.chan_setChan_ne (s : State) {k j : Nat} (x : Chan) (h : j ≠ k) : (s.setChan k x).chan j = s.chan j := by
  simp [State.chan, State.setChan, SMap.get_set_ne _ _ _ h]
@[simp] theorem State.chan_put (s : State) (f : Field) (i v k : Nat) : (s.put f i v).chan k = s.chan k := by simp [State.chan]
@[simp] theorem State.th_updTh (s : State) (k : Nat) (g : Thread → Thread) : (s.updTh k g).th k = g (s.th k) := by
  simp [State.updTh]
theorem State.th_updTh_ne (s : State) {k j : Nat} (g : Thread → Thread) (h : j ≠ k) : (s.updTh k g).th j = s.th j :=
  s.th_setTh_ne _ h

/-- A fold keeps what each of its steps keeps. -/
theorem State.each_keep {α β : Type} (p : State → β) (g : State → α → State) (h : ∀ t x, p (g t x) = p t) (l : List α) (s : State) :
    p (s.each l g) = p s := by
  unfold State.each
  induction l generalizing s with
  | nil => rfl
  | cons x r ih => rw [List.foldl_cons, ih, h]
/-- A fold keeps a property that each of its steps keeps. -/
theorem State.each_inv {α : Type} (p : State → Prop) (g : State → α → State) (h : ∀ t x, p t → p (g t x)) (l : List α) (s : State)
    (hs : p s) : p (s.each l g) := by
  unfold State.each
  induction l generalizing s with
  | nil => exact hs
  | cons x r ih => exact ih _ (h _ _ hs)

end Sys2Proof.Machine
end

