-- ==== Sys2Proof/Laws/Ops.lean ====
section
/-!
SUPPORT. What each shared operation of Machine/Ops.lean leaves alone, and what it writes.
-/
namespace Sys2Proof.Machine

/-- `inc` changes `pend`, `live` and nothing else. -/
@[simp] theorem State.inc_frame (s : State) (f : Field) (i n : Nat) :
    (s.inc f i n).pending = s.pending ∧ (s.inc f i n).actv = s.actv ∧ (s.inc f i n).held = s.held ∧ (s.inc f i n).fresh
    = s.fresh ∧ (s.inc f i n).rdata = s.rdata ∧ (s.inc f i n).time = s.time ∧ (s.inc f i n).up = s.up ∧ (s.inc f i
    n).relAt = s.relAt ∧ (s.inc f i n).timers = s.timers ∧ (s.inc f i n).slew = s.slew ∧ (s.inc f i n).ppsGood =
    s.ppsGood ∧ (s.inc f i n).srcLock = s.srcLock ∧ (s.inc f i n).ppsOut = s.ppsOut ∧ (s.inc f i n).axes = s.axes ∧
    (s.inc f i n).plls = s.plls ∧ (s.inc f i n).cal = s.cal ∧ (s.inc f i n).capt = s.capt ∧ (s.inc f i n).gates =
    s.gates ∧ (s.inc f i n).threads = s.threads ∧ (s.inc f i n).engines = s.engines ∧ (s.inc f i n).sigs = s.sigs ∧
    (s.inc f i n).im = s.im ∧ (s.inc f i n).dm = s.dm ∧ (s.inc f i n).frames = s.frames ∧ (s.inc f i n).pinQ = s.pinQ ∧
    (s.inc f i n).midQ = s.midQ ∧ (s.inc f i n).outQ = s.outQ ∧ (s.inc f i n).txing = s.txing ∧ (s.inc f i n).stage =
    s.stage ∧ (s.inc f i n).mirUse = s.mirUse ∧ (s.inc f i n).rxNum = s.rxNum ∧ (s.inc f i n).txNum = s.txNum ∧ (s.inc f
    i n).subm = s.subm ∧ (s.inc f i n).cram = s.cram ∧ (s.inc f i n).poison = s.poison ∧ (s.inc f i n).hostMem =
    s.hostMem ∧ (s.inc f i n).pwe = s.pwe ∧ (s.inc f i n).htx = s.htx ∧ (s.inc f i n).htxc = s.htxc ∧ (s.inc f i n).mbx
    = s.mbx ∧ (s.inc f i n).syncTotal = s.syncTotal ∧ (s.inc f i n).evq = s.evq ∧ (s.inc f i n).evOpen = s.evOpen ∧
    (s.inc f i n).evFifo = s.evFifo ∧ (s.inc f i n).ueLog = s.ueLog ∧ (s.inc f i n).refLog = s.refLog ∧ (s.inc f i
    n).chans = s.chans ∧ (s.inc f i n).health = s.health ∧ (s.inc f i n).healthSeq = s.healthSeq ∧ (s.inc f i n).irqSent
    = s.irqSent ∧ (s.inc f i n).irqMode = s.irqMode ∧ (s.inc f i n).msiLog = s.msiLog ∧ (s.inc f i n).d3hot = s.d3hot ∧
    (s.inc f i n).lbusLow = s.lbusLow ∧ (s.inc f i n).lbusHold = s.lbusHold ∧ (s.inc f i n).lbusLast = s.lbusLast ∧
    (s.inc f i n).imgCur = s.imgCur ∧ (s.inc f i n).imgBack = s.imgBack ∧ (s.inc f i n).imgLease = s.imgLease ∧ (s.inc f
    i n).backBlk = s.backBlk ∧ (s.inc f i n).leaseBlk = s.leaseBlk ∧ (s.inc f i n).commitReq = s.commitReq ∧ (s.inc f i
    n).leaseNs = s.leaseNs ∧ (s.inc f i n).leaseExp = s.leaseExp ∧ (s.inc f i n).flowMem = s.flowMem ∧ (s.inc f i
    n).apply = s.apply ∧ (s.inc f i n).olds = s.olds ∧ (s.inc f i n).snapDue = s.snapDue ∧ (s.inc f i n).snapWhn =
    s.snapWhn ∧ (s.inc f i n).snapClr = s.snapClr ∧ (s.inc f i n).snapMbx = s.snapMbx ∧ (s.inc f i n).shrews = s.shrews
    ∧ (s.inc f i n).shrPm = s.shrPm ∧ (s.inc f i n).shrFlags = s.shrFlags ∧ (s.inc f i n).gpLvl = s.gpLvl ∧ (s.inc f i
    n).gpOe = s.gpOe ∧ (s.inc f i n).vddio33 = s.vddio33 ∧ (s.inc f i n).ports = s.ports ∧ (s.inc f i n).arriving =
    s.arriving ∧ (s.inc f i n).ring = s.ring ∧ (s.inc f i n).ringLanes = s.ringLanes ∧ (s.inc f i n).cans = s.cans ∧
    (s.inc f i n).canLocks = s.canLocks ∧ (s.inc f i n).hwq = s.hwq ∧ (s.inc f i n).owlRep = s.owlRep ∧ (s.inc f i
    n).owl = s.owl ∧ (s.inc f i n).conns = s.conns ∧ (s.inc f i n).tws = s.tws ∧ (s.inc f i n).taps = s.taps ∧ (s.inc f
    i n).flashLog = s.flashLog ∧ (s.inc f i n).supOut = s.supOut ∧ (s.inc f i n).pwHash = s.pwHash ∧ (s.inc f i n).trngN
    = s.trngN ∧ (s.inc f i n).hlog = s.hlog ∧ (s.inc f i n).waitWr = s.waitWr ∧ (s.inc f i n).pfail = s.pfail ∧ (s.inc f
    i n).off = s.off ∧ (s.inc f i n).released = s.released ∧ (s.inc f i n).mbxSeq = s.mbxSeq ∧ (s.inc f i n).msix =
    s.msix ∧ (s.inc f i n).pba = s.pba ∧ (s.inc f i n).selRec = s.selRec ∧ (s.inc f i n).prof = s.prof ∧ (s.inc f i
    n).bundle = s.bundle ∧ (s.inc f i n).startQ = s.startQ ∧ (s.inc f i n).switch = s.switch ∧ (s.inc f i n).imgHash =
    s.imgHash ∧ (s.inc f i n).settOut = s.settOut ∧ (s.inc f i n).fstep = s.fstep ∧ (s.inc f i n).stepMask = s.stepMask
    ∧ (s.inc f i n).d3pend = s.d3pend := by
  unfold State.inc
  (repeat' split) <;> simp
@[simp] theorem State.get_inc_id (s : State) {f g : Field} (i j n : Nat) (h : f.id ≠ g.id) : (s.inc f i n).get g j = s.get g j :=
  s.get_put_id i j _ h
@[simp] theorem State.act_inc_id (s : State) {f g : Field} (i j n : Nat) (h : f.id ≠ g.id) : (s.inc f i n).act g j = s.act g j :=
  s.act_put_id i j _ h
@[simp] theorem State.on_inc_id (s : State) {f g : Field} (i j n : Nat) (h : f.id ≠ g.id) : (s.inc f i n).on g j = s.on g j :=
  s.on_put_id i j _ h

/-- `incWrap` changes `pend`, `live` and nothing else. -/
@[simp] theorem State.incWrap_frame (s : State) (f : Field) (i n : Nat) :
    (s.incWrap f i n).pending = s.pending ∧ (s.incWrap f i n).actv = s.actv ∧ (s.incWrap f i n).held = s.held ∧
    (s.incWrap f i n).fresh = s.fresh ∧ (s.incWrap f i n).rdata = s.rdata ∧ (s.incWrap f i n).time = s.time ∧ (s.incWrap
    f i n).up = s.up ∧ (s.incWrap f i n).relAt = s.relAt ∧ (s.incWrap f i n).timers = s.timers ∧ (s.incWrap f i n).slew
    = s.slew ∧ (s.incWrap f i n).ppsGood = s.ppsGood ∧ (s.incWrap f i n).srcLock = s.srcLock ∧ (s.incWrap f i n).ppsOut
    = s.ppsOut ∧ (s.incWrap f i n).axes = s.axes ∧ (s.incWrap f i n).plls = s.plls ∧ (s.incWrap f i n).cal = s.cal ∧
    (s.incWrap f i n).capt = s.capt ∧ (s.incWrap f i n).gates = s.gates ∧ (s.incWrap f i n).threads = s.threads ∧
    (s.incWrap f i n).engines = s.engines ∧ (s.incWrap f i n).sigs = s.sigs ∧ (s.incWrap f i n).im = s.im ∧ (s.incWrap f
    i n).dm = s.dm ∧ (s.incWrap f i n).frames = s.frames ∧ (s.incWrap f i n).pinQ = s.pinQ ∧ (s.incWrap f i n).midQ =
    s.midQ ∧ (s.incWrap f i n).outQ = s.outQ ∧ (s.incWrap f i n).txing = s.txing ∧ (s.incWrap f i n).stage = s.stage ∧
    (s.incWrap f i n).mirUse = s.mirUse ∧ (s.incWrap f i n).rxNum = s.rxNum ∧ (s.incWrap f i n).txNum = s.txNum ∧
    (s.incWrap f i n).subm = s.subm ∧ (s.incWrap f i n).cram = s.cram ∧ (s.incWrap f i n).poison = s.poison ∧ (s.incWrap
    f i n).hostMem = s.hostMem ∧ (s.incWrap f i n).pwe = s.pwe ∧ (s.incWrap f i n).htx = s.htx ∧ (s.incWrap f i n).htxc
    = s.htxc ∧ (s.incWrap f i n).mbx = s.mbx ∧ (s.incWrap f i n).syncTotal = s.syncTotal ∧ (s.incWrap f i n).evq = s.evq
    ∧ (s.incWrap f i n).evOpen = s.evOpen ∧ (s.incWrap f i n).evFifo = s.evFifo ∧ (s.incWrap f i n).ueLog = s.ueLog ∧
    (s.incWrap f i n).refLog = s.refLog ∧ (s.incWrap f i n).chans = s.chans ∧ (s.incWrap f i n).health = s.health ∧
    (s.incWrap f i n).healthSeq = s.healthSeq ∧ (s.incWrap f i n).irqSent = s.irqSent ∧ (s.incWrap f i n).irqMode =
    s.irqMode ∧ (s.incWrap f i n).msiLog = s.msiLog ∧ (s.incWrap f i n).d3hot = s.d3hot ∧ (s.incWrap f i n).lbusLow =
    s.lbusLow ∧ (s.incWrap f i n).lbusHold = s.lbusHold ∧ (s.incWrap f i n).lbusLast = s.lbusLast ∧ (s.incWrap f i
    n).imgCur = s.imgCur ∧ (s.incWrap f i n).imgBack = s.imgBack ∧ (s.incWrap f i n).imgLease = s.imgLease ∧ (s.incWrap
    f i n).backBlk = s.backBlk ∧ (s.incWrap f i n).leaseBlk = s.leaseBlk ∧ (s.incWrap f i n).commitReq = s.commitReq ∧
    (s.incWrap f i n).leaseNs = s.leaseNs ∧ (s.incWrap f i n).leaseExp = s.leaseExp ∧ (s.incWrap f i n).flowMem =
    s.flowMem ∧ (s.incWrap f i n).apply = s.apply ∧ (s.incWrap f i n).olds = s.olds ∧ (s.incWrap f i n).snapDue =
    s.snapDue ∧ (s.incWrap f i n).snapWhn = s.snapWhn ∧ (s.incWrap f i n).snapClr = s.snapClr ∧ (s.incWrap f i
    n).snapMbx = s.snapMbx ∧ (s.incWrap f i n).shrews = s.shrews ∧ (s.incWrap f i n).shrPm = s.shrPm ∧ (s.incWrap f i
    n).shrFlags = s.shrFlags ∧ (s.incWrap f i n).gpLvl = s.gpLvl ∧ (s.incWrap f i n).gpOe = s.gpOe ∧ (s.incWrap f i
    n).vddio33 = s.vddio33 ∧ (s.incWrap f i n).ports = s.ports ∧ (s.incWrap f i n).arriving = s.arriving ∧ (s.incWrap f
    i n).ring = s.ring ∧ (s.incWrap f i n).ringLanes = s.ringLanes ∧ (s.incWrap f i n).cans = s.cans ∧ (s.incWrap f i
    n).canLocks = s.canLocks ∧ (s.incWrap f i n).hwq = s.hwq ∧ (s.incWrap f i n).owlRep = s.owlRep ∧ (s.incWrap f i
    n).owl = s.owl ∧ (s.incWrap f i n).conns = s.conns ∧ (s.incWrap f i n).tws = s.tws ∧ (s.incWrap f i n).taps = s.taps
    ∧ (s.incWrap f i n).flashLog = s.flashLog ∧ (s.incWrap f i n).supOut = s.supOut ∧ (s.incWrap f i n).pwHash =
    s.pwHash ∧ (s.incWrap f i n).trngN = s.trngN ∧ (s.incWrap f i n).hlog = s.hlog ∧ (s.incWrap f i n).waitWr = s.waitWr
    ∧ (s.incWrap f i n).pfail = s.pfail ∧ (s.incWrap f i n).off = s.off ∧ (s.incWrap f i n).released = s.released ∧
    (s.incWrap f i n).mbxSeq = s.mbxSeq ∧ (s.incWrap f i n).msix = s.msix ∧ (s.incWrap f i n).pba = s.pba ∧ (s.incWrap f
    i n).selRec = s.selRec ∧ (s.incWrap f i n).prof = s.prof ∧ (s.incWrap f i n).bundle = s.bundle ∧ (s.incWrap f i
    n).startQ = s.startQ ∧ (s.incWrap f i n).switch = s.switch ∧ (s.incWrap f i n).imgHash = s.imgHash ∧ (s.incWrap f i
    n).settOut = s.settOut ∧ (s.incWrap f i n).fstep = s.fstep ∧ (s.incWrap f i n).stepMask = s.stepMask ∧ (s.incWrap f
    i n).d3pend = s.d3pend := by
  unfold State.incWrap
  (repeat' split) <;> simp
@[simp] theorem State.get_incWrap_id (s : State) {f g : Field} (i j n : Nat) (h : f.id ≠ g.id) : (s.incWrap f i n).get g j = s.get g j :=
  s.get_put_id i j _ h
@[simp] theorem State.act_incWrap_id (s : State) {f g : Field} (i j n : Nat) (h : f.id ≠ g.id) : (s.incWrap f i n).act g j = s.act g j :=
  s.act_put_id i j _ h
@[simp] theorem State.on_incWrap_id (s : State) {f g : Field} (i j n : Nat) (h : f.id ≠ g.id) : (s.incWrap f i n).on g j = s.on g j :=
  s.on_put_id i j _ h

/-- `sendIrq` changes `irqSent`, `pba`, `d3pend` and nothing else. -/
@[simp] theorem State.sendIrq_frame (s : State) (b : Nat) :
    (s.sendIrq b).pending = s.pending ∧ (s.sendIrq b).pend = s.pend ∧ (s.sendIrq b).actv = s.actv ∧ (s.sendIrq b).live =
    s.live ∧ (s.sendIrq b).held = s.held ∧ (s.sendIrq b).fresh = s.fresh ∧ (s.sendIrq b).rdata = s.rdata ∧ (s.sendIrq
    b).time = s.time ∧ (s.sendIrq b).up = s.up ∧ (s.sendIrq b).relAt = s.relAt ∧ (s.sendIrq b).timers = s.timers ∧
    (s.sendIrq b).slew = s.slew ∧ (s.sendIrq b).ppsGood = s.ppsGood ∧ (s.sendIrq b).srcLock = s.srcLock ∧ (s.sendIrq
    b).ppsOut = s.ppsOut ∧ (s.sendIrq b).axes = s.axes ∧ (s.sendIrq b).plls = s.plls ∧ (s.sendIrq b).cal = s.cal ∧
    (s.sendIrq b).capt = s.capt ∧ (s.sendIrq b).gates = s.gates ∧ (s.sendIrq b).threads = s.threads ∧ (s.sendIrq
    b).engines = s.engines ∧ (s.sendIrq b).sigs = s.sigs ∧ (s.sendIrq b).im = s.im ∧ (s.sendIrq b).dm = s.dm ∧
    (s.sendIrq b).frames = s.frames ∧ (s.sendIrq b).pinQ = s.pinQ ∧ (s.sendIrq b).midQ = s.midQ ∧ (s.sendIrq b).outQ =
    s.outQ ∧ (s.sendIrq b).txing = s.txing ∧ (s.sendIrq b).stage = s.stage ∧ (s.sendIrq b).mirUse = s.mirUse ∧
    (s.sendIrq b).rxNum = s.rxNum ∧ (s.sendIrq b).txNum = s.txNum ∧ (s.sendIrq b).subm = s.subm ∧ (s.sendIrq b).cram =
    s.cram ∧ (s.sendIrq b).poison = s.poison ∧ (s.sendIrq b).hostMem = s.hostMem ∧ (s.sendIrq b).pwe = s.pwe ∧
    (s.sendIrq b).htx = s.htx ∧ (s.sendIrq b).htxc = s.htxc ∧ (s.sendIrq b).mbx = s.mbx ∧ (s.sendIrq b).syncTotal =
    s.syncTotal ∧ (s.sendIrq b).evq = s.evq ∧ (s.sendIrq b).evOpen = s.evOpen ∧ (s.sendIrq b).evFifo = s.evFifo ∧
    (s.sendIrq b).ueLog = s.ueLog ∧ (s.sendIrq b).refLog = s.refLog ∧ (s.sendIrq b).chans = s.chans ∧ (s.sendIrq
    b).health = s.health ∧ (s.sendIrq b).healthSeq = s.healthSeq ∧ (s.sendIrq b).irqMode = s.irqMode ∧ (s.sendIrq
    b).msiLog = s.msiLog ∧ (s.sendIrq b).d3hot = s.d3hot ∧ (s.sendIrq b).lbusLow = s.lbusLow ∧ (s.sendIrq b).lbusHold =
    s.lbusHold ∧ (s.sendIrq b).lbusLast = s.lbusLast ∧ (s.sendIrq b).imgCur = s.imgCur ∧ (s.sendIrq b).imgBack =
    s.imgBack ∧ (s.sendIrq b).imgLease = s.imgLease ∧ (s.sendIrq b).backBlk = s.backBlk ∧ (s.sendIrq b).leaseBlk =
    s.leaseBlk ∧ (s.sendIrq b).commitReq = s.commitReq ∧ (s.sendIrq b).leaseNs = s.leaseNs ∧ (s.sendIrq b).leaseExp =
    s.leaseExp ∧ (s.sendIrq b).flowMem = s.flowMem ∧ (s.sendIrq b).apply = s.apply ∧ (s.sendIrq b).olds = s.olds ∧
    (s.sendIrq b).snapDue = s.snapDue ∧ (s.sendIrq b).snapWhn = s.snapWhn ∧ (s.sendIrq b).snapClr = s.snapClr ∧
    (s.sendIrq b).snapMbx = s.snapMbx ∧ (s.sendIrq b).shrews = s.shrews ∧ (s.sendIrq b).shrPm = s.shrPm ∧ (s.sendIrq
    b).shrFlags = s.shrFlags ∧ (s.sendIrq b).gpLvl = s.gpLvl ∧ (s.sendIrq b).gpOe = s.gpOe ∧ (s.sendIrq b).vddio33 =
    s.vddio33 ∧ (s.sendIrq b).ports = s.ports ∧ (s.sendIrq b).arriving = s.arriving ∧ (s.sendIrq b).ring = s.ring ∧
    (s.sendIrq b).ringLanes = s.ringLanes ∧ (s.sendIrq b).cans = s.cans ∧ (s.sendIrq b).canLocks = s.canLocks ∧
    (s.sendIrq b).hwq = s.hwq ∧ (s.sendIrq b).owlRep = s.owlRep ∧ (s.sendIrq b).owl = s.owl ∧ (s.sendIrq b).conns =
    s.conns ∧ (s.sendIrq b).tws = s.tws ∧ (s.sendIrq b).taps = s.taps ∧ (s.sendIrq b).flashLog = s.flashLog ∧ (s.sendIrq
    b).supOut = s.supOut ∧ (s.sendIrq b).pwHash = s.pwHash ∧ (s.sendIrq b).trngN = s.trngN ∧ (s.sendIrq b).hlog = s.hlog
    ∧ (s.sendIrq b).waitWr = s.waitWr ∧ (s.sendIrq b).pfail = s.pfail ∧ (s.sendIrq b).off = s.off ∧ (s.sendIrq
    b).released = s.released ∧ (s.sendIrq b).mbxSeq = s.mbxSeq ∧ (s.sendIrq b).msix = s.msix ∧ (s.sendIrq b).selRec =
    s.selRec ∧ (s.sendIrq b).prof = s.prof ∧ (s.sendIrq b).bundle = s.bundle ∧ (s.sendIrq b).startQ = s.startQ ∧
    (s.sendIrq b).switch = s.switch ∧ (s.sendIrq b).imgHash = s.imgHash ∧ (s.sendIrq b).settOut = s.settOut ∧ (s.sendIrq
    b).fstep = s.fstep ∧ (s.sendIrq b).stepMask = s.stepMask := by
  unfold State.sendIrq
  (repeat' split) <;> simp
@[simp] theorem State.get_sendIrq (s : State) (b : Nat) {f : Field} (j : Nat) :
    (s.sendIrq b).get f j = s.get f j := by
  unfold State.sendIrq
  (repeat' split) <;> rfl
@[simp] theorem State.act_sendIrq (s : State) (b : Nat) {f : Field} (j : Nat) :
    (s.sendIrq b).act f j = s.act f j := by
  unfold State.sendIrq
  (repeat' split) <;> rfl

/-- `irqEdge` changes `irqSent`, `pba`, `d3pend` and nothing else. -/
@[simp] theorem State.irqEdge_frame (s : State) (o : Nat) :
    (s.irqEdge o).pending = s.pending ∧ (s.irqEdge o).pend = s.pend ∧ (s.irqEdge o).actv = s.actv ∧ (s.irqEdge o).live =
    s.live ∧ (s.irqEdge o).held = s.held ∧ (s.irqEdge o).fresh = s.fresh ∧ (s.irqEdge o).rdata = s.rdata ∧ (s.irqEdge
    o).time = s.time ∧ (s.irqEdge o).up = s.up ∧ (s.irqEdge o).relAt = s.relAt ∧ (s.irqEdge o).timers = s.timers ∧
    (s.irqEdge o).slew = s.slew ∧ (s.irqEdge o).ppsGood = s.ppsGood ∧ (s.irqEdge o).srcLock = s.srcLock ∧ (s.irqEdge
    o).ppsOut = s.ppsOut ∧ (s.irqEdge o).axes = s.axes ∧ (s.irqEdge o).plls = s.plls ∧ (s.irqEdge o).cal = s.cal ∧
    (s.irqEdge o).capt = s.capt ∧ (s.irqEdge o).gates = s.gates ∧ (s.irqEdge o).threads = s.threads ∧ (s.irqEdge
    o).engines = s.engines ∧ (s.irqEdge o).sigs = s.sigs ∧ (s.irqEdge o).im = s.im ∧ (s.irqEdge o).dm = s.dm ∧
    (s.irqEdge o).frames = s.frames ∧ (s.irqEdge o).pinQ = s.pinQ ∧ (s.irqEdge o).midQ = s.midQ ∧ (s.irqEdge o).outQ =
    s.outQ ∧ (s.irqEdge o).txing = s.txing ∧ (s.irqEdge o).stage = s.stage ∧ (s.irqEdge o).mirUse = s.mirUse ∧
    (s.irqEdge o).rxNum = s.rxNum ∧ (s.irqEdge o).txNum = s.txNum ∧ (s.irqEdge o).subm = s.subm ∧ (s.irqEdge o).cram =
    s.cram ∧ (s.irqEdge o).poison = s.poison ∧ (s.irqEdge o).hostMem = s.hostMem ∧ (s.irqEdge o).pwe = s.pwe ∧
    (s.irqEdge o).htx = s.htx ∧ (s.irqEdge o).htxc = s.htxc ∧ (s.irqEdge o).mbx = s.mbx ∧ (s.irqEdge o).syncTotal =
    s.syncTotal ∧ (s.irqEdge o).evq = s.evq ∧ (s.irqEdge o).evOpen = s.evOpen ∧ (s.irqEdge o).evFifo = s.evFifo ∧
    (s.irqEdge o).ueLog = s.ueLog ∧ (s.irqEdge o).refLog = s.refLog ∧ (s.irqEdge o).chans = s.chans ∧ (s.irqEdge
    o).health = s.health ∧ (s.irqEdge o).healthSeq = s.healthSeq ∧ (s.irqEdge o).irqMode = s.irqMode ∧ (s.irqEdge
    o).msiLog = s.msiLog ∧ (s.irqEdge o).d3hot = s.d3hot ∧ (s.irqEdge o).lbusLow = s.lbusLow ∧ (s.irqEdge o).lbusHold =
    s.lbusHold ∧ (s.irqEdge o).lbusLast = s.lbusLast ∧ (s.irqEdge o).imgCur = s.imgCur ∧ (s.irqEdge o).imgBack =
    s.imgBack ∧ (s.irqEdge o).imgLease = s.imgLease ∧ (s.irqEdge o).backBlk = s.backBlk ∧ (s.irqEdge o).leaseBlk =
    s.leaseBlk ∧ (s.irqEdge o).commitReq = s.commitReq ∧ (s.irqEdge o).leaseNs = s.leaseNs ∧ (s.irqEdge o).leaseExp =
    s.leaseExp ∧ (s.irqEdge o).flowMem = s.flowMem ∧ (s.irqEdge o).apply = s.apply ∧ (s.irqEdge o).olds = s.olds ∧
    (s.irqEdge o).snapDue = s.snapDue ∧ (s.irqEdge o).snapWhn = s.snapWhn ∧ (s.irqEdge o).snapClr = s.snapClr ∧
    (s.irqEdge o).snapMbx = s.snapMbx ∧ (s.irqEdge o).shrews = s.shrews ∧ (s.irqEdge o).shrPm = s.shrPm ∧ (s.irqEdge
    o).shrFlags = s.shrFlags ∧ (s.irqEdge o).gpLvl = s.gpLvl ∧ (s.irqEdge o).gpOe = s.gpOe ∧ (s.irqEdge o).vddio33 =
    s.vddio33 ∧ (s.irqEdge o).ports = s.ports ∧ (s.irqEdge o).arriving = s.arriving ∧ (s.irqEdge o).ring = s.ring ∧
    (s.irqEdge o).ringLanes = s.ringLanes ∧ (s.irqEdge o).cans = s.cans ∧ (s.irqEdge o).canLocks = s.canLocks ∧
    (s.irqEdge o).hwq = s.hwq ∧ (s.irqEdge o).owlRep = s.owlRep ∧ (s.irqEdge o).owl = s.owl ∧ (s.irqEdge o).conns =
    s.conns ∧ (s.irqEdge o).tws = s.tws ∧ (s.irqEdge o).taps = s.taps ∧ (s.irqEdge o).flashLog = s.flashLog ∧ (s.irqEdge
    o).supOut = s.supOut ∧ (s.irqEdge o).pwHash = s.pwHash ∧ (s.irqEdge o).trngN = s.trngN ∧ (s.irqEdge o).hlog = s.hlog
    ∧ (s.irqEdge o).waitWr = s.waitWr ∧ (s.irqEdge o).pfail = s.pfail ∧ (s.irqEdge o).off = s.off ∧ (s.irqEdge
    o).released = s.released ∧ (s.irqEdge o).mbxSeq = s.mbxSeq ∧ (s.irqEdge o).msix = s.msix ∧ (s.irqEdge o).selRec =
    s.selRec ∧ (s.irqEdge o).prof = s.prof ∧ (s.irqEdge o).bundle = s.bundle ∧ (s.irqEdge o).startQ = s.startQ ∧
    (s.irqEdge o).switch = s.switch ∧ (s.irqEdge o).imgHash = s.imgHash ∧ (s.irqEdge o).settOut = s.settOut ∧ (s.irqEdge
    o).fstep = s.fstep ∧ (s.irqEdge o).stepMask = s.stepMask := by
  unfold State.irqEdge
  refine ⟨State.each_keep (·.pending) _ (fun t x => by simp) _ s, State.each_keep (·.pend) _ (fun t x => by simp) _ s,
    State.each_keep (·.actv) _ (fun t x => by simp) _ s, State.each_keep (·.live) _ (fun t x => by simp) _ s,
    State.each_keep (·.held) _ (fun t x => by simp) _ s, State.each_keep (·.fresh) _ (fun t x => by simp) _ s,
    State.each_keep (·.rdata) _ (fun t x => by simp) _ s, State.each_keep (·.time) _ (fun t x => by simp) _ s,
    State.each_keep (·.up) _ (fun t x => by simp) _ s, State.each_keep (·.relAt) _ (fun t x => by simp) _ s,
    State.each_keep (·.timers) _ (fun t x => by simp) _ s, State.each_keep (·.slew) _ (fun t x => by simp) _ s,
    State.each_keep (·.ppsGood) _ (fun t x => by simp) _ s, State.each_keep (·.srcLock) _ (fun t x => by simp) _ s,
    State.each_keep (·.ppsOut) _ (fun t x => by simp) _ s, State.each_keep (·.axes) _ (fun t x => by simp) _ s,
    State.each_keep (·.plls) _ (fun t x => by simp) _ s, State.each_keep (·.cal) _ (fun t x => by simp) _ s,
    State.each_keep (·.capt) _ (fun t x => by simp) _ s, State.each_keep (·.gates) _ (fun t x => by simp) _ s,
    State.each_keep (·.threads) _ (fun t x => by simp) _ s, State.each_keep (·.engines) _ (fun t x => by simp) _ s,
    State.each_keep (·.sigs) _ (fun t x => by simp) _ s, State.each_keep (·.im) _ (fun t x => by simp) _ s,
    State.each_keep (·.dm) _ (fun t x => by simp) _ s, State.each_keep (·.frames) _ (fun t x => by simp) _ s,
    State.each_keep (·.pinQ) _ (fun t x => by simp) _ s, State.each_keep (·.midQ) _ (fun t x => by simp) _ s,
    State.each_keep (·.outQ) _ (fun t x => by simp) _ s, State.each_keep (·.txing) _ (fun t x => by simp) _ s,
    State.each_keep (·.stage) _ (fun t x => by simp) _ s, State.each_keep (·.mirUse) _ (fun t x => by simp) _ s,
    State.each_keep (·.rxNum) _ (fun t x => by simp) _ s, State.each_keep (·.txNum) _ (fun t x => by simp) _ s,
    State.each_keep (·.subm) _ (fun t x => by simp) _ s, State.each_keep (·.cram) _ (fun t x => by simp) _ s,
    State.each_keep (·.poison) _ (fun t x => by simp) _ s, State.each_keep (·.hostMem) _ (fun t x => by simp) _ s,
    State.each_keep (·.pwe) _ (fun t x => by simp) _ s, State.each_keep (·.htx) _ (fun t x => by simp) _ s,
    State.each_keep (·.htxc) _ (fun t x => by simp) _ s, State.each_keep (·.mbx) _ (fun t x => by simp) _ s,
    State.each_keep (·.syncTotal) _ (fun t x => by simp) _ s, State.each_keep (·.evq) _ (fun t x => by simp) _ s,
    State.each_keep (·.evOpen) _ (fun t x => by simp) _ s, State.each_keep (·.evFifo) _ (fun t x => by simp) _ s,
    State.each_keep (·.ueLog) _ (fun t x => by simp) _ s, State.each_keep (·.refLog) _ (fun t x => by simp) _ s,
    State.each_keep (·.chans) _ (fun t x => by simp) _ s, State.each_keep (·.health) _ (fun t x => by simp) _ s,
    State.each_keep (·.healthSeq) _ (fun t x => by simp) _ s, State.each_keep (·.irqMode) _ (fun t x => by simp) _ s,
    State.each_keep (·.msiLog) _ (fun t x => by simp) _ s, State.each_keep (·.d3hot) _ (fun t x => by simp) _ s,
    State.each_keep (·.lbusLow) _ (fun t x => by simp) _ s, State.each_keep (·.lbusHold) _ (fun t x => by simp) _ s,
    State.each_keep (·.lbusLast) _ (fun t x => by simp) _ s, State.each_keep (·.imgCur) _ (fun t x => by simp) _ s,
    State.each_keep (·.imgBack) _ (fun t x => by simp) _ s, State.each_keep (·.imgLease) _ (fun t x => by simp) _ s,
    State.each_keep (·.backBlk) _ (fun t x => by simp) _ s, State.each_keep (·.leaseBlk) _ (fun t x => by simp) _ s,
    State.each_keep (·.commitReq) _ (fun t x => by simp) _ s, State.each_keep (·.leaseNs) _ (fun t x => by simp) _ s,
    State.each_keep (·.leaseExp) _ (fun t x => by simp) _ s, State.each_keep (·.flowMem) _ (fun t x => by simp) _ s,
    State.each_keep (·.apply) _ (fun t x => by simp) _ s, State.each_keep (·.olds) _ (fun t x => by simp) _ s,
    State.each_keep (·.snapDue) _ (fun t x => by simp) _ s, State.each_keep (·.snapWhn) _ (fun t x => by simp) _ s,
    State.each_keep (·.snapClr) _ (fun t x => by simp) _ s, State.each_keep (·.snapMbx) _ (fun t x => by simp) _ s,
    State.each_keep (·.shrews) _ (fun t x => by simp) _ s, State.each_keep (·.shrPm) _ (fun t x => by simp) _ s,
    State.each_keep (·.shrFlags) _ (fun t x => by simp) _ s, State.each_keep (·.gpLvl) _ (fun t x => by simp) _ s,
    State.each_keep (·.gpOe) _ (fun t x => by simp) _ s, State.each_keep (·.vddio33) _ (fun t x => by simp) _ s,
    State.each_keep (·.ports) _ (fun t x => by simp) _ s, State.each_keep (·.arriving) _ (fun t x => by simp) _ s,
    State.each_keep (·.ring) _ (fun t x => by simp) _ s, State.each_keep (·.ringLanes) _ (fun t x => by simp) _ s,
    State.each_keep (·.cans) _ (fun t x => by simp) _ s, State.each_keep (·.canLocks) _ (fun t x => by simp) _ s,
    State.each_keep (·.hwq) _ (fun t x => by simp) _ s, State.each_keep (·.owlRep) _ (fun t x => by simp) _ s,
    State.each_keep (·.owl) _ (fun t x => by simp) _ s, State.each_keep (·.conns) _ (fun t x => by simp) _ s,
    State.each_keep (·.tws) _ (fun t x => by simp) _ s, State.each_keep (·.taps) _ (fun t x => by simp) _ s,
    State.each_keep (·.flashLog) _ (fun t x => by simp) _ s, State.each_keep (·.supOut) _ (fun t x => by simp) _ s,
    State.each_keep (·.pwHash) _ (fun t x => by simp) _ s, State.each_keep (·.trngN) _ (fun t x => by simp) _ s,
    State.each_keep (·.hlog) _ (fun t x => by simp) _ s, State.each_keep (·.waitWr) _ (fun t x => by simp) _ s,
    State.each_keep (·.pfail) _ (fun t x => by simp) _ s, State.each_keep (·.off) _ (fun t x => by simp) _ s,
    State.each_keep (·.released) _ (fun t x => by simp) _ s, State.each_keep (·.mbxSeq) _ (fun t x => by simp) _ s,
    State.each_keep (·.msix) _ (fun t x => by simp) _ s, State.each_keep (·.selRec) _ (fun t x => by simp) _ s,
    State.each_keep (·.prof) _ (fun t x => by simp) _ s, State.each_keep (·.bundle) _ (fun t x => by simp) _ s,
    State.each_keep (·.startQ) _ (fun t x => by simp) _ s, State.each_keep (·.switch) _ (fun t x => by simp) _ s,
    State.each_keep (·.imgHash) _ (fun t x => by simp) _ s, State.each_keep (·.settOut) _ (fun t x => by simp) _ s,
    State.each_keep (·.fstep) _ (fun t x => by simp) _ s, State.each_keep (·.stepMask) _ (fun t x => by simp) _ s⟩
@[simp] theorem State.get_irqEdge (s : State) (o : Nat) {f : Field} (j : Nat) :
    (s.irqEdge o).get f j = s.get f j :=
  State.each_keep (fun t => t.get f j) _ (fun t x => by simp) _ s
@[simp] theorem State.act_irqEdge (s : State) (o : Nat) {f : Field} (j : Nat) :
    (s.irqEdge o).act f j = s.act f j :=
  State.each_keep (fun t => t.act f j) _ (fun t x => by simp) _ s

/-- `doorbell` changes `pend`, `live`, `irqSent`, `pba`, `d3pend` and nothing else. -/
@[simp] theorem State.doorbell_frame (s : State) (b : Nat) :
    (s.doorbell b).pending = s.pending ∧ (s.doorbell b).actv = s.actv ∧ (s.doorbell b).held = s.held ∧ (s.doorbell
    b).fresh = s.fresh ∧ (s.doorbell b).rdata = s.rdata ∧ (s.doorbell b).time = s.time ∧ (s.doorbell b).up = s.up ∧
    (s.doorbell b).relAt = s.relAt ∧ (s.doorbell b).timers = s.timers ∧ (s.doorbell b).slew = s.slew ∧ (s.doorbell
    b).ppsGood = s.ppsGood ∧ (s.doorbell b).srcLock = s.srcLock ∧ (s.doorbell b).ppsOut = s.ppsOut ∧ (s.doorbell b).axes
    = s.axes ∧ (s.doorbell b).plls = s.plls ∧ (s.doorbell b).cal = s.cal ∧ (s.doorbell b).capt = s.capt ∧ (s.doorbell
    b).gates = s.gates ∧ (s.doorbell b).threads = s.threads ∧ (s.doorbell b).engines = s.engines ∧ (s.doorbell b).sigs =
    s.sigs ∧ (s.doorbell b).im = s.im ∧ (s.doorbell b).dm = s.dm ∧ (s.doorbell b).frames = s.frames ∧ (s.doorbell
    b).pinQ = s.pinQ ∧ (s.doorbell b).midQ = s.midQ ∧ (s.doorbell b).outQ = s.outQ ∧ (s.doorbell b).txing = s.txing ∧
    (s.doorbell b).stage = s.stage ∧ (s.doorbell b).mirUse = s.mirUse ∧ (s.doorbell b).rxNum = s.rxNum ∧ (s.doorbell
    b).txNum = s.txNum ∧ (s.doorbell b).subm = s.subm ∧ (s.doorbell b).cram = s.cram ∧ (s.doorbell b).poison = s.poison
    ∧ (s.doorbell b).hostMem = s.hostMem ∧ (s.doorbell b).pwe = s.pwe ∧ (s.doorbell b).htx = s.htx ∧ (s.doorbell b).htxc
    = s.htxc ∧ (s.doorbell b).mbx = s.mbx ∧ (s.doorbell b).syncTotal = s.syncTotal ∧ (s.doorbell b).evq = s.evq ∧
    (s.doorbell b).evOpen = s.evOpen ∧ (s.doorbell b).evFifo = s.evFifo ∧ (s.doorbell b).ueLog = s.ueLog ∧ (s.doorbell
    b).refLog = s.refLog ∧ (s.doorbell b).chans = s.chans ∧ (s.doorbell b).health = s.health ∧ (s.doorbell b).healthSeq
    = s.healthSeq ∧ (s.doorbell b).irqMode = s.irqMode ∧ (s.doorbell b).msiLog = s.msiLog ∧ (s.doorbell b).d3hot =
    s.d3hot ∧ (s.doorbell b).lbusLow = s.lbusLow ∧ (s.doorbell b).lbusHold = s.lbusHold ∧ (s.doorbell b).lbusLast =
    s.lbusLast ∧ (s.doorbell b).imgCur = s.imgCur ∧ (s.doorbell b).imgBack = s.imgBack ∧ (s.doorbell b).imgLease =
    s.imgLease ∧ (s.doorbell b).backBlk = s.backBlk ∧ (s.doorbell b).leaseBlk = s.leaseBlk ∧ (s.doorbell b).commitReq =
    s.commitReq ∧ (s.doorbell b).leaseNs = s.leaseNs ∧ (s.doorbell b).leaseExp = s.leaseExp ∧ (s.doorbell b).flowMem =
    s.flowMem ∧ (s.doorbell b).apply = s.apply ∧ (s.doorbell b).olds = s.olds ∧ (s.doorbell b).snapDue = s.snapDue ∧
    (s.doorbell b).snapWhn = s.snapWhn ∧ (s.doorbell b).snapClr = s.snapClr ∧ (s.doorbell b).snapMbx = s.snapMbx ∧
    (s.doorbell b).shrews = s.shrews ∧ (s.doorbell b).shrPm = s.shrPm ∧ (s.doorbell b).shrFlags = s.shrFlags ∧
    (s.doorbell b).gpLvl = s.gpLvl ∧ (s.doorbell b).gpOe = s.gpOe ∧ (s.doorbell b).vddio33 = s.vddio33 ∧ (s.doorbell
    b).ports = s.ports ∧ (s.doorbell b).arriving = s.arriving ∧ (s.doorbell b).ring = s.ring ∧ (s.doorbell b).ringLanes
    = s.ringLanes ∧ (s.doorbell b).cans = s.cans ∧ (s.doorbell b).canLocks = s.canLocks ∧ (s.doorbell b).hwq = s.hwq ∧
    (s.doorbell b).owlRep = s.owlRep ∧ (s.doorbell b).owl = s.owl ∧ (s.doorbell b).conns = s.conns ∧ (s.doorbell b).tws
    = s.tws ∧ (s.doorbell b).taps = s.taps ∧ (s.doorbell b).flashLog = s.flashLog ∧ (s.doorbell b).supOut = s.supOut ∧
    (s.doorbell b).pwHash = s.pwHash ∧ (s.doorbell b).trngN = s.trngN ∧ (s.doorbell b).hlog = s.hlog ∧ (s.doorbell
    b).waitWr = s.waitWr ∧ (s.doorbell b).pfail = s.pfail ∧ (s.doorbell b).off = s.off ∧ (s.doorbell b).released =
    s.released ∧ (s.doorbell b).mbxSeq = s.mbxSeq ∧ (s.doorbell b).msix = s.msix ∧ (s.doorbell b).selRec = s.selRec ∧
    (s.doorbell b).prof = s.prof ∧ (s.doorbell b).bundle = s.bundle ∧ (s.doorbell b).startQ = s.startQ ∧ (s.doorbell
    b).switch = s.switch ∧ (s.doorbell b).imgHash = s.imgHash ∧ (s.doorbell b).settOut = s.settOut ∧ (s.doorbell
    b).fstep = s.fstep ∧ (s.doorbell b).stepMask = s.stepMask := by
  unfold State.doorbell
  (repeat' split) <;> simp
@[simp] theorem State.get_doorbell (s : State) (b : Nat) {f : Field} (j : Nat) (h0 : F.mbxD2hPend.id ≠ f.id) :
    (s.doorbell b).get f j = s.get f j := by
  unfold State.doorbell
  (repeat' split) <;> simp [*] <;> rfl
@[simp] theorem State.act_doorbell (s : State) (b : Nat) {f : Field} (j : Nat) (h0 : F.mbxD2hPend.id ≠ f.id) :
    (s.doorbell b).act f j = s.act f j := by
  unfold State.doorbell
  (repeat' split) <;> simp [*] <;> rfl

/-- `logPweTag` changes `pend`, `live`, `irqSent`, `pba`, `d3pend`, `pwe` and nothing else. -/
@[simp] theorem State.logPweTag_frame (s : State) (r : PweRec) :
    (s.logPweTag r).pending = s.pending ∧ (s.logPweTag r).actv = s.actv ∧ (s.logPweTag r).held = s.held ∧ (s.logPweTag
    r).fresh = s.fresh ∧ (s.logPweTag r).rdata = s.rdata ∧ (s.logPweTag r).time = s.time ∧ (s.logPweTag r).up = s.up ∧
    (s.logPweTag r).relAt = s.relAt ∧ (s.logPweTag r).timers = s.timers ∧ (s.logPweTag r).slew = s.slew ∧ (s.logPweTag
    r).ppsGood = s.ppsGood ∧ (s.logPweTag r).srcLock = s.srcLock ∧ (s.logPweTag r).ppsOut = s.ppsOut ∧ (s.logPweTag
    r).axes = s.axes ∧ (s.logPweTag r).plls = s.plls ∧ (s.logPweTag r).cal = s.cal ∧ (s.logPweTag r).capt = s.capt ∧
    (s.logPweTag r).gates = s.gates ∧ (s.logPweTag r).threads = s.threads ∧ (s.logPweTag r).engines = s.engines ∧
    (s.logPweTag r).sigs = s.sigs ∧ (s.logPweTag r).im = s.im ∧ (s.logPweTag r).dm = s.dm ∧ (s.logPweTag r).frames =
    s.frames ∧ (s.logPweTag r).pinQ = s.pinQ ∧ (s.logPweTag r).midQ = s.midQ ∧ (s.logPweTag r).outQ = s.outQ ∧
    (s.logPweTag r).txing = s.txing ∧ (s.logPweTag r).stage = s.stage ∧ (s.logPweTag r).mirUse = s.mirUse ∧ (s.logPweTag
    r).rxNum = s.rxNum ∧ (s.logPweTag r).txNum = s.txNum ∧ (s.logPweTag r).subm = s.subm ∧ (s.logPweTag r).cram = s.cram
    ∧ (s.logPweTag r).poison = s.poison ∧ (s.logPweTag r).hostMem = s.hostMem ∧ (s.logPweTag r).htx = s.htx ∧
    (s.logPweTag r).htxc = s.htxc ∧ (s.logPweTag r).mbx = s.mbx ∧ (s.logPweTag r).syncTotal = s.syncTotal ∧ (s.logPweTag
    r).evq = s.evq ∧ (s.logPweTag r).evOpen = s.evOpen ∧ (s.logPweTag r).evFifo = s.evFifo ∧ (s.logPweTag r).ueLog =
    s.ueLog ∧ (s.logPweTag r).refLog = s.refLog ∧ (s.logPweTag r).chans = s.chans ∧ (s.logPweTag r).health = s.health ∧
    (s.logPweTag r).healthSeq = s.healthSeq ∧ (s.logPweTag r).irqMode = s.irqMode ∧ (s.logPweTag r).msiLog = s.msiLog ∧
    (s.logPweTag r).d3hot = s.d3hot ∧ (s.logPweTag r).lbusLow = s.lbusLow ∧ (s.logPweTag r).lbusHold = s.lbusHold ∧
    (s.logPweTag r).lbusLast = s.lbusLast ∧ (s.logPweTag r).imgCur = s.imgCur ∧ (s.logPweTag r).imgBack = s.imgBack ∧
    (s.logPweTag r).imgLease = s.imgLease ∧ (s.logPweTag r).backBlk = s.backBlk ∧ (s.logPweTag r).leaseBlk = s.leaseBlk
    ∧ (s.logPweTag r).commitReq = s.commitReq ∧ (s.logPweTag r).leaseNs = s.leaseNs ∧ (s.logPweTag r).leaseExp =
    s.leaseExp ∧ (s.logPweTag r).flowMem = s.flowMem ∧ (s.logPweTag r).apply = s.apply ∧ (s.logPweTag r).olds = s.olds ∧
    (s.logPweTag r).snapDue = s.snapDue ∧ (s.logPweTag r).snapWhn = s.snapWhn ∧ (s.logPweTag r).snapClr = s.snapClr ∧
    (s.logPweTag r).snapMbx = s.snapMbx ∧ (s.logPweTag r).shrews = s.shrews ∧ (s.logPweTag r).shrPm = s.shrPm ∧
    (s.logPweTag r).shrFlags = s.shrFlags ∧ (s.logPweTag r).gpLvl = s.gpLvl ∧ (s.logPweTag r).gpOe = s.gpOe ∧
    (s.logPweTag r).vddio33 = s.vddio33 ∧ (s.logPweTag r).ports = s.ports ∧ (s.logPweTag r).arriving = s.arriving ∧
    (s.logPweTag r).ring = s.ring ∧ (s.logPweTag r).ringLanes = s.ringLanes ∧ (s.logPweTag r).cans = s.cans ∧
    (s.logPweTag r).canLocks = s.canLocks ∧ (s.logPweTag r).hwq = s.hwq ∧ (s.logPweTag r).owlRep = s.owlRep ∧
    (s.logPweTag r).owl = s.owl ∧ (s.logPweTag r).conns = s.conns ∧ (s.logPweTag r).tws = s.tws ∧ (s.logPweTag r).taps =
    s.taps ∧ (s.logPweTag r).flashLog = s.flashLog ∧ (s.logPweTag r).supOut = s.supOut ∧ (s.logPweTag r).pwHash =
    s.pwHash ∧ (s.logPweTag r).trngN = s.trngN ∧ (s.logPweTag r).hlog = s.hlog ∧ (s.logPweTag r).waitWr = s.waitWr ∧
    (s.logPweTag r).pfail = s.pfail ∧ (s.logPweTag r).off = s.off ∧ (s.logPweTag r).released = s.released ∧ (s.logPweTag
    r).mbxSeq = s.mbxSeq ∧ (s.logPweTag r).msix = s.msix ∧ (s.logPweTag r).selRec = s.selRec ∧ (s.logPweTag r).prof =
    s.prof ∧ (s.logPweTag r).bundle = s.bundle ∧ (s.logPweTag r).startQ = s.startQ ∧ (s.logPweTag r).switch = s.switch ∧
    (s.logPweTag r).imgHash = s.imgHash ∧ (s.logPweTag r).settOut = s.settOut ∧ (s.logPweTag r).fstep = s.fstep ∧
    (s.logPweTag r).stepMask = s.stepMask := by
  unfold State.logPweTag
  dsimp only
  (repeat' split) <;> simp
@[simp] theorem State.get_logPweTag (s : State) (r : PweRec) {f : Field} (j : Nat) (h0 : F.mbxPweTotal.id ≠ f.id) (h1 : F.mbxPweOvf.id ≠ f.id) (h2 : F.mbxD2hPend.id ≠ f.id) :
    (s.logPweTag r).get f j = s.get f j := by
  unfold State.logPweTag
  dsimp only
  split
  · rw [State.get_doorbell _ 25 j h2]
    exact (State.get_congr (s := s.incWrap F.mbxPweTotal) rfl rfl f j).trans (s.get_incWrap_id 0 j 1 h0)
  · exact (State.get_inc_id _ 0 j 1 h1).trans (s.get_incWrap_id 0 j 1 h0)
@[simp] theorem State.act_logPweTag (s : State) (r : PweRec) {f : Field} (j : Nat) (h0 : F.mbxPweTotal.id ≠ f.id) (h1 : F.mbxPweOvf.id ≠ f.id) (h2 : F.mbxD2hPend.id ≠ f.id) :
    (s.logPweTag r).act f j = s.act f j := by
  unfold State.logPweTag
  dsimp only
  split
  · rw [State.act_doorbell _ 25 j h2]
    exact (State.act_congr (s := s.incWrap F.mbxPweTotal) rfl rfl f j).trans (s.act_incWrap_id 0 j 1 h0)
  · exact (State.act_inc_id _ 0 j 1 h1).trans (s.act_incWrap_id 0 j 1 h0)

/-- `logPwe` changes `pend`, `live`, `irqSent`, `pba`, `d3pend`, `pwe` and nothing else. -/
@[simp] theorem State.logPwe_frame (s : State) (c t sp w : Nat) :
    (s.logPwe c t sp w).pending = s.pending ∧ (s.logPwe c t sp w).actv = s.actv ∧ (s.logPwe c t sp w).held = s.held ∧
    (s.logPwe c t sp w).fresh = s.fresh ∧ (s.logPwe c t sp w).rdata = s.rdata ∧ (s.logPwe c t sp w).time = s.time ∧
    (s.logPwe c t sp w).up = s.up ∧ (s.logPwe c t sp w).relAt = s.relAt ∧ (s.logPwe c t sp w).timers = s.timers ∧
    (s.logPwe c t sp w).slew = s.slew ∧ (s.logPwe c t sp w).ppsGood = s.ppsGood ∧ (s.logPwe c t sp w).srcLock =
    s.srcLock ∧ (s.logPwe c t sp w).ppsOut = s.ppsOut ∧ (s.logPwe c t sp w).axes = s.axes ∧ (s.logPwe c t sp w).plls =
    s.plls ∧ (s.logPwe c t sp w).cal = s.cal ∧ (s.logPwe c t sp w).capt = s.capt ∧ (s.logPwe c t sp w).gates = s.gates ∧
    (s.logPwe c t sp w).threads = s.threads ∧ (s.logPwe c t sp w).engines = s.engines ∧ (s.logPwe c t sp w).sigs =
    s.sigs ∧ (s.logPwe c t sp w).im = s.im ∧ (s.logPwe c t sp w).dm = s.dm ∧ (s.logPwe c t sp w).frames = s.frames ∧
    (s.logPwe c t sp w).pinQ = s.pinQ ∧ (s.logPwe c t sp w).midQ = s.midQ ∧ (s.logPwe c t sp w).outQ = s.outQ ∧
    (s.logPwe c t sp w).txing = s.txing ∧ (s.logPwe c t sp w).stage = s.stage ∧ (s.logPwe c t sp w).mirUse = s.mirUse ∧
    (s.logPwe c t sp w).rxNum = s.rxNum ∧ (s.logPwe c t sp w).txNum = s.txNum ∧ (s.logPwe c t sp w).subm = s.subm ∧
    (s.logPwe c t sp w).cram = s.cram ∧ (s.logPwe c t sp w).poison = s.poison ∧ (s.logPwe c t sp w).hostMem = s.hostMem
    ∧ (s.logPwe c t sp w).htx = s.htx ∧ (s.logPwe c t sp w).htxc = s.htxc ∧ (s.logPwe c t sp w).mbx = s.mbx ∧ (s.logPwe
    c t sp w).syncTotal = s.syncTotal ∧ (s.logPwe c t sp w).evq = s.evq ∧ (s.logPwe c t sp w).evOpen = s.evOpen ∧
    (s.logPwe c t sp w).evFifo = s.evFifo ∧ (s.logPwe c t sp w).ueLog = s.ueLog ∧ (s.logPwe c t sp w).refLog = s.refLog
    ∧ (s.logPwe c t sp w).chans = s.chans ∧ (s.logPwe c t sp w).health = s.health ∧ (s.logPwe c t sp w).healthSeq =
    s.healthSeq ∧ (s.logPwe c t sp w).irqMode = s.irqMode ∧ (s.logPwe c t sp w).msiLog = s.msiLog ∧ (s.logPwe c t sp
    w).d3hot = s.d3hot ∧ (s.logPwe c t sp w).lbusLow = s.lbusLow ∧ (s.logPwe c t sp w).lbusHold = s.lbusHold ∧ (s.logPwe
    c t sp w).lbusLast = s.lbusLast ∧ (s.logPwe c t sp w).imgCur = s.imgCur ∧ (s.logPwe c t sp w).imgBack = s.imgBack ∧
    (s.logPwe c t sp w).imgLease = s.imgLease ∧ (s.logPwe c t sp w).backBlk = s.backBlk ∧ (s.logPwe c t sp w).leaseBlk =
    s.leaseBlk ∧ (s.logPwe c t sp w).commitReq = s.commitReq ∧ (s.logPwe c t sp w).leaseNs = s.leaseNs ∧ (s.logPwe c t
    sp w).leaseExp = s.leaseExp ∧ (s.logPwe c t sp w).flowMem = s.flowMem ∧ (s.logPwe c t sp w).apply = s.apply ∧
    (s.logPwe c t sp w).olds = s.olds ∧ (s.logPwe c t sp w).snapDue = s.snapDue ∧ (s.logPwe c t sp w).snapWhn =
    s.snapWhn ∧ (s.logPwe c t sp w).snapClr = s.snapClr ∧ (s.logPwe c t sp w).snapMbx = s.snapMbx ∧ (s.logPwe c t sp
    w).shrews = s.shrews ∧ (s.logPwe c t sp w).shrPm = s.shrPm ∧ (s.logPwe c t sp w).shrFlags = s.shrFlags ∧ (s.logPwe c
    t sp w).gpLvl = s.gpLvl ∧ (s.logPwe c t sp w).gpOe = s.gpOe ∧ (s.logPwe c t sp w).vddio33 = s.vddio33 ∧ (s.logPwe c
    t sp w).ports = s.ports ∧ (s.logPwe c t sp w).arriving = s.arriving ∧ (s.logPwe c t sp w).ring = s.ring ∧ (s.logPwe
    c t sp w).ringLanes = s.ringLanes ∧ (s.logPwe c t sp w).cans = s.cans ∧ (s.logPwe c t sp w).canLocks = s.canLocks ∧
    (s.logPwe c t sp w).hwq = s.hwq ∧ (s.logPwe c t sp w).owlRep = s.owlRep ∧ (s.logPwe c t sp w).owl = s.owl ∧
    (s.logPwe c t sp w).conns = s.conns ∧ (s.logPwe c t sp w).tws = s.tws ∧ (s.logPwe c t sp w).taps = s.taps ∧
    (s.logPwe c t sp w).flashLog = s.flashLog ∧ (s.logPwe c t sp w).supOut = s.supOut ∧ (s.logPwe c t sp w).pwHash =
    s.pwHash ∧ (s.logPwe c t sp w).trngN = s.trngN ∧ (s.logPwe c t sp w).hlog = s.hlog ∧ (s.logPwe c t sp w).waitWr =
    s.waitWr ∧ (s.logPwe c t sp w).pfail = s.pfail ∧ (s.logPwe c t sp w).off = s.off ∧ (s.logPwe c t sp w).released =
    s.released ∧ (s.logPwe c t sp w).mbxSeq = s.mbxSeq ∧ (s.logPwe c t sp w).msix = s.msix ∧ (s.logPwe c t sp w).selRec
    = s.selRec ∧ (s.logPwe c t sp w).prof = s.prof ∧ (s.logPwe c t sp w).bundle = s.bundle ∧ (s.logPwe c t sp w).startQ
    = s.startQ ∧ (s.logPwe c t sp w).switch = s.switch ∧ (s.logPwe c t sp w).imgHash = s.imgHash ∧ (s.logPwe c t sp
    w).settOut = s.settOut ∧ (s.logPwe c t sp w).fstep = s.fstep ∧ (s.logPwe c t sp w).stepMask = s.stepMask := by
  unfold State.logPwe
  (repeat' split) <;> simp
@[simp] theorem State.get_logPwe (s : State) (c t sp w : Nat) {f : Field} (j : Nat) (h0 : F.mbxPweTotal.id ≠ f.id) (h1 : F.mbxPweOvf.id ≠ f.id) (h2 : F.mbxD2hPend.id ≠ f.id) :
    (s.logPwe c t sp w).get f j = s.get f j := by
  unfold State.logPwe
  (repeat' split) <;> simp [*] <;> rfl
@[simp] theorem State.act_logPwe (s : State) (c t sp w : Nat) {f : Field} (j : Nat) (h0 : F.mbxPweTotal.id ≠ f.id) (h1 : F.mbxPweOvf.id ≠ f.id) (h2 : F.mbxD2hPend.id ≠ f.id) :
    (s.logPwe c t sp w).act f j = s.act f j := by
  unfold State.logPwe
  (repeat' split) <;> simp [*] <;> rfl

/-- `raise` changes `pend`, `live`, `evq` and nothing else. -/
@[simp] theorem State.raise_frame (s : State) (c b p d : Nat) :
    (s.raise c b p d).pending = s.pending ∧ (s.raise c b p d).actv = s.actv ∧ (s.raise c b p d).held = s.held ∧ (s.raise
    c b p d).fresh = s.fresh ∧ (s.raise c b p d).rdata = s.rdata ∧ (s.raise c b p d).time = s.time ∧ (s.raise c b p
    d).up = s.up ∧ (s.raise c b p d).relAt = s.relAt ∧ (s.raise c b p d).timers = s.timers ∧ (s.raise c b p d).slew =
    s.slew ∧ (s.raise c b p d).ppsGood = s.ppsGood ∧ (s.raise c b p d).srcLock = s.srcLock ∧ (s.raise c b p d).ppsOut =
    s.ppsOut ∧ (s.raise c b p d).axes = s.axes ∧ (s.raise c b p d).plls = s.plls ∧ (s.raise c b p d).cal = s.cal ∧
    (s.raise c b p d).capt = s.capt ∧ (s.raise c b p d).gates = s.gates ∧ (s.raise c b p d).threads = s.threads ∧
    (s.raise c b p d).engines = s.engines ∧ (s.raise c b p d).sigs = s.sigs ∧ (s.raise c b p d).im = s.im ∧ (s.raise c b
    p d).dm = s.dm ∧ (s.raise c b p d).frames = s.frames ∧ (s.raise c b p d).pinQ = s.pinQ ∧ (s.raise c b p d).midQ =
    s.midQ ∧ (s.raise c b p d).outQ = s.outQ ∧ (s.raise c b p d).txing = s.txing ∧ (s.raise c b p d).stage = s.stage ∧
    (s.raise c b p d).mirUse = s.mirUse ∧ (s.raise c b p d).rxNum = s.rxNum ∧ (s.raise c b p d).txNum = s.txNum ∧
    (s.raise c b p d).subm = s.subm ∧ (s.raise c b p d).cram = s.cram ∧ (s.raise c b p d).poison = s.poison ∧ (s.raise c
    b p d).hostMem = s.hostMem ∧ (s.raise c b p d).pwe = s.pwe ∧ (s.raise c b p d).htx = s.htx ∧ (s.raise c b p d).htxc
    = s.htxc ∧ (s.raise c b p d).mbx = s.mbx ∧ (s.raise c b p d).syncTotal = s.syncTotal ∧ (s.raise c b p d).evOpen =
    s.evOpen ∧ (s.raise c b p d).evFifo = s.evFifo ∧ (s.raise c b p d).ueLog = s.ueLog ∧ (s.raise c b p d).refLog =
    s.refLog ∧ (s.raise c b p d).chans = s.chans ∧ (s.raise c b p d).health = s.health ∧ (s.raise c b p d).healthSeq =
    s.healthSeq ∧ (s.raise c b p d).irqSent = s.irqSent ∧ (s.raise c b p d).irqMode = s.irqMode ∧ (s.raise c b p
    d).msiLog = s.msiLog ∧ (s.raise c b p d).d3hot = s.d3hot ∧ (s.raise c b p d).lbusLow = s.lbusLow ∧ (s.raise c b p
    d).lbusHold = s.lbusHold ∧ (s.raise c b p d).lbusLast = s.lbusLast ∧ (s.raise c b p d).imgCur = s.imgCur ∧ (s.raise
    c b p d).imgBack = s.imgBack ∧ (s.raise c b p d).imgLease = s.imgLease ∧ (s.raise c b p d).backBlk = s.backBlk ∧
    (s.raise c b p d).leaseBlk = s.leaseBlk ∧ (s.raise c b p d).commitReq = s.commitReq ∧ (s.raise c b p d).leaseNs =
    s.leaseNs ∧ (s.raise c b p d).leaseExp = s.leaseExp ∧ (s.raise c b p d).flowMem = s.flowMem ∧ (s.raise c b p
    d).apply = s.apply ∧ (s.raise c b p d).olds = s.olds ∧ (s.raise c b p d).snapDue = s.snapDue ∧ (s.raise c b p
    d).snapWhn = s.snapWhn ∧ (s.raise c b p d).snapClr = s.snapClr ∧ (s.raise c b p d).snapMbx = s.snapMbx ∧ (s.raise c
    b p d).shrews = s.shrews ∧ (s.raise c b p d).shrPm = s.shrPm ∧ (s.raise c b p d).shrFlags = s.shrFlags ∧ (s.raise c
    b p d).gpLvl = s.gpLvl ∧ (s.raise c b p d).gpOe = s.gpOe ∧ (s.raise c b p d).vddio33 = s.vddio33 ∧ (s.raise c b p
    d).ports = s.ports ∧ (s.raise c b p d).arriving = s.arriving ∧ (s.raise c b p d).ring = s.ring ∧ (s.raise c b p
    d).ringLanes = s.ringLanes ∧ (s.raise c b p d).cans = s.cans ∧ (s.raise c b p d).canLocks = s.canLocks ∧ (s.raise c
    b p d).hwq = s.hwq ∧ (s.raise c b p d).owlRep = s.owlRep ∧ (s.raise c b p d).owl = s.owl ∧ (s.raise c b p d).conns =
    s.conns ∧ (s.raise c b p d).tws = s.tws ∧ (s.raise c b p d).taps = s.taps ∧ (s.raise c b p d).flashLog = s.flashLog
    ∧ (s.raise c b p d).supOut = s.supOut ∧ (s.raise c b p d).pwHash = s.pwHash ∧ (s.raise c b p d).trngN = s.trngN ∧
    (s.raise c b p d).hlog = s.hlog ∧ (s.raise c b p d).waitWr = s.waitWr ∧ (s.raise c b p d).pfail = s.pfail ∧ (s.raise
    c b p d).off = s.off ∧ (s.raise c b p d).released = s.released ∧ (s.raise c b p d).mbxSeq = s.mbxSeq ∧ (s.raise c b
    p d).msix = s.msix ∧ (s.raise c b p d).pba = s.pba ∧ (s.raise c b p d).selRec = s.selRec ∧ (s.raise c b p d).prof =
    s.prof ∧ (s.raise c b p d).bundle = s.bundle ∧ (s.raise c b p d).startQ = s.startQ ∧ (s.raise c b p d).switch =
    s.switch ∧ (s.raise c b p d).imgHash = s.imgHash ∧ (s.raise c b p d).settOut = s.settOut ∧ (s.raise c b p d).fstep =
    s.fstep ∧ (s.raise c b p d).stepMask = s.stepMask ∧ (s.raise c b p d).d3pend = s.d3pend := by
  unfold State.raise
  (repeat' split) <;> simp
@[simp] theorem State.get_raise (s : State) (c b p d : Nat) {f : Field} (j : Nat) (h0 : F.evtCEvents.id ≠ f.id) (h1 : F.evtCInLost.id ≠ f.id) :
    (s.raise c b p d).get f j = s.get f j := by
  unfold State.raise
  (repeat' split) <;> simp [*] <;> rfl
@[simp] theorem State.act_raise (s : State) (c b p d : Nat) {f : Field} (j : Nat) (h0 : F.evtCEvents.id ≠ f.id) (h1 : F.evtCInLost.id ≠ f.id) :
    (s.raise c b p d).act f j = s.act f j := by
  unfold State.raise
  (repeat' split) <;> simp [*] <;> rfl

/-- `logRefuse` changes `pend`, `live`, `refLog` and nothing else. -/
@[simp] theorem State.logRefuse_frame (s : State) (w : Bool) (r a : Nat) :
    (s.logRefuse w r a).pending = s.pending ∧ (s.logRefuse w r a).actv = s.actv ∧ (s.logRefuse w r a).held = s.held ∧
    (s.logRefuse w r a).fresh = s.fresh ∧ (s.logRefuse w r a).rdata = s.rdata ∧ (s.logRefuse w r a).time = s.time ∧
    (s.logRefuse w r a).up = s.up ∧ (s.logRefuse w r a).relAt = s.relAt ∧ (s.logRefuse w r a).timers = s.timers ∧
    (s.logRefuse w r a).slew = s.slew ∧ (s.logRefuse w r a).ppsGood = s.ppsGood ∧ (s.logRefuse w r a).srcLock =
    s.srcLock ∧ (s.logRefuse w r a).ppsOut = s.ppsOut ∧ (s.logRefuse w r a).axes = s.axes ∧ (s.logRefuse w r a).plls =
    s.plls ∧ (s.logRefuse w r a).cal = s.cal ∧ (s.logRefuse w r a).capt = s.capt ∧ (s.logRefuse w r a).gates = s.gates ∧
    (s.logRefuse w r a).threads = s.threads ∧ (s.logRefuse w r a).engines = s.engines ∧ (s.logRefuse w r a).sigs =
    s.sigs ∧ (s.logRefuse w r a).im = s.im ∧ (s.logRefuse w r a).dm = s.dm ∧ (s.logRefuse w r a).frames = s.frames ∧
    (s.logRefuse w r a).pinQ = s.pinQ ∧ (s.logRefuse w r a).midQ = s.midQ ∧ (s.logRefuse w r a).outQ = s.outQ ∧
    (s.logRefuse w r a).txing = s.txing ∧ (s.logRefuse w r a).stage = s.stage ∧ (s.logRefuse w r a).mirUse = s.mirUse ∧
    (s.logRefuse w r a).rxNum = s.rxNum ∧ (s.logRefuse w r a).txNum = s.txNum ∧ (s.logRefuse w r a).subm = s.subm ∧
    (s.logRefuse w r a).cram = s.cram ∧ (s.logRefuse w r a).poison = s.poison ∧ (s.logRefuse w r a).hostMem = s.hostMem
    ∧ (s.logRefuse w r a).pwe = s.pwe ∧ (s.logRefuse w r a).htx = s.htx ∧ (s.logRefuse w r a).htxc = s.htxc ∧
    (s.logRefuse w r a).mbx = s.mbx ∧ (s.logRefuse w r a).syncTotal = s.syncTotal ∧ (s.logRefuse w r a).evq = s.evq ∧
    (s.logRefuse w r a).evOpen = s.evOpen ∧ (s.logRefuse w r a).evFifo = s.evFifo ∧ (s.logRefuse w r a).ueLog = s.ueLog
    ∧ (s.logRefuse w r a).chans = s.chans ∧ (s.logRefuse w r a).health = s.health ∧ (s.logRefuse w r a).healthSeq =
    s.healthSeq ∧ (s.logRefuse w r a).irqSent = s.irqSent ∧ (s.logRefuse w r a).irqMode = s.irqMode ∧ (s.logRefuse w r
    a).msiLog = s.msiLog ∧ (s.logRefuse w r a).d3hot = s.d3hot ∧ (s.logRefuse w r a).lbusLow = s.lbusLow ∧ (s.logRefuse
    w r a).lbusHold = s.lbusHold ∧ (s.logRefuse w r a).lbusLast = s.lbusLast ∧ (s.logRefuse w r a).imgCur = s.imgCur ∧
    (s.logRefuse w r a).imgBack = s.imgBack ∧ (s.logRefuse w r a).imgLease = s.imgLease ∧ (s.logRefuse w r a).backBlk =
    s.backBlk ∧ (s.logRefuse w r a).leaseBlk = s.leaseBlk ∧ (s.logRefuse w r a).commitReq = s.commitReq ∧ (s.logRefuse w
    r a).leaseNs = s.leaseNs ∧ (s.logRefuse w r a).leaseExp = s.leaseExp ∧ (s.logRefuse w r a).flowMem = s.flowMem ∧
    (s.logRefuse w r a).apply = s.apply ∧ (s.logRefuse w r a).olds = s.olds ∧ (s.logRefuse w r a).snapDue = s.snapDue ∧
    (s.logRefuse w r a).snapWhn = s.snapWhn ∧ (s.logRefuse w r a).snapClr = s.snapClr ∧ (s.logRefuse w r a).snapMbx =
    s.snapMbx ∧ (s.logRefuse w r a).shrews = s.shrews ∧ (s.logRefuse w r a).shrPm = s.shrPm ∧ (s.logRefuse w r
    a).shrFlags = s.shrFlags ∧ (s.logRefuse w r a).gpLvl = s.gpLvl ∧ (s.logRefuse w r a).gpOe = s.gpOe ∧ (s.logRefuse w
    r a).vddio33 = s.vddio33 ∧ (s.logRefuse w r a).ports = s.ports ∧ (s.logRefuse w r a).arriving = s.arriving ∧
    (s.logRefuse w r a).ring = s.ring ∧ (s.logRefuse w r a).ringLanes = s.ringLanes ∧ (s.logRefuse w r a).cans = s.cans
    ∧ (s.logRefuse w r a).canLocks = s.canLocks ∧ (s.logRefuse w r a).hwq = s.hwq ∧ (s.logRefuse w r a).owlRep =
    s.owlRep ∧ (s.logRefuse w r a).owl = s.owl ∧ (s.logRefuse w r a).conns = s.conns ∧ (s.logRefuse w r a).tws = s.tws ∧
    (s.logRefuse w r a).taps = s.taps ∧ (s.logRefuse w r a).flashLog = s.flashLog ∧ (s.logRefuse w r a).supOut =
    s.supOut ∧ (s.logRefuse w r a).pwHash = s.pwHash ∧ (s.logRefuse w r a).trngN = s.trngN ∧ (s.logRefuse w r a).hlog =
    s.hlog ∧ (s.logRefuse w r a).waitWr = s.waitWr ∧ (s.logRefuse w r a).pfail = s.pfail ∧ (s.logRefuse w r a).off =
    s.off ∧ (s.logRefuse w r a).released = s.released ∧ (s.logRefuse w r a).mbxSeq = s.mbxSeq ∧ (s.logRefuse w r a).msix
    = s.msix ∧ (s.logRefuse w r a).pba = s.pba ∧ (s.logRefuse w r a).selRec = s.selRec ∧ (s.logRefuse w r a).prof =
    s.prof ∧ (s.logRefuse w r a).bundle = s.bundle ∧ (s.logRefuse w r a).startQ = s.startQ ∧ (s.logRefuse w r a).switch
    = s.switch ∧ (s.logRefuse w r a).imgHash = s.imgHash ∧ (s.logRefuse w r a).settOut = s.settOut ∧ (s.logRefuse w r
    a).fstep = s.fstep ∧ (s.logRefuse w r a).stepMask = s.stepMask ∧ (s.logRefuse w r a).d3pend = s.d3pend := by
  unfold State.logRefuse
  dsimp only
  (repeat' split) <;> simp
@[simp] theorem State.get_logRefuse (s : State) (w : Bool) (r a : Nat) {f : Field} (j : Nat) (h0 : F.memCRefused.id ≠ f.id) :
    (s.logRefuse w r a).get f j = s.get f j := by
  unfold State.logRefuse
  dsimp only
  split
  · exact (State.get_congr (s := s.inc F.memCRefused) rfl rfl f j).trans (s.get_inc_id 0 j 1 h0)
  · exact s.get_inc_id 0 j 1 h0
@[simp] theorem State.act_logRefuse (s : State) (w : Bool) (r a : Nat) {f : Field} (j : Nat) (h0 : F.memCRefused.id ≠ f.id) :
    (s.logRefuse w r a).act f j = s.act f j := by
  unfold State.logRefuse
  dsimp only
  split
  · exact (State.act_congr (s := s.inc F.memCRefused) rfl rfl f j).trans (s.act_inc_id 0 j 1 h0)
  · exact s.act_inc_id 0 j 1 h0

/-- `setRetired` changes `pend`, `live` and nothing else. -/
@[simp] theorem State.setRetired_frame (s : State) (k n : Nat) (b : Bool) :
    (s.setRetired k n b).pending = s.pending ∧ (s.setRetired k n b).actv = s.actv ∧ (s.setRetired k n b).held = s.held ∧
    (s.setRetired k n b).fresh = s.fresh ∧ (s.setRetired k n b).rdata = s.rdata ∧ (s.setRetired k n b).time = s.time ∧
    (s.setRetired k n b).up = s.up ∧ (s.setRetired k n b).relAt = s.relAt ∧ (s.setRetired k n b).timers = s.timers ∧
    (s.setRetired k n b).slew = s.slew ∧ (s.setRetired k n b).ppsGood = s.ppsGood ∧ (s.setRetired k n b).srcLock =
    s.srcLock ∧ (s.setRetired k n b).ppsOut = s.ppsOut ∧ (s.setRetired k n b).axes = s.axes ∧ (s.setRetired k n b).plls
    = s.plls ∧ (s.setRetired k n b).cal = s.cal ∧ (s.setRetired k n b).capt = s.capt ∧ (s.setRetired k n b).gates =
    s.gates ∧ (s.setRetired k n b).threads = s.threads ∧ (s.setRetired k n b).engines = s.engines ∧ (s.setRetired k n
    b).sigs = s.sigs ∧ (s.setRetired k n b).im = s.im ∧ (s.setRetired k n b).dm = s.dm ∧ (s.setRetired k n b).frames =
    s.frames ∧ (s.setRetired k n b).pinQ = s.pinQ ∧ (s.setRetired k n b).midQ = s.midQ ∧ (s.setRetired k n b).outQ =
    s.outQ ∧ (s.setRetired k n b).txing = s.txing ∧ (s.setRetired k n b).stage = s.stage ∧ (s.setRetired k n b).mirUse =
    s.mirUse ∧ (s.setRetired k n b).rxNum = s.rxNum ∧ (s.setRetired k n b).txNum = s.txNum ∧ (s.setRetired k n b).subm =
    s.subm ∧ (s.setRetired k n b).cram = s.cram ∧ (s.setRetired k n b).poison = s.poison ∧ (s.setRetired k n b).hostMem
    = s.hostMem ∧ (s.setRetired k n b).pwe = s.pwe ∧ (s.setRetired k n b).htx = s.htx ∧ (s.setRetired k n b).htxc =
    s.htxc ∧ (s.setRetired k n b).mbx = s.mbx ∧ (s.setRetired k n b).syncTotal = s.syncTotal ∧ (s.setRetired k n b).evq
    = s.evq ∧ (s.setRetired k n b).evOpen = s.evOpen ∧ (s.setRetired k n b).evFifo = s.evFifo ∧ (s.setRetired k n
    b).ueLog = s.ueLog ∧ (s.setRetired k n b).refLog = s.refLog ∧ (s.setRetired k n b).chans = s.chans ∧ (s.setRetired k
    n b).health = s.health ∧ (s.setRetired k n b).healthSeq = s.healthSeq ∧ (s.setRetired k n b).irqSent = s.irqSent ∧
    (s.setRetired k n b).irqMode = s.irqMode ∧ (s.setRetired k n b).msiLog = s.msiLog ∧ (s.setRetired k n b).d3hot =
    s.d3hot ∧ (s.setRetired k n b).lbusLow = s.lbusLow ∧ (s.setRetired k n b).lbusHold = s.lbusHold ∧ (s.setRetired k n
    b).lbusLast = s.lbusLast ∧ (s.setRetired k n b).imgCur = s.imgCur ∧ (s.setRetired k n b).imgBack = s.imgBack ∧
    (s.setRetired k n b).imgLease = s.imgLease ∧ (s.setRetired k n b).backBlk = s.backBlk ∧ (s.setRetired k n
    b).leaseBlk = s.leaseBlk ∧ (s.setRetired k n b).commitReq = s.commitReq ∧ (s.setRetired k n b).leaseNs = s.leaseNs ∧
    (s.setRetired k n b).leaseExp = s.leaseExp ∧ (s.setRetired k n b).flowMem = s.flowMem ∧ (s.setRetired k n b).apply =
    s.apply ∧ (s.setRetired k n b).olds = s.olds ∧ (s.setRetired k n b).snapDue = s.snapDue ∧ (s.setRetired k n
    b).snapWhn = s.snapWhn ∧ (s.setRetired k n b).snapClr = s.snapClr ∧ (s.setRetired k n b).snapMbx = s.snapMbx ∧
    (s.setRetired k n b).shrews = s.shrews ∧ (s.setRetired k n b).shrPm = s.shrPm ∧ (s.setRetired k n b).shrFlags =
    s.shrFlags ∧ (s.setRetired k n b).gpLvl = s.gpLvl ∧ (s.setRetired k n b).gpOe = s.gpOe ∧ (s.setRetired k n
    b).vddio33 = s.vddio33 ∧ (s.setRetired k n b).ports = s.ports ∧ (s.setRetired k n b).arriving = s.arriving ∧
    (s.setRetired k n b).ring = s.ring ∧ (s.setRetired k n b).ringLanes = s.ringLanes ∧ (s.setRetired k n b).cans =
    s.cans ∧ (s.setRetired k n b).canLocks = s.canLocks ∧ (s.setRetired k n b).hwq = s.hwq ∧ (s.setRetired k n b).owlRep
    = s.owlRep ∧ (s.setRetired k n b).owl = s.owl ∧ (s.setRetired k n b).conns = s.conns ∧ (s.setRetired k n b).tws =
    s.tws ∧ (s.setRetired k n b).taps = s.taps ∧ (s.setRetired k n b).flashLog = s.flashLog ∧ (s.setRetired k n
    b).supOut = s.supOut ∧ (s.setRetired k n b).pwHash = s.pwHash ∧ (s.setRetired k n b).trngN = s.trngN ∧ (s.setRetired
    k n b).hlog = s.hlog ∧ (s.setRetired k n b).waitWr = s.waitWr ∧ (s.setRetired k n b).pfail = s.pfail ∧ (s.setRetired
    k n b).off = s.off ∧ (s.setRetired k n b).released = s.released ∧ (s.setRetired k n b).mbxSeq = s.mbxSeq ∧
    (s.setRetired k n b).msix = s.msix ∧ (s.setRetired k n b).pba = s.pba ∧ (s.setRetired k n b).selRec = s.selRec ∧
    (s.setRetired k n b).prof = s.prof ∧ (s.setRetired k n b).bundle = s.bundle ∧ (s.setRetired k n b).startQ = s.startQ
    ∧ (s.setRetired k n b).switch = s.switch ∧ (s.setRetired k n b).imgHash = s.imgHash ∧ (s.setRetired k n b).settOut =
    s.settOut ∧ (s.setRetired k n b).fstep = s.fstep ∧ (s.setRetired k n b).stepMask = s.stepMask ∧ (s.setRetired k n
    b).d3pend = s.d3pend := by
  unfold State.setRetired
  (repeat' split) <;> simp
@[simp] theorem State.get_setRetired (s : State) (k n : Nat) (b : Bool) {f : Field} (j : Nat) (h0 : F.evtChstatRetired.id ≠ f.id) (h1 : F.evtRetLo.id ≠ f.id) (h2 : F.evtRetHi.id ≠ f.id) :
    (s.setRetired k n b).get f j = s.get f j := by
  unfold State.setRetired
  (repeat' split) <;> simp [*] <;> rfl
@[simp] theorem State.act_setRetired (s : State) (k n : Nat) (b : Bool) {f : Field} (j : Nat) (h0 : F.evtChstatRetired.id ≠ f.id) (h1 : F.evtRetLo.id ≠ f.id) (h2 : F.evtRetHi.id ≠ f.id) :
    (s.setRetired k n b).act f j = s.act f j := by
  unfold State.setRetired
  (repeat' split) <;> simp [*] <;> rfl

/-- `addHealth` changes `health` and nothing else. -/
@[simp] theorem State.addHealth_frame (s : State) (k c n ca co d : Nat) :
    (s.addHealth k c n ca co d).pending = s.pending ∧ (s.addHealth k c n ca co d).pend = s.pend ∧ (s.addHealth k c n ca
    co d).actv = s.actv ∧ (s.addHealth k c n ca co d).live = s.live ∧ (s.addHealth k c n ca co d).held = s.held ∧
    (s.addHealth k c n ca co d).fresh = s.fresh ∧ (s.addHealth k c n ca co d).rdata = s.rdata ∧ (s.addHealth k c n ca co
    d).time = s.time ∧ (s.addHealth k c n ca co d).up = s.up ∧ (s.addHealth k c n ca co d).relAt = s.relAt ∧
    (s.addHealth k c n ca co d).timers = s.timers ∧ (s.addHealth k c n ca co d).slew = s.slew ∧ (s.addHealth k c n ca co
    d).ppsGood = s.ppsGood ∧ (s.addHealth k c n ca co d).srcLock = s.srcLock ∧ (s.addHealth k c n ca co d).ppsOut =
    s.ppsOut ∧ (s.addHealth k c n ca co d).axes = s.axes ∧ (s.addHealth k c n ca co d).plls = s.plls ∧ (s.addHealth k c
    n ca co d).cal = s.cal ∧ (s.addHealth k c n ca co d).capt = s.capt ∧ (s.addHealth k c n ca co d).gates = s.gates ∧
    (s.addHealth k c n ca co d).threads = s.threads ∧ (s.addHealth k c n ca co d).engines = s.engines ∧ (s.addHealth k c
    n ca co d).sigs = s.sigs ∧ (s.addHealth k c n ca co d).im = s.im ∧ (s.addHealth k c n ca co d).dm = s.dm ∧
    (s.addHealth k c n ca co d).frames = s.frames ∧ (s.addHealth k c n ca co d).pinQ = s.pinQ ∧ (s.addHealth k c n ca co
    d).midQ = s.midQ ∧ (s.addHealth k c n ca co d).outQ = s.outQ ∧ (s.addHealth k c n ca co d).txing = s.txing ∧
    (s.addHealth k c n ca co d).stage = s.stage ∧ (s.addHealth k c n ca co d).mirUse = s.mirUse ∧ (s.addHealth k c n ca
    co d).rxNum = s.rxNum ∧ (s.addHealth k c n ca co d).txNum = s.txNum ∧ (s.addHealth k c n ca co d).subm = s.subm ∧
    (s.addHealth k c n ca co d).cram = s.cram ∧ (s.addHealth k c n ca co d).poison = s.poison ∧ (s.addHealth k c n ca co
    d).hostMem = s.hostMem ∧ (s.addHealth k c n ca co d).pwe = s.pwe ∧ (s.addHealth k c n ca co d).htx = s.htx ∧
    (s.addHealth k c n ca co d).htxc = s.htxc ∧ (s.addHealth k c n ca co d).mbx = s.mbx ∧ (s.addHealth k c n ca co
    d).syncTotal = s.syncTotal ∧ (s.addHealth k c n ca co d).evq = s.evq ∧ (s.addHealth k c n ca co d).evOpen = s.evOpen
    ∧ (s.addHealth k c n ca co d).evFifo = s.evFifo ∧ (s.addHealth k c n ca co d).ueLog = s.ueLog ∧ (s.addHealth k c n
    ca co d).refLog = s.refLog ∧ (s.addHealth k c n ca co d).chans = s.chans ∧ (s.addHealth k c n ca co d).healthSeq =
    s.healthSeq ∧ (s.addHealth k c n ca co d).irqSent = s.irqSent ∧ (s.addHealth k c n ca co d).irqMode = s.irqMode ∧
    (s.addHealth k c n ca co d).msiLog = s.msiLog ∧ (s.addHealth k c n ca co d).d3hot = s.d3hot ∧ (s.addHealth k c n ca
    co d).lbusLow = s.lbusLow ∧ (s.addHealth k c n ca co d).lbusHold = s.lbusHold ∧ (s.addHealth k c n ca co d).lbusLast
    = s.lbusLast ∧ (s.addHealth k c n ca co d).imgCur = s.imgCur ∧ (s.addHealth k c n ca co d).imgBack = s.imgBack ∧
    (s.addHealth k c n ca co d).imgLease = s.imgLease ∧ (s.addHealth k c n ca co d).backBlk = s.backBlk ∧ (s.addHealth k
    c n ca co d).leaseBlk = s.leaseBlk ∧ (s.addHealth k c n ca co d).commitReq = s.commitReq ∧ (s.addHealth k c n ca co
    d).leaseNs = s.leaseNs ∧ (s.addHealth k c n ca co d).leaseExp = s.leaseExp ∧ (s.addHealth k c n ca co d).flowMem =
    s.flowMem ∧ (s.addHealth k c n ca co d).apply = s.apply ∧ (s.addHealth k c n ca co d).olds = s.olds ∧ (s.addHealth k
    c n ca co d).snapDue = s.snapDue ∧ (s.addHealth k c n ca co d).snapWhn = s.snapWhn ∧ (s.addHealth k c n ca co
    d).snapClr = s.snapClr ∧ (s.addHealth k c n ca co d).snapMbx = s.snapMbx ∧ (s.addHealth k c n ca co d).shrews =
    s.shrews ∧ (s.addHealth k c n ca co d).shrPm = s.shrPm ∧ (s.addHealth k c n ca co d).shrFlags = s.shrFlags ∧
    (s.addHealth k c n ca co d).gpLvl = s.gpLvl ∧ (s.addHealth k c n ca co d).gpOe = s.gpOe ∧ (s.addHealth k c n ca co
    d).vddio33 = s.vddio33 ∧ (s.addHealth k c n ca co d).ports = s.ports ∧ (s.addHealth k c n ca co d).arriving =
    s.arriving ∧ (s.addHealth k c n ca co d).ring = s.ring ∧ (s.addHealth k c n ca co d).ringLanes = s.ringLanes ∧
    (s.addHealth k c n ca co d).cans = s.cans ∧ (s.addHealth k c n ca co d).canLocks = s.canLocks ∧ (s.addHealth k c n
    ca co d).hwq = s.hwq ∧ (s.addHealth k c n ca co d).owlRep = s.owlRep ∧ (s.addHealth k c n ca co d).owl = s.owl ∧
    (s.addHealth k c n ca co d).conns = s.conns ∧ (s.addHealth k c n ca co d).tws = s.tws ∧ (s.addHealth k c n ca co
    d).taps = s.taps ∧ (s.addHealth k c n ca co d).flashLog = s.flashLog ∧ (s.addHealth k c n ca co d).supOut = s.supOut
    ∧ (s.addHealth k c n ca co d).pwHash = s.pwHash ∧ (s.addHealth k c n ca co d).trngN = s.trngN ∧ (s.addHealth k c n
    ca co d).hlog = s.hlog ∧ (s.addHealth k c n ca co d).waitWr = s.waitWr ∧ (s.addHealth k c n ca co d).pfail = s.pfail
    ∧ (s.addHealth k c n ca co d).off = s.off ∧ (s.addHealth k c n ca co d).released = s.released ∧ (s.addHealth k c n
    ca co d).mbxSeq = s.mbxSeq ∧ (s.addHealth k c n ca co d).msix = s.msix ∧ (s.addHealth k c n ca co d).pba = s.pba ∧
    (s.addHealth k c n ca co d).selRec = s.selRec ∧ (s.addHealth k c n ca co d).prof = s.prof ∧ (s.addHealth k c n ca co
    d).bundle = s.bundle ∧ (s.addHealth k c n ca co d).startQ = s.startQ ∧ (s.addHealth k c n ca co d).switch = s.switch
    ∧ (s.addHealth k c n ca co d).imgHash = s.imgHash ∧ (s.addHealth k c n ca co d).settOut = s.settOut ∧ (s.addHealth k
    c n ca co d).fstep = s.fstep ∧ (s.addHealth k c n ca co d).stepMask = s.stepMask ∧ (s.addHealth k c n ca co
    d).d3pend = s.d3pend := by
  unfold State.addHealth
  (repeat' split) <;> simp
@[simp] theorem State.get_addHealth (s : State) (k c n ca co d : Nat) {f : Field} (j : Nat) :
    (s.addHealth k c n ca co d).get f j = s.get f j := rfl
@[simp] theorem State.act_addHealth (s : State) (k c n ca co d : Nat) {f : Field} (j : Nat) :
    (s.addHealth k c n ca co d).act f j = s.act f j := rfl

/-- `permanent` changes `pend`, `live`, `evq`, `health`, `chans` and nothing else. -/
@[simp] theorem State.permanent_frame (s : State) (k n c d : Nat) :
    (s.permanent k n c d).pending = s.pending ∧ (s.permanent k n c d).actv = s.actv ∧ (s.permanent k n c d).held =
    s.held ∧ (s.permanent k n c d).fresh = s.fresh ∧ (s.permanent k n c d).rdata = s.rdata ∧ (s.permanent k n c d).time
    = s.time ∧ (s.permanent k n c d).up = s.up ∧ (s.permanent k n c d).relAt = s.relAt ∧ (s.permanent k n c d).timers =
    s.timers ∧ (s.permanent k n c d).slew = s.slew ∧ (s.permanent k n c d).ppsGood = s.ppsGood ∧ (s.permanent k n c
    d).srcLock = s.srcLock ∧ (s.permanent k n c d).ppsOut = s.ppsOut ∧ (s.permanent k n c d).axes = s.axes ∧
    (s.permanent k n c d).plls = s.plls ∧ (s.permanent k n c d).cal = s.cal ∧ (s.permanent k n c d).capt = s.capt ∧
    (s.permanent k n c d).gates = s.gates ∧ (s.permanent k n c d).threads = s.threads ∧ (s.permanent k n c d).engines =
    s.engines ∧ (s.permanent k n c d).sigs = s.sigs ∧ (s.permanent k n c d).im = s.im ∧ (s.permanent k n c d).dm = s.dm
    ∧ (s.permanent k n c d).frames = s.frames ∧ (s.permanent k n c d).pinQ = s.pinQ ∧ (s.permanent k n c d).midQ =
    s.midQ ∧ (s.permanent k n c d).outQ = s.outQ ∧ (s.permanent k n c d).txing = s.txing ∧ (s.permanent k n c d).stage =
    s.stage ∧ (s.permanent k n c d).mirUse = s.mirUse ∧ (s.permanent k n c d).rxNum = s.rxNum ∧ (s.permanent k n c
    d).txNum = s.txNum ∧ (s.permanent k n c d).subm = s.subm ∧ (s.permanent k n c d).cram = s.cram ∧ (s.permanent k n c
    d).poison = s.poison ∧ (s.permanent k n c d).hostMem = s.hostMem ∧ (s.permanent k n c d).pwe = s.pwe ∧ (s.permanent
    k n c d).htx = s.htx ∧ (s.permanent k n c d).htxc = s.htxc ∧ (s.permanent k n c d).mbx = s.mbx ∧ (s.permanent k n c
    d).syncTotal = s.syncTotal ∧ (s.permanent k n c d).evOpen = s.evOpen ∧ (s.permanent k n c d).evFifo = s.evFifo ∧
    (s.permanent k n c d).ueLog = s.ueLog ∧ (s.permanent k n c d).refLog = s.refLog ∧ (s.permanent k n c d).healthSeq =
    s.healthSeq ∧ (s.permanent k n c d).irqSent = s.irqSent ∧ (s.permanent k n c d).irqMode = s.irqMode ∧ (s.permanent k
    n c d).msiLog = s.msiLog ∧ (s.permanent k n c d).d3hot = s.d3hot ∧ (s.permanent k n c d).lbusLow = s.lbusLow ∧
    (s.permanent k n c d).lbusHold = s.lbusHold ∧ (s.permanent k n c d).lbusLast = s.lbusLast ∧ (s.permanent k n c
    d).imgCur = s.imgCur ∧ (s.permanent k n c d).imgBack = s.imgBack ∧ (s.permanent k n c d).imgLease = s.imgLease ∧
    (s.permanent k n c d).backBlk = s.backBlk ∧ (s.permanent k n c d).leaseBlk = s.leaseBlk ∧ (s.permanent k n c
    d).commitReq = s.commitReq ∧ (s.permanent k n c d).leaseNs = s.leaseNs ∧ (s.permanent k n c d).leaseExp = s.leaseExp
    ∧ (s.permanent k n c d).flowMem = s.flowMem ∧ (s.permanent k n c d).apply = s.apply ∧ (s.permanent k n c d).olds =
    s.olds ∧ (s.permanent k n c d).snapDue = s.snapDue ∧ (s.permanent k n c d).snapWhn = s.snapWhn ∧ (s.permanent k n c
    d).snapClr = s.snapClr ∧ (s.permanent k n c d).snapMbx = s.snapMbx ∧ (s.permanent k n c d).shrews = s.shrews ∧
    (s.permanent k n c d).shrPm = s.shrPm ∧ (s.permanent k n c d).shrFlags = s.shrFlags ∧ (s.permanent k n c d).gpLvl =
    s.gpLvl ∧ (s.permanent k n c d).gpOe = s.gpOe ∧ (s.permanent k n c d).vddio33 = s.vddio33 ∧ (s.permanent k n c
    d).ports = s.ports ∧ (s.permanent k n c d).arriving = s.arriving ∧ (s.permanent k n c d).ring = s.ring ∧
    (s.permanent k n c d).ringLanes = s.ringLanes ∧ (s.permanent k n c d).cans = s.cans ∧ (s.permanent k n c d).canLocks
    = s.canLocks ∧ (s.permanent k n c d).hwq = s.hwq ∧ (s.permanent k n c d).owlRep = s.owlRep ∧ (s.permanent k n c
    d).owl = s.owl ∧ (s.permanent k n c d).conns = s.conns ∧ (s.permanent k n c d).tws = s.tws ∧ (s.permanent k n c
    d).taps = s.taps ∧ (s.permanent k n c d).flashLog = s.flashLog ∧ (s.permanent k n c d).supOut = s.supOut ∧
    (s.permanent k n c d).pwHash = s.pwHash ∧ (s.permanent k n c d).trngN = s.trngN ∧ (s.permanent k n c d).hlog =
    s.hlog ∧ (s.permanent k n c d).waitWr = s.waitWr ∧ (s.permanent k n c d).pfail = s.pfail ∧ (s.permanent k n c d).off
    = s.off ∧ (s.permanent k n c d).released = s.released ∧ (s.permanent k n c d).mbxSeq = s.mbxSeq ∧ (s.permanent k n c
    d).msix = s.msix ∧ (s.permanent k n c d).pba = s.pba ∧ (s.permanent k n c d).selRec = s.selRec ∧ (s.permanent k n c
    d).prof = s.prof ∧ (s.permanent k n c d).bundle = s.bundle ∧ (s.permanent k n c d).startQ = s.startQ ∧ (s.permanent
    k n c d).switch = s.switch ∧ (s.permanent k n c d).imgHash = s.imgHash ∧ (s.permanent k n c d).settOut = s.settOut ∧
    (s.permanent k n c d).fstep = s.fstep ∧ (s.permanent k n c d).stepMask = s.stepMask ∧ (s.permanent k n c d).d3pend =
    s.d3pend := by
  unfold State.permanent
  dsimp only
  (repeat' split) <;> simp
@[simp] theorem State.get_permanent (s : State) (k n c d : Nat) {f : Field} (j : Nat) (h0 : F.evtCEvents.id ≠ f.id) (h1 : F.evtCInLost.id ≠ f.id) (h2 : F.evtChstatPermSeen.id ≠ f.id) (h3 : F.evtChstatCause.id ≠ f.id) :
    (s.permanent k n c d).get f j = s.get f j := by
  unfold State.permanent
  dsimp only
  have e := ((((s.raise 0x59 (k * 256 + n)).put F.evtChstatPermSeen (k * 64 + n) 1).get_put_id (k * 64 + n) j c h3).trans
    ((s.raise 0x59 (k * 256 + n)).get_put_id (k * 64 + n) j 1 h2)).trans (s.get_raise _ _ _ _ j h0 h1)
  split
  · rw [State.get_setChan, State.get_addHealth]; exact e
  · rw [State.get_setChan, State.get_addHealth]; exact e
@[simp] theorem State.act_permanent (s : State) (k n c d : Nat) {f : Field} (j : Nat) (h0 : F.evtCEvents.id ≠ f.id) (h1 : F.evtCInLost.id ≠ f.id) (h2 : F.evtChstatPermSeen.id ≠ f.id) (h3 : F.evtChstatCause.id ≠ f.id) :
    (s.permanent k n c d).act f j = s.act f j := by
  unfold State.permanent
  dsimp only
  have e := ((((s.raise 0x59 (k * 256 + n)).put F.evtChstatPermSeen (k * 64 + n) 1).act_put_id (k * 64 + n) j c h3).trans
    ((s.raise 0x59 (k * 256 + n)).act_put_id (k * 64 + n) j 1 h2)).trans (s.act_raise _ _ _ _ j h0 h1)
  split
  · rw [State.act_setChan, State.act_addHealth]; exact e
  · rw [State.act_setChan, State.act_addHealth]; exact e

/-- `chFault` changes `pend`, `live`, `evq`, `health`, `chans` and nothing else. -/
@[simp] theorem State.chFault_frame (s : State) (k n : Nat) :
    (s.chFault k n).pending = s.pending ∧ (s.chFault k n).actv = s.actv ∧ (s.chFault k n).held = s.held ∧ (s.chFault k
    n).fresh = s.fresh ∧ (s.chFault k n).rdata = s.rdata ∧ (s.chFault k n).time = s.time ∧ (s.chFault k n).up = s.up ∧
    (s.chFault k n).relAt = s.relAt ∧ (s.chFault k n).timers = s.timers ∧ (s.chFault k n).slew = s.slew ∧ (s.chFault k
    n).ppsGood = s.ppsGood ∧ (s.chFault k n).srcLock = s.srcLock ∧ (s.chFault k n).ppsOut = s.ppsOut ∧ (s.chFault k
    n).axes = s.axes ∧ (s.chFault k n).plls = s.plls ∧ (s.chFault k n).cal = s.cal ∧ (s.chFault k n).capt = s.capt ∧
    (s.chFault k n).gates = s.gates ∧ (s.chFault k n).threads = s.threads ∧ (s.chFault k n).engines = s.engines ∧
    (s.chFault k n).sigs = s.sigs ∧ (s.chFault k n).im = s.im ∧ (s.chFault k n).dm = s.dm ∧ (s.chFault k n).frames =
    s.frames ∧ (s.chFault k n).pinQ = s.pinQ ∧ (s.chFault k n).midQ = s.midQ ∧ (s.chFault k n).outQ = s.outQ ∧
    (s.chFault k n).txing = s.txing ∧ (s.chFault k n).stage = s.stage ∧ (s.chFault k n).mirUse = s.mirUse ∧ (s.chFault k
    n).rxNum = s.rxNum ∧ (s.chFault k n).txNum = s.txNum ∧ (s.chFault k n).subm = s.subm ∧ (s.chFault k n).cram = s.cram
    ∧ (s.chFault k n).poison = s.poison ∧ (s.chFault k n).hostMem = s.hostMem ∧ (s.chFault k n).pwe = s.pwe ∧ (s.chFault
    k n).htx = s.htx ∧ (s.chFault k n).htxc = s.htxc ∧ (s.chFault k n).mbx = s.mbx ∧ (s.chFault k n).syncTotal =
    s.syncTotal ∧ (s.chFault k n).evOpen = s.evOpen ∧ (s.chFault k n).evFifo = s.evFifo ∧ (s.chFault k n).ueLog =
    s.ueLog ∧ (s.chFault k n).refLog = s.refLog ∧ (s.chFault k n).healthSeq = s.healthSeq ∧ (s.chFault k n).irqSent =
    s.irqSent ∧ (s.chFault k n).irqMode = s.irqMode ∧ (s.chFault k n).msiLog = s.msiLog ∧ (s.chFault k n).d3hot =
    s.d3hot ∧ (s.chFault k n).lbusLow = s.lbusLow ∧ (s.chFault k n).lbusHold = s.lbusHold ∧ (s.chFault k n).lbusLast =
    s.lbusLast ∧ (s.chFault k n).imgCur = s.imgCur ∧ (s.chFault k n).imgBack = s.imgBack ∧ (s.chFault k n).imgLease =
    s.imgLease ∧ (s.chFault k n).backBlk = s.backBlk ∧ (s.chFault k n).leaseBlk = s.leaseBlk ∧ (s.chFault k n).commitReq
    = s.commitReq ∧ (s.chFault k n).leaseNs = s.leaseNs ∧ (s.chFault k n).leaseExp = s.leaseExp ∧ (s.chFault k
    n).flowMem = s.flowMem ∧ (s.chFault k n).apply = s.apply ∧ (s.chFault k n).olds = s.olds ∧ (s.chFault k n).snapDue =
    s.snapDue ∧ (s.chFault k n).snapWhn = s.snapWhn ∧ (s.chFault k n).snapClr = s.snapClr ∧ (s.chFault k n).snapMbx =
    s.snapMbx ∧ (s.chFault k n).shrews = s.shrews ∧ (s.chFault k n).shrPm = s.shrPm ∧ (s.chFault k n).shrFlags =
    s.shrFlags ∧ (s.chFault k n).gpLvl = s.gpLvl ∧ (s.chFault k n).gpOe = s.gpOe ∧ (s.chFault k n).vddio33 = s.vddio33 ∧
    (s.chFault k n).ports = s.ports ∧ (s.chFault k n).arriving = s.arriving ∧ (s.chFault k n).ring = s.ring ∧ (s.chFault
    k n).ringLanes = s.ringLanes ∧ (s.chFault k n).cans = s.cans ∧ (s.chFault k n).canLocks = s.canLocks ∧ (s.chFault k
    n).hwq = s.hwq ∧ (s.chFault k n).owlRep = s.owlRep ∧ (s.chFault k n).owl = s.owl ∧ (s.chFault k n).conns = s.conns ∧
    (s.chFault k n).tws = s.tws ∧ (s.chFault k n).taps = s.taps ∧ (s.chFault k n).flashLog = s.flashLog ∧ (s.chFault k
    n).supOut = s.supOut ∧ (s.chFault k n).pwHash = s.pwHash ∧ (s.chFault k n).trngN = s.trngN ∧ (s.chFault k n).hlog =
    s.hlog ∧ (s.chFault k n).waitWr = s.waitWr ∧ (s.chFault k n).pfail = s.pfail ∧ (s.chFault k n).off = s.off ∧
    (s.chFault k n).released = s.released ∧ (s.chFault k n).mbxSeq = s.mbxSeq ∧ (s.chFault k n).msix = s.msix ∧
    (s.chFault k n).pba = s.pba ∧ (s.chFault k n).selRec = s.selRec ∧ (s.chFault k n).prof = s.prof ∧ (s.chFault k
    n).bundle = s.bundle ∧ (s.chFault k n).startQ = s.startQ ∧ (s.chFault k n).switch = s.switch ∧ (s.chFault k
    n).imgHash = s.imgHash ∧ (s.chFault k n).settOut = s.settOut ∧ (s.chFault k n).fstep = s.fstep ∧ (s.chFault k
    n).stepMask = s.stepMask ∧ (s.chFault k n).d3pend = s.d3pend := by
  unfold State.chFault
  dsimp only
  split
  · simp
  · split <;> simp
@[simp] theorem State.get_chFault (s : State) (k n : Nat) {f : Field} (j : Nat) (h0 : F.evtCEvents.id ≠ f.id) (h1 : F.evtCInLost.id ≠ f.id) (h2 : F.evtChstatPermSeen.id ≠ f.id) (h3 : F.evtChstatCause.id ≠ f.id) (h4 : F.evtChfaults.id ≠ f.id) :
    (s.chFault k n).get f j = s.get f j := by
  unfold State.chFault
  dsimp only
  have e := s.get_inc_id (k * 64 + n) j 1 h4
  have e2 := ((s.inc F.evtChfaults (k * 64 + n)).get_raise 0x58 (k * 256 + n) 0 0 j h0 h1).trans e
  split
  · exact e2
  · split
    · rw [State.get_permanent _ k n 1 0 j h0 h1 h2 h3, State.get_setChan]; exact e2
    · rw [State.get_setChan]; exact e2
@[simp] theorem State.act_chFault (s : State) (k n : Nat) {f : Field} (j : Nat) (h0 : F.evtCEvents.id ≠ f.id) (h1 : F.evtCInLost.id ≠ f.id) (h2 : F.evtChstatPermSeen.id ≠ f.id) (h3 : F.evtChstatCause.id ≠ f.id) (h4 : F.evtChfaults.id ≠ f.id) :
    (s.chFault k n).act f j = s.act f j := by
  unfold State.chFault
  dsimp only
  have e := s.act_inc_id (k * 64 + n) j 1 h4
  have e2 := ((s.inc F.evtChfaults (k * 64 + n)).act_raise 0x58 (k * 256 + n) 0 0 j h0 h1).trans e
  split
  · exact e2
  · split
    · rw [State.act_permanent _ k n 1 0 j h0 h1 h2 h3, State.act_setChan]; exact e2
    · rw [State.act_setChan]; exact e2

/-- `hard` changes `pend`, `live`, `evq`, `health`, `chans` and nothing else. -/
@[simp] theorem State.hard_frame (s : State) (k n c d : Nat) :
    (s.hard k n c d).pending = s.pending ∧ (s.hard k n c d).actv = s.actv ∧ (s.hard k n c d).held = s.held ∧ (s.hard k n
    c d).fresh = s.fresh ∧ (s.hard k n c d).rdata = s.rdata ∧ (s.hard k n c d).time = s.time ∧ (s.hard k n c d).up =
    s.up ∧ (s.hard k n c d).relAt = s.relAt ∧ (s.hard k n c d).timers = s.timers ∧ (s.hard k n c d).slew = s.slew ∧
    (s.hard k n c d).ppsGood = s.ppsGood ∧ (s.hard k n c d).srcLock = s.srcLock ∧ (s.hard k n c d).ppsOut = s.ppsOut ∧
    (s.hard k n c d).axes = s.axes ∧ (s.hard k n c d).plls = s.plls ∧ (s.hard k n c d).cal = s.cal ∧ (s.hard k n c
    d).capt = s.capt ∧ (s.hard k n c d).gates = s.gates ∧ (s.hard k n c d).threads = s.threads ∧ (s.hard k n c
    d).engines = s.engines ∧ (s.hard k n c d).sigs = s.sigs ∧ (s.hard k n c d).im = s.im ∧ (s.hard k n c d).dm = s.dm ∧
    (s.hard k n c d).frames = s.frames ∧ (s.hard k n c d).pinQ = s.pinQ ∧ (s.hard k n c d).midQ = s.midQ ∧ (s.hard k n c
    d).outQ = s.outQ ∧ (s.hard k n c d).txing = s.txing ∧ (s.hard k n c d).stage = s.stage ∧ (s.hard k n c d).mirUse =
    s.mirUse ∧ (s.hard k n c d).rxNum = s.rxNum ∧ (s.hard k n c d).txNum = s.txNum ∧ (s.hard k n c d).subm = s.subm ∧
    (s.hard k n c d).cram = s.cram ∧ (s.hard k n c d).poison = s.poison ∧ (s.hard k n c d).hostMem = s.hostMem ∧ (s.hard
    k n c d).pwe = s.pwe ∧ (s.hard k n c d).htx = s.htx ∧ (s.hard k n c d).htxc = s.htxc ∧ (s.hard k n c d).mbx = s.mbx
    ∧ (s.hard k n c d).syncTotal = s.syncTotal ∧ (s.hard k n c d).evOpen = s.evOpen ∧ (s.hard k n c d).evFifo = s.evFifo
    ∧ (s.hard k n c d).ueLog = s.ueLog ∧ (s.hard k n c d).refLog = s.refLog ∧ (s.hard k n c d).healthSeq = s.healthSeq ∧
    (s.hard k n c d).irqSent = s.irqSent ∧ (s.hard k n c d).irqMode = s.irqMode ∧ (s.hard k n c d).msiLog = s.msiLog ∧
    (s.hard k n c d).d3hot = s.d3hot ∧ (s.hard k n c d).lbusLow = s.lbusLow ∧ (s.hard k n c d).lbusHold = s.lbusHold ∧
    (s.hard k n c d).lbusLast = s.lbusLast ∧ (s.hard k n c d).imgCur = s.imgCur ∧ (s.hard k n c d).imgBack = s.imgBack ∧
    (s.hard k n c d).imgLease = s.imgLease ∧ (s.hard k n c d).backBlk = s.backBlk ∧ (s.hard k n c d).leaseBlk =
    s.leaseBlk ∧ (s.hard k n c d).commitReq = s.commitReq ∧ (s.hard k n c d).leaseNs = s.leaseNs ∧ (s.hard k n c
    d).leaseExp = s.leaseExp ∧ (s.hard k n c d).flowMem = s.flowMem ∧ (s.hard k n c d).apply = s.apply ∧ (s.hard k n c
    d).olds = s.olds ∧ (s.hard k n c d).snapDue = s.snapDue ∧ (s.hard k n c d).snapWhn = s.snapWhn ∧ (s.hard k n c
    d).snapClr = s.snapClr ∧ (s.hard k n c d).snapMbx = s.snapMbx ∧ (s.hard k n c d).shrews = s.shrews ∧ (s.hard k n c
    d).shrPm = s.shrPm ∧ (s.hard k n c d).shrFlags = s.shrFlags ∧ (s.hard k n c d).gpLvl = s.gpLvl ∧ (s.hard k n c
    d).gpOe = s.gpOe ∧ (s.hard k n c d).vddio33 = s.vddio33 ∧ (s.hard k n c d).ports = s.ports ∧ (s.hard k n c
    d).arriving = s.arriving ∧ (s.hard k n c d).ring = s.ring ∧ (s.hard k n c d).ringLanes = s.ringLanes ∧ (s.hard k n c
    d).cans = s.cans ∧ (s.hard k n c d).canLocks = s.canLocks ∧ (s.hard k n c d).hwq = s.hwq ∧ (s.hard k n c d).owlRep =
    s.owlRep ∧ (s.hard k n c d).owl = s.owl ∧ (s.hard k n c d).conns = s.conns ∧ (s.hard k n c d).tws = s.tws ∧ (s.hard
    k n c d).taps = s.taps ∧ (s.hard k n c d).flashLog = s.flashLog ∧ (s.hard k n c d).supOut = s.supOut ∧ (s.hard k n c
    d).pwHash = s.pwHash ∧ (s.hard k n c d).trngN = s.trngN ∧ (s.hard k n c d).hlog = s.hlog ∧ (s.hard k n c d).waitWr =
    s.waitWr ∧ (s.hard k n c d).pfail = s.pfail ∧ (s.hard k n c d).off = s.off ∧ (s.hard k n c d).released = s.released
    ∧ (s.hard k n c d).mbxSeq = s.mbxSeq ∧ (s.hard k n c d).msix = s.msix ∧ (s.hard k n c d).pba = s.pba ∧ (s.hard k n c
    d).selRec = s.selRec ∧ (s.hard k n c d).prof = s.prof ∧ (s.hard k n c d).bundle = s.bundle ∧ (s.hard k n c d).startQ
    = s.startQ ∧ (s.hard k n c d).switch = s.switch ∧ (s.hard k n c d).imgHash = s.imgHash ∧ (s.hard k n c d).settOut =
    s.settOut ∧ (s.hard k n c d).fstep = s.fstep ∧ (s.hard k n c d).stepMask = s.stepMask ∧ (s.hard k n c d).d3pend =
    s.d3pend := by
  unfold State.hard
  (repeat' split) <;> simp
@[simp] theorem State.get_hard (s : State) (k n c d : Nat) {f : Field} (j : Nat) (h0 : F.evtCEvents.id ≠ f.id) (h1 : F.evtCInLost.id ≠ f.id) (h2 : F.evtChstatPermSeen.id ≠ f.id) (h3 : F.evtChstatCause.id ≠ f.id) :
    (s.hard k n c d).get f j = s.get f j := by
  unfold State.hard
  (repeat' split) <;> simp [*] <;> rfl
@[simp] theorem State.act_hard (s : State) (k n c d : Nat) {f : Field} (j : Nat) (h0 : F.evtCEvents.id ≠ f.id) (h1 : F.evtCInLost.id ≠ f.id) (h2 : F.evtChstatPermSeen.id ≠ f.id) (h3 : F.evtChstatCause.id ≠ f.id) :
    (s.hard k n c d).act f j = s.act f j := by
  unfold State.hard
  (repeat' split) <;> simp [*] <;> rfl

/-- `setEvp` changes `threads` and nothing else. -/
@[simp] theorem State.setEvp_frame (s : State) (k b : Nat) :
    (s.setEvp k b).pending = s.pending ∧ (s.setEvp k b).pend = s.pend ∧ (s.setEvp k b).actv = s.actv ∧ (s.setEvp k
    b).live = s.live ∧ (s.setEvp k b).held = s.held ∧ (s.setEvp k b).fresh = s.fresh ∧ (s.setEvp k b).rdata = s.rdata ∧
    (s.setEvp k b).time = s.time ∧ (s.setEvp k b).up = s.up ∧ (s.setEvp k b).relAt = s.relAt ∧ (s.setEvp k b).timers =
    s.timers ∧ (s.setEvp k b).slew = s.slew ∧ (s.setEvp k b).ppsGood = s.ppsGood ∧ (s.setEvp k b).srcLock = s.srcLock ∧
    (s.setEvp k b).ppsOut = s.ppsOut ∧ (s.setEvp k b).axes = s.axes ∧ (s.setEvp k b).plls = s.plls ∧ (s.setEvp k b).cal
    = s.cal ∧ (s.setEvp k b).capt = s.capt ∧ (s.setEvp k b).gates = s.gates ∧ (s.setEvp k b).engines = s.engines ∧
    (s.setEvp k b).sigs = s.sigs ∧ (s.setEvp k b).im = s.im ∧ (s.setEvp k b).dm = s.dm ∧ (s.setEvp k b).frames =
    s.frames ∧ (s.setEvp k b).pinQ = s.pinQ ∧ (s.setEvp k b).midQ = s.midQ ∧ (s.setEvp k b).outQ = s.outQ ∧ (s.setEvp k
    b).txing = s.txing ∧ (s.setEvp k b).stage = s.stage ∧ (s.setEvp k b).mirUse = s.mirUse ∧ (s.setEvp k b).rxNum =
    s.rxNum ∧ (s.setEvp k b).txNum = s.txNum ∧ (s.setEvp k b).subm = s.subm ∧ (s.setEvp k b).cram = s.cram ∧ (s.setEvp k
    b).poison = s.poison ∧ (s.setEvp k b).hostMem = s.hostMem ∧ (s.setEvp k b).pwe = s.pwe ∧ (s.setEvp k b).htx = s.htx
    ∧ (s.setEvp k b).htxc = s.htxc ∧ (s.setEvp k b).mbx = s.mbx ∧ (s.setEvp k b).syncTotal = s.syncTotal ∧ (s.setEvp k
    b).evq = s.evq ∧ (s.setEvp k b).evOpen = s.evOpen ∧ (s.setEvp k b).evFifo = s.evFifo ∧ (s.setEvp k b).ueLog =
    s.ueLog ∧ (s.setEvp k b).refLog = s.refLog ∧ (s.setEvp k b).chans = s.chans ∧ (s.setEvp k b).health = s.health ∧
    (s.setEvp k b).healthSeq = s.healthSeq ∧ (s.setEvp k b).irqSent = s.irqSent ∧ (s.setEvp k b).irqMode = s.irqMode ∧
    (s.setEvp k b).msiLog = s.msiLog ∧ (s.setEvp k b).d3hot = s.d3hot ∧ (s.setEvp k b).lbusLow = s.lbusLow ∧ (s.setEvp k
    b).lbusHold = s.lbusHold ∧ (s.setEvp k b).lbusLast = s.lbusLast ∧ (s.setEvp k b).imgCur = s.imgCur ∧ (s.setEvp k
    b).imgBack = s.imgBack ∧ (s.setEvp k b).imgLease = s.imgLease ∧ (s.setEvp k b).backBlk = s.backBlk ∧ (s.setEvp k
    b).leaseBlk = s.leaseBlk ∧ (s.setEvp k b).commitReq = s.commitReq ∧ (s.setEvp k b).leaseNs = s.leaseNs ∧ (s.setEvp k
    b).leaseExp = s.leaseExp ∧ (s.setEvp k b).flowMem = s.flowMem ∧ (s.setEvp k b).apply = s.apply ∧ (s.setEvp k b).olds
    = s.olds ∧ (s.setEvp k b).snapDue = s.snapDue ∧ (s.setEvp k b).snapWhn = s.snapWhn ∧ (s.setEvp k b).snapClr =
    s.snapClr ∧ (s.setEvp k b).snapMbx = s.snapMbx ∧ (s.setEvp k b).shrews = s.shrews ∧ (s.setEvp k b).shrPm = s.shrPm ∧
    (s.setEvp k b).shrFlags = s.shrFlags ∧ (s.setEvp k b).gpLvl = s.gpLvl ∧ (s.setEvp k b).gpOe = s.gpOe ∧ (s.setEvp k
    b).vddio33 = s.vddio33 ∧ (s.setEvp k b).ports = s.ports ∧ (s.setEvp k b).arriving = s.arriving ∧ (s.setEvp k b).ring
    = s.ring ∧ (s.setEvp k b).ringLanes = s.ringLanes ∧ (s.setEvp k b).cans = s.cans ∧ (s.setEvp k b).canLocks =
    s.canLocks ∧ (s.setEvp k b).hwq = s.hwq ∧ (s.setEvp k b).owlRep = s.owlRep ∧ (s.setEvp k b).owl = s.owl ∧ (s.setEvp
    k b).conns = s.conns ∧ (s.setEvp k b).tws = s.tws ∧ (s.setEvp k b).taps = s.taps ∧ (s.setEvp k b).flashLog =
    s.flashLog ∧ (s.setEvp k b).supOut = s.supOut ∧ (s.setEvp k b).pwHash = s.pwHash ∧ (s.setEvp k b).trngN = s.trngN ∧
    (s.setEvp k b).hlog = s.hlog ∧ (s.setEvp k b).waitWr = s.waitWr ∧ (s.setEvp k b).pfail = s.pfail ∧ (s.setEvp k
    b).off = s.off ∧ (s.setEvp k b).released = s.released ∧ (s.setEvp k b).mbxSeq = s.mbxSeq ∧ (s.setEvp k b).msix =
    s.msix ∧ (s.setEvp k b).pba = s.pba ∧ (s.setEvp k b).selRec = s.selRec ∧ (s.setEvp k b).prof = s.prof ∧ (s.setEvp k
    b).bundle = s.bundle ∧ (s.setEvp k b).startQ = s.startQ ∧ (s.setEvp k b).switch = s.switch ∧ (s.setEvp k b).imgHash
    = s.imgHash ∧ (s.setEvp k b).settOut = s.settOut ∧ (s.setEvp k b).fstep = s.fstep ∧ (s.setEvp k b).stepMask =
    s.stepMask ∧ (s.setEvp k b).d3pend = s.d3pend := by
  unfold State.setEvp
  (repeat' split) <;> simp
@[simp] theorem State.get_setEvp (s : State) (k b : Nat) {f : Field} (j : Nat) :
    (s.setEvp k b).get f j = s.get f j := by
  unfold State.setEvp
  (repeat' split) <;> simp [*] <;> rfl
@[simp] theorem State.act_setEvp (s : State) (k b : Nat) {f : Field} (j : Nat) :
    (s.setEvp k b).act f j = s.act f j := by
  unfold State.setEvp
  (repeat' split) <;> simp [*] <;> rfl

/-- `wakeOvr` changes `pend`, `live`, `evq` and nothing else. -/
@[simp] theorem State.wakeOvr_frame (s : State) (k : Nat) :
    (s.wakeOvr k).pending = s.pending ∧ (s.wakeOvr k).actv = s.actv ∧ (s.wakeOvr k).held = s.held ∧ (s.wakeOvr k).fresh
    = s.fresh ∧ (s.wakeOvr k).rdata = s.rdata ∧ (s.wakeOvr k).time = s.time ∧ (s.wakeOvr k).up = s.up ∧ (s.wakeOvr
    k).relAt = s.relAt ∧ (s.wakeOvr k).timers = s.timers ∧ (s.wakeOvr k).slew = s.slew ∧ (s.wakeOvr k).ppsGood =
    s.ppsGood ∧ (s.wakeOvr k).srcLock = s.srcLock ∧ (s.wakeOvr k).ppsOut = s.ppsOut ∧ (s.wakeOvr k).axes = s.axes ∧
    (s.wakeOvr k).plls = s.plls ∧ (s.wakeOvr k).cal = s.cal ∧ (s.wakeOvr k).capt = s.capt ∧ (s.wakeOvr k).gates =
    s.gates ∧ (s.wakeOvr k).threads = s.threads ∧ (s.wakeOvr k).engines = s.engines ∧ (s.wakeOvr k).sigs = s.sigs ∧
    (s.wakeOvr k).im = s.im ∧ (s.wakeOvr k).dm = s.dm ∧ (s.wakeOvr k).frames = s.frames ∧ (s.wakeOvr k).pinQ = s.pinQ ∧
    (s.wakeOvr k).midQ = s.midQ ∧ (s.wakeOvr k).outQ = s.outQ ∧ (s.wakeOvr k).txing = s.txing ∧ (s.wakeOvr k).stage =
    s.stage ∧ (s.wakeOvr k).mirUse = s.mirUse ∧ (s.wakeOvr k).rxNum = s.rxNum ∧ (s.wakeOvr k).txNum = s.txNum ∧
    (s.wakeOvr k).subm = s.subm ∧ (s.wakeOvr k).cram = s.cram ∧ (s.wakeOvr k).poison = s.poison ∧ (s.wakeOvr k).hostMem
    = s.hostMem ∧ (s.wakeOvr k).pwe = s.pwe ∧ (s.wakeOvr k).htx = s.htx ∧ (s.wakeOvr k).htxc = s.htxc ∧ (s.wakeOvr
    k).mbx = s.mbx ∧ (s.wakeOvr k).syncTotal = s.syncTotal ∧ (s.wakeOvr k).evOpen = s.evOpen ∧ (s.wakeOvr k).evFifo =
    s.evFifo ∧ (s.wakeOvr k).ueLog = s.ueLog ∧ (s.wakeOvr k).refLog = s.refLog ∧ (s.wakeOvr k).chans = s.chans ∧
    (s.wakeOvr k).health = s.health ∧ (s.wakeOvr k).healthSeq = s.healthSeq ∧ (s.wakeOvr k).irqSent = s.irqSent ∧
    (s.wakeOvr k).irqMode = s.irqMode ∧ (s.wakeOvr k).msiLog = s.msiLog ∧ (s.wakeOvr k).d3hot = s.d3hot ∧ (s.wakeOvr
    k).lbusLow = s.lbusLow ∧ (s.wakeOvr k).lbusHold = s.lbusHold ∧ (s.wakeOvr k).lbusLast = s.lbusLast ∧ (s.wakeOvr
    k).imgCur = s.imgCur ∧ (s.wakeOvr k).imgBack = s.imgBack ∧ (s.wakeOvr k).imgLease = s.imgLease ∧ (s.wakeOvr
    k).backBlk = s.backBlk ∧ (s.wakeOvr k).leaseBlk = s.leaseBlk ∧ (s.wakeOvr k).commitReq = s.commitReq ∧ (s.wakeOvr
    k).leaseNs = s.leaseNs ∧ (s.wakeOvr k).leaseExp = s.leaseExp ∧ (s.wakeOvr k).flowMem = s.flowMem ∧ (s.wakeOvr
    k).apply = s.apply ∧ (s.wakeOvr k).olds = s.olds ∧ (s.wakeOvr k).snapDue = s.snapDue ∧ (s.wakeOvr k).snapWhn =
    s.snapWhn ∧ (s.wakeOvr k).snapClr = s.snapClr ∧ (s.wakeOvr k).snapMbx = s.snapMbx ∧ (s.wakeOvr k).shrews = s.shrews
    ∧ (s.wakeOvr k).shrPm = s.shrPm ∧ (s.wakeOvr k).shrFlags = s.shrFlags ∧ (s.wakeOvr k).gpLvl = s.gpLvl ∧ (s.wakeOvr
    k).gpOe = s.gpOe ∧ (s.wakeOvr k).vddio33 = s.vddio33 ∧ (s.wakeOvr k).ports = s.ports ∧ (s.wakeOvr k).arriving =
    s.arriving ∧ (s.wakeOvr k).ring = s.ring ∧ (s.wakeOvr k).ringLanes = s.ringLanes ∧ (s.wakeOvr k).cans = s.cans ∧
    (s.wakeOvr k).canLocks = s.canLocks ∧ (s.wakeOvr k).hwq = s.hwq ∧ (s.wakeOvr k).owlRep = s.owlRep ∧ (s.wakeOvr
    k).owl = s.owl ∧ (s.wakeOvr k).conns = s.conns ∧ (s.wakeOvr k).tws = s.tws ∧ (s.wakeOvr k).taps = s.taps ∧
    (s.wakeOvr k).flashLog = s.flashLog ∧ (s.wakeOvr k).supOut = s.supOut ∧ (s.wakeOvr k).pwHash = s.pwHash ∧ (s.wakeOvr
    k).trngN = s.trngN ∧ (s.wakeOvr k).hlog = s.hlog ∧ (s.wakeOvr k).waitWr = s.waitWr ∧ (s.wakeOvr k).pfail = s.pfail ∧
    (s.wakeOvr k).off = s.off ∧ (s.wakeOvr k).released = s.released ∧ (s.wakeOvr k).mbxSeq = s.mbxSeq ∧ (s.wakeOvr
    k).msix = s.msix ∧ (s.wakeOvr k).pba = s.pba ∧ (s.wakeOvr k).selRec = s.selRec ∧ (s.wakeOvr k).prof = s.prof ∧
    (s.wakeOvr k).bundle = s.bundle ∧ (s.wakeOvr k).startQ = s.startQ ∧ (s.wakeOvr k).switch = s.switch ∧ (s.wakeOvr
    k).imgHash = s.imgHash ∧ (s.wakeOvr k).settOut = s.settOut ∧ (s.wakeOvr k).fstep = s.fstep ∧ (s.wakeOvr k).stepMask
    = s.stepMask ∧ (s.wakeOvr k).d3pend = s.d3pend := by
  unfold State.wakeOvr
  (repeat' split) <;> simp
@[simp] theorem State.get_wakeOvr (s : State) (k : Nat) {f : Field} (j : Nat) (h0 : F.evtCEvents.id ≠ f.id) (h1 : F.evtCInLost.id ≠ f.id) (h2 : F.foxTWakeOvr.id ≠ f.id) :
    (s.wakeOvr k).get f j = s.get f j := by
  unfold State.wakeOvr
  (repeat' split) <;> simp [*] <;> rfl
@[simp] theorem State.act_wakeOvr (s : State) (k : Nat) {f : Field} (j : Nat) (h0 : F.evtCEvents.id ≠ f.id) (h1 : F.evtCInLost.id ≠ f.id) (h2 : F.foxTWakeOvr.id ≠ f.id) :
    (s.wakeOvr k).act f j = s.act f j := by
  unfold State.wakeOvr
  (repeat' split) <;> simp [*] <;> rfl

/-- `tmStart` changes `timers` and nothing else. -/
@[simp] theorem State.tmStart_frame (s : State) (k : Nat) :
    (s.tmStart k).pending = s.pending ∧ (s.tmStart k).pend = s.pend ∧ (s.tmStart k).actv = s.actv ∧ (s.tmStart k).live =
    s.live ∧ (s.tmStart k).held = s.held ∧ (s.tmStart k).fresh = s.fresh ∧ (s.tmStart k).rdata = s.rdata ∧ (s.tmStart
    k).time = s.time ∧ (s.tmStart k).up = s.up ∧ (s.tmStart k).relAt = s.relAt ∧ (s.tmStart k).slew = s.slew ∧
    (s.tmStart k).ppsGood = s.ppsGood ∧ (s.tmStart k).srcLock = s.srcLock ∧ (s.tmStart k).ppsOut = s.ppsOut ∧ (s.tmStart
    k).axes = s.axes ∧ (s.tmStart k).plls = s.plls ∧ (s.tmStart k).cal = s.cal ∧ (s.tmStart k).capt = s.capt ∧
    (s.tmStart k).gates = s.gates ∧ (s.tmStart k).threads = s.threads ∧ (s.tmStart k).engines = s.engines ∧ (s.tmStart
    k).sigs = s.sigs ∧ (s.tmStart k).im = s.im ∧ (s.tmStart k).dm = s.dm ∧ (s.tmStart k).frames = s.frames ∧ (s.tmStart
    k).pinQ = s.pinQ ∧ (s.tmStart k).midQ = s.midQ ∧ (s.tmStart k).outQ = s.outQ ∧ (s.tmStart k).txing = s.txing ∧
    (s.tmStart k).stage = s.stage ∧ (s.tmStart k).mirUse = s.mirUse ∧ (s.tmStart k).rxNum = s.rxNum ∧ (s.tmStart
    k).txNum = s.txNum ∧ (s.tmStart k).subm = s.subm ∧ (s.tmStart k).cram = s.cram ∧ (s.tmStart k).poison = s.poison ∧
    (s.tmStart k).hostMem = s.hostMem ∧ (s.tmStart k).pwe = s.pwe ∧ (s.tmStart k).htx = s.htx ∧ (s.tmStart k).htxc =
    s.htxc ∧ (s.tmStart k).mbx = s.mbx ∧ (s.tmStart k).syncTotal = s.syncTotal ∧ (s.tmStart k).evq = s.evq ∧ (s.tmStart
    k).evOpen = s.evOpen ∧ (s.tmStart k).evFifo = s.evFifo ∧ (s.tmStart k).ueLog = s.ueLog ∧ (s.tmStart k).refLog =
    s.refLog ∧ (s.tmStart k).chans = s.chans ∧ (s.tmStart k).health = s.health ∧ (s.tmStart k).healthSeq = s.healthSeq ∧
    (s.tmStart k).irqSent = s.irqSent ∧ (s.tmStart k).irqMode = s.irqMode ∧ (s.tmStart k).msiLog = s.msiLog ∧ (s.tmStart
    k).d3hot = s.d3hot ∧ (s.tmStart k).lbusLow = s.lbusLow ∧ (s.tmStart k).lbusHold = s.lbusHold ∧ (s.tmStart
    k).lbusLast = s.lbusLast ∧ (s.tmStart k).imgCur = s.imgCur ∧ (s.tmStart k).imgBack = s.imgBack ∧ (s.tmStart
    k).imgLease = s.imgLease ∧ (s.tmStart k).backBlk = s.backBlk ∧ (s.tmStart k).leaseBlk = s.leaseBlk ∧ (s.tmStart
    k).commitReq = s.commitReq ∧ (s.tmStart k).leaseNs = s.leaseNs ∧ (s.tmStart k).leaseExp = s.leaseExp ∧ (s.tmStart
    k).flowMem = s.flowMem ∧ (s.tmStart k).apply = s.apply ∧ (s.tmStart k).olds = s.olds ∧ (s.tmStart k).snapDue =
    s.snapDue ∧ (s.tmStart k).snapWhn = s.snapWhn ∧ (s.tmStart k).snapClr = s.snapClr ∧ (s.tmStart k).snapMbx =
    s.snapMbx ∧ (s.tmStart k).shrews = s.shrews ∧ (s.tmStart k).shrPm = s.shrPm ∧ (s.tmStart k).shrFlags = s.shrFlags ∧
    (s.tmStart k).gpLvl = s.gpLvl ∧ (s.tmStart k).gpOe = s.gpOe ∧ (s.tmStart k).vddio33 = s.vddio33 ∧ (s.tmStart
    k).ports = s.ports ∧ (s.tmStart k).arriving = s.arriving ∧ (s.tmStart k).ring = s.ring ∧ (s.tmStart k).ringLanes =
    s.ringLanes ∧ (s.tmStart k).cans = s.cans ∧ (s.tmStart k).canLocks = s.canLocks ∧ (s.tmStart k).hwq = s.hwq ∧
    (s.tmStart k).owlRep = s.owlRep ∧ (s.tmStart k).owl = s.owl ∧ (s.tmStart k).conns = s.conns ∧ (s.tmStart k).tws =
    s.tws ∧ (s.tmStart k).taps = s.taps ∧ (s.tmStart k).flashLog = s.flashLog ∧ (s.tmStart k).supOut = s.supOut ∧
    (s.tmStart k).pwHash = s.pwHash ∧ (s.tmStart k).trngN = s.trngN ∧ (s.tmStart k).hlog = s.hlog ∧ (s.tmStart k).waitWr
    = s.waitWr ∧ (s.tmStart k).pfail = s.pfail ∧ (s.tmStart k).off = s.off ∧ (s.tmStart k).released = s.released ∧
    (s.tmStart k).mbxSeq = s.mbxSeq ∧ (s.tmStart k).msix = s.msix ∧ (s.tmStart k).pba = s.pba ∧ (s.tmStart k).selRec =
    s.selRec ∧ (s.tmStart k).prof = s.prof ∧ (s.tmStart k).bundle = s.bundle ∧ (s.tmStart k).startQ = s.startQ ∧
    (s.tmStart k).switch = s.switch ∧ (s.tmStart k).imgHash = s.imgHash ∧ (s.tmStart k).settOut = s.settOut ∧ (s.tmStart
    k).fstep = s.fstep ∧ (s.tmStart k).stepMask = s.stepMask ∧ (s.tmStart k).d3pend = s.d3pend := by
  unfold State.tmStart
  (repeat' split) <;> simp
@[simp] theorem State.get_tmStart (s : State) (k : Nat) {f : Field} (j : Nat) :
    (s.tmStart k).get f j = s.get f j := rfl
@[simp] theorem State.act_tmStart (s : State) (k : Nat) {f : Field} (j : Nat) :
    (s.tmStart k).act f j = s.act f j := rfl

/-- `tmStop` changes `timers` and nothing else. -/
@[simp] theorem State.tmStop_frame (s : State) (k : Nat) :
    (s.tmStop k).pending = s.pending ∧ (s.tmStop k).pend = s.pend ∧ (s.tmStop k).actv = s.actv ∧ (s.tmStop k).live =
    s.live ∧ (s.tmStop k).held = s.held ∧ (s.tmStop k).fresh = s.fresh ∧ (s.tmStop k).rdata = s.rdata ∧ (s.tmStop
    k).time = s.time ∧ (s.tmStop k).up = s.up ∧ (s.tmStop k).relAt = s.relAt ∧ (s.tmStop k).slew = s.slew ∧ (s.tmStop
    k).ppsGood = s.ppsGood ∧ (s.tmStop k).srcLock = s.srcLock ∧ (s.tmStop k).ppsOut = s.ppsOut ∧ (s.tmStop k).axes =
    s.axes ∧ (s.tmStop k).plls = s.plls ∧ (s.tmStop k).cal = s.cal ∧ (s.tmStop k).capt = s.capt ∧ (s.tmStop k).gates =
    s.gates ∧ (s.tmStop k).threads = s.threads ∧ (s.tmStop k).engines = s.engines ∧ (s.tmStop k).sigs = s.sigs ∧
    (s.tmStop k).im = s.im ∧ (s.tmStop k).dm = s.dm ∧ (s.tmStop k).frames = s.frames ∧ (s.tmStop k).pinQ = s.pinQ ∧
    (s.tmStop k).midQ = s.midQ ∧ (s.tmStop k).outQ = s.outQ ∧ (s.tmStop k).txing = s.txing ∧ (s.tmStop k).stage =
    s.stage ∧ (s.tmStop k).mirUse = s.mirUse ∧ (s.tmStop k).rxNum = s.rxNum ∧ (s.tmStop k).txNum = s.txNum ∧ (s.tmStop
    k).subm = s.subm ∧ (s.tmStop k).cram = s.cram ∧ (s.tmStop k).poison = s.poison ∧ (s.tmStop k).hostMem = s.hostMem ∧
    (s.tmStop k).pwe = s.pwe ∧ (s.tmStop k).htx = s.htx ∧ (s.tmStop k).htxc = s.htxc ∧ (s.tmStop k).mbx = s.mbx ∧
    (s.tmStop k).syncTotal = s.syncTotal ∧ (s.tmStop k).evq = s.evq ∧ (s.tmStop k).evOpen = s.evOpen ∧ (s.tmStop
    k).evFifo = s.evFifo ∧ (s.tmStop k).ueLog = s.ueLog ∧ (s.tmStop k).refLog = s.refLog ∧ (s.tmStop k).chans = s.chans
    ∧ (s.tmStop k).health = s.health ∧ (s.tmStop k).healthSeq = s.healthSeq ∧ (s.tmStop k).irqSent = s.irqSent ∧
    (s.tmStop k).irqMode = s.irqMode ∧ (s.tmStop k).msiLog = s.msiLog ∧ (s.tmStop k).d3hot = s.d3hot ∧ (s.tmStop
    k).lbusLow = s.lbusLow ∧ (s.tmStop k).lbusHold = s.lbusHold ∧ (s.tmStop k).lbusLast = s.lbusLast ∧ (s.tmStop
    k).imgCur = s.imgCur ∧ (s.tmStop k).imgBack = s.imgBack ∧ (s.tmStop k).imgLease = s.imgLease ∧ (s.tmStop k).backBlk
    = s.backBlk ∧ (s.tmStop k).leaseBlk = s.leaseBlk ∧ (s.tmStop k).commitReq = s.commitReq ∧ (s.tmStop k).leaseNs =
    s.leaseNs ∧ (s.tmStop k).leaseExp = s.leaseExp ∧ (s.tmStop k).flowMem = s.flowMem ∧ (s.tmStop k).apply = s.apply ∧
    (s.tmStop k).olds = s.olds ∧ (s.tmStop k).snapDue = s.snapDue ∧ (s.tmStop k).snapWhn = s.snapWhn ∧ (s.tmStop
    k).snapClr = s.snapClr ∧ (s.tmStop k).snapMbx = s.snapMbx ∧ (s.tmStop k).shrews = s.shrews ∧ (s.tmStop k).shrPm =
    s.shrPm ∧ (s.tmStop k).shrFlags = s.shrFlags ∧ (s.tmStop k).gpLvl = s.gpLvl ∧ (s.tmStop k).gpOe = s.gpOe ∧ (s.tmStop
    k).vddio33 = s.vddio33 ∧ (s.tmStop k).ports = s.ports ∧ (s.tmStop k).arriving = s.arriving ∧ (s.tmStop k).ring =
    s.ring ∧ (s.tmStop k).ringLanes = s.ringLanes ∧ (s.tmStop k).cans = s.cans ∧ (s.tmStop k).canLocks = s.canLocks ∧
    (s.tmStop k).hwq = s.hwq ∧ (s.tmStop k).owlRep = s.owlRep ∧ (s.tmStop k).owl = s.owl ∧ (s.tmStop k).conns = s.conns
    ∧ (s.tmStop k).tws = s.tws ∧ (s.tmStop k).taps = s.taps ∧ (s.tmStop k).flashLog = s.flashLog ∧ (s.tmStop k).supOut =
    s.supOut ∧ (s.tmStop k).pwHash = s.pwHash ∧ (s.tmStop k).trngN = s.trngN ∧ (s.tmStop k).hlog = s.hlog ∧ (s.tmStop
    k).waitWr = s.waitWr ∧ (s.tmStop k).pfail = s.pfail ∧ (s.tmStop k).off = s.off ∧ (s.tmStop k).released = s.released
    ∧ (s.tmStop k).mbxSeq = s.mbxSeq ∧ (s.tmStop k).msix = s.msix ∧ (s.tmStop k).pba = s.pba ∧ (s.tmStop k).selRec =
    s.selRec ∧ (s.tmStop k).prof = s.prof ∧ (s.tmStop k).bundle = s.bundle ∧ (s.tmStop k).startQ = s.startQ ∧ (s.tmStop
    k).switch = s.switch ∧ (s.tmStop k).imgHash = s.imgHash ∧ (s.tmStop k).settOut = s.settOut ∧ (s.tmStop k).fstep =
    s.fstep ∧ (s.tmStop k).stepMask = s.stepMask ∧ (s.tmStop k).d3pend = s.d3pend := by
  unfold State.tmStop
  (repeat' split) <;> simp
@[simp] theorem State.get_tmStop (s : State) (k : Nat) {f : Field} (j : Nat) :
    (s.tmStop k).get f j = s.get f j := rfl
@[simp] theorem State.act_tmStop (s : State) (k : Nat) {f : Field} (j : Nat) :
    (s.tmStop k).act f j = s.act f j := rfl

/-- `holdEv` changes `engines` and nothing else. -/
@[simp] theorem State.holdEv_frame (s : State) (k : Nat) (g : Option Nat) :
    (s.holdEv k g).pending = s.pending ∧ (s.holdEv k g).pend = s.pend ∧ (s.holdEv k g).actv = s.actv ∧ (s.holdEv k
    g).live = s.live ∧ (s.holdEv k g).held = s.held ∧ (s.holdEv k g).fresh = s.fresh ∧ (s.holdEv k g).rdata = s.rdata ∧
    (s.holdEv k g).time = s.time ∧ (s.holdEv k g).up = s.up ∧ (s.holdEv k g).relAt = s.relAt ∧ (s.holdEv k g).timers =
    s.timers ∧ (s.holdEv k g).slew = s.slew ∧ (s.holdEv k g).ppsGood = s.ppsGood ∧ (s.holdEv k g).srcLock = s.srcLock ∧
    (s.holdEv k g).ppsOut = s.ppsOut ∧ (s.holdEv k g).axes = s.axes ∧ (s.holdEv k g).plls = s.plls ∧ (s.holdEv k g).cal
    = s.cal ∧ (s.holdEv k g).capt = s.capt ∧ (s.holdEv k g).gates = s.gates ∧ (s.holdEv k g).threads = s.threads ∧
    (s.holdEv k g).sigs = s.sigs ∧ (s.holdEv k g).im = s.im ∧ (s.holdEv k g).dm = s.dm ∧ (s.holdEv k g).frames =
    s.frames ∧ (s.holdEv k g).pinQ = s.pinQ ∧ (s.holdEv k g).midQ = s.midQ ∧ (s.holdEv k g).outQ = s.outQ ∧ (s.holdEv k
    g).txing = s.txing ∧ (s.holdEv k g).stage = s.stage ∧ (s.holdEv k g).mirUse = s.mirUse ∧ (s.holdEv k g).rxNum =
    s.rxNum ∧ (s.holdEv k g).txNum = s.txNum ∧ (s.holdEv k g).subm = s.subm ∧ (s.holdEv k g).cram = s.cram ∧ (s.holdEv k
    g).poison = s.poison ∧ (s.holdEv k g).hostMem = s.hostMem ∧ (s.holdEv k g).pwe = s.pwe ∧ (s.holdEv k g).htx = s.htx
    ∧ (s.holdEv k g).htxc = s.htxc ∧ (s.holdEv k g).mbx = s.mbx ∧ (s.holdEv k g).syncTotal = s.syncTotal ∧ (s.holdEv k
    g).evq = s.evq ∧ (s.holdEv k g).evOpen = s.evOpen ∧ (s.holdEv k g).evFifo = s.evFifo ∧ (s.holdEv k g).ueLog =
    s.ueLog ∧ (s.holdEv k g).refLog = s.refLog ∧ (s.holdEv k g).chans = s.chans ∧ (s.holdEv k g).health = s.health ∧
    (s.holdEv k g).healthSeq = s.healthSeq ∧ (s.holdEv k g).irqSent = s.irqSent ∧ (s.holdEv k g).irqMode = s.irqMode ∧
    (s.holdEv k g).msiLog = s.msiLog ∧ (s.holdEv k g).d3hot = s.d3hot ∧ (s.holdEv k g).lbusLow = s.lbusLow ∧ (s.holdEv k
    g).lbusHold = s.lbusHold ∧ (s.holdEv k g).lbusLast = s.lbusLast ∧ (s.holdEv k g).imgCur = s.imgCur ∧ (s.holdEv k
    g).imgBack = s.imgBack ∧ (s.holdEv k g).imgLease = s.imgLease ∧ (s.holdEv k g).backBlk = s.backBlk ∧ (s.holdEv k
    g).leaseBlk = s.leaseBlk ∧ (s.holdEv k g).commitReq = s.commitReq ∧ (s.holdEv k g).leaseNs = s.leaseNs ∧ (s.holdEv k
    g).leaseExp = s.leaseExp ∧ (s.holdEv k g).flowMem = s.flowMem ∧ (s.holdEv k g).apply = s.apply ∧ (s.holdEv k g).olds
    = s.olds ∧ (s.holdEv k g).snapDue = s.snapDue ∧ (s.holdEv k g).snapWhn = s.snapWhn ∧ (s.holdEv k g).snapClr =
    s.snapClr ∧ (s.holdEv k g).snapMbx = s.snapMbx ∧ (s.holdEv k g).shrews = s.shrews ∧ (s.holdEv k g).shrPm = s.shrPm ∧
    (s.holdEv k g).shrFlags = s.shrFlags ∧ (s.holdEv k g).gpLvl = s.gpLvl ∧ (s.holdEv k g).gpOe = s.gpOe ∧ (s.holdEv k
    g).vddio33 = s.vddio33 ∧ (s.holdEv k g).ports = s.ports ∧ (s.holdEv k g).arriving = s.arriving ∧ (s.holdEv k g).ring
    = s.ring ∧ (s.holdEv k g).ringLanes = s.ringLanes ∧ (s.holdEv k g).cans = s.cans ∧ (s.holdEv k g).canLocks =
    s.canLocks ∧ (s.holdEv k g).hwq = s.hwq ∧ (s.holdEv k g).owlRep = s.owlRep ∧ (s.holdEv k g).owl = s.owl ∧ (s.holdEv
    k g).conns = s.conns ∧ (s.holdEv k g).tws = s.tws ∧ (s.holdEv k g).taps = s.taps ∧ (s.holdEv k g).flashLog =
    s.flashLog ∧ (s.holdEv k g).supOut = s.supOut ∧ (s.holdEv k g).pwHash = s.pwHash ∧ (s.holdEv k g).trngN = s.trngN ∧
    (s.holdEv k g).hlog = s.hlog ∧ (s.holdEv k g).waitWr = s.waitWr ∧ (s.holdEv k g).pfail = s.pfail ∧ (s.holdEv k
    g).off = s.off ∧ (s.holdEv k g).released = s.released ∧ (s.holdEv k g).mbxSeq = s.mbxSeq ∧ (s.holdEv k g).msix =
    s.msix ∧ (s.holdEv k g).pba = s.pba ∧ (s.holdEv k g).selRec = s.selRec ∧ (s.holdEv k g).prof = s.prof ∧ (s.holdEv k
    g).bundle = s.bundle ∧ (s.holdEv k g).startQ = s.startQ ∧ (s.holdEv k g).switch = s.switch ∧ (s.holdEv k g).imgHash
    = s.imgHash ∧ (s.holdEv k g).settOut = s.settOut ∧ (s.holdEv k g).fstep = s.fstep ∧ (s.holdEv k g).stepMask =
    s.stepMask ∧ (s.holdEv k g).d3pend = s.d3pend := by
  unfold State.holdEv
  (repeat' split) <;> simp
@[simp] theorem State.get_holdEv (s : State) (k : Nat) (g : Option Nat) {f : Field} (j : Nat) :
    (s.holdEv k g).get f j = s.get f j := rfl
@[simp] theorem State.act_holdEv (s : State) (k : Nat) (g : Option Nat) {f : Field} (j : Nat) :
    (s.holdEv k g).act f j = s.act f j := rfl

/-- `wakeNow` changes `pend`, `live`, `evq`, `threads` and nothing else. -/
@[simp] theorem State.wakeNow_frame (s : State) (k : Nat) :
    (s.wakeNow k).pending = s.pending ∧ (s.wakeNow k).actv = s.actv ∧ (s.wakeNow k).held = s.held ∧ (s.wakeNow k).fresh
    = s.fresh ∧ (s.wakeNow k).rdata = s.rdata ∧ (s.wakeNow k).time = s.time ∧ (s.wakeNow k).up = s.up ∧ (s.wakeNow
    k).relAt = s.relAt ∧ (s.wakeNow k).timers = s.timers ∧ (s.wakeNow k).slew = s.slew ∧ (s.wakeNow k).ppsGood =
    s.ppsGood ∧ (s.wakeNow k).srcLock = s.srcLock ∧ (s.wakeNow k).ppsOut = s.ppsOut ∧ (s.wakeNow k).axes = s.axes ∧
    (s.wakeNow k).plls = s.plls ∧ (s.wakeNow k).cal = s.cal ∧ (s.wakeNow k).capt = s.capt ∧ (s.wakeNow k).gates =
    s.gates ∧ (s.wakeNow k).engines = s.engines ∧ (s.wakeNow k).sigs = s.sigs ∧ (s.wakeNow k).im = s.im ∧ (s.wakeNow
    k).dm = s.dm ∧ (s.wakeNow k).frames = s.frames ∧ (s.wakeNow k).pinQ = s.pinQ ∧ (s.wakeNow k).midQ = s.midQ ∧
    (s.wakeNow k).outQ = s.outQ ∧ (s.wakeNow k).txing = s.txing ∧ (s.wakeNow k).stage = s.stage ∧ (s.wakeNow k).mirUse =
    s.mirUse ∧ (s.wakeNow k).rxNum = s.rxNum ∧ (s.wakeNow k).txNum = s.txNum ∧ (s.wakeNow k).subm = s.subm ∧ (s.wakeNow
    k).cram = s.cram ∧ (s.wakeNow k).poison = s.poison ∧ (s.wakeNow k).hostMem = s.hostMem ∧ (s.wakeNow k).pwe = s.pwe ∧
    (s.wakeNow k).htx = s.htx ∧ (s.wakeNow k).htxc = s.htxc ∧ (s.wakeNow k).mbx = s.mbx ∧ (s.wakeNow k).syncTotal =
    s.syncTotal ∧ (s.wakeNow k).evOpen = s.evOpen ∧ (s.wakeNow k).evFifo = s.evFifo ∧ (s.wakeNow k).ueLog = s.ueLog ∧
    (s.wakeNow k).refLog = s.refLog ∧ (s.wakeNow k).chans = s.chans ∧ (s.wakeNow k).health = s.health ∧ (s.wakeNow
    k).healthSeq = s.healthSeq ∧ (s.wakeNow k).irqSent = s.irqSent ∧ (s.wakeNow k).irqMode = s.irqMode ∧ (s.wakeNow
    k).msiLog = s.msiLog ∧ (s.wakeNow k).d3hot = s.d3hot ∧ (s.wakeNow k).lbusLow = s.lbusLow ∧ (s.wakeNow k).lbusHold =
    s.lbusHold ∧ (s.wakeNow k).lbusLast = s.lbusLast ∧ (s.wakeNow k).imgCur = s.imgCur ∧ (s.wakeNow k).imgBack =
    s.imgBack ∧ (s.wakeNow k).imgLease = s.imgLease ∧ (s.wakeNow k).backBlk = s.backBlk ∧ (s.wakeNow k).leaseBlk =
    s.leaseBlk ∧ (s.wakeNow k).commitReq = s.commitReq ∧ (s.wakeNow k).leaseNs = s.leaseNs ∧ (s.wakeNow k).leaseExp =
    s.leaseExp ∧ (s.wakeNow k).flowMem = s.flowMem ∧ (s.wakeNow k).apply = s.apply ∧ (s.wakeNow k).olds = s.olds ∧
    (s.wakeNow k).snapDue = s.snapDue ∧ (s.wakeNow k).snapWhn = s.snapWhn ∧ (s.wakeNow k).snapClr = s.snapClr ∧
    (s.wakeNow k).snapMbx = s.snapMbx ∧ (s.wakeNow k).shrews = s.shrews ∧ (s.wakeNow k).shrPm = s.shrPm ∧ (s.wakeNow
    k).shrFlags = s.shrFlags ∧ (s.wakeNow k).gpLvl = s.gpLvl ∧ (s.wakeNow k).gpOe = s.gpOe ∧ (s.wakeNow k).vddio33 =
    s.vddio33 ∧ (s.wakeNow k).ports = s.ports ∧ (s.wakeNow k).arriving = s.arriving ∧ (s.wakeNow k).ring = s.ring ∧
    (s.wakeNow k).ringLanes = s.ringLanes ∧ (s.wakeNow k).cans = s.cans ∧ (s.wakeNow k).canLocks = s.canLocks ∧
    (s.wakeNow k).hwq = s.hwq ∧ (s.wakeNow k).owlRep = s.owlRep ∧ (s.wakeNow k).owl = s.owl ∧ (s.wakeNow k).conns =
    s.conns ∧ (s.wakeNow k).tws = s.tws ∧ (s.wakeNow k).taps = s.taps ∧ (s.wakeNow k).flashLog = s.flashLog ∧ (s.wakeNow
    k).supOut = s.supOut ∧ (s.wakeNow k).pwHash = s.pwHash ∧ (s.wakeNow k).trngN = s.trngN ∧ (s.wakeNow k).hlog = s.hlog
    ∧ (s.wakeNow k).waitWr = s.waitWr ∧ (s.wakeNow k).pfail = s.pfail ∧ (s.wakeNow k).off = s.off ∧ (s.wakeNow
    k).released = s.released ∧ (s.wakeNow k).mbxSeq = s.mbxSeq ∧ (s.wakeNow k).msix = s.msix ∧ (s.wakeNow k).pba = s.pba
    ∧ (s.wakeNow k).selRec = s.selRec ∧ (s.wakeNow k).prof = s.prof ∧ (s.wakeNow k).bundle = s.bundle ∧ (s.wakeNow
    k).startQ = s.startQ ∧ (s.wakeNow k).switch = s.switch ∧ (s.wakeNow k).imgHash = s.imgHash ∧ (s.wakeNow k).settOut =
    s.settOut ∧ (s.wakeNow k).fstep = s.fstep ∧ (s.wakeNow k).stepMask = s.stepMask ∧ (s.wakeNow k).d3pend = s.d3pend := by
  unfold State.wakeNow
  (repeat' split) <;> simp
@[simp] theorem State.get_wakeNow (s : State) (k : Nat) {f : Field} (j : Nat) (h0 : F.evtCEvents.id ≠ f.id) (h1 : F.evtCInLost.id ≠ f.id) (h2 : F.foxTWakeOvr.id ≠ f.id) :
    (s.wakeNow k).get f j = s.get f j := by
  unfold State.wakeNow
  (repeat' split) <;> simp [*] <;> rfl
@[simp] theorem State.act_wakeNow (s : State) (k : Nat) {f : Field} (j : Nat) (h0 : F.evtCEvents.id ≠ f.id) (h1 : F.evtCInLost.id ≠ f.id) (h2 : F.foxTWakeOvr.id ≠ f.id) :
    (s.wakeNow k).act f j = s.act f j := by
  unfold State.wakeNow
  (repeat' split) <;> simp [*] <;> rfl

/-- `signalNow` changes `pend`, `live`, `threads` and nothing else. -/
@[simp] theorem State.signalNow_frame (s : State) (k g : Nat) :
    (s.signalNow k g).pending = s.pending ∧ (s.signalNow k g).actv = s.actv ∧ (s.signalNow k g).held = s.held ∧
    (s.signalNow k g).fresh = s.fresh ∧ (s.signalNow k g).rdata = s.rdata ∧ (s.signalNow k g).time = s.time ∧
    (s.signalNow k g).up = s.up ∧ (s.signalNow k g).relAt = s.relAt ∧ (s.signalNow k g).timers = s.timers ∧ (s.signalNow
    k g).slew = s.slew ∧ (s.signalNow k g).ppsGood = s.ppsGood ∧ (s.signalNow k g).srcLock = s.srcLock ∧ (s.signalNow k
    g).ppsOut = s.ppsOut ∧ (s.signalNow k g).axes = s.axes ∧ (s.signalNow k g).plls = s.plls ∧ (s.signalNow k g).cal =
    s.cal ∧ (s.signalNow k g).capt = s.capt ∧ (s.signalNow k g).gates = s.gates ∧ (s.signalNow k g).engines = s.engines
    ∧ (s.signalNow k g).sigs = s.sigs ∧ (s.signalNow k g).im = s.im ∧ (s.signalNow k g).dm = s.dm ∧ (s.signalNow k
    g).frames = s.frames ∧ (s.signalNow k g).pinQ = s.pinQ ∧ (s.signalNow k g).midQ = s.midQ ∧ (s.signalNow k g).outQ =
    s.outQ ∧ (s.signalNow k g).txing = s.txing ∧ (s.signalNow k g).stage = s.stage ∧ (s.signalNow k g).mirUse = s.mirUse
    ∧ (s.signalNow k g).rxNum = s.rxNum ∧ (s.signalNow k g).txNum = s.txNum ∧ (s.signalNow k g).subm = s.subm ∧
    (s.signalNow k g).cram = s.cram ∧ (s.signalNow k g).poison = s.poison ∧ (s.signalNow k g).hostMem = s.hostMem ∧
    (s.signalNow k g).pwe = s.pwe ∧ (s.signalNow k g).htx = s.htx ∧ (s.signalNow k g).htxc = s.htxc ∧ (s.signalNow k
    g).mbx = s.mbx ∧ (s.signalNow k g).syncTotal = s.syncTotal ∧ (s.signalNow k g).evq = s.evq ∧ (s.signalNow k
    g).evOpen = s.evOpen ∧ (s.signalNow k g).evFifo = s.evFifo ∧ (s.signalNow k g).ueLog = s.ueLog ∧ (s.signalNow k
    g).refLog = s.refLog ∧ (s.signalNow k g).chans = s.chans ∧ (s.signalNow k g).health = s.health ∧ (s.signalNow k
    g).healthSeq = s.healthSeq ∧ (s.signalNow k g).irqSent = s.irqSent ∧ (s.signalNow k g).irqMode = s.irqMode ∧
    (s.signalNow k g).msiLog = s.msiLog ∧ (s.signalNow k g).d3hot = s.d3hot ∧ (s.signalNow k g).lbusLow = s.lbusLow ∧
    (s.signalNow k g).lbusHold = s.lbusHold ∧ (s.signalNow k g).lbusLast = s.lbusLast ∧ (s.signalNow k g).imgCur =
    s.imgCur ∧ (s.signalNow k g).imgBack = s.imgBack ∧ (s.signalNow k g).imgLease = s.imgLease ∧ (s.signalNow k
    g).backBlk = s.backBlk ∧ (s.signalNow k g).leaseBlk = s.leaseBlk ∧ (s.signalNow k g).commitReq = s.commitReq ∧
    (s.signalNow k g).leaseNs = s.leaseNs ∧ (s.signalNow k g).leaseExp = s.leaseExp ∧ (s.signalNow k g).flowMem =
    s.flowMem ∧ (s.signalNow k g).apply = s.apply ∧ (s.signalNow k g).olds = s.olds ∧ (s.signalNow k g).snapDue =
    s.snapDue ∧ (s.signalNow k g).snapWhn = s.snapWhn ∧ (s.signalNow k g).snapClr = s.snapClr ∧ (s.signalNow k
    g).snapMbx = s.snapMbx ∧ (s.signalNow k g).shrews = s.shrews ∧ (s.signalNow k g).shrPm = s.shrPm ∧ (s.signalNow k
    g).shrFlags = s.shrFlags ∧ (s.signalNow k g).gpLvl = s.gpLvl ∧ (s.signalNow k g).gpOe = s.gpOe ∧ (s.signalNow k
    g).vddio33 = s.vddio33 ∧ (s.signalNow k g).ports = s.ports ∧ (s.signalNow k g).arriving = s.arriving ∧ (s.signalNow
    k g).ring = s.ring ∧ (s.signalNow k g).ringLanes = s.ringLanes ∧ (s.signalNow k g).cans = s.cans ∧ (s.signalNow k
    g).canLocks = s.canLocks ∧ (s.signalNow k g).hwq = s.hwq ∧ (s.signalNow k g).owlRep = s.owlRep ∧ (s.signalNow k
    g).owl = s.owl ∧ (s.signalNow k g).conns = s.conns ∧ (s.signalNow k g).tws = s.tws ∧ (s.signalNow k g).taps = s.taps
    ∧ (s.signalNow k g).flashLog = s.flashLog ∧ (s.signalNow k g).supOut = s.supOut ∧ (s.signalNow k g).pwHash =
    s.pwHash ∧ (s.signalNow k g).trngN = s.trngN ∧ (s.signalNow k g).hlog = s.hlog ∧ (s.signalNow k g).waitWr = s.waitWr
    ∧ (s.signalNow k g).pfail = s.pfail ∧ (s.signalNow k g).off = s.off ∧ (s.signalNow k g).released = s.released ∧
    (s.signalNow k g).mbxSeq = s.mbxSeq ∧ (s.signalNow k g).msix = s.msix ∧ (s.signalNow k g).pba = s.pba ∧ (s.signalNow
    k g).selRec = s.selRec ∧ (s.signalNow k g).prof = s.prof ∧ (s.signalNow k g).bundle = s.bundle ∧ (s.signalNow k
    g).startQ = s.startQ ∧ (s.signalNow k g).switch = s.switch ∧ (s.signalNow k g).imgHash = s.imgHash ∧ (s.signalNow k
    g).settOut = s.settOut ∧ (s.signalNow k g).fstep = s.fstep ∧ (s.signalNow k g).stepMask = s.stepMask ∧ (s.signalNow
    k g).d3pend = s.d3pend := by
  unfold State.signalNow
  (repeat' split) <;> simp
@[simp] theorem State.get_signalNow (s : State) (k g : Nat) {f : Field} (j : Nat) (h0 : F.foxTSigOvr.id ≠ f.id) :
    (s.signalNow k g).get f j = s.get f j := by
  unfold State.signalNow
  (repeat' split) <;> simp [*] <;> rfl
@[simp] theorem State.act_signalNow (s : State) (k g : Nat) {f : Field} (j : Nat) (h0 : F.foxTSigOvr.id ≠ f.id) :
    (s.signalNow k g).act f j = s.act f j := by
  unfold State.signalNow
  (repeat' split) <;> simp [*] <;> rfl

/-- `wake` changes `pend`, `live`, `evq`, `threads`, `engines` and nothing else. -/
@[simp] theorem State.wake_frame (s : State) (k : Nat) :
    (s.wake k).pending = s.pending ∧ (s.wake k).actv = s.actv ∧ (s.wake k).held = s.held ∧ (s.wake k).fresh = s.fresh ∧
    (s.wake k).rdata = s.rdata ∧ (s.wake k).time = s.time ∧ (s.wake k).up = s.up ∧ (s.wake k).relAt = s.relAt ∧ (s.wake
    k).timers = s.timers ∧ (s.wake k).slew = s.slew ∧ (s.wake k).ppsGood = s.ppsGood ∧ (s.wake k).srcLock = s.srcLock ∧
    (s.wake k).ppsOut = s.ppsOut ∧ (s.wake k).axes = s.axes ∧ (s.wake k).plls = s.plls ∧ (s.wake k).cal = s.cal ∧
    (s.wake k).capt = s.capt ∧ (s.wake k).gates = s.gates ∧ (s.wake k).sigs = s.sigs ∧ (s.wake k).im = s.im ∧ (s.wake
    k).dm = s.dm ∧ (s.wake k).frames = s.frames ∧ (s.wake k).pinQ = s.pinQ ∧ (s.wake k).midQ = s.midQ ∧ (s.wake k).outQ
    = s.outQ ∧ (s.wake k).txing = s.txing ∧ (s.wake k).stage = s.stage ∧ (s.wake k).mirUse = s.mirUse ∧ (s.wake k).rxNum
    = s.rxNum ∧ (s.wake k).txNum = s.txNum ∧ (s.wake k).subm = s.subm ∧ (s.wake k).cram = s.cram ∧ (s.wake k).poison =
    s.poison ∧ (s.wake k).hostMem = s.hostMem ∧ (s.wake k).pwe = s.pwe ∧ (s.wake k).htx = s.htx ∧ (s.wake k).htxc =
    s.htxc ∧ (s.wake k).mbx = s.mbx ∧ (s.wake k).syncTotal = s.syncTotal ∧ (s.wake k).evOpen = s.evOpen ∧ (s.wake
    k).evFifo = s.evFifo ∧ (s.wake k).ueLog = s.ueLog ∧ (s.wake k).refLog = s.refLog ∧ (s.wake k).chans = s.chans ∧
    (s.wake k).health = s.health ∧ (s.wake k).healthSeq = s.healthSeq ∧ (s.wake k).irqSent = s.irqSent ∧ (s.wake
    k).irqMode = s.irqMode ∧ (s.wake k).msiLog = s.msiLog ∧ (s.wake k).d3hot = s.d3hot ∧ (s.wake k).lbusLow = s.lbusLow
    ∧ (s.wake k).lbusHold = s.lbusHold ∧ (s.wake k).lbusLast = s.lbusLast ∧ (s.wake k).imgCur = s.imgCur ∧ (s.wake
    k).imgBack = s.imgBack ∧ (s.wake k).imgLease = s.imgLease ∧ (s.wake k).backBlk = s.backBlk ∧ (s.wake k).leaseBlk =
    s.leaseBlk ∧ (s.wake k).commitReq = s.commitReq ∧ (s.wake k).leaseNs = s.leaseNs ∧ (s.wake k).leaseExp = s.leaseExp
    ∧ (s.wake k).flowMem = s.flowMem ∧ (s.wake k).apply = s.apply ∧ (s.wake k).olds = s.olds ∧ (s.wake k).snapDue =
    s.snapDue ∧ (s.wake k).snapWhn = s.snapWhn ∧ (s.wake k).snapClr = s.snapClr ∧ (s.wake k).snapMbx = s.snapMbx ∧
    (s.wake k).shrews = s.shrews ∧ (s.wake k).shrPm = s.shrPm ∧ (s.wake k).shrFlags = s.shrFlags ∧ (s.wake k).gpLvl =
    s.gpLvl ∧ (s.wake k).gpOe = s.gpOe ∧ (s.wake k).vddio33 = s.vddio33 ∧ (s.wake k).ports = s.ports ∧ (s.wake
    k).arriving = s.arriving ∧ (s.wake k).ring = s.ring ∧ (s.wake k).ringLanes = s.ringLanes ∧ (s.wake k).cans = s.cans
    ∧ (s.wake k).canLocks = s.canLocks ∧ (s.wake k).hwq = s.hwq ∧ (s.wake k).owlRep = s.owlRep ∧ (s.wake k).owl = s.owl
    ∧ (s.wake k).conns = s.conns ∧ (s.wake k).tws = s.tws ∧ (s.wake k).taps = s.taps ∧ (s.wake k).flashLog = s.flashLog
    ∧ (s.wake k).supOut = s.supOut ∧ (s.wake k).pwHash = s.pwHash ∧ (s.wake k).trngN = s.trngN ∧ (s.wake k).hlog =
    s.hlog ∧ (s.wake k).waitWr = s.waitWr ∧ (s.wake k).pfail = s.pfail ∧ (s.wake k).off = s.off ∧ (s.wake k).released =
    s.released ∧ (s.wake k).mbxSeq = s.mbxSeq ∧ (s.wake k).msix = s.msix ∧ (s.wake k).pba = s.pba ∧ (s.wake k).selRec =
    s.selRec ∧ (s.wake k).prof = s.prof ∧ (s.wake k).bundle = s.bundle ∧ (s.wake k).startQ = s.startQ ∧ (s.wake
    k).switch = s.switch ∧ (s.wake k).imgHash = s.imgHash ∧ (s.wake k).settOut = s.settOut ∧ (s.wake k).fstep = s.fstep
    ∧ (s.wake k).stepMask = s.stepMask ∧ (s.wake k).d3pend = s.d3pend := by
  unfold State.wake
  (repeat' split) <;> simp
@[simp] theorem State.get_wake (s : State) (k : Nat) {f : Field} (j : Nat) (h0 : F.evtCEvents.id ≠ f.id) (h1 : F.evtCInLost.id ≠ f.id) (h2 : F.foxTWakeOvr.id ≠ f.id) :
    (s.wake k).get f j = s.get f j := by
  unfold State.wake
  (repeat' split) <;> simp [*] <;> rfl
@[simp] theorem State.act_wake (s : State) (k : Nat) {f : Field} (j : Nat) (h0 : F.evtCEvents.id ≠ f.id) (h1 : F.evtCInLost.id ≠ f.id) (h2 : F.foxTWakeOvr.id ≠ f.id) :
    (s.wake k).act f j = s.act f j := by
  unfold State.wake
  (repeat' split) <;> simp [*] <;> rfl

/-- `signal` changes `pend`, `live`, `threads`, `engines` and nothing else. -/
@[simp] theorem State.signal_frame (s : State) (k g : Nat) :
    (s.signal k g).pending = s.pending ∧ (s.signal k g).actv = s.actv ∧ (s.signal k g).held = s.held ∧ (s.signal k
    g).fresh = s.fresh ∧ (s.signal k g).rdata = s.rdata ∧ (s.signal k g).time = s.time ∧ (s.signal k g).up = s.up ∧
    (s.signal k g).relAt = s.relAt ∧ (s.signal k g).timers = s.timers ∧ (s.signal k g).slew = s.slew ∧ (s.signal k
    g).ppsGood = s.ppsGood ∧ (s.signal k g).srcLock = s.srcLock ∧ (s.signal k g).ppsOut = s.ppsOut ∧ (s.signal k g).axes
    = s.axes ∧ (s.signal k g).plls = s.plls ∧ (s.signal k g).cal = s.cal ∧ (s.signal k g).capt = s.capt ∧ (s.signal k
    g).gates = s.gates ∧ (s.signal k g).sigs = s.sigs ∧ (s.signal k g).im = s.im ∧ (s.signal k g).dm = s.dm ∧ (s.signal
    k g).frames = s.frames ∧ (s.signal k g).pinQ = s.pinQ ∧ (s.signal k g).midQ = s.midQ ∧ (s.signal k g).outQ = s.outQ
    ∧ (s.signal k g).txing = s.txing ∧ (s.signal k g).stage = s.stage ∧ (s.signal k g).mirUse = s.mirUse ∧ (s.signal k
    g).rxNum = s.rxNum ∧ (s.signal k g).txNum = s.txNum ∧ (s.signal k g).subm = s.subm ∧ (s.signal k g).cram = s.cram ∧
    (s.signal k g).poison = s.poison ∧ (s.signal k g).hostMem = s.hostMem ∧ (s.signal k g).pwe = s.pwe ∧ (s.signal k
    g).htx = s.htx ∧ (s.signal k g).htxc = s.htxc ∧ (s.signal k g).mbx = s.mbx ∧ (s.signal k g).syncTotal = s.syncTotal
    ∧ (s.signal k g).evq = s.evq ∧ (s.signal k g).evOpen = s.evOpen ∧ (s.signal k g).evFifo = s.evFifo ∧ (s.signal k
    g).ueLog = s.ueLog ∧ (s.signal k g).refLog = s.refLog ∧ (s.signal k g).chans = s.chans ∧ (s.signal k g).health =
    s.health ∧ (s.signal k g).healthSeq = s.healthSeq ∧ (s.signal k g).irqSent = s.irqSent ∧ (s.signal k g).irqMode =
    s.irqMode ∧ (s.signal k g).msiLog = s.msiLog ∧ (s.signal k g).d3hot = s.d3hot ∧ (s.signal k g).lbusLow = s.lbusLow ∧
    (s.signal k g).lbusHold = s.lbusHold ∧ (s.signal k g).lbusLast = s.lbusLast ∧ (s.signal k g).imgCur = s.imgCur ∧
    (s.signal k g).imgBack = s.imgBack ∧ (s.signal k g).imgLease = s.imgLease ∧ (s.signal k g).backBlk = s.backBlk ∧
    (s.signal k g).leaseBlk = s.leaseBlk ∧ (s.signal k g).commitReq = s.commitReq ∧ (s.signal k g).leaseNs = s.leaseNs ∧
    (s.signal k g).leaseExp = s.leaseExp ∧ (s.signal k g).flowMem = s.flowMem ∧ (s.signal k g).apply = s.apply ∧
    (s.signal k g).olds = s.olds ∧ (s.signal k g).snapDue = s.snapDue ∧ (s.signal k g).snapWhn = s.snapWhn ∧ (s.signal k
    g).snapClr = s.snapClr ∧ (s.signal k g).snapMbx = s.snapMbx ∧ (s.signal k g).shrews = s.shrews ∧ (s.signal k
    g).shrPm = s.shrPm ∧ (s.signal k g).shrFlags = s.shrFlags ∧ (s.signal k g).gpLvl = s.gpLvl ∧ (s.signal k g).gpOe =
    s.gpOe ∧ (s.signal k g).vddio33 = s.vddio33 ∧ (s.signal k g).ports = s.ports ∧ (s.signal k g).arriving = s.arriving
    ∧ (s.signal k g).ring = s.ring ∧ (s.signal k g).ringLanes = s.ringLanes ∧ (s.signal k g).cans = s.cans ∧ (s.signal k
    g).canLocks = s.canLocks ∧ (s.signal k g).hwq = s.hwq ∧ (s.signal k g).owlRep = s.owlRep ∧ (s.signal k g).owl =
    s.owl ∧ (s.signal k g).conns = s.conns ∧ (s.signal k g).tws = s.tws ∧ (s.signal k g).taps = s.taps ∧ (s.signal k
    g).flashLog = s.flashLog ∧ (s.signal k g).supOut = s.supOut ∧ (s.signal k g).pwHash = s.pwHash ∧ (s.signal k
    g).trngN = s.trngN ∧ (s.signal k g).hlog = s.hlog ∧ (s.signal k g).waitWr = s.waitWr ∧ (s.signal k g).pfail =
    s.pfail ∧ (s.signal k g).off = s.off ∧ (s.signal k g).released = s.released ∧ (s.signal k g).mbxSeq = s.mbxSeq ∧
    (s.signal k g).msix = s.msix ∧ (s.signal k g).pba = s.pba ∧ (s.signal k g).selRec = s.selRec ∧ (s.signal k g).prof =
    s.prof ∧ (s.signal k g).bundle = s.bundle ∧ (s.signal k g).startQ = s.startQ ∧ (s.signal k g).switch = s.switch ∧
    (s.signal k g).imgHash = s.imgHash ∧ (s.signal k g).settOut = s.settOut ∧ (s.signal k g).fstep = s.fstep ∧ (s.signal
    k g).stepMask = s.stepMask ∧ (s.signal k g).d3pend = s.d3pend := by
  unfold State.signal
  (repeat' split) <;> simp
@[simp] theorem State.get_signal (s : State) (k g : Nat) {f : Field} (j : Nat) (h0 : F.foxTSigOvr.id ≠ f.id) :
    (s.signal k g).get f j = s.get f j := by
  unfold State.signal
  (repeat' split) <;> simp [*] <;> rfl
@[simp] theorem State.act_signal (s : State) (k g : Nat) {f : Field} (j : Nat) (h0 : F.foxTSigOvr.id ≠ f.id) :
    (s.signal k g).act f j = s.act f j := by
  unfold State.signal
  (repeat' split) <;> simp [*] <;> rfl

/-! ## What they write -/

theorem satAdd_lt (w a n : Nat) : satAdd w a n < 2 ^ w := by
  have := Nat.two_pow_pos w
  unfold satAdd; split <;> omega
/-- A counter that stops at its largest value. -/
@[simp] theorem State.get_inc (s : State) (f : Field) (i n : Nat) : (s.inc f i n).get f i = satAdd f.w (s.get f i) n := by
  rw [State.inc, State.get_put, Nat.mod_eq_of_lt (satAdd_lt _ _ _)]
/-- A counter that wraps. -/
@[simp] theorem State.get_incWrap (s : State) (f : Field) (i n : Nat) : (s.incWrap f i n).get f i = (s.get f i + n) % 2 ^ f.w := by
  rw [State.incWrap, State.get_put]
/-- A doorbell bit is set and no other bit changes (R492). -/
@[simp] theorem State.get_doorbell_pend (s : State) (b : Nat) :
    (s.doorbell b).get F.mbxD2hPend 0 = setBit (s.get F.mbxD2hPend 0) (b % 32) % 2 ^ 32 := by
  unfold State.doorbell
  rw [State.get_irqEdge, State.get_put]
  rfl

end Sys2Proof.Machine
end

