-- ==== Sys2Proof/Laws/Fox.lean ====
section
/-!
SUPPORT. Issuing a Fox word, said once: what the FCLK cycle does to the threads of the engine, and what a word that commits
or traps leaves.
-/
namespace Sys2Proof.Machine

/-- The FCLK cycle moves the multiplies of the engine's four threads on, and no other thread's (R107). -/
theorem State.fclk_th (s : State) (le j : Nat) :
    (s.fclk le).th j = if j / 4 = le then (s.th j).mulTick else s.th j := by
  unfold State.fclk State.each
  simp only [List.range, List.range.loop, List.foldl_cons, List.foldl_nil]
  by_cases h : j / 4 = le
  · rw [if_pos h]
    have hj : j = 4 * le + 0 ∨ j = 4 * le + 1 ∨ j = 4 * le + 2 ∨ j = 4 * le + 3 := by omega
    rcases hj with e | e | e | e <;> subst e
    · rw [State.th_updTh_ne _ _ (by omega), State.th_updTh_ne _ _ (by omega), State.th_updTh_ne _ _ (by omega),
        State.th_updTh]; rfl
    · rw [State.th_updTh_ne _ _ (by omega), State.th_updTh_ne _ _ (by omega), State.th_updTh,
        State.th_updTh_ne _ _ (by omega)]; rfl
    · rw [State.th_updTh_ne _ _ (by omega), State.th_updTh, State.th_updTh_ne _ _ (by omega),
        State.th_updTh_ne _ _ (by omega)]; rfl
    · rw [State.th_updTh, State.th_updTh_ne _ _ (by omega), State.th_updTh_ne _ _ (by omega),
        State.th_updTh_ne _ _ (by omega)]; rfl
  · rw [if_neg h, State.th_updTh_ne _ _ (by omega), State.th_updTh_ne _ _ (by omega), State.th_updTh_ne _ _ (by omega),
      State.th_updTh_ne _ _ (by omega)]; rfl

/-- Registers after the FCLK cycle: FOX_CYCLES of the engine, nothing else. -/
@[simp] theorem State.fclk_get (s : State) (le : Nat) (f : Field) (j : Nat) :
    (s.fclk le).get f j = (s.incWrap F.foxCycles le).get f j := by
  unfold State.fclk
  exact State.each_keep (fun t => t.get f j) _ (fun t x => by simp) _ _
@[simp] theorem State.fclk_act (s : State) (le : Nat) (f : Field) (j : Nat) :
    (s.fclk le).act f j = (s.incWrap F.foxCycles le).act f j := by
  unfold State.fclk
  exact State.each_keep (fun t => t.act f j) _ (fun t x => by simp) _ _
/-- Anything that neither the thread updates nor the cycle counter reach. -/
theorem State.fclk_keep {β : Type} (p : State → β) (hu : ∀ t k g, p (State.updTh t k g) = p t) (hi : ∀ t : State, ∀ e, p (t.incWrap F.foxCycles e) = p t)
    (s : State) (le : Nat) : p (s.fclk le) = p s := by
  unfold State.fclk
  rw [State.each_keep p _ (fun t x => hu t _ _)]
  exact hi s le

theorem State.issued_th (s : State) (k : Fin 64) (j : Nat) : (s.issued k).th j = s.th j := rfl

/-- A word that commits with an update of its thread. -/
theorem State.foxStep_upd (s : State) (k : Fin 64) (g : Thread → Thread) :
    FoxStep k (g (s.th k).next) s ((((s.issued k).updTh k Thread.next).updTh k g).fclk (k.val / 4)) := by
  have keep : ∀ {β : Type} (p : State → β), (∀ t k g, p (State.updTh t k g) = p t) →
      (∀ t : State, ∀ f i n, p (t.incWrap f i n) = p t) → (∀ t e x, p (State.setEng t e x) = p t) →
      p ((((s.issued k).updTh k Thread.next).updTh k g).fclk (k.val / 4)) = p s := by
    intro β p h1 h2 h3
    rw [State.fclk_keep p h1 (fun t e => h2 t _ _ _), h1, h1, State.issued, h2, h3]
  refine ⟨⟨?_, fun j hj => ?_, ?_⟩, ⟨fun f i hf => ?_, fun j hj => ?_, fun j hj => ?_, ?_, ?_⟩, ?_, ?_, ?_, ?_⟩
  · rw [State.fclk_th, if_pos rfl, State.th_updTh, State.th_updTh]; rfl
  · rw [State.fclk_th, State.th_updTh_ne _ _ hj, State.th_updTh_ne _ _ hj]; rfl
  · have e := State.fclk_keep (fun t => t.engines) (fun _ _ _ => rfl) (fun t e => by simp) (((s.issued k).updTh k Thread.next).updTh k g) (k.val / 4)
    unfold State.eng
    rw [e]
    simp [State.issued, State.setEng]
  · have h1 := hf F.foxTIssued (by simp)
    have h2 := hf F.foxCycles (by simp)
    simp [State.issued, h1, h2]
  · rw [State.fclk_get, State.get_incWrap_id _ _ _ _ (by decide), State.get_updTh, State.get_updTh, State.issued,
      State.incWrap, State.get_put_ne _ _ (Field.key_inst (fun e => hj e.symm))]; rfl
  · rw [State.fclk_get, State.incWrap, State.get_put_ne _ _ (Field.key_inst (fun e => hj e.symm)), State.get_updTh,
      State.get_updTh, State.issued, State.get_incWrap_id _ _ _ _ (by decide)]; rfl
  · rw [State.fclk_get, State.get_incWrap_id _ _ _ _ (by decide), State.get_updTh, State.get_updTh, State.issued,
      State.get_incWrap]; rfl
  · rw [State.fclk_get, State.get_incWrap, State.get_updTh, State.get_updTh, State.issued,
      State.get_incWrap_id _ _ _ _ (by decide)]; rfl
  · refine ⟨?_, ?_, ?_, ?_, ?_, ?_, ?_, ?_, ?_⟩ <;>
      exact keep (fun t => _) (fun _ _ _ => rfl) (fun _ _ _ _ => by simp) (fun _ _ _ => rfl)
  · exact keep (·.frames) (fun _ _ _ => rfl) (fun _ _ _ _ => by simp) (fun _ _ _ => rfl)
  · exact keep (·.shrews) (fun _ _ _ => rfl) (fun _ _ _ _ => by simp) (fun _ _ _ => rfl)
  · exact keep (·.sigs) (fun _ _ _ => rfl) (fun _ _ _ _ => by simp) (fun _ _ _ => rfl)

/-- The long word of a thread that runs: what its operation does, on the state with the word issued and the PC moved on. -/
theorem State.long_go {s : State} {k : Fin 64} {c : Fin 16} {legal : Bool} {run : Thread → State → FRes} {rep : Bool}
    {f : State → State} (h : s.foxRuns k c) (hl : legal = true) (hp : (s.th k).rpt = 0 ∨ rep = true)
    (hr : run (s.th k) (s.issued k) = .go f) :
    s.long k c legal run rep = (f ((s.issued k).updTh k Thread.next)).fclk (k.val / 4) := by
  obtain ⟨h1, h2, h3⟩ := h
  have hm : (s.issued k).marked 4 ((s.issued k).phys (k.val / 4)) (s.th k).pc.toNat = false := by
    have e : (s.issued k).phys (k.val / 4) = s.phys (k.val / 4) := by
      unfold State.phys State.issued
      rw [State.get_incWrap_id _ _ _ _ (by decide)]; rfl
    rw [e]
    simpa [State.marked, State.issued, State.setEng] using h2
  have hp' : ¬(¬(s.th k).rpt = 0#24 ∧ rep = false) := by
    rcases hp with e | e <;> simp [e]
  unfold State.long State.issue
  simp [h1, hm, hl, if_neg hp', h3, hr]
/-- A long word whose operation updates its thread only. -/
theorem State.long_upd {s : State} {k : Fin 64} {c : Fin 16} {legal : Bool} {run : Thread → State → FRes} {rep : Bool}
    {g : Thread → Thread} (h : s.foxRuns k c) (hl : legal = true) (hp : (s.th k).rpt = 0 ∨ rep = true)
    (hr : run (s.th k) (s.issued k) = .go (fun s => s.updTh k g)) :
    FoxStep k (g (s.th k).next) s (s.long k c legal run rep) := by
  rw [State.long_go h hl hp hr]
  exact s.foxStep_upd k g

end Sys2Proof.Machine
end

