-- ==== Sys2Proof/Laws/Kept.lean ====
section
/-!
SUPPORT. What no command undoes: the queue's rest, the canonical form of the memories, the depth of the logs, and the
counters that only grow. One law per operation of the machine; the files Kept* of this folder follow the files of Machine.
-/
namespace Sys2Proof.Machine

/-- `b` comes after `a`: the commands waiting are the same, memories keep their canonical form, logs their depth, and the
device's own counters do not go back. -/
structure Kept (a b : State) : Prop where
  pending : b.pending = a.pending
  up : a.up ≤ b.up
  fresh : a.fresh ≤ b.fresh
  trngN : a.trngN ≤ b.trngN
  healthSeq : a.healthSeq ≤ b.healthSeq
  memWf : a.memWf = true → b.memWf = true
  logsFit : a.logsFit = true → b.logsFit = true

theorem Kept.refl (a : State) : Kept a a := ⟨rfl, Nat.le_refl _, Nat.le_refl _, Nat.le_refl _, Nat.le_refl _, id, id⟩
theorem Kept.trans {a b c : State} (h : Kept a b) (g : Kept b c) : Kept a c :=
  ⟨g.pending.trans h.pending, Nat.le_trans h.up g.up, Nat.le_trans h.fresh g.fresh,
    Nat.le_trans h.trngN g.trngN, Nat.le_trans h.healthSeq g.healthSeq,
    fun x => g.memWf (h.memWf x), fun x => g.logsFit (h.logsFit x)⟩

/-! Values of the fields that no law below speaks of. -/
variable {ypend : SMap Nat} {yactv : SMap Nat} {ylive : SMap Nat} {yheld : SMap Nat} {yrdata : List Nat} {ytime :
  DevTime} {yrelAt : Nat} {yslew : Int} {yppsGood : Nat} {ysrcLock : Nat} {yppsOut : Bool} {yaxes : SMap Axis} {yplls
  : SMap Pll} {ycal : SMap CalEnt} {ycapt : SMap (List CaptRec)} {ygates : Nat} {ythreads : SMap Thread} {yengines :
  SMap Engine} {ysigs : List Signal} {yframes : SMap Frame} {ypinQ : List Desc} {ymidQ : List Desc} {youtQ : List
  Desc} {ytxing : SMap Nat} {ystage : SMap Nat} {ymirUse : Nat} {yrxNum : SMap Nat} {ytxNum : SMap Nat} {ysubm : List
  Desc} {ypoison : SMap Bool} {yhtx : List HtxRec} {yhtxc : List (Nat × Nat × Nat)} {ymbx : SMap Mbx} {ysyncTotal :
  Nat} {ychans : SMap Chan} {yhealth : List Health} {yirqSent : List Nat} {yirqMode : Nat}
  {ymsiLog : Nat} {yd3hot : Bool} {ylbusLow : Option (Nat × Nat)} {ylbusHold : Nat} {ylbusLast : Option Nat} {ybackBlk
  : SMap Bool} {yleaseBlk : SMap Bool} {ycommitReq : Nat} {yleaseNs : Nat} {yleaseExp : Bool} {yapply : Option
  ApplyReq} {ysnapDue : Bool} {ysnapMbx : Option Nat} {yshrews : SMap Shrew} {yshrFlags : Nat} {ygpLvl : Nat} {ygpOe :
  Nat} {yvddio33 : Nat} {yports : SMap Port} {yring : Ring} {yringLanes : SMap Lane} {ycans : SMap Can} {ycanLocks :
  SMap Nat} {yhwq : List GwRec} {yowlRep : List OwlReport} {yowl : Owl} {yconns : SMap Conn} {ytws : SMap TwEnt}
  {ytaps : List Tap} {yflashLog : SMap (List Byte)} {ysupOut : Nat} {ypwHash : Option (List Byte)} {yhlog : SMap (List
  Byte)} {ywaitWr : List (Nat × Byte)} {ypfail : Bool} {yoff : Bool} {yreleased : Bool} {ymbxSeq : Nat} {ymsix : SMap
  Nat} {ypba : Nat} {yselRec : SMap (List Byte)} {yprof : SMap (List Byte)} {ybundle : List Byte} {ystartQ : List
  (List Byte)} {yswitch : Option Switch} {yimgHash : SMap (List Byte)} {ysettOut : Nat} {yfstep : SMap Nat} {ystepMask
  : Nat} {yd3pend : Nat}
  {ytimers : SMap Nat} {yolds : List (Nat × SMap Nat)} {ysnapWhn ysnapClr : Bool} {yarriving : SMap (Option RxFrame)}

/-- An update of anything else. -/
theorem Kept.other {a b : State} (h : Kept a b) : Kept a ⟨b.pending, ypend, yactv, ylive, yheld, b.fresh, yrdata,
      ytime, b.up, yrelAt, ytimers, yslew, yppsGood, ysrcLock, yppsOut, yaxes, yplls, ycal, ycapt, ygates, ythreads,
      yengines, ysigs, b.im, b.dm, yframes, ypinQ, ymidQ, youtQ, ytxing, ystage, ymirUse, yrxNum, ytxNum, ysubm,
      b.cram, ypoison, b.hostMem, b.pwe, yhtx, yhtxc, ymbx, ysyncTotal, b.evq, b.evOpen, b.evFifo, b.ueLog, b.refLog,
      ychans, yhealth, b.healthSeq, yirqSent, yirqMode, ymsiLog, yd3hot, ylbusLow, ylbusHold, ylbusLast, b.imgCur,
      b.imgBack, b.imgLease, ybackBlk, yleaseBlk, ycommitReq, yleaseNs, yleaseExp, b.flowMem, yapply, yolds, ysnapDue,
      ysnapWhn, ysnapClr, ysnapMbx, yshrews, b.shrPm, yshrFlags, ygpLvl, ygpOe, yvddio33, yports, yarriving, yring,
      yringLanes, ycans, ycanLocks, yhwq, yowlRep, yowl, yconns, ytws, ytaps, yflashLog, ysupOut, ypwHash, b.trngN,
      yhlog, ywaitWr, ypfail, yoff, yreleased, ymbxSeq, ymsix, ypba, yselRec, yprof, ybundle, ystartQ, yswitch,
      yimgHash, ysettOut, yfstep, ystepMask, yd3pend⟩ :=
  ⟨h.pending, h.up, h.fresh, h.trngN, h.healthSeq, h.memWf, h.logsFit⟩

/-- A new `cram` in canonical form. -/
theorem Kept.of_cram {a b : State} (h : Kept a b) {m : SMap Byte}
    (w : SMap.wf (fun _ v => v == 0) b.cram = true → SMap.wf (fun _ v => v == 0) m = true) :
    Kept a ⟨b.pending, ypend, yactv, ylive, yheld, b.fresh, yrdata, ytime, b.up, yrelAt, ytimers, yslew, yppsGood,
      ysrcLock, yppsOut, yaxes, yplls, ycal, ycapt, ygates, ythreads, yengines, ysigs, b.im, b.dm, yframes, ypinQ,
      ymidQ, youtQ, ytxing, ystage, ymirUse, yrxNum, ytxNum, ysubm, m, ypoison, b.hostMem, b.pwe, yhtx, yhtxc, ymbx,
      ysyncTotal, b.evq, b.evOpen, b.evFifo, b.ueLog, b.refLog, ychans, yhealth, b.healthSeq, yirqSent, yirqMode,
      ymsiLog, yd3hot, ylbusLow, ylbusHold, ylbusLast, b.imgCur, b.imgBack, b.imgLease, ybackBlk, yleaseBlk,
      ycommitReq, yleaseNs, yleaseExp, b.flowMem, yapply, yolds, ysnapDue, ysnapWhn, ysnapClr, ysnapMbx, yshrews,
      b.shrPm, yshrFlags, ygpLvl, ygpOe, yvddio33, yports, yarriving, yring, yringLanes, ycans, ycanLocks, yhwq,
      yowlRep, yowl, yconns, ytws, ytaps, yflashLog, ysupOut, ypwHash, b.trngN, yhlog, ywaitWr, ypfail, yoff,
      yreleased, ymbxSeq, ymsix, ypba, yselRec, yprof, ybundle, ystartQ, yswitch, yimgHash, ysettOut, yfstep,
      ystepMask, yd3pend⟩ := by
  refine h.trans ⟨rfl, Nat.le_refl _, Nat.le_refl _, Nat.le_refl _, Nat.le_refl _, ?_, id⟩
  simp only [State.memWf, Bool.and_eq_true]
  rintro ⟨⟨⟨⟨⟨⟨⟨⟨h1, h2⟩, h3⟩, h4⟩, h5⟩, h6⟩, h7⟩, h8⟩, h9⟩
  exact ⟨⟨⟨⟨⟨⟨⟨⟨w h1, h2⟩, h3⟩, h4⟩, h5⟩, h6⟩, h7⟩, h8⟩, h9⟩

/-- A new `im` in canonical form. -/
theorem Kept.of_im {a b : State} (h : Kept a b) {m : SMap (BitVec 48)}
    (w : SMap.wf (fun _ v => v == 0) b.im = true → SMap.wf (fun _ v => v == 0) m = true) :
    Kept a ⟨b.pending, ypend, yactv, ylive, yheld, b.fresh, yrdata, ytime, b.up, yrelAt, ytimers, yslew, yppsGood,
      ysrcLock, yppsOut, yaxes, yplls, ycal, ycapt, ygates, ythreads, yengines, ysigs, m, b.dm, yframes, ypinQ, ymidQ,
      youtQ, ytxing, ystage, ymirUse, yrxNum, ytxNum, ysubm, b.cram, ypoison, b.hostMem, b.pwe, yhtx, yhtxc, ymbx,
      ysyncTotal, b.evq, b.evOpen, b.evFifo, b.ueLog, b.refLog, ychans, yhealth, b.healthSeq, yirqSent, yirqMode,
      ymsiLog, yd3hot, ylbusLow, ylbusHold, ylbusLast, b.imgCur, b.imgBack, b.imgLease, ybackBlk, yleaseBlk,
      ycommitReq, yleaseNs, yleaseExp, b.flowMem, yapply, yolds, ysnapDue, ysnapWhn, ysnapClr, ysnapMbx, yshrews,
      b.shrPm, yshrFlags, ygpLvl, ygpOe, yvddio33, yports, yarriving, yring, yringLanes, ycans, ycanLocks, yhwq,
      yowlRep, yowl, yconns, ytws, ytaps, yflashLog, ysupOut, ypwHash, b.trngN, yhlog, ywaitWr, ypfail, yoff,
      yreleased, ymbxSeq, ymsix, ypba, yselRec, yprof, ybundle, ystartQ, yswitch, yimgHash, ysettOut, yfstep,
      ystepMask, yd3pend⟩ := by
  refine h.trans ⟨rfl, Nat.le_refl _, Nat.le_refl _, Nat.le_refl _, Nat.le_refl _, ?_, id⟩
  simp only [State.memWf, Bool.and_eq_true]
  rintro ⟨⟨⟨⟨⟨⟨⟨⟨h1, h2⟩, h3⟩, h4⟩, h5⟩, h6⟩, h7⟩, h8⟩, h9⟩
  exact ⟨⟨⟨⟨⟨⟨⟨⟨h1, w h2⟩, h3⟩, h4⟩, h5⟩, h6⟩, h7⟩, h8⟩, h9⟩

/-- New `im` and `dm` in canonical form. -/
theorem Kept.of_imDm {a b : State} (h : Kept a b) {m : SMap (BitVec 48)} {m2 : SMap W24}
    (w : SMap.wf (fun _ v => v == 0) b.im = true → SMap.wf (fun _ v => v == 0) m = true)
    (w2 : SMap.wf (fun _ v => v == 0) b.dm = true → SMap.wf (fun _ v => v == 0) m2 = true) :
    Kept a ⟨b.pending, ypend, yactv, ylive, yheld, b.fresh, yrdata, ytime, b.up, yrelAt, ytimers, yslew, yppsGood,
      ysrcLock, yppsOut, yaxes, yplls, ycal, ycapt, ygates, ythreads, yengines, ysigs, m, m2, yframes, ypinQ, ymidQ,
      youtQ, ytxing, ystage, ymirUse, yrxNum, ytxNum, ysubm, b.cram, ypoison, b.hostMem, b.pwe, yhtx, yhtxc, ymbx,
      ysyncTotal, b.evq, b.evOpen, b.evFifo, b.ueLog, b.refLog, ychans, yhealth, b.healthSeq, yirqSent, yirqMode,
      ymsiLog, yd3hot, ylbusLow, ylbusHold, ylbusLast, b.imgCur, b.imgBack, b.imgLease, ybackBlk, yleaseBlk,
      ycommitReq, yleaseNs, yleaseExp, b.flowMem, yapply, yolds, ysnapDue, ysnapWhn, ysnapClr, ysnapMbx, yshrews,
      b.shrPm, yshrFlags, ygpLvl, ygpOe, yvddio33, yports, yarriving, yring, yringLanes, ycans, ycanLocks, yhwq,
      yowlRep, yowl, yconns, ytws, ytaps, yflashLog, ysupOut, ypwHash, b.trngN, yhlog, ywaitWr, ypfail, yoff,
      yreleased, ymbxSeq, ymsix, ypba, yselRec, yprof, ybundle, ystartQ, yswitch, yimgHash, ysettOut, yfstep,
      ystepMask, yd3pend⟩ := by
  refine h.trans ⟨rfl, Nat.le_refl _, Nat.le_refl _, Nat.le_refl _, Nat.le_refl _, ?_, id⟩
  simp only [State.memWf, Bool.and_eq_true]
  rintro ⟨⟨⟨⟨⟨⟨⟨⟨h1, h2⟩, h3⟩, h4⟩, h5⟩, h6⟩, h7⟩, h8⟩, h9⟩
  exact ⟨⟨⟨⟨⟨⟨⟨⟨h1, w h2⟩, w2 h3⟩, h4⟩, h5⟩, h6⟩, h7⟩, h8⟩, h9⟩

/-- A new `dm` in canonical form. -/
theorem Kept.of_dm {a b : State} (h : Kept a b) {m : SMap W24}
    (w : SMap.wf (fun _ v => v == 0) b.dm = true → SMap.wf (fun _ v => v == 0) m = true) :
    Kept a ⟨b.pending, ypend, yactv, ylive, yheld, b.fresh, yrdata, ytime, b.up, yrelAt, ytimers, yslew, yppsGood,
      ysrcLock, yppsOut, yaxes, yplls, ycal, ycapt, ygates, ythreads, yengines, ysigs, b.im, m, yframes, ypinQ, ymidQ,
      youtQ, ytxing, ystage, ymirUse, yrxNum, ytxNum, ysubm, b.cram, ypoison, b.hostMem, b.pwe, yhtx, yhtxc, ymbx,
      ysyncTotal, b.evq, b.evOpen, b.evFifo, b.ueLog, b.refLog, ychans, yhealth, b.healthSeq, yirqSent, yirqMode,
      ymsiLog, yd3hot, ylbusLow, ylbusHold, ylbusLast, b.imgCur, b.imgBack, b.imgLease, ybackBlk, yleaseBlk,
      ycommitReq, yleaseNs, yleaseExp, b.flowMem, yapply, yolds, ysnapDue, ysnapWhn, ysnapClr, ysnapMbx, yshrews,
      b.shrPm, yshrFlags, ygpLvl, ygpOe, yvddio33, yports, yarriving, yring, yringLanes, ycans, ycanLocks, yhwq,
      yowlRep, yowl, yconns, ytws, ytaps, yflashLog, ysupOut, ypwHash, b.trngN, yhlog, ywaitWr, ypfail, yoff,
      yreleased, ymbxSeq, ymsix, ypba, yselRec, yprof, ybundle, ystartQ, yswitch, yimgHash, ysettOut, yfstep,
      ystepMask, yd3pend⟩ := by
  refine h.trans ⟨rfl, Nat.le_refl _, Nat.le_refl _, Nat.le_refl _, Nat.le_refl _, ?_, id⟩
  simp only [State.memWf, Bool.and_eq_true]
  rintro ⟨⟨⟨⟨⟨⟨⟨⟨h1, h2⟩, h3⟩, h4⟩, h5⟩, h6⟩, h7⟩, h8⟩, h9⟩
  exact ⟨⟨⟨⟨⟨⟨⟨⟨h1, h2⟩, w h3⟩, h4⟩, h5⟩, h6⟩, h7⟩, h8⟩, h9⟩

/-- A new `imgCur` in canonical form. -/
theorem Kept.of_imgCur {a b : State} (h : Kept a b) {m : SMap Byte}
    (w : SMap.wf (fun _ v => v == 0) b.imgCur = true → SMap.wf (fun _ v => v == 0) m = true) :
    Kept a ⟨b.pending, ypend, yactv, ylive, yheld, b.fresh, yrdata, ytime, b.up, yrelAt, ytimers, yslew, yppsGood,
      ysrcLock, yppsOut, yaxes, yplls, ycal, ycapt, ygates, ythreads, yengines, ysigs, b.im, b.dm, yframes, ypinQ,
      ymidQ, youtQ, ytxing, ystage, ymirUse, yrxNum, ytxNum, ysubm, b.cram, ypoison, b.hostMem, b.pwe, yhtx, yhtxc,
      ymbx, ysyncTotal, b.evq, b.evOpen, b.evFifo, b.ueLog, b.refLog, ychans, yhealth, b.healthSeq, yirqSent,
      yirqMode, ymsiLog, yd3hot, ylbusLow, ylbusHold, ylbusLast, m, b.imgBack, b.imgLease, ybackBlk, yleaseBlk,
      ycommitReq, yleaseNs, yleaseExp, b.flowMem, yapply, yolds, ysnapDue, ysnapWhn, ysnapClr, ysnapMbx, yshrews,
      b.shrPm, yshrFlags, ygpLvl, ygpOe, yvddio33, yports, yarriving, yring, yringLanes, ycans, ycanLocks, yhwq,
      yowlRep, yowl, yconns, ytws, ytaps, yflashLog, ysupOut, ypwHash, b.trngN, yhlog, ywaitWr, ypfail, yoff,
      yreleased, ymbxSeq, ymsix, ypba, yselRec, yprof, ybundle, ystartQ, yswitch, yimgHash, ysettOut, yfstep,
      ystepMask, yd3pend⟩ := by
  refine h.trans ⟨rfl, Nat.le_refl _, Nat.le_refl _, Nat.le_refl _, Nat.le_refl _, ?_, id⟩
  simp only [State.memWf, Bool.and_eq_true]
  rintro ⟨⟨⟨⟨⟨⟨⟨⟨h1, h2⟩, h3⟩, h4⟩, h5⟩, h6⟩, h7⟩, h8⟩, h9⟩
  exact ⟨⟨⟨⟨⟨⟨⟨⟨h1, h2⟩, h3⟩, w h4⟩, h5⟩, h6⟩, h7⟩, h8⟩, h9⟩

/-- A new `imgBack` in canonical form. -/
theorem Kept.of_imgBack {a b : State} (h : Kept a b) {m : SMap Byte}
    (w : SMap.wf (fun _ v => v == 0) b.imgBack = true → SMap.wf (fun _ v => v == 0) m = true) :
    Kept a ⟨b.pending, ypend, yactv, ylive, yheld, b.fresh, yrdata, ytime, b.up, yrelAt, ytimers, yslew, yppsGood,
      ysrcLock, yppsOut, yaxes, yplls, ycal, ycapt, ygates, ythreads, yengines, ysigs, b.im, b.dm, yframes, ypinQ,
      ymidQ, youtQ, ytxing, ystage, ymirUse, yrxNum, ytxNum, ysubm, b.cram, ypoison, b.hostMem, b.pwe, yhtx, yhtxc,
      ymbx, ysyncTotal, b.evq, b.evOpen, b.evFifo, b.ueLog, b.refLog, ychans, yhealth, b.healthSeq, yirqSent,
      yirqMode, ymsiLog, yd3hot, ylbusLow, ylbusHold, ylbusLast, b.imgCur, m, b.imgLease, ybackBlk, yleaseBlk,
      ycommitReq, yleaseNs, yleaseExp, b.flowMem, yapply, yolds, ysnapDue, ysnapWhn, ysnapClr, ysnapMbx, yshrews,
      b.shrPm, yshrFlags, ygpLvl, ygpOe, yvddio33, yports, yarriving, yring, yringLanes, ycans, ycanLocks, yhwq,
      yowlRep, yowl, yconns, ytws, ytaps, yflashLog, ysupOut, ypwHash, b.trngN, yhlog, ywaitWr, ypfail, yoff,
      yreleased, ymbxSeq, ymsix, ypba, yselRec, yprof, ybundle, ystartQ, yswitch, yimgHash, ysettOut, yfstep,
      ystepMask, yd3pend⟩ := by
  refine h.trans ⟨rfl, Nat.le_refl _, Nat.le_refl _, Nat.le_refl _, Nat.le_refl _, ?_, id⟩
  simp only [State.memWf, Bool.and_eq_true]
  rintro ⟨⟨⟨⟨⟨⟨⟨⟨h1, h2⟩, h3⟩, h4⟩, h5⟩, h6⟩, h7⟩, h8⟩, h9⟩
  exact ⟨⟨⟨⟨⟨⟨⟨⟨h1, h2⟩, h3⟩, h4⟩, w h5⟩, h6⟩, h7⟩, h8⟩, h9⟩

/-- A new `imgLease` in canonical form. -/
theorem Kept.of_imgLease {a b : State} (h : Kept a b) {m : SMap Byte}
    (w : SMap.wf (fun _ v => v == 0) b.imgLease = true → SMap.wf (fun _ v => v == 0) m = true) :
    Kept a ⟨b.pending, ypend, yactv, ylive, yheld, b.fresh, yrdata, ytime, b.up, yrelAt, ytimers, yslew, yppsGood,
      ysrcLock, yppsOut, yaxes, yplls, ycal, ycapt, ygates, ythreads, yengines, ysigs, b.im, b.dm, yframes, ypinQ,
      ymidQ, youtQ, ytxing, ystage, ymirUse, yrxNum, ytxNum, ysubm, b.cram, ypoison, b.hostMem, b.pwe, yhtx, yhtxc,
      ymbx, ysyncTotal, b.evq, b.evOpen, b.evFifo, b.ueLog, b.refLog, ychans, yhealth, b.healthSeq, yirqSent,
      yirqMode, ymsiLog, yd3hot, ylbusLow, ylbusHold, ylbusLast, b.imgCur, b.imgBack, m, ybackBlk, yleaseBlk,
      ycommitReq, yleaseNs, yleaseExp, b.flowMem, yapply, yolds, ysnapDue, ysnapWhn, ysnapClr, ysnapMbx, yshrews,
      b.shrPm, yshrFlags, ygpLvl, ygpOe, yvddio33, yports, yarriving, yring, yringLanes, ycans, ycanLocks, yhwq,
      yowlRep, yowl, yconns, ytws, ytaps, yflashLog, ysupOut, ypwHash, b.trngN, yhlog, ywaitWr, ypfail, yoff,
      yreleased, ymbxSeq, ymsix, ypba, yselRec, yprof, ybundle, ystartQ, yswitch, yimgHash, ysettOut, yfstep,
      ystepMask, yd3pend⟩ := by
  refine h.trans ⟨rfl, Nat.le_refl _, Nat.le_refl _, Nat.le_refl _, Nat.le_refl _, ?_, id⟩
  simp only [State.memWf, Bool.and_eq_true]
  rintro ⟨⟨⟨⟨⟨⟨⟨⟨h1, h2⟩, h3⟩, h4⟩, h5⟩, h6⟩, h7⟩, h8⟩, h9⟩
  exact ⟨⟨⟨⟨⟨⟨⟨⟨h1, h2⟩, h3⟩, h4⟩, h5⟩, w h6⟩, h7⟩, h8⟩, h9⟩

/-- A new `flowMem` in canonical form. -/
theorem Kept.of_flowMem {a b : State} (h : Kept a b) {m : SMap Byte}
    (w : SMap.wf (fun _ v => v == 0) b.flowMem = true → SMap.wf (fun _ v => v == 0) m = true) :
    Kept a ⟨b.pending, ypend, yactv, ylive, yheld, b.fresh, yrdata, ytime, b.up, yrelAt, ytimers, yslew, yppsGood,
      ysrcLock, yppsOut, yaxes, yplls, ycal, ycapt, ygates, ythreads, yengines, ysigs, b.im, b.dm, yframes, ypinQ,
      ymidQ, youtQ, ytxing, ystage, ymirUse, yrxNum, ytxNum, ysubm, b.cram, ypoison, b.hostMem, b.pwe, yhtx, yhtxc,
      ymbx, ysyncTotal, b.evq, b.evOpen, b.evFifo, b.ueLog, b.refLog, ychans, yhealth, b.healthSeq, yirqSent,
      yirqMode, ymsiLog, yd3hot, ylbusLow, ylbusHold, ylbusLast, b.imgCur, b.imgBack, b.imgLease, ybackBlk, yleaseBlk,
      ycommitReq, yleaseNs, yleaseExp, m, yapply, yolds, ysnapDue, ysnapWhn, ysnapClr, ysnapMbx, yshrews, b.shrPm,
      yshrFlags, ygpLvl, ygpOe, yvddio33, yports, yarriving, yring, yringLanes, ycans, ycanLocks, yhwq, yowlRep, yowl,
      yconns, ytws, ytaps, yflashLog, ysupOut, ypwHash, b.trngN, yhlog, ywaitWr, ypfail, yoff, yreleased, ymbxSeq,
      ymsix, ypba, yselRec, yprof, ybundle, ystartQ, yswitch, yimgHash, ysettOut, yfstep, ystepMask, yd3pend⟩ := by
  refine h.trans ⟨rfl, Nat.le_refl _, Nat.le_refl _, Nat.le_refl _, Nat.le_refl _, ?_, id⟩
  simp only [State.memWf, Bool.and_eq_true]
  rintro ⟨⟨⟨⟨⟨⟨⟨⟨h1, h2⟩, h3⟩, h4⟩, h5⟩, h6⟩, h7⟩, h8⟩, h9⟩
  exact ⟨⟨⟨⟨⟨⟨⟨⟨h1, h2⟩, h3⟩, h4⟩, h5⟩, h6⟩, w h7⟩, h8⟩, h9⟩

/-- A new `hostMem` in canonical form. -/
theorem Kept.of_hostMem {a b : State} (h : Kept a b) {m : SMap Byte}
    (w : SMap.wf (fun _ v => v == 0) b.hostMem = true → SMap.wf (fun _ v => v == 0) m = true) :
    Kept a ⟨b.pending, ypend, yactv, ylive, yheld, b.fresh, yrdata, ytime, b.up, yrelAt, ytimers, yslew, yppsGood,
      ysrcLock, yppsOut, yaxes, yplls, ycal, ycapt, ygates, ythreads, yengines, ysigs, b.im, b.dm, yframes, ypinQ,
      ymidQ, youtQ, ytxing, ystage, ymirUse, yrxNum, ytxNum, ysubm, b.cram, ypoison, m, b.pwe, yhtx, yhtxc, ymbx,
      ysyncTotal, b.evq, b.evOpen, b.evFifo, b.ueLog, b.refLog, ychans, yhealth, b.healthSeq, yirqSent, yirqMode,
      ymsiLog, yd3hot, ylbusLow, ylbusHold, ylbusLast, b.imgCur, b.imgBack, b.imgLease, ybackBlk, yleaseBlk,
      ycommitReq, yleaseNs, yleaseExp, b.flowMem, yapply, yolds, ysnapDue, ysnapWhn, ysnapClr, ysnapMbx, yshrews,
      b.shrPm, yshrFlags, ygpLvl, ygpOe, yvddio33, yports, yarriving, yring, yringLanes, ycans, ycanLocks, yhwq,
      yowlRep, yowl, yconns, ytws, ytaps, yflashLog, ysupOut, ypwHash, b.trngN, yhlog, ywaitWr, ypfail, yoff,
      yreleased, ymbxSeq, ymsix, ypba, yselRec, yprof, ybundle, ystartQ, yswitch, yimgHash, ysettOut, yfstep,
      ystepMask, yd3pend⟩ := by
  refine h.trans ⟨rfl, Nat.le_refl _, Nat.le_refl _, Nat.le_refl _, Nat.le_refl _, ?_, id⟩
  simp only [State.memWf, Bool.and_eq_true]
  rintro ⟨⟨⟨⟨⟨⟨⟨⟨h1, h2⟩, h3⟩, h4⟩, h5⟩, h6⟩, h7⟩, h8⟩, h9⟩
  exact ⟨⟨⟨⟨⟨⟨⟨⟨h1, h2⟩, h3⟩, h4⟩, h5⟩, h6⟩, h7⟩, w h8⟩, h9⟩

/-- A new `shrPm` in canonical form. -/
theorem Kept.of_shrPm {a b : State} (h : Kept a b) {m : SMap (BitVec 16)}
    (w : SMap.wf (fun _ v => v == 0) b.shrPm = true → SMap.wf (fun _ v => v == 0) m = true) :
    Kept a ⟨b.pending, ypend, yactv, ylive, yheld, b.fresh, yrdata, ytime, b.up, yrelAt, ytimers, yslew, yppsGood,
      ysrcLock, yppsOut, yaxes, yplls, ycal, ycapt, ygates, ythreads, yengines, ysigs, b.im, b.dm, yframes, ypinQ,
      ymidQ, youtQ, ytxing, ystage, ymirUse, yrxNum, ytxNum, ysubm, b.cram, ypoison, b.hostMem, b.pwe, yhtx, yhtxc,
      ymbx, ysyncTotal, b.evq, b.evOpen, b.evFifo, b.ueLog, b.refLog, ychans, yhealth, b.healthSeq, yirqSent,
      yirqMode, ymsiLog, yd3hot, ylbusLow, ylbusHold, ylbusLast, b.imgCur, b.imgBack, b.imgLease, ybackBlk, yleaseBlk,
      ycommitReq, yleaseNs, yleaseExp, b.flowMem, yapply, yolds, ysnapDue, ysnapWhn, ysnapClr, ysnapMbx, yshrews, m,
      yshrFlags, ygpLvl, ygpOe, yvddio33, yports, yarriving, yring, yringLanes, ycans, ycanLocks, yhwq, yowlRep, yowl,
      yconns, ytws, ytaps, yflashLog, ysupOut, ypwHash, b.trngN, yhlog, ywaitWr, ypfail, yoff, yreleased, ymbxSeq,
      ymsix, ypba, yselRec, yprof, ybundle, ystartQ, yswitch, yimgHash, ysettOut, yfstep, ystepMask, yd3pend⟩ := by
  refine h.trans ⟨rfl, Nat.le_refl _, Nat.le_refl _, Nat.le_refl _, Nat.le_refl _, ?_, id⟩
  simp only [State.memWf, Bool.and_eq_true]
  rintro ⟨⟨⟨⟨⟨⟨⟨⟨h1, h2⟩, h3⟩, h4⟩, h5⟩, h6⟩, h7⟩, h8⟩, h9⟩
  exact ⟨⟨⟨⟨⟨⟨⟨⟨h1, h2⟩, h3⟩, h4⟩, h5⟩, h6⟩, h7⟩, h8⟩, w h9⟩

/-- A new `pwe` that fits. -/
theorem Kept.of_pwe {a b : State} (h : Kept a b) {l : List PweRec} {ymbxSeq
    : Nat} (w : b.pwe.length ≤ 64 → l.length ≤ 64) :
    Kept a ⟨b.pending, ypend, yactv, ylive, yheld, b.fresh, yrdata, ytime, b.up, yrelAt, ytimers, yslew, yppsGood,
      ysrcLock, yppsOut, yaxes, yplls, ycal, ycapt, ygates, ythreads, yengines, ysigs, b.im, b.dm, yframes, ypinQ,
      ymidQ, youtQ, ytxing, ystage, ymirUse, yrxNum, ytxNum, ysubm, b.cram, ypoison, b.hostMem, l, yhtx, yhtxc, ymbx,
      ysyncTotal, b.evq, b.evOpen, b.evFifo, b.ueLog, b.refLog, ychans, yhealth, b.healthSeq, yirqSent, yirqMode,
      ymsiLog, yd3hot, ylbusLow, ylbusHold, ylbusLast, b.imgCur, b.imgBack, b.imgLease, ybackBlk, yleaseBlk,
      ycommitReq, yleaseNs, yleaseExp, b.flowMem, yapply, yolds, ysnapDue, ysnapWhn, ysnapClr, ysnapMbx, yshrews,
      b.shrPm, yshrFlags, ygpLvl, ygpOe, yvddio33, yports, yarriving, yring, yringLanes, ycans, ycanLocks, yhwq,
      yowlRep, yowl, yconns, ytws, ytaps, yflashLog, ysupOut, ypwHash, b.trngN, yhlog, ywaitWr, ypfail, yoff,
      yreleased, ymbxSeq, ymsix, ypba, yselRec, yprof, ybundle, ystartQ, yswitch, yimgHash, ysettOut, yfstep,
      ystepMask, yd3pend⟩ := by
  refine h.trans ⟨rfl, Nat.le_refl _, Nat.le_refl _, Nat.le_refl _, Nat.le_refl _, id, ?_⟩
  simp only [State.logsFit, Bool.and_eq_true, decide_eq_true_eq]
  rintro ⟨⟨⟨⟨⟨h1, h2⟩, h3⟩, h4⟩, h5⟩, h6⟩
  exact ⟨⟨⟨⟨⟨w h1, h2⟩, h3⟩, h4⟩, h5⟩, h6⟩

/-- A new `evq` that fits. -/
theorem Kept.of_evq {a b : State} (h : Kept a b) {l : List Event} {ymbxSeq
    : Nat} (w : b.evq.length ≤ 1024 → l.length ≤ 1024) :
    Kept a ⟨b.pending, ypend, yactv, ylive, yheld, b.fresh, yrdata, ytime, b.up, yrelAt, ytimers, yslew, yppsGood,
      ysrcLock, yppsOut, yaxes, yplls, ycal, ycapt, ygates, ythreads, yengines, ysigs, b.im, b.dm, yframes, ypinQ,
      ymidQ, youtQ, ytxing, ystage, ymirUse, yrxNum, ytxNum, ysubm, b.cram, ypoison, b.hostMem, b.pwe, yhtx, yhtxc,
      ymbx, ysyncTotal, l, b.evOpen, b.evFifo, b.ueLog, b.refLog, ychans, yhealth, b.healthSeq, yirqSent, yirqMode,
      ymsiLog, yd3hot, ylbusLow, ylbusHold, ylbusLast, b.imgCur, b.imgBack, b.imgLease, ybackBlk, yleaseBlk,
      ycommitReq, yleaseNs, yleaseExp, b.flowMem, yapply, yolds, ysnapDue, ysnapWhn, ysnapClr, ysnapMbx, yshrews,
      b.shrPm, yshrFlags, ygpLvl, ygpOe, yvddio33, yports, yarriving, yring, yringLanes, ycans, ycanLocks, yhwq,
      yowlRep, yowl, yconns, ytws, ytaps, yflashLog, ysupOut, ypwHash, b.trngN, yhlog, ywaitWr, ypfail, yoff,
      yreleased, ymbxSeq, ymsix, ypba, yselRec, yprof, ybundle, ystartQ, yswitch, yimgHash, ysettOut, yfstep,
      ystepMask, yd3pend⟩ := by
  refine h.trans ⟨rfl, Nat.le_refl _, Nat.le_refl _, Nat.le_refl _, Nat.le_refl _, id, ?_⟩
  simp only [State.logsFit, Bool.and_eq_true, decide_eq_true_eq]
  rintro ⟨⟨⟨⟨⟨h1, h2⟩, h3⟩, h4⟩, h5⟩, h6⟩
  exact ⟨⟨⟨⟨⟨h1, w h2⟩, h3⟩, h4⟩, h5⟩, h6⟩

/-- A new `evOpen` that fits. -/
theorem Kept.of_evOpen {a b : State} (h : Kept a b) {l : List EvRec} {ymbxSeq
    : Nat} (w : b.evOpen.length ≤ 64 → l.length ≤ 64) :
    Kept a ⟨b.pending, ypend, yactv, ylive, yheld, b.fresh, yrdata, ytime, b.up, yrelAt, ytimers, yslew, yppsGood,
      ysrcLock, yppsOut, yaxes, yplls, ycal, ycapt, ygates, ythreads, yengines, ysigs, b.im, b.dm, yframes, ypinQ,
      ymidQ, youtQ, ytxing, ystage, ymirUse, yrxNum, ytxNum, ysubm, b.cram, ypoison, b.hostMem, b.pwe, yhtx, yhtxc,
      ymbx, ysyncTotal, b.evq, l, b.evFifo, b.ueLog, b.refLog, ychans, yhealth, b.healthSeq, yirqSent, yirqMode,
      ymsiLog, yd3hot, ylbusLow, ylbusHold, ylbusLast, b.imgCur, b.imgBack, b.imgLease, ybackBlk, yleaseBlk,
      ycommitReq, yleaseNs, yleaseExp, b.flowMem, yapply, yolds, ysnapDue, ysnapWhn, ysnapClr, ysnapMbx, yshrews,
      b.shrPm, yshrFlags, ygpLvl, ygpOe, yvddio33, yports, yarriving, yring, yringLanes, ycans, ycanLocks, yhwq,
      yowlRep, yowl, yconns, ytws, ytaps, yflashLog, ysupOut, ypwHash, b.trngN, yhlog, ywaitWr, ypfail, yoff,
      yreleased, ymbxSeq, ymsix, ypba, yselRec, yprof, ybundle, ystartQ, yswitch, yimgHash, ysettOut, yfstep,
      ystepMask, yd3pend⟩ := by
  refine h.trans ⟨rfl, Nat.le_refl _, Nat.le_refl _, Nat.le_refl _, Nat.le_refl _, id, ?_⟩
  simp only [State.logsFit, Bool.and_eq_true, decide_eq_true_eq]
  rintro ⟨⟨⟨⟨⟨h1, h2⟩, h3⟩, h4⟩, h5⟩, h6⟩
  exact ⟨⟨⟨⟨⟨h1, h2⟩, w h3⟩, h4⟩, h5⟩, h6⟩

/-- A new `evFifo` that fits. -/
theorem Kept.of_evFifo {a b : State} (h : Kept a b) {l : List EvRec} {ymbxSeq
    : Nat} (w : b.evFifo.length ≤ 256 → l.length ≤ 256) :
    Kept a ⟨b.pending, ypend, yactv, ylive, yheld, b.fresh, yrdata, ytime, b.up, yrelAt, ytimers, yslew, yppsGood,
      ysrcLock, yppsOut, yaxes, yplls, ycal, ycapt, ygates, ythreads, yengines, ysigs, b.im, b.dm, yframes, ypinQ,
      ymidQ, youtQ, ytxing, ystage, ymirUse, yrxNum, ytxNum, ysubm, b.cram, ypoison, b.hostMem, b.pwe, yhtx, yhtxc,
      ymbx, ysyncTotal, b.evq, b.evOpen, l, b.ueLog, b.refLog, ychans, yhealth, b.healthSeq, yirqSent, yirqMode,
      ymsiLog, yd3hot, ylbusLow, ylbusHold, ylbusLast, b.imgCur, b.imgBack, b.imgLease, ybackBlk, yleaseBlk,
      ycommitReq, yleaseNs, yleaseExp, b.flowMem, yapply, yolds, ysnapDue, ysnapWhn, ysnapClr, ysnapMbx, yshrews,
      b.shrPm, yshrFlags, ygpLvl, ygpOe, yvddio33, yports, yarriving, yring, yringLanes, ycans, ycanLocks, yhwq,
      yowlRep, yowl, yconns, ytws, ytaps, yflashLog, ysupOut, ypwHash, b.trngN, yhlog, ywaitWr, ypfail, yoff,
      yreleased, ymbxSeq, ymsix, ypba, yselRec, yprof, ybundle, ystartQ, yswitch, yimgHash, ysettOut, yfstep,
      ystepMask, yd3pend⟩ := by
  refine h.trans ⟨rfl, Nat.le_refl _, Nat.le_refl _, Nat.le_refl _, Nat.le_refl _, id, ?_⟩
  simp only [State.logsFit, Bool.and_eq_true, decide_eq_true_eq]
  rintro ⟨⟨⟨⟨⟨h1, h2⟩, h3⟩, h4⟩, h5⟩, h6⟩
  exact ⟨⟨⟨⟨⟨h1, h2⟩, h3⟩, w h4⟩, h5⟩, h6⟩

/-- A new `ueLog` that fits. -/
theorem Kept.of_ueLog {a b : State} (h : Kept a b) {l : List UeRec} {ymbxSeq
    : Nat} (w : b.ueLog.length ≤ 16 → l.length ≤ 16) :
    Kept a ⟨b.pending, ypend, yactv, ylive, yheld, b.fresh, yrdata, ytime, b.up, yrelAt, ytimers, yslew, yppsGood,
      ysrcLock, yppsOut, yaxes, yplls, ycal, ycapt, ygates, ythreads, yengines, ysigs, b.im, b.dm, yframes, ypinQ,
      ymidQ, youtQ, ytxing, ystage, ymirUse, yrxNum, ytxNum, ysubm, b.cram, ypoison, b.hostMem, b.pwe, yhtx, yhtxc,
      ymbx, ysyncTotal, b.evq, b.evOpen, b.evFifo, l, b.refLog, ychans, yhealth, b.healthSeq, yirqSent, yirqMode,
      ymsiLog, yd3hot, ylbusLow, ylbusHold, ylbusLast, b.imgCur, b.imgBack, b.imgLease, ybackBlk, yleaseBlk,
      ycommitReq, yleaseNs, yleaseExp, b.flowMem, yapply, yolds, ysnapDue, ysnapWhn, ysnapClr, ysnapMbx, yshrews,
      b.shrPm, yshrFlags, ygpLvl, ygpOe, yvddio33, yports, yarriving, yring, yringLanes, ycans, ycanLocks, yhwq,
      yowlRep, yowl, yconns, ytws, ytaps, yflashLog, ysupOut, ypwHash, b.trngN, yhlog, ywaitWr, ypfail, yoff,
      yreleased, ymbxSeq, ymsix, ypba, yselRec, yprof, ybundle, ystartQ, yswitch, yimgHash, ysettOut, yfstep,
      ystepMask, yd3pend⟩ := by
  refine h.trans ⟨rfl, Nat.le_refl _, Nat.le_refl _, Nat.le_refl _, Nat.le_refl _, id, ?_⟩
  simp only [State.logsFit, Bool.and_eq_true, decide_eq_true_eq]
  rintro ⟨⟨⟨⟨⟨h1, h2⟩, h3⟩, h4⟩, h5⟩, h6⟩
  exact ⟨⟨⟨⟨⟨h1, h2⟩, h3⟩, h4⟩, w h5⟩, h6⟩

/-- A new `refLog` that fits. -/
theorem Kept.of_refLog {a b : State} (h : Kept a b) {l : List RefuseRec} {ymbxSeq
    : Nat} (w : b.refLog.length ≤ 16 → l.length ≤ 16) :
    Kept a ⟨b.pending, ypend, yactv, ylive, yheld, b.fresh, yrdata, ytime, b.up, yrelAt, ytimers, yslew, yppsGood,
      ysrcLock, yppsOut, yaxes, yplls, ycal, ycapt, ygates, ythreads, yengines, ysigs, b.im, b.dm, yframes, ypinQ,
      ymidQ, youtQ, ytxing, ystage, ymirUse, yrxNum, ytxNum, ysubm, b.cram, ypoison, b.hostMem, b.pwe, yhtx, yhtxc,
      ymbx, ysyncTotal, b.evq, b.evOpen, b.evFifo, b.ueLog, l, ychans, yhealth, b.healthSeq, yirqSent, yirqMode,
      ymsiLog, yd3hot, ylbusLow, ylbusHold, ylbusLast, b.imgCur, b.imgBack, b.imgLease, ybackBlk, yleaseBlk,
      ycommitReq, yleaseNs, yleaseExp, b.flowMem, yapply, yolds, ysnapDue, ysnapWhn, ysnapClr, ysnapMbx, yshrews,
      b.shrPm, yshrFlags, ygpLvl, ygpOe, yvddio33, yports, yarriving, yring, yringLanes, ycans, ycanLocks, yhwq,
      yowlRep, yowl, yconns, ytws, ytaps, yflashLog, ysupOut, ypwHash, b.trngN, yhlog, ywaitWr, ypfail, yoff,
      yreleased, ymbxSeq, ymsix, ypba, yselRec, yprof, ybundle, ystartQ, yswitch, yimgHash, ysettOut, yfstep,
      ystepMask, yd3pend⟩ := by
  refine h.trans ⟨rfl, Nat.le_refl _, Nat.le_refl _, Nat.le_refl _, Nat.le_refl _, id, ?_⟩
  simp only [State.logsFit, Bool.and_eq_true, decide_eq_true_eq]
  rintro ⟨⟨⟨⟨⟨h1, h2⟩, h3⟩, h4⟩, h5⟩, h6⟩
  exact ⟨⟨⟨⟨⟨h1, h2⟩, h3⟩, h4⟩, h5⟩, w h6⟩

theorem Kept.of_up {a b : State} (h : Kept a b) {n : Nat} {ymbxSeq
    : Nat} (w : b.up ≤ n) :
    Kept a ⟨b.pending, ypend, yactv, ylive, yheld, b.fresh, yrdata, ytime, n, yrelAt, ytimers, yslew, yppsGood,
      ysrcLock, yppsOut, yaxes, yplls, ycal, ycapt, ygates, ythreads, yengines, ysigs, b.im, b.dm, yframes, ypinQ,
      ymidQ, youtQ, ytxing, ystage, ymirUse, yrxNum, ytxNum, ysubm, b.cram, ypoison, b.hostMem, b.pwe, yhtx, yhtxc,
      ymbx, ysyncTotal, b.evq, b.evOpen, b.evFifo, b.ueLog, b.refLog, ychans, yhealth, b.healthSeq, yirqSent,
      yirqMode, ymsiLog, yd3hot, ylbusLow, ylbusHold, ylbusLast, b.imgCur, b.imgBack, b.imgLease, ybackBlk, yleaseBlk,
      ycommitReq, yleaseNs, yleaseExp, b.flowMem, yapply, yolds, ysnapDue, ysnapWhn, ysnapClr, ysnapMbx, yshrews,
      b.shrPm, yshrFlags, ygpLvl, ygpOe, yvddio33, yports, yarriving, yring, yringLanes, ycans, ycanLocks, yhwq,
      yowlRep, yowl, yconns, ytws, ytaps, yflashLog, ysupOut, ypwHash, b.trngN, yhlog, ywaitWr, ypfail, yoff,
      yreleased, ymbxSeq, ymsix, ypba, yselRec, yprof, ybundle, ystartQ, yswitch, yimgHash, ysettOut, yfstep,
      ystepMask, yd3pend⟩ :=
  h.trans ⟨rfl, w, Nat.le_refl _, Nat.le_refl _, Nat.le_refl _, id, id⟩

theorem Kept.of_fresh {a b : State} (h : Kept a b) {n : Nat} {ymbxSeq
    : Nat} (w : b.fresh ≤ n) :
    Kept a ⟨b.pending, ypend, yactv, ylive, yheld, n, yrdata, ytime, b.up, yrelAt, ytimers, yslew, yppsGood, ysrcLock,
      yppsOut, yaxes, yplls, ycal, ycapt, ygates, ythreads, yengines, ysigs, b.im, b.dm, yframes, ypinQ, ymidQ, youtQ,
      ytxing, ystage, ymirUse, yrxNum, ytxNum, ysubm, b.cram, ypoison, b.hostMem, b.pwe, yhtx, yhtxc, ymbx,
      ysyncTotal, b.evq, b.evOpen, b.evFifo, b.ueLog, b.refLog, ychans, yhealth, b.healthSeq, yirqSent, yirqMode,
      ymsiLog, yd3hot, ylbusLow, ylbusHold, ylbusLast, b.imgCur, b.imgBack, b.imgLease, ybackBlk, yleaseBlk,
      ycommitReq, yleaseNs, yleaseExp, b.flowMem, yapply, yolds, ysnapDue, ysnapWhn, ysnapClr, ysnapMbx, yshrews,
      b.shrPm, yshrFlags, ygpLvl, ygpOe, yvddio33, yports, yarriving, yring, yringLanes, ycans, ycanLocks, yhwq,
      yowlRep, yowl, yconns, ytws, ytaps, yflashLog, ysupOut, ypwHash, b.trngN, yhlog, ywaitWr, ypfail, yoff,
      yreleased, ymbxSeq, ymsix, ypba, yselRec, yprof, ybundle, ystartQ, yswitch, yimgHash, ysettOut, yfstep,
      ystepMask, yd3pend⟩ :=
  h.trans ⟨rfl, Nat.le_refl _, w, Nat.le_refl _, Nat.le_refl _, id, id⟩

theorem Kept.of_trngN {a b : State} (h : Kept a b) {n : Nat} {ymbxSeq
    : Nat} (w : b.trngN ≤ n) :
    Kept a ⟨b.pending, ypend, yactv, ylive, yheld, b.fresh, yrdata, ytime, b.up, yrelAt, ytimers, yslew, yppsGood,
      ysrcLock, yppsOut, yaxes, yplls, ycal, ycapt, ygates, ythreads, yengines, ysigs, b.im, b.dm, yframes, ypinQ,
      ymidQ, youtQ, ytxing, ystage, ymirUse, yrxNum, ytxNum, ysubm, b.cram, ypoison, b.hostMem, b.pwe, yhtx, yhtxc,
      ymbx, ysyncTotal, b.evq, b.evOpen, b.evFifo, b.ueLog, b.refLog, ychans, yhealth, b.healthSeq, yirqSent,
      yirqMode, ymsiLog, yd3hot, ylbusLow, ylbusHold, ylbusLast, b.imgCur, b.imgBack, b.imgLease, ybackBlk, yleaseBlk,
      ycommitReq, yleaseNs, yleaseExp, b.flowMem, yapply, yolds, ysnapDue, ysnapWhn, ysnapClr, ysnapMbx, yshrews,
      b.shrPm, yshrFlags, ygpLvl, ygpOe, yvddio33, yports, yarriving, yring, yringLanes, ycans, ycanLocks, yhwq,
      yowlRep, yowl, yconns, ytws, ytaps, yflashLog, ysupOut, ypwHash, n, yhlog, ywaitWr, ypfail, yoff, yreleased,
      ymbxSeq, ymsix, ypba, yselRec, yprof, ybundle, ystartQ, yswitch, yimgHash, ysettOut, yfstep, ystepMask, yd3pend⟩ :=
  h.trans ⟨rfl, Nat.le_refl _, Nat.le_refl _, w, Nat.le_refl _, id, id⟩

theorem Kept.of_healthSeq {a b : State} (h : Kept a b) {n : Nat} {ymbxSeq
    : Nat} (w : b.healthSeq ≤ n) :
    Kept a ⟨b.pending, ypend, yactv, ylive, yheld, b.fresh, yrdata, ytime, b.up, yrelAt, ytimers, yslew, yppsGood,
      ysrcLock, yppsOut, yaxes, yplls, ycal, ycapt, ygates, ythreads, yengines, ysigs, b.im, b.dm, yframes, ypinQ,
      ymidQ, youtQ, ytxing, ystage, ymirUse, yrxNum, ytxNum, ysubm, b.cram, ypoison, b.hostMem, b.pwe, yhtx, yhtxc,
      ymbx, ysyncTotal, b.evq, b.evOpen, b.evFifo, b.ueLog, b.refLog, ychans, yhealth, n, yirqSent, yirqMode, ymsiLog,
      yd3hot, ylbusLow, ylbusHold, ylbusLast, b.imgCur, b.imgBack, b.imgLease, ybackBlk, yleaseBlk, ycommitReq,
      yleaseNs, yleaseExp, b.flowMem, yapply, yolds, ysnapDue, ysnapWhn, ysnapClr, ysnapMbx, yshrews, b.shrPm,
      yshrFlags, ygpLvl, ygpOe, yvddio33, yports, yarriving, yring, yringLanes, ycans, ycanLocks, yhwq, yowlRep, yowl,
      yconns, ytws, ytaps, yflashLog, ysupOut, ypwHash, b.trngN, yhlog, ywaitWr, ypfail, yoff, yreleased, ymbxSeq,
      ymsix, ypba, yselRec, yprof, ybundle, ystartQ, yswitch, yimgHash, ysettOut, yfstep, ystepMask, yd3pend⟩ :=
  h.trans ⟨rfl, Nat.le_refl _, Nat.le_refl _, Nat.le_refl _, w, id, id⟩

/-- Writes keep the form of a memory that reads zero where nothing is listed. -/
theorem wf0_set {w : Nat} {m : SMap (BitVec w)} {x : Nat} {v : BitVec w} (h : SMap.wf (fun _ v => v == 0) m = true) :
    SMap.wf (fun _ v => v == 0) (SMap.set 0 m x v) = true :=
  SMap.wf_set _ 0 m x v (fun hv => beq_eq_false_iff_ne.mpr hv) h
theorem wf0_fill {w : Nat} {m : SMap (BitVec w)} {x : Nat} {l : List (BitVec w)} (h : SMap.wf (fun _ v => v == 0) m = true) :
    SMap.wf (fun _ v => v == 0) (SMap.fill 0 m x l) = true :=
  SMap.wf_fill _ 0 l m x (fun _ _ hv => beq_eq_false_iff_ne.mpr hv) h
theorem wf0_filter {w : Nat} {m : SMap (BitVec w)} {p : Nat × BitVec w → Bool} (h : SMap.wf (fun _ v => v == 0) m = true) :
    SMap.wf (fun _ v => v == 0) (m.filter p) = true := SMap.wf_filter _ p m h
theorem wf0_keep {w : Nat} {m : SMap (BitVec w)} {p : Nat → Bool} (h : SMap.wf (fun _ v => v == 0) m = true) :
    SMap.wf (fun _ v => v == 0) (SMap.keep p m) = true := SMap.wf_keep _ p m h

/-- The outcome of a command: a next state that comes after `a`. -/
def KeptO (a : State) (o : Out) : Prop := ∃ t, o = .next t ∧ Kept a t
theorem KeptO.next {a t : State} (h : Kept a t) : KeptO a (.next t) := ⟨t, rfl, h⟩

/-- What a Fox operation does to the state comes after `a` when the state it starts from does. -/
def KeptR (a : State) : FRes → Prop
  | .trap _ => True
  | .go f => ∀ s, Kept a s → Kept a (f s)
theorem KeptR.of_trap {a : State} {c : Nat} : KeptR a (.trap c) := trivial
theorem KeptR.of_go {a : State} {f : State → State} (h : ∀ s, Kept a s → Kept a (f s)) : KeptR a (.go f) := h

/-- A state that may be missing. -/
def KeptOpt (a : State) : Option State → Prop
  | none => True
  | some t => Kept a t
theorem KeptOpt.of_none {a : State} : KeptOpt a none := trivial
theorem KeptOpt.of_some {a t : State} (h : Kept a t) : KeptOpt a (some t) := h

theorem Kept.ite {a x y : State} {c : Prop} [Decidable c] (h : Kept a x) (g : Kept a y) : Kept a (if c then x else y) := by
  split <;> assumption
theorem KeptR.ite {a : State} {x y : FRes} {c : Prop} [Decidable c] (h : KeptR a x) (g : KeptR a y) :
    KeptR a (if c then x else y) := by
  split <;> assumption

theorem KeptOpt.ite {a : State} {x y : Option State} {c : Prop} [Decidable c] (h : KeptOpt a x) (g : KeptOpt a y) :
    KeptOpt a (if c then x else y) := by
  split <;> assumption

theorem kept_id {a s : State} (h : Kept a s) : Kept a (id s) := h

theorem kept_each {α : Type} {a s : State} {l : List α} {g : State → α → State} (h : Kept a s)
    (hg : ∀ t x, Kept a t → Kept a (g t x)) : Kept a (s.each l g) := by
  unfold State.each
  induction l generalizing s with
  | nil => exact h
  | cons x r ih => exact ih (hg s x h)
theorem kept_foldl {α : Type} {a s : State} {l : List α} {g : State → α → State} (h : Kept a s)
    (hg : ∀ t x, Kept a t → Kept a (g t x)) : Kept a (l.foldl g s) := kept_each h hg

end Sys2Proof.Machine
end

