-- ==== Sys2Proof/Laws/KeptOps.lean ====
section
/-!
SUPPORT. What the operations of Machine/Ops.lean keep.
-/
namespace Sys2Proof.Machine

theorem kept_asOf {a : State} {s : State} {e : Nat} (h : Kept a s) :
    Kept a (State.asOf s e) := by
  unfold State.asOf
  iterate 40 all_goals first | (with_reducible assumption) | intro _ | (with_reducible apply Kept.ite) | dsimp only | split | (with_reducible apply Kept.other) | skip

theorem kept_put {a : State} {s : State} {f : Field} {i : Nat} {v : Nat} (h : Kept a s) :
    Kept a (State.put s f i v) := by
  unfold State.put
  iterate 40 all_goals first | (with_reducible assumption) | intro _ | (with_reducible apply Kept.ite) | dsimp only | split | (with_reducible apply Kept.other) | skip

theorem kept_putAct {a : State} {s : State} {f : Field} {i : Nat} {v : Nat} (h : Kept a s) :
    Kept a (State.putAct s f i v) := by
  unfold State.putAct
  iterate 40 all_goals first | (with_reducible assumption) | intro _ | (with_reducible apply Kept.ite) | dsimp only | split | (with_reducible apply Kept.other) | skip

theorem kept_inc {a : State} {s : State} {f : Field} {i : Nat} {n : Nat} (h : Kept a s) :
    Kept a (State.inc s f i n) := by
  unfold State.inc
  iterate 40 all_goals first | (with_reducible assumption) | (with_reducible apply kept_put) | intro _ | (with_reducible apply Kept.ite) | dsimp only | split | (with_reducible apply Kept.other) | skip

theorem kept_incWrap {a : State} {s : State} {f : Field} {i : Nat} {n : Nat} (h : Kept a s) :
    Kept a (State.incWrap s f i n) := by
  unfold State.incWrap
  iterate 40 all_goals first | (with_reducible assumption) | (with_reducible apply kept_put) | intro _ | (with_reducible apply Kept.ite) | dsimp only | split | (with_reducible apply Kept.other) | skip

theorem kept_taken {a : State} {s : State} {f : Field} {i : Nat} (h : Kept a s) :
    Kept a (State.taken s f i) := by
  unfold State.taken
  iterate 40 all_goals first | (with_reducible assumption) | (with_reducible apply kept_put) | intro _ | (with_reducible apply Kept.ite) | dsimp only | split | (with_reducible apply Kept.other) | skip

theorem kept_when {a : State} {s : State} {b : Bool} {g : State → State} (h : Kept a s) (hg : ∀ t, Kept a t → Kept a (g t)) :
    Kept a (State.when s b g) := by
  unfold State.when
  iterate 40 all_goals first | (with_reducible assumption) | (with_reducible apply hg) | intro _ | (with_reducible apply Kept.ite) | dsimp only | split | (with_reducible apply Kept.other) | skip

theorem kept_tookFree {a : State} {s : State} (h : Kept a s) :
    Kept a (State.tookFree s) := by
  exact Kept.of_fresh h (Nat.le_succ _)

theorem kept_tmStart {a : State} {s : State} {k : Nat} (h : Kept a s) :
    Kept a (State.tmStart s k) := by
  unfold State.tmStart
  iterate 40 all_goals first | (with_reducible assumption) | intro _ | (with_reducible apply Kept.ite) | dsimp only | split | (with_reducible apply Kept.other) | skip

theorem kept_tmStop {a : State} {s : State} {k : Nat} (h : Kept a s) :
    Kept a (State.tmStop s k) := by
  unfold State.tmStop
  iterate 40 all_goals first | (with_reducible assumption) | intro _ | (with_reducible apply Kept.ite) | dsimp only | split | (with_reducible apply Kept.other) | skip

theorem kept_setTh {a : State} {s : State} {k : Nat} {t : Thread} (h : Kept a s) :
    Kept a (State.setTh s k t) := by
  unfold State.setTh
  iterate 40 all_goals first | (with_reducible assumption) | intro _ | (with_reducible apply Kept.ite) | dsimp only | split | (with_reducible apply Kept.other) | skip

theorem kept_updTh {a : State} {s : State} {k : Nat} {g : Thread → Thread} (h : Kept a s) :
    Kept a (State.updTh s k g) := by
  unfold State.updTh
  iterate 40 all_goals first | (with_reducible assumption) | (with_reducible apply kept_setTh) | intro _ | (with_reducible apply Kept.ite) | dsimp only | split | (with_reducible apply Kept.other) | skip

theorem kept_setEng {a : State} {s : State} {e : Nat} {x : Engine} (h : Kept a s) :
    Kept a (State.setEng s e x) := by
  unfold State.setEng
  iterate 40 all_goals first | (with_reducible assumption) | intro _ | (with_reducible apply Kept.ite) | dsimp only | split | (with_reducible apply Kept.other) | skip

theorem kept_setFrame {a : State} {s : State} {h1 : Nat} {x : Frame} (h : Kept a s) :
    Kept a (State.setFrame s h1 x) := by
  unfold State.setFrame
  iterate 40 all_goals first | (with_reducible assumption) | intro _ | (with_reducible apply Kept.ite) | dsimp only | split | (with_reducible apply Kept.other) | skip

theorem kept_setCal {a : State} {s : State} {e : Nat} {x : CalEnt} (h : Kept a s) :
    Kept a (State.setCal s e x) := by
  unfold State.setCal
  iterate 40 all_goals first | (with_reducible assumption) | intro _ | (with_reducible apply Kept.ite) | dsimp only | split | (with_reducible apply Kept.other) | skip

theorem kept_setAxis {a : State} {s : State} {k : Nat} {x : Axis} (h : Kept a s) :
    Kept a (State.setAxis s k x) := by
  unfold State.setAxis
  iterate 40 all_goals first | (with_reducible assumption) | intro _ | (with_reducible apply Kept.ite) | dsimp only | split | (with_reducible apply Kept.other) | skip

theorem kept_setMb {a : State} {s : State} {n : Nat} {x : Mbx} (h : Kept a s) :
    Kept a (State.setMb s n x) := by
  unfold State.setMb
  iterate 40 all_goals first | (with_reducible assumption) | intro _ | (with_reducible apply Kept.ite) | dsimp only | split | (with_reducible apply Kept.other) | skip

theorem kept_setChan {a : State} {s : State} {k : Nat} {x : Chan} (h : Kept a s) :
    Kept a (State.setChan s k x) := by
  unfold State.setChan
  iterate 40 all_goals first | (with_reducible assumption) | intro _ | (with_reducible apply Kept.ite) | dsimp only | split | (with_reducible apply Kept.other) | skip

theorem kept_setMark {a : State} {s : State} {target : Nat} {unit : Nat} {word : Nat} {b : Bool} (h : Kept a s) :
    Kept a (State.setMark s target unit word b) := by
  unfold State.setMark
  iterate 40 all_goals first | (with_reducible assumption) | intro _ | (with_reducible apply Kept.ite) | dsimp only | split | (with_reducible apply Kept.other) | skip

theorem kept_putCram {a : State} {s : State} {a1 : Nat} {l : List Byte} (h : Kept a s) :
    Kept a (State.putCram s a1 l) := by
  exact Kept.of_cram h wf0_fill

theorem kept_putHost {a : State} {s : State} {a1 : Nat} {l : List Byte} (h : Kept a s) :
    Kept a (State.putHost s a1 l) := by
  exact Kept.of_hostMem h wf0_fill

theorem kept_sendIrq {a : State} {s : State} {b : Nat} (h : Kept a s) :
    Kept a (State.sendIrq s b) := by
  unfold State.sendIrq
  iterate 40 all_goals first | (with_reducible assumption) | intro _ | (with_reducible apply Kept.ite) | dsimp only | split | (with_reducible apply Kept.other) | skip

theorem kept_msixWr {a : State} {s : State} {i : Nat} {v : Nat} (h : Kept a s) :
    Kept a (State.msixWr s i v) := by
  unfold State.msixWr
  iterate 40 all_goals first | (with_reducible assumption) | (with_reducible apply kept_sendIrq) | intro _ | (with_reducible apply Kept.ite) | dsimp only | split | (with_reducible apply Kept.other) | skip

theorem kept_irqEdge {a : State} {s : State} {old : Nat} (h : Kept a s) :
    Kept a (State.irqEdge s old) := by
  unfold State.irqEdge
  iterate 40 all_goals first | (with_reducible assumption) | (with_reducible apply kept_each) | (with_reducible apply kept_sendIrq) | intro _ | (with_reducible apply Kept.ite) | dsimp only | split | (with_reducible apply Kept.other) | skip

theorem kept_doorbell {a : State} {s : State} {b : Nat} (h : Kept a s) :
    Kept a (State.doorbell s b) := by
  unfold State.doorbell
  iterate 40 all_goals first | (with_reducible assumption) | (with_reducible apply kept_irqEdge) | (with_reducible apply kept_put) | intro _ | (with_reducible apply Kept.ite) | dsimp only | split | (with_reducible apply Kept.other) | skip

theorem kept_logPweTag {a : State} {s : State} {r : PweRec} (h : Kept a s) :
    Kept a (State.logPweTag s r) := by
  unfold State.logPweTag
  dsimp only
  split
  · rename_i hl
    refine kept_doorbell (Kept.of_pwe (kept_incWrap h) (fun _ => ?_))
    simp only [List.length_append, List.length_singleton]; omega
  · exact kept_inc (kept_incWrap h)

theorem kept_logPwe {a : State} {s : State} {cause : Nat} {target : Nat} {space : Nat} {width : Nat} (h : Kept a s) :
    Kept a (State.logPwe s cause target space width) := by
  unfold State.logPwe
  iterate 40 all_goals first | (with_reducible assumption) | (with_reducible apply kept_logPweTag) | intro _ | (with_reducible apply Kept.ite) | dsimp only | split | (with_reducible apply Kept.other) | skip

theorem kept_raise {a : State} {s : State} {cause : Nat} {subj : Nat} {partner : Nat} {detail : Nat} (h : Kept a s) :
    Kept a (State.raise s cause subj partner detail) := by
  unfold State.raise
  split
  · refine kept_inc (Kept.of_evq h (fun _ => ?_))
    simp only [List.length_append, List.length_singleton]; omega
  · exact kept_inc h

theorem kept_hostWr {a : State} {s : State} {on : Bool} {off : Nat} {g : State → State} (h : Kept a s) (hg : ∀ t, Kept a t → Kept a (g t)) :
    Kept a (State.hostWr s on off g) := by
  unfold State.hostWr
  iterate 40 all_goals first | (with_reducible assumption) | (with_reducible apply hg) | (with_reducible apply kept_logPwe) | intro _ | (with_reducible apply Kept.ite) | dsimp only | split | (with_reducible apply Kept.other) | skip

theorem kept_logRefuse {a : State} {s : State} {wr : Bool} {req : Nat} {addr : Nat} (h : Kept a s) :
    Kept a (State.logRefuse s wr req addr) := by
  unfold State.logRefuse
  dsimp only
  split
  · refine Kept.of_refLog (kept_inc h) (fun _ => ?_)
    simp only [List.length_append, List.length_singleton]; omega
  · exact kept_inc h

theorem kept_setRetired {a : State} {s : State} {kind : Nat} {n : Nat} {b : Bool} (h : Kept a s) :
    Kept a (State.setRetired s kind n b) := by
  unfold State.setRetired
  iterate 40 all_goals first | (with_reducible assumption) | (with_reducible apply kept_put) | intro _ | (with_reducible apply Kept.ite) | dsimp only | split | (with_reducible apply Kept.other) | skip

theorem kept_addHealth {a : State} {s : State} {kind : Nat} {ck : Nat} {n : Nat} {cause : Nat} {count : Nat} {detail : Nat} (h : Kept a s) :
    Kept a (State.addHealth s kind ck n cause count detail) := by
  unfold State.addHealth
  iterate 40 all_goals first | (with_reducible assumption) | intro _ | (with_reducible apply Kept.ite) | dsimp only | split | (with_reducible apply Kept.other) | skip

theorem kept_permanent {a : State} {s : State} {kind : Nat} {n : Nat} {cause : Nat} {detail : Nat} (h : Kept a s) :
    Kept a (State.permanent s kind n cause detail) := by
  unfold State.permanent
  iterate 40 all_goals first | (with_reducible assumption) | (with_reducible apply kept_put) | (with_reducible apply kept_raise) | (with_reducible apply kept_setChan) | (with_reducible apply kept_addHealth) | intro _ | (with_reducible apply Kept.ite) | dsimp only | split | (with_reducible apply Kept.other) | skip

theorem kept_chFault {a : State} {s : State} {kind : Nat} {n : Nat} (h : Kept a s) :
    Kept a (State.chFault s kind n) := by
  unfold State.chFault
  iterate 40 all_goals first | (with_reducible assumption) | (with_reducible apply kept_raise) | (with_reducible apply kept_inc) | (with_reducible apply kept_setChan) | (with_reducible apply kept_permanent) | intro _ | (with_reducible apply Kept.ite) | dsimp only | split | (with_reducible apply Kept.other) | skip

theorem kept_hard {a : State} {s : State} {kind : Nat} {n : Nat} {cause : Nat} {detail : Nat} (h : Kept a s) :
    Kept a (State.hard s kind n cause detail) := by
  unfold State.hard
  iterate 40 all_goals first | (with_reducible assumption) | (with_reducible apply kept_permanent) | intro _ | (with_reducible apply Kept.ite) | dsimp only | split | (with_reducible apply Kept.other) | skip

theorem kept_memUe {a : State} {s : State} {target : Nat} {unit : Nat} {word : Nat} {ch : Option (Nat × Nat)} (h : Kept a s) :
    Kept a (State.memUe s target unit word ch) := by
  unfold State.memUe
  have h1 : Kept a (s.inc F.memCUeTotal) := kept_inc h
  have h2 : Kept a (if (s.inc F.memCUeTotal).ueLog.length < 16 then
      { s.inc F.memCUeTotal with ueLog := (s.inc F.memCUeTotal).ueLog ++ [({ target := target, unit := unit, word := word } : UeRec)] }
      else s.inc F.memCUeTotal) := by
    split
    · refine Kept.of_ueLog h1 (fun _ => ?_)
      simp only [List.length_append, List.length_singleton]; omega
    · exact h1
  have h3 := kept_raise (cause := 0x44) (subj := target * 64 + unit) (partner := 0) (detail := 0) h2
  cases ch with
  | none => exact h3
  | some p =>
    obtain ⟨kind, n⟩ := p
    have h4 := kept_chFault (kind := kind) (n := n) h3
    exact Kept.ite (kept_hard h4) (kept_setChan h4)

theorem kept_setEvp {a : State} {s : State} {k : Nat} {b : Nat} (h : Kept a s) :
    Kept a (State.setEvp s k b) := by
  unfold State.setEvp
  iterate 40 all_goals first | (with_reducible assumption) | (with_reducible apply kept_updTh) | intro _ | (with_reducible apply Kept.ite) | dsimp only | split | (with_reducible apply Kept.other) | skip

theorem kept_wakeOvr {a : State} {s : State} {k : Nat} (h : Kept a s) :
    Kept a (State.wakeOvr s k) := by
  unfold State.wakeOvr
  iterate 40 all_goals first | (with_reducible assumption) | (with_reducible apply kept_raise) | (with_reducible apply kept_inc) | intro _ | (with_reducible apply Kept.ite) | dsimp only | split | (with_reducible apply Kept.other) | skip

theorem kept_wakeNow {a : State} {s : State} {k : Nat} (h : Kept a s) :
    Kept a (State.wakeNow s k) := by
  unfold State.wakeNow
  iterate 40 all_goals first | (with_reducible assumption) | (with_reducible apply kept_wakeOvr) | (with_reducible apply kept_setEvp) | intro _ | (with_reducible apply Kept.ite) | dsimp only | split | (with_reducible apply Kept.other) | skip

theorem kept_signalNow {a : State} {s : State} {k : Nat} {g : Nat} (h : Kept a s) :
    Kept a (State.signalNow s k g) := by
  unfold State.signalNow
  iterate 40 all_goals first | (with_reducible assumption) | (with_reducible apply kept_inc) | (with_reducible apply kept_setEvp) | intro _ | (with_reducible apply Kept.ite) | dsimp only | split | (with_reducible apply Kept.other) | skip

theorem kept_holdEv {a : State} {s : State} {k : Nat} {g : Option Nat} (h : Kept a s) :
    Kept a (State.holdEv s k g) := by
  unfold State.holdEv
  iterate 40 all_goals first | (with_reducible assumption) | (with_reducible apply kept_setEng) | intro _ | (with_reducible apply Kept.ite) | dsimp only | split | (with_reducible apply Kept.other) | skip

theorem kept_wake {a : State} {s : State} {k : Nat} (h : Kept a s) :
    Kept a (State.wake s k) := by
  unfold State.wake
  iterate 40 all_goals first | (with_reducible assumption) | (with_reducible apply kept_holdEv) | (with_reducible apply kept_wakeNow) | intro _ | (with_reducible apply Kept.ite) | dsimp only | split | (with_reducible apply Kept.other) | skip

theorem kept_signal {a : State} {s : State} {k : Nat} {g : Nat} (h : Kept a s) :
    Kept a (State.signal s k g) := by
  unfold State.signal
  iterate 40 all_goals first | (with_reducible assumption) | (with_reducible apply kept_holdEv) | (with_reducible apply kept_signalNow) | intro _ | (with_reducible apply Kept.ite) | dsimp only | split | (with_reducible apply Kept.other) | skip

theorem kept_deliverHeld {a : State} {s : State} {le : Nat} (h : Kept a s) :
    Kept a (State.deliverHeld s le) := by
  unfold State.deliverHeld
  iterate 40 all_goals first | (with_reducible assumption) | (with_reducible apply kept_each) | (with_reducible apply kept_setEng) | (with_reducible apply kept_wakeNow) | (with_reducible apply kept_signalNow) | intro _ | (with_reducible apply Kept.ite) | dsimp only | split | (with_reducible apply Kept.other) | skip

end Sys2Proof.Machine
end

