-- ==== Sys2Proof/Laws/KeptTime.lean ====
section
/-!
SUPPORT. What the operations of Machine/Time.lean keep.
-/
namespace Sys2Proof.Machine

theorem kept_lateSince {a : State} {s : State} {old : State} {k : Nat} (h : Kept a s) :
    Kept a (State.lateSince s old k) := by
  unfold State.lateSince
  iterate 40 all_goals first | (with_reducible assumption) | (with_reducible apply kept_each) | (with_reducible apply kept_setCal) | intro _ | (with_reducible apply Kept.ite) | dsimp only | split | (with_reducible apply Kept.other) | skip

theorem kept_jumped {a : State} {s : State} {old : State} {k : Nat} {dec : Bool} (h : Kept a s) :
    Kept a (State.jumped s old k dec) := by
  unfold State.jumped
  iterate 40 all_goals first | (with_reducible assumption) | (with_reducible apply kept_lateSince) | (with_reducible apply kept_put) | intro _ | (with_reducible apply Kept.ite) | dsimp only | split | (with_reducible apply Kept.other) | skip

theorem kept_count {a : State} {s : State} {k : Nat} {n : Int} (h : Kept a s) :
    Kept a (State.count s k n) := by
  unfold State.count
  iterate 40 all_goals first | (with_reducible assumption) | (with_reducible apply kept_put) | (with_reducible apply kept_setAxis) | intro _ | (with_reducible apply Kept.ite) | dsimp only | split | (with_reducible apply Kept.other) | skip

theorem kept_setTime {a : State} {s : State} {t : DevTime} {dec : State → State → Nat → Bool} (h : Kept a s) :
    Kept a (State.setTime s t dec) := by
  unfold State.setTime
  iterate 40 all_goals first | (with_reducible assumption) | (with_reducible apply kept_each) | (with_reducible apply kept_jumped) | intro _ | (with_reducible apply Kept.ite) | dsimp only | split | (with_reducible apply Kept.other) | skip

theorem kept_steer {a : State} {s : State} {g : State → State} (h : Kept a s) (hg : ∀ t, Kept a t → Kept a (g t)) :
    Kept a (State.steer s g) := by
  unfold State.steer
  iterate 40 all_goals first | (with_reducible assumption) | (with_reducible apply hg) | (with_reducible apply kept_put) | intro _ | (with_reducible apply Kept.ite) | dsimp only | split | (with_reducible apply Kept.other) | skip

theorem kept_latch {a : State} {s : State} (h : Kept a s) :
    Kept a (State.latch s) := by
  unfold State.latch
  iterate 40 all_goals first | (with_reducible assumption) | (with_reducible apply kept_put) | (with_reducible apply kept_each) | intro _ | (with_reducible apply Kept.ite) | dsimp only | split | (with_reducible apply Kept.other) | skip

theorem kept_timeStep {a : State} {s : State} {v : Nat} (h : Kept a s) :
    Kept a (State.timeStep s v) := by
  unfold State.timeStep
  iterate 40 all_goals first | (with_reducible assumption) | (with_reducible apply kept_steer) | (with_reducible apply kept_setTime) | intro _ | (with_reducible apply Kept.ite) | dsimp only | split | (with_reducible apply Kept.other) | skip

theorem kept_timeSet {a : State} {s : State} {v : Nat} (h : Kept a s) :
    Kept a (State.timeSet s v) := by
  unfold State.timeSet
  iterate 40 all_goals first | (with_reducible assumption) | (with_reducible apply kept_steer) | (with_reducible apply kept_put) | (with_reducible apply kept_setTime) | intro _ | (with_reducible apply Kept.ite) | dsimp only | split | (with_reducible apply Kept.other) | skip

theorem kept_timeSlew {a : State} {s : State} {v : Nat} (h : Kept a s) :
    Kept a (State.timeSlew s v) := by
  unfold State.timeSlew
  iterate 40 all_goals first | (with_reducible assumption) | (with_reducible apply kept_steer) | intro _ | (with_reducible apply Kept.ite) | dsimp only | split | (with_reducible apply Kept.other) | skip

theorem kept_timeRate {a : State} {s : State} {v : Nat} (h : Kept a s) :
    Kept a (State.timeRate s v) := by
  unfold State.timeRate
  iterate 40 all_goals first | (with_reducible assumption) | (with_reducible apply kept_steer) | (with_reducible apply kept_put) | intro _ | (with_reducible apply Kept.ite) | dsimp only | split | (with_reducible apply Kept.other) | skip

theorem kept_execLatch {a : State} {s : State} (h : Kept a s) :
    KeptO a (execLatch s) := by
  unfold execLatch
  iterate 40 all_goals first | (with_reducible assumption) | (with_reducible apply KeptO.next) | (with_reducible apply kept_hostWr) | (with_reducible apply kept_latch) | intro _ | (with_reducible apply Kept.ite) | dsimp only | split | (with_reducible apply Kept.other) | skip

theorem kept_execTimeStep {a : State} {v : W32} {s : State} (h : Kept a s) :
    KeptO a (execTimeStep v s) := by
  unfold execTimeStep
  iterate 40 all_goals first | (with_reducible assumption) | (with_reducible apply KeptO.next) | (with_reducible apply kept_hostWr) | (with_reducible apply kept_timeStep) | intro _ | (with_reducible apply Kept.ite) | dsimp only | split | (with_reducible apply Kept.other) | skip

theorem kept_execTimeSet {a : State} {v : W32} {s : State} (h : Kept a s) :
    KeptO a (execTimeSet v s) := by
  unfold execTimeSet
  iterate 40 all_goals first | (with_reducible assumption) | (with_reducible apply KeptO.next) | (with_reducible apply kept_hostWr) | (with_reducible apply kept_timeSet) | intro _ | (with_reducible apply Kept.ite) | dsimp only | split | (with_reducible apply Kept.other) | skip

theorem kept_execTimeSlew {a : State} {v : W32} {s : State} (h : Kept a s) :
    KeptO a (execTimeSlew v s) := by
  unfold execTimeSlew
  iterate 40 all_goals first | (with_reducible assumption) | (with_reducible apply KeptO.next) | (with_reducible apply kept_hostWr) | (with_reducible apply kept_timeSlew) | intro _ | (with_reducible apply Kept.ite) | dsimp only | split | (with_reducible apply Kept.other) | skip

theorem kept_execSlewDone {a : State} {s : State} (h : Kept a s) :
    KeptO a (execSlewDone s) := by
  unfold execSlewDone
  iterate 40 all_goals first | (with_reducible assumption) | (with_reducible apply KeptO.next) | (with_reducible apply kept_each) | (with_reducible apply kept_put) | intro _ | (with_reducible apply Kept.ite) | dsimp only | split | (with_reducible apply Kept.other) | skip

theorem kept_steerRate {a : State} {s : State} {v : Nat} (h : Kept a s) :
    Kept a (State.steerRate s v) := by
  unfold State.steerRate
  iterate 40 all_goals first | (with_reducible assumption) | (with_reducible apply kept_put) | intro _ | (with_reducible apply Kept.ite) | dsimp only | split | (with_reducible apply Kept.other) | skip

theorem kept_srcLocked {a : State} {s : State} (h : Kept a s) :
    Kept a (State.srcLocked s) := by
  unfold State.srcLocked
  iterate 40 all_goals first | (with_reducible assumption) | (with_reducible apply kept_put) | intro _ | (with_reducible apply Kept.ite) | dsimp only | split | (with_reducible apply Kept.other) | skip

theorem kept_srcLost {a : State} {s : State} (h : Kept a s) :
    Kept a (State.srcLost s) := by
  unfold State.srcLost
  iterate 40 all_goals first | (with_reducible assumption) | (with_reducible apply kept_put) | intro _ | (with_reducible apply Kept.ite) | dsimp only | split | (with_reducible apply Kept.other) | skip

theorem kept_execPpsInEdge {a : State} {fall : Bool} {sub : Fin 8} {s : State} (h : Kept a s) :
    KeptO a (execPpsInEdge fall sub s) := by
  unfold execPpsInEdge
  iterate 40 all_goals first | (with_reducible assumption) | (with_reducible apply KeptO.next) | (with_reducible apply kept_steerRate) | (with_reducible apply kept_put) | (with_reducible apply kept_tmStart) | (with_reducible apply kept_srcLocked) | intro _ | (with_reducible apply Kept.ite) | dsimp only | split | (with_reducible apply Kept.other) | skip

theorem kept_execPpsHoldover {a : State} {s : State} (h : Kept a s) :
    KeptO a (execPpsHoldover s) := by
  unfold execPpsHoldover
  iterate 40 all_goals first | (with_reducible assumption) | (with_reducible apply KeptO.next) | (with_reducible apply kept_srcLost) | intro _ | (with_reducible apply Kept.ite) | dsimp only | split | (with_reducible apply Kept.other) | skip

theorem kept_execPpsOutStart {a : State} {s : State} (h : Kept a s) :
    KeptO a (execPpsOutStart s) := by
  unfold execPpsOutStart
  iterate 40 all_goals first | (with_reducible assumption) | (with_reducible apply KeptO.next) | (with_reducible apply kept_tmStart) | intro _ | (with_reducible apply Kept.ite) | dsimp only | split | (with_reducible apply Kept.other) | skip

theorem kept_execPpsOutEnd {a : State} {s : State} (h : Kept a s) :
    KeptO a (execPpsOutEnd s) := by
  unfold execPpsOutEnd
  iterate 40 all_goals first | (with_reducible assumption) | (with_reducible apply KeptO.next) | (with_reducible apply kept_tmStop) | intro _ | (with_reducible apply Kept.ite) | dsimp only | split | (with_reducible apply Kept.other) | skip

theorem kept_execCaptEdge {a : State} {n : Fin 8} {e : PinEdge} {s : State} (h : Kept a s) :
    KeptO a (execCaptEdge n e s) := by
  unfold execCaptEdge
  iterate 40 all_goals first | (with_reducible assumption) | (with_reducible apply KeptO.next) | (with_reducible apply kept_put) | (with_reducible apply kept_each) | (with_reducible apply kept_count) | intro _ | (with_reducible apply Kept.ite) | dsimp only | split | (with_reducible apply Kept.other) | skip

theorem kept_captPop {a : State} {s : State} {n : Nat} (h : Kept a s) :
    Kept a (State.captPop s n) := by
  unfold State.captPop
  iterate 40 all_goals first | (with_reducible assumption) | (with_reducible apply kept_put) | intro _ | (with_reducible apply Kept.ite) | dsimp only | split | (with_reducible apply Kept.other) | skip

theorem kept_execCaptPop {a : State} {n : Fin 8} {s : State} (h : Kept a s) :
    KeptO a (execCaptPop n s) := by
  unfold execCaptPop
  iterate 40 all_goals first | (with_reducible assumption) | (with_reducible apply KeptO.next) | (with_reducible apply kept_captPop) | intro _ | (with_reducible apply Kept.ite) | dsimp only | split | (with_reducible apply Kept.other) | skip

theorem kept_softSet {a : State} {s : State} {k : Nat} {v : Nat} (h : Kept a s) :
    Kept a (State.softSet s k v) := by
  unfold State.softSet
  iterate 40 all_goals first | (with_reducible assumption) | (with_reducible apply kept_put) | (with_reducible apply kept_jumped) | (with_reducible apply kept_setAxis) | intro _ | (with_reducible apply Kept.ite) | dsimp only | split | (with_reducible apply Kept.other) | skip

theorem kept_execAxisSoftSet {a : State} {k : Fin 4} {v : W32} {s : State} (h : Kept a s) :
    KeptO a (execAxisSoftSet k v s) := by
  unfold execAxisSoftSet
  iterate 40 all_goals first | (with_reducible assumption) | (with_reducible apply KeptO.next) | (with_reducible apply kept_hostWr) | (with_reducible apply kept_softSet) | intro _ | (with_reducible apply Kept.ite) | dsimp only | split | (with_reducible apply Kept.other) | skip

theorem kept_setPll {a : State} {s : State} {m : Nat} {x : Pll} (h : Kept a s) :
    Kept a (State.setPll s m x) := by
  unfold State.setPll
  iterate 40 all_goals first | (with_reducible assumption) | intro _ | (with_reducible apply Kept.ite) | dsimp only | split | (with_reducible apply Kept.other) | skip

theorem kept_execMainsCrossing {a : State} {m : Fin 2} {ns : Fin 4} {half : Bool} {s : State} (h : Kept a s) :
    KeptO a (execMainsCrossing m ns half s) := by
  unfold execMainsCrossing
  iterate 40 all_goals first | (with_reducible assumption) | (with_reducible apply KeptO.next) | (with_reducible apply kept_put) | (with_reducible apply kept_tmStart) | (with_reducible apply kept_setPll) | (with_reducible apply kept_each) | (with_reducible apply kept_lateSince) | intro _ | (with_reducible apply Kept.ite) | dsimp only | split | (with_reducible apply Kept.other) | skip

theorem kept_execMainsHoldover {a : State} {m : Fin 2} {s : State} (h : Kept a s) :
    KeptO a (execMainsHoldover m s) := by
  unfold execMainsHoldover
  iterate 40 all_goals first | (with_reducible assumption) | (with_reducible apply KeptO.next) | (with_reducible apply kept_setPll) | (with_reducible apply kept_put) | (with_reducible apply kept_tmStart) | intro _ | (with_reducible apply Kept.ite) | dsimp only | split | (with_reducible apply Kept.other) | skip

theorem kept_execMainsStop {a : State} {m : Fin 2} {s : State} (h : Kept a s) :
    KeptO a (execMainsStop m s) := by
  unfold execMainsStop
  iterate 40 all_goals first | (with_reducible assumption) | (with_reducible apply KeptO.next) | (with_reducible apply kept_put) | intro _ | (with_reducible apply Kept.ite) | dsimp only | split | (with_reducible apply Kept.other) | skip

theorem kept_runSet {a : State} {s : State} {v : Bool} (h : Kept a s) :
    Kept a (State.runSet s v) := by
  unfold State.runSet
  iterate 40 all_goals first | (with_reducible assumption) | (with_reducible apply kept_put) | (with_reducible apply kept_each) | (with_reducible apply kept_setCal) | intro _ | (with_reducible apply Kept.ite) | dsimp only | split | (with_reducible apply Kept.other) | skip

theorem kept_execPhsRunSet {a : State} {v : Bool} {s : State} (h : Kept a s) :
    KeptO a (execPhsRunSet v s) := by
  unfold execPhsRunSet
  iterate 40 all_goals first | (with_reducible assumption) | (with_reducible apply KeptO.next) | (with_reducible apply kept_hostWr) | (with_reducible apply kept_runSet) | intro _ | (with_reducible apply Kept.ite) | dsimp only | split | (with_reducible apply Kept.other) | skip

theorem kept_qwStart {a : State} {s : State} {mask : Nat} (h : Kept a s) :
    Kept a (State.qwStart s mask) := by
  unfold State.qwStart
  iterate 40 all_goals first | (with_reducible assumption) | (with_reducible apply kept_put) | (with_reducible apply kept_each) | (with_reducible apply kept_tmStart) | (with_reducible apply kept_foldl) | intro _ | (with_reducible apply Kept.ite) | dsimp only | split | (with_reducible apply Kept.other) | skip

theorem kept_qwEnd {a : State} {s : State} {mask : Nat} (h : Kept a s) :
    Kept a (State.qwEnd s mask) := by
  unfold State.qwEnd
  iterate 40 all_goals first | (with_reducible assumption) | (with_reducible apply kept_put) | (with_reducible apply kept_foldl) | intro _ | (with_reducible apply Kept.ite) | dsimp only | split | (with_reducible apply Kept.other) | skip

theorem kept_execQwTimeout {a : State} {c : Fin 8} {s : State} (h : Kept a s) :
    KeptO a (execQwTimeout c s) := by
  unfold execQwTimeout
  iterate 40 all_goals first | (with_reducible assumption) | (with_reducible apply KeptO.next) | (with_reducible apply kept_put) | (with_reducible apply kept_qwEnd) | intro _ | (with_reducible apply Kept.ite) | dsimp only | split | (with_reducible apply Kept.other) | skip

end Sys2Proof.Machine
end

