-- ==== Sys2Proof/Laws/KeptFox.lean ====
section
/-!
SUPPORT. What the operations of Machine/Fox.lean keep.
-/
namespace Sys2Proof.Machine

theorem kept_fclk {a : State} {s : State} {le : Nat} (h : Kept a s) :
    Kept a (State.fclk s le) := by
  unfold State.fclk
  iterate 40 all_goals first | (with_reducible assumption) | (with_reducible apply kept_each) | (with_reducible apply kept_incWrap) | (with_reducible apply kept_updTh) | intro _ | (with_reducible apply Kept.ite) | dsimp only | split | (with_reducible apply Kept.other) | skip

theorem kept_trap {a : State} {s : State} {k : Nat} {c : Nat} (h : Kept a s) :
    Kept a (State.trap s k c) := by
  unfold State.trap
  iterate 40 all_goals first | (with_reducible assumption) | (with_reducible apply kept_raise) | (with_reducible apply kept_setTh) | (with_reducible apply kept_inc) | (with_reducible apply kept_put) | intro _ | (with_reducible apply Kept.ite) | dsimp only | split | (with_reducible apply Kept.other) | skip

theorem kept_unblock {a : State} {s : State} {k : Nat} (h : Kept a s) :
    Kept a (State.unblock s k) := by
  unfold State.unblock
  iterate 40 all_goals first | (with_reducible assumption) | (with_reducible apply kept_setTh) | (with_reducible apply kept_trap) | intro _ | (with_reducible apply Kept.ite) | dsimp only | split | (with_reducible apply Kept.other) | skip

theorem kept_unblockTrap {a : State} {s : State} {k : Nat} {c : Nat} (h : Kept a s) :
    Kept a (State.unblockTrap s k c) := by
  unfold State.unblockTrap
  iterate 40 all_goals first | (with_reducible assumption) | (with_reducible apply kept_trap) | (with_reducible apply kept_updTh) | intro _ | (with_reducible apply Kept.ite) | dsimp only | split | (with_reducible apply Kept.other) | skip

theorem kept_issued {a : State} {s : State} {k : Fin 64} (h : Kept a s) :
    Kept a (State.issued s k) := by
  unfold State.issued
  iterate 40 all_goals first | (with_reducible assumption) | (with_reducible apply kept_incWrap) | (with_reducible apply kept_setEng) | intro _ | (with_reducible apply Kept.ite) | dsimp only | split | (with_reducible apply Kept.other) | skip

theorem kept_issue {a : State} {s : State} {k : Fin 64} {legal : Bool} {repOk : Bool} {cond : Thread → Bool} {run : Thread → State → FRes} (h : Kept a s) (hg : ∀ t x, KeptR a (run t x)) :
    Kept a (State.issue s k legal repOk cond run) := by
  unfold State.issue
  dsimp only
  refine Kept.ite h (kept_fclk ?_)
  have h1 : Kept a (s.issued k) := kept_issued h
  refine Kept.ite (kept_trap h1) (Kept.ite (kept_trap h1) (Kept.ite (kept_updTh h1) ?_))
  split
  · exact kept_trap h1
  · rename_i f hf
    have h2 := hg (s.th k.val) (s.issued k)
    rw [hf] at h2
    exact h2 _ (kept_updTh h1)

theorem kept_long {a : State} {s : State} {k : Fin 64} {c : Fin 16} {legal : Bool} {run : Thread → State → FRes} {repOk : Bool} (h : Kept a s) (hg : ∀ t x, KeptR a (run t x)) :
    Kept a (State.long s k c legal run repOk) := by
  unfold State.long
  iterate 40 all_goals first | (with_reducible assumption) | (with_reducible apply hg) | (with_reducible apply kept_issue) | (with_reducible apply KeptR.of_go) | (with_reducible apply KeptR.of_trap) | intro _ | (with_reducible apply Kept.ite) | (with_reducible apply KeptR.ite) | dsimp only | split | (with_reducible apply Kept.other) | skip

theorem kept_aluOp {a : State} {k : Nat} {op : Alu} {d : Fin 16} {a1 : W24} {b : W24} {fl : Bool} {t : Thread} :
    KeptR a (aluOp k op d a1 b fl t) := by
  unfold aluOp
  iterate 40 all_goals first | (with_reducible assumption) | (with_reducible apply KeptR.of_trap) | (with_reducible apply KeptR.of_go) | (with_reducible apply kept_updTh) | intro _ | (with_reducible apply Kept.ite) | (with_reducible apply KeptR.ite) | dsimp only | split | (with_reducible apply Kept.other) | skip

theorem kept_shiftOp {a : State} {k : Nat} {op : Shift} {d : Fin 16} {a1 : W24} {n : Nat} {fl : Bool} {t : Thread} :
    KeptR a (shiftOp k op d a1 n fl t) := by
  unfold shiftOp
  iterate 40 all_goals first | (with_reducible assumption) | (with_reducible apply KeptR.of_trap) | (with_reducible apply KeptR.of_go) | (with_reducible apply kept_updTh) | intro _ | (with_reducible apply Kept.ite) | (with_reducible apply KeptR.ite) | dsimp only | split | (with_reducible apply Kept.other) | skip

theorem kept_movOp {a : State} {k : Nat} {d : Fin 16} {v : W24} :
    KeptR a (movOp k d v) := by
  unfold movOp
  iterate 40 all_goals first | (with_reducible assumption) | (with_reducible apply KeptR.of_trap) | (with_reducible apply KeptR.of_go) | (with_reducible apply kept_updTh) | intro _ | (with_reducible apply Kept.ite) | (with_reducible apply KeptR.ite) | dsimp only | split | (with_reducible apply Kept.other) | skip

theorem kept_btstOp {a : State} {k : Nat} {a1 : W24} {n : Nat} {fl : Bool} :
    KeptR a (btstOp k a1 n fl) := by
  unfold btstOp
  iterate 40 all_goals first | (with_reducible assumption) | (with_reducible apply KeptR.of_trap) | (with_reducible apply KeptR.of_go) | (with_reducible apply kept_updTh) | intro _ | (with_reducible apply Kept.ite) | (with_reducible apply KeptR.ite) | dsimp only | split | (with_reducible apply Kept.other) | skip

theorem kept_mulOp {a : State} {k : Nat} {op : Mul} {a1 : W24} {b : W24} {t : Thread} :
    KeptR a (mulOp k op a1 b t) := by
  unfold mulOp
  iterate 40 all_goals first | (with_reducible assumption) | (with_reducible apply KeptR.of_trap) | (with_reducible apply KeptR.of_go) | (with_reducible apply kept_updTh) | intro _ | (with_reducible apply Kept.ite) | (with_reducible apply KeptR.ite) | dsimp only | split | (with_reducible apply Kept.other) | skip

theorem kept_scaleOp {a : State} {k : Nat} {d : Fin 16} {dv : W24} {a1 : W24} {b : W24} {fl : Bool} {t : Thread} :
    KeptR a (scaleOp k d dv a1 b fl t) := by
  unfold scaleOp
  iterate 40 all_goals first | (with_reducible assumption) | (with_reducible apply KeptR.of_trap) | (with_reducible apply KeptR.of_go) | (with_reducible apply kept_updTh) | intro _ | (with_reducible apply Kept.ite) | (with_reducible apply KeptR.ite) | dsimp only | split | (with_reducible apply Kept.other) | skip

theorem kept_dmSet {a : State} {s : State} {le : Nat} {a1 : Nat} {v : W24} (h : Kept a s) :
    Kept a (State.dmSet s le a1 v) := by
  exact kept_setMark (Kept.of_dm h wf0_set)

theorem kept_ldOp {a : State} {k : Nat} {d : Fin 16} {ea : Nat} {inc : Option (Fin 16 × W24)} {s0 : State} :
    KeptR a (ldOp k d ea inc s0) := by
  unfold ldOp
  iterate 40 all_goals first | (with_reducible assumption) | (with_reducible apply KeptR.of_trap) | (with_reducible apply KeptR.of_go) | (with_reducible apply kept_updTh) | intro _ | (with_reducible apply Kept.ite) | (with_reducible apply KeptR.ite) | dsimp only | split | (with_reducible apply Kept.other) | skip

theorem kept_stOp {a : State} {k : Nat} {v : W24} {ea : Nat} {inc : Option (Fin 16 × W24)} :
    KeptR a (stOp k v ea inc) := by
  unfold stOp
  iterate 40 all_goals first | (with_reducible assumption) | (with_reducible apply KeptR.of_trap) | (with_reducible apply KeptR.of_go) | (with_reducible apply kept_dmSet) | (with_reducible apply kept_updTh) | intro _ | (with_reducible apply Kept.ite) | (with_reducible apply KeptR.ite) | dsimp only | split | (with_reducible apply Kept.other) | skip

theorem kept_wdRestart {a : State} {s : State} {k : Nat} (h : Kept a s) :
    Kept a (State.wdRestart s k) := by
  unfold State.wdRestart
  iterate 40 all_goals first | (with_reducible assumption) | (with_reducible apply kept_updTh) | intro _ | (with_reducible apply Kept.ite) | dsimp only | split | (with_reducible apply Kept.other) | skip

theorem kept_spWriteOp {a : State} {k : Nat} {sp : Fin 16} {v : W24} :
    KeptR a (spWriteOp k sp v) := by
  unfold spWriteOp
  iterate 40 all_goals first | (with_reducible assumption) | (with_reducible apply KeptR.of_trap) | (with_reducible apply KeptR.of_go) | (with_reducible apply kept_wdRestart) | (with_reducible apply kept_updTh) | intro _ | (with_reducible apply Kept.ite) | (with_reducible apply KeptR.ite) | dsimp only | split | (with_reducible apply Kept.other) | skip

theorem kept_execFxNop {a : State} {k : Fin 64} {c : Fin 16} {o : Opnd} {s : State} (h : Kept a s) :
    KeptO a (execFxNop k c o s) := by
  exact KeptO.next (kept_long h (fun _ _ => KeptR.of_go (fun _ g => g)))

theorem kept_execFxAdd {a : State} {k : Fin 64} {c : Fin 16} {o : Opnd} {s : State} (h : Kept a s) :
    KeptO a (execFxAdd k c o s) := by
  unfold execFxAdd
  iterate 40 all_goals first | (with_reducible assumption) | (with_reducible apply KeptO.next) | (with_reducible apply kept_long) | (with_reducible apply kept_aluOp) | (with_reducible apply KeptR.of_go) | (with_reducible apply KeptR.of_trap) | intro _ | (with_reducible apply Kept.ite) | (with_reducible apply KeptR.ite) | dsimp only | split | (with_reducible apply Kept.other) | skip

theorem kept_execFxAdc {a : State} {k : Fin 64} {c : Fin 16} {o : Opnd} {s : State} (h : Kept a s) :
    KeptO a (execFxAdc k c o s) := by
  unfold execFxAdc
  iterate 40 all_goals first | (with_reducible assumption) | (with_reducible apply KeptO.next) | (with_reducible apply kept_long) | (with_reducible apply kept_aluOp) | (with_reducible apply KeptR.of_go) | (with_reducible apply KeptR.of_trap) | intro _ | (with_reducible apply Kept.ite) | (with_reducible apply KeptR.ite) | dsimp only | split | (with_reducible apply Kept.other) | skip

theorem kept_execFxSub {a : State} {k : Fin 64} {c : Fin 16} {o : Opnd} {s : State} (h : Kept a s) :
    KeptO a (execFxSub k c o s) := by
  unfold execFxSub
  iterate 40 all_goals first | (with_reducible assumption) | (with_reducible apply KeptO.next) | (with_reducible apply kept_long) | (with_reducible apply kept_aluOp) | (with_reducible apply KeptR.of_go) | (with_reducible apply KeptR.of_trap) | intro _ | (with_reducible apply Kept.ite) | (with_reducible apply KeptR.ite) | dsimp only | split | (with_reducible apply Kept.other) | skip

theorem kept_execFxSbc {a : State} {k : Fin 64} {c : Fin 16} {o : Opnd} {s : State} (h : Kept a s) :
    KeptO a (execFxSbc k c o s) := by
  unfold execFxSbc
  iterate 40 all_goals first | (with_reducible assumption) | (with_reducible apply KeptO.next) | (with_reducible apply kept_long) | (with_reducible apply kept_aluOp) | (with_reducible apply KeptR.of_go) | (with_reducible apply KeptR.of_trap) | intro _ | (with_reducible apply Kept.ite) | (with_reducible apply KeptR.ite) | dsimp only | split | (with_reducible apply Kept.other) | skip

theorem kept_execFxAnd {a : State} {k : Fin 64} {c : Fin 16} {o : Opnd} {s : State} (h : Kept a s) :
    KeptO a (execFxAnd k c o s) := by
  unfold execFxAnd
  iterate 40 all_goals first | (with_reducible assumption) | (with_reducible apply KeptO.next) | (with_reducible apply kept_long) | (with_reducible apply kept_aluOp) | (with_reducible apply KeptR.of_go) | (with_reducible apply KeptR.of_trap) | intro _ | (with_reducible apply Kept.ite) | (with_reducible apply KeptR.ite) | dsimp only | split | (with_reducible apply Kept.other) | skip

theorem kept_execFxOr {a : State} {k : Fin 64} {c : Fin 16} {o : Opnd} {s : State} (h : Kept a s) :
    KeptO a (execFxOr k c o s) := by
  unfold execFxOr
  iterate 40 all_goals first | (with_reducible assumption) | (with_reducible apply KeptO.next) | (with_reducible apply kept_long) | (with_reducible apply kept_aluOp) | (with_reducible apply KeptR.of_go) | (with_reducible apply KeptR.of_trap) | intro _ | (with_reducible apply Kept.ite) | (with_reducible apply KeptR.ite) | dsimp only | split | (with_reducible apply Kept.other) | skip

theorem kept_execFxXor {a : State} {k : Fin 64} {c : Fin 16} {o : Opnd} {s : State} (h : Kept a s) :
    KeptO a (execFxXor k c o s) := by
  unfold execFxXor
  iterate 40 all_goals first | (with_reducible assumption) | (with_reducible apply KeptO.next) | (with_reducible apply kept_long) | (with_reducible apply kept_aluOp) | (with_reducible apply KeptR.of_go) | (with_reducible apply KeptR.of_trap) | intro _ | (with_reducible apply Kept.ite) | (with_reducible apply KeptR.ite) | dsimp only | split | (with_reducible apply Kept.other) | skip

theorem kept_execFxAndn {a : State} {k : Fin 64} {c : Fin 16} {o : Opnd} {s : State} (h : Kept a s) :
    KeptO a (execFxAndn k c o s) := by
  unfold execFxAndn
  iterate 40 all_goals first | (with_reducible assumption) | (with_reducible apply KeptO.next) | (with_reducible apply kept_long) | (with_reducible apply kept_aluOp) | (with_reducible apply KeptR.of_go) | (with_reducible apply KeptR.of_trap) | intro _ | (with_reducible apply Kept.ite) | (with_reducible apply KeptR.ite) | dsimp only | split | (with_reducible apply Kept.other) | skip

theorem kept_execFxMin {a : State} {k : Fin 64} {c : Fin 16} {o : Opnd} {s : State} (h : Kept a s) :
    KeptO a (execFxMin k c o s) := by
  unfold execFxMin
  iterate 40 all_goals first | (with_reducible assumption) | (with_reducible apply KeptO.next) | (with_reducible apply kept_long) | (with_reducible apply kept_aluOp) | (with_reducible apply KeptR.of_go) | (with_reducible apply KeptR.of_trap) | intro _ | (with_reducible apply Kept.ite) | (with_reducible apply KeptR.ite) | dsimp only | split | (with_reducible apply Kept.other) | skip

theorem kept_execFxMax {a : State} {k : Fin 64} {c : Fin 16} {o : Opnd} {s : State} (h : Kept a s) :
    KeptO a (execFxMax k c o s) := by
  unfold execFxMax
  iterate 40 all_goals first | (with_reducible assumption) | (with_reducible apply KeptO.next) | (with_reducible apply kept_long) | (with_reducible apply kept_aluOp) | (with_reducible apply KeptR.of_go) | (with_reducible apply KeptR.of_trap) | intro _ | (with_reducible apply Kept.ite) | (with_reducible apply KeptR.ite) | dsimp only | split | (with_reducible apply Kept.other) | skip

theorem kept_execFxMinu {a : State} {k : Fin 64} {c : Fin 16} {o : Opnd} {s : State} (h : Kept a s) :
    KeptO a (execFxMinu k c o s) := by
  unfold execFxMinu
  iterate 40 all_goals first | (with_reducible assumption) | (with_reducible apply KeptO.next) | (with_reducible apply kept_long) | (with_reducible apply kept_aluOp) | (with_reducible apply KeptR.of_go) | (with_reducible apply KeptR.of_trap) | intro _ | (with_reducible apply Kept.ite) | (with_reducible apply KeptR.ite) | dsimp only | split | (with_reducible apply Kept.other) | skip

theorem kept_execFxMaxu {a : State} {k : Fin 64} {c : Fin 16} {o : Opnd} {s : State} (h : Kept a s) :
    KeptO a (execFxMaxu k c o s) := by
  unfold execFxMaxu
  iterate 40 all_goals first | (with_reducible assumption) | (with_reducible apply KeptO.next) | (with_reducible apply kept_long) | (with_reducible apply kept_aluOp) | (with_reducible apply KeptR.of_go) | (with_reducible apply KeptR.of_trap) | intro _ | (with_reducible apply Kept.ite) | (with_reducible apply KeptR.ite) | dsimp only | split | (with_reducible apply Kept.other) | skip

theorem kept_execFxCmp {a : State} {k : Fin 64} {c : Fin 16} {o : Opnd} {s : State} (h : Kept a s) :
    KeptO a (execFxCmp k c o s) := by
  unfold execFxCmp
  iterate 40 all_goals first | (with_reducible assumption) | (with_reducible apply KeptO.next) | (with_reducible apply kept_long) | (with_reducible apply kept_aluOp) | (with_reducible apply KeptR.of_go) | (with_reducible apply KeptR.of_trap) | intro _ | (with_reducible apply Kept.ite) | (with_reducible apply KeptR.ite) | dsimp only | split | (with_reducible apply Kept.other) | skip

theorem kept_execFxTst {a : State} {k : Fin 64} {c : Fin 16} {o : Opnd} {s : State} (h : Kept a s) :
    KeptO a (execFxTst k c o s) := by
  unfold execFxTst
  iterate 40 all_goals first | (with_reducible assumption) | (with_reducible apply KeptO.next) | (with_reducible apply kept_long) | (with_reducible apply kept_aluOp) | (with_reducible apply KeptR.of_go) | (with_reducible apply KeptR.of_trap) | intro _ | (with_reducible apply Kept.ite) | (with_reducible apply KeptR.ite) | dsimp only | split | (with_reducible apply Kept.other) | skip

theorem kept_execFxMov {a : State} {k : Fin 64} {c : Fin 16} {o : Opnd} {s : State} (h : Kept a s) :
    KeptO a (execFxMov k c o s) := by
  unfold execFxMov
  iterate 40 all_goals first | (with_reducible assumption) | (with_reducible apply KeptO.next) | (with_reducible apply kept_long) | (with_reducible apply kept_movOp) | (with_reducible apply KeptR.of_go) | (with_reducible apply KeptR.of_trap) | intro _ | (with_reducible apply Kept.ite) | (with_reducible apply KeptR.ite) | dsimp only | split | (with_reducible apply Kept.other) | skip

theorem kept_execFxAddi {a : State} {k : Fin 64} {c : Fin 16} {o : Opnd} {s : State} (h : Kept a s) :
    KeptO a (execFxAddi k c o s) := by
  unfold execFxAddi
  iterate 40 all_goals first | (with_reducible assumption) | (with_reducible apply KeptO.next) | (with_reducible apply kept_long) | (with_reducible apply kept_aluOp) | (with_reducible apply KeptR.of_go) | (with_reducible apply KeptR.of_trap) | intro _ | (with_reducible apply Kept.ite) | (with_reducible apply KeptR.ite) | dsimp only | split | (with_reducible apply Kept.other) | skip

theorem kept_execFxAdci {a : State} {k : Fin 64} {c : Fin 16} {o : Opnd} {s : State} (h : Kept a s) :
    KeptO a (execFxAdci k c o s) := by
  unfold execFxAdci
  iterate 40 all_goals first | (with_reducible assumption) | (with_reducible apply KeptO.next) | (with_reducible apply kept_long) | (with_reducible apply kept_aluOp) | (with_reducible apply KeptR.of_go) | (with_reducible apply KeptR.of_trap) | intro _ | (with_reducible apply Kept.ite) | (with_reducible apply KeptR.ite) | dsimp only | split | (with_reducible apply Kept.other) | skip

theorem kept_execFxSubi {a : State} {k : Fin 64} {c : Fin 16} {o : Opnd} {s : State} (h : Kept a s) :
    KeptO a (execFxSubi k c o s) := by
  unfold execFxSubi
  iterate 40 all_goals first | (with_reducible assumption) | (with_reducible apply KeptO.next) | (with_reducible apply kept_long) | (with_reducible apply kept_aluOp) | (with_reducible apply KeptR.of_go) | (with_reducible apply KeptR.of_trap) | intro _ | (with_reducible apply Kept.ite) | (with_reducible apply KeptR.ite) | dsimp only | split | (with_reducible apply Kept.other) | skip

theorem kept_execFxSbci {a : State} {k : Fin 64} {c : Fin 16} {o : Opnd} {s : State} (h : Kept a s) :
    KeptO a (execFxSbci k c o s) := by
  unfold execFxSbci
  iterate 40 all_goals first | (with_reducible assumption) | (with_reducible apply KeptO.next) | (with_reducible apply kept_long) | (with_reducible apply kept_aluOp) | (with_reducible apply KeptR.of_go) | (with_reducible apply KeptR.of_trap) | intro _ | (with_reducible apply Kept.ite) | (with_reducible apply KeptR.ite) | dsimp only | split | (with_reducible apply Kept.other) | skip

theorem kept_execFxAndi {a : State} {k : Fin 64} {c : Fin 16} {o : Opnd} {s : State} (h : Kept a s) :
    KeptO a (execFxAndi k c o s) := by
  unfold execFxAndi
  iterate 40 all_goals first | (with_reducible assumption) | (with_reducible apply KeptO.next) | (with_reducible apply kept_long) | (with_reducible apply kept_aluOp) | (with_reducible apply KeptR.of_go) | (with_reducible apply KeptR.of_trap) | intro _ | (with_reducible apply Kept.ite) | (with_reducible apply KeptR.ite) | dsimp only | split | (with_reducible apply Kept.other) | skip

theorem kept_execFxOri {a : State} {k : Fin 64} {c : Fin 16} {o : Opnd} {s : State} (h : Kept a s) :
    KeptO a (execFxOri k c o s) := by
  unfold execFxOri
  iterate 40 all_goals first | (with_reducible assumption) | (with_reducible apply KeptO.next) | (with_reducible apply kept_long) | (with_reducible apply kept_aluOp) | (with_reducible apply KeptR.of_go) | (with_reducible apply KeptR.of_trap) | intro _ | (with_reducible apply Kept.ite) | (with_reducible apply KeptR.ite) | dsimp only | split | (with_reducible apply Kept.other) | skip

theorem kept_execFxXori {a : State} {k : Fin 64} {c : Fin 16} {o : Opnd} {s : State} (h : Kept a s) :
    KeptO a (execFxXori k c o s) := by
  unfold execFxXori
  iterate 40 all_goals first | (with_reducible assumption) | (with_reducible apply KeptO.next) | (with_reducible apply kept_long) | (with_reducible apply kept_aluOp) | (with_reducible apply KeptR.of_go) | (with_reducible apply KeptR.of_trap) | intro _ | (with_reducible apply Kept.ite) | (with_reducible apply KeptR.ite) | dsimp only | split | (with_reducible apply Kept.other) | skip

theorem kept_execFxAndni {a : State} {k : Fin 64} {c : Fin 16} {o : Opnd} {s : State} (h : Kept a s) :
    KeptO a (execFxAndni k c o s) := by
  unfold execFxAndni
  iterate 40 all_goals first | (with_reducible assumption) | (with_reducible apply KeptO.next) | (with_reducible apply kept_long) | (with_reducible apply kept_aluOp) | (with_reducible apply KeptR.of_go) | (with_reducible apply KeptR.of_trap) | intro _ | (with_reducible apply Kept.ite) | (with_reducible apply KeptR.ite) | dsimp only | split | (with_reducible apply Kept.other) | skip

theorem kept_execFxMini {a : State} {k : Fin 64} {c : Fin 16} {o : Opnd} {s : State} (h : Kept a s) :
    KeptO a (execFxMini k c o s) := by
  unfold execFxMini
  iterate 40 all_goals first | (with_reducible assumption) | (with_reducible apply KeptO.next) | (with_reducible apply kept_long) | (with_reducible apply kept_aluOp) | (with_reducible apply KeptR.of_go) | (with_reducible apply KeptR.of_trap) | intro _ | (with_reducible apply Kept.ite) | (with_reducible apply KeptR.ite) | dsimp only | split | (with_reducible apply Kept.other) | skip

theorem kept_execFxMaxi {a : State} {k : Fin 64} {c : Fin 16} {o : Opnd} {s : State} (h : Kept a s) :
    KeptO a (execFxMaxi k c o s) := by
  unfold execFxMaxi
  iterate 40 all_goals first | (with_reducible assumption) | (with_reducible apply KeptO.next) | (with_reducible apply kept_long) | (with_reducible apply kept_aluOp) | (with_reducible apply KeptR.of_go) | (with_reducible apply KeptR.of_trap) | intro _ | (with_reducible apply Kept.ite) | (with_reducible apply KeptR.ite) | dsimp only | split | (with_reducible apply Kept.other) | skip

theorem kept_execFxMinui {a : State} {k : Fin 64} {c : Fin 16} {o : Opnd} {s : State} (h : Kept a s) :
    KeptO a (execFxMinui k c o s) := by
  unfold execFxMinui
  iterate 40 all_goals first | (with_reducible assumption) | (with_reducible apply KeptO.next) | (with_reducible apply kept_long) | (with_reducible apply kept_aluOp) | (with_reducible apply KeptR.of_go) | (with_reducible apply KeptR.of_trap) | intro _ | (with_reducible apply Kept.ite) | (with_reducible apply KeptR.ite) | dsimp only | split | (with_reducible apply Kept.other) | skip

theorem kept_execFxMaxui {a : State} {k : Fin 64} {c : Fin 16} {o : Opnd} {s : State} (h : Kept a s) :
    KeptO a (execFxMaxui k c o s) := by
  unfold execFxMaxui
  iterate 40 all_goals first | (with_reducible assumption) | (with_reducible apply KeptO.next) | (with_reducible apply kept_long) | (with_reducible apply kept_aluOp) | (with_reducible apply KeptR.of_go) | (with_reducible apply KeptR.of_trap) | intro _ | (with_reducible apply Kept.ite) | (with_reducible apply KeptR.ite) | dsimp only | split | (with_reducible apply Kept.other) | skip

theorem kept_execFxCmpi {a : State} {k : Fin 64} {c : Fin 16} {o : Opnd} {s : State} (h : Kept a s) :
    KeptO a (execFxCmpi k c o s) := by
  unfold execFxCmpi
  iterate 40 all_goals first | (with_reducible assumption) | (with_reducible apply KeptO.next) | (with_reducible apply kept_long) | (with_reducible apply kept_aluOp) | (with_reducible apply KeptR.of_go) | (with_reducible apply KeptR.of_trap) | intro _ | (with_reducible apply Kept.ite) | (with_reducible apply KeptR.ite) | dsimp only | split | (with_reducible apply Kept.other) | skip

theorem kept_execFxTsti {a : State} {k : Fin 64} {c : Fin 16} {o : Opnd} {s : State} (h : Kept a s) :
    KeptO a (execFxTsti k c o s) := by
  unfold execFxTsti
  iterate 40 all_goals first | (with_reducible assumption) | (with_reducible apply KeptO.next) | (with_reducible apply kept_long) | (with_reducible apply kept_aluOp) | (with_reducible apply KeptR.of_go) | (with_reducible apply KeptR.of_trap) | intro _ | (with_reducible apply Kept.ite) | (with_reducible apply KeptR.ite) | dsimp only | split | (with_reducible apply Kept.other) | skip

theorem kept_execFxMovi {a : State} {k : Fin 64} {c : Fin 16} {o : Opnd} {s : State} (h : Kept a s) :
    KeptO a (execFxMovi k c o s) := by
  unfold execFxMovi
  iterate 40 all_goals first | (with_reducible assumption) | (with_reducible apply KeptO.next) | (with_reducible apply kept_long) | (with_reducible apply kept_movOp) | (with_reducible apply KeptR.of_go) | (with_reducible apply KeptR.of_trap) | intro _ | (with_reducible apply Kept.ite) | (with_reducible apply KeptR.ite) | dsimp only | split | (with_reducible apply Kept.other) | skip

theorem kept_execFxLsl {a : State} {k : Fin 64} {c : Fin 16} {o : Opnd} {s : State} (h : Kept a s) :
    KeptO a (execFxLsl k c o s) := by
  unfold execFxLsl
  iterate 40 all_goals first | (with_reducible assumption) | (with_reducible apply KeptO.next) | (with_reducible apply kept_long) | (with_reducible apply kept_shiftOp) | (with_reducible apply KeptR.of_go) | (with_reducible apply KeptR.of_trap) | intro _ | (with_reducible apply Kept.ite) | (with_reducible apply KeptR.ite) | dsimp only | split | (with_reducible apply Kept.other) | skip

theorem kept_execFxLsli {a : State} {k : Fin 64} {c : Fin 16} {o : Opnd} {s : State} (h : Kept a s) :
    KeptO a (execFxLsli k c o s) := by
  unfold execFxLsli
  iterate 40 all_goals first | (with_reducible assumption) | (with_reducible apply KeptO.next) | (with_reducible apply kept_long) | (with_reducible apply kept_shiftOp) | (with_reducible apply KeptR.of_go) | (with_reducible apply KeptR.of_trap) | intro _ | (with_reducible apply Kept.ite) | (with_reducible apply KeptR.ite) | dsimp only | split | (with_reducible apply Kept.other) | skip

theorem kept_execFxLsr {a : State} {k : Fin 64} {c : Fin 16} {o : Opnd} {s : State} (h : Kept a s) :
    KeptO a (execFxLsr k c o s) := by
  unfold execFxLsr
  iterate 40 all_goals first | (with_reducible assumption) | (with_reducible apply KeptO.next) | (with_reducible apply kept_long) | (with_reducible apply kept_shiftOp) | (with_reducible apply KeptR.of_go) | (with_reducible apply KeptR.of_trap) | intro _ | (with_reducible apply Kept.ite) | (with_reducible apply KeptR.ite) | dsimp only | split | (with_reducible apply Kept.other) | skip

theorem kept_execFxLsri {a : State} {k : Fin 64} {c : Fin 16} {o : Opnd} {s : State} (h : Kept a s) :
    KeptO a (execFxLsri k c o s) := by
  unfold execFxLsri
  iterate 40 all_goals first | (with_reducible assumption) | (with_reducible apply KeptO.next) | (with_reducible apply kept_long) | (with_reducible apply kept_shiftOp) | (with_reducible apply KeptR.of_go) | (with_reducible apply KeptR.of_trap) | intro _ | (with_reducible apply Kept.ite) | (with_reducible apply KeptR.ite) | dsimp only | split | (with_reducible apply Kept.other) | skip

theorem kept_execFxAsr {a : State} {k : Fin 64} {c : Fin 16} {o : Opnd} {s : State} (h : Kept a s) :
    KeptO a (execFxAsr k c o s) := by
  unfold execFxAsr
  iterate 40 all_goals first | (with_reducible assumption) | (with_reducible apply KeptO.next) | (with_reducible apply kept_long) | (with_reducible apply kept_shiftOp) | (with_reducible apply KeptR.of_go) | (with_reducible apply KeptR.of_trap) | intro _ | (with_reducible apply Kept.ite) | (with_reducible apply KeptR.ite) | dsimp only | split | (with_reducible apply Kept.other) | skip

theorem kept_execFxAsri {a : State} {k : Fin 64} {c : Fin 16} {o : Opnd} {s : State} (h : Kept a s) :
    KeptO a (execFxAsri k c o s) := by
  unfold execFxAsri
  iterate 40 all_goals first | (with_reducible assumption) | (with_reducible apply KeptO.next) | (with_reducible apply kept_long) | (with_reducible apply kept_shiftOp) | (with_reducible apply KeptR.of_go) | (with_reducible apply KeptR.of_trap) | intro _ | (with_reducible apply Kept.ite) | (with_reducible apply KeptR.ite) | dsimp only | split | (with_reducible apply Kept.other) | skip

theorem kept_execFxRor {a : State} {k : Fin 64} {c : Fin 16} {o : Opnd} {s : State} (h : Kept a s) :
    KeptO a (execFxRor k c o s) := by
  unfold execFxRor
  iterate 40 all_goals first | (with_reducible assumption) | (with_reducible apply KeptO.next) | (with_reducible apply kept_long) | (with_reducible apply kept_shiftOp) | (with_reducible apply KeptR.of_go) | (with_reducible apply KeptR.of_trap) | intro _ | (with_reducible apply Kept.ite) | (with_reducible apply KeptR.ite) | dsimp only | split | (with_reducible apply Kept.other) | skip

theorem kept_execFxRori {a : State} {k : Fin 64} {c : Fin 16} {o : Opnd} {s : State} (h : Kept a s) :
    KeptO a (execFxRori k c o s) := by
  unfold execFxRori
  iterate 40 all_goals first | (with_reducible assumption) | (with_reducible apply KeptO.next) | (with_reducible apply kept_long) | (with_reducible apply kept_shiftOp) | (with_reducible apply KeptR.of_go) | (with_reducible apply KeptR.of_trap) | intro _ | (with_reducible apply Kept.ite) | (with_reducible apply KeptR.ite) | dsimp only | split | (with_reducible apply Kept.other) | skip

theorem kept_execFxNeg {a : State} {k : Fin 64} {c : Fin 16} {o : Opnd} {s : State} (h : Kept a s) :
    KeptO a (execFxNeg k c o s) := by
  unfold execFxNeg
  iterate 40 all_goals first | (with_reducible assumption) | (with_reducible apply KeptO.next) | (with_reducible apply kept_long) | (with_reducible apply kept_aluOp) | (with_reducible apply KeptR.of_go) | (with_reducible apply KeptR.of_trap) | intro _ | (with_reducible apply Kept.ite) | (with_reducible apply KeptR.ite) | dsimp only | split | (with_reducible apply Kept.other) | skip

theorem kept_execFxNot {a : State} {k : Fin 64} {c : Fin 16} {o : Opnd} {s : State} (h : Kept a s) :
    KeptO a (execFxNot k c o s) := by
  unfold execFxNot
  iterate 40 all_goals first | (with_reducible assumption) | (with_reducible apply KeptO.next) | (with_reducible apply kept_long) | (with_reducible apply kept_aluOp) | (with_reducible apply KeptR.of_go) | (with_reducible apply KeptR.of_trap) | intro _ | (with_reducible apply Kept.ite) | (with_reducible apply KeptR.ite) | dsimp only | split | (with_reducible apply Kept.other) | skip

theorem kept_execFxAbs {a : State} {k : Fin 64} {c : Fin 16} {o : Opnd} {s : State} (h : Kept a s) :
    KeptO a (execFxAbs k c o s) := by
  unfold execFxAbs
  iterate 40 all_goals first | (with_reducible assumption) | (with_reducible apply KeptO.next) | (with_reducible apply kept_long) | (with_reducible apply kept_aluOp) | (with_reducible apply KeptR.of_go) | (with_reducible apply KeptR.of_trap) | intro _ | (with_reducible apply Kept.ite) | (with_reducible apply KeptR.ite) | dsimp only | split | (with_reducible apply Kept.other) | skip

theorem kept_execFxClz {a : State} {k : Fin 64} {c : Fin 16} {o : Opnd} {s : State} (h : Kept a s) :
    KeptO a (execFxClz k c o s) := by
  unfold execFxClz
  iterate 40 all_goals first | (with_reducible assumption) | (with_reducible apply KeptO.next) | (with_reducible apply kept_long) | (with_reducible apply kept_aluOp) | (with_reducible apply KeptR.of_go) | (with_reducible apply KeptR.of_trap) | intro _ | (with_reducible apply Kept.ite) | (with_reducible apply KeptR.ite) | dsimp only | split | (with_reducible apply Kept.other) | skip

theorem kept_execFxBset {a : State} {k : Fin 64} {c : Fin 16} {o : Opnd} {s : State} (h : Kept a s) :
    KeptO a (execFxBset k c o s) := by
  unfold execFxBset
  iterate 40 all_goals first | (with_reducible assumption) | (with_reducible apply KeptO.next) | (with_reducible apply kept_long) | (with_reducible apply kept_movOp) | (with_reducible apply KeptR.of_go) | (with_reducible apply KeptR.of_trap) | intro _ | (with_reducible apply Kept.ite) | (with_reducible apply KeptR.ite) | dsimp only | split | (with_reducible apply Kept.other) | skip

theorem kept_execFxBclr {a : State} {k : Fin 64} {c : Fin 16} {o : Opnd} {s : State} (h : Kept a s) :
    KeptO a (execFxBclr k c o s) := by
  unfold execFxBclr
  iterate 40 all_goals first | (with_reducible assumption) | (with_reducible apply KeptO.next) | (with_reducible apply kept_long) | (with_reducible apply kept_movOp) | (with_reducible apply KeptR.of_go) | (with_reducible apply KeptR.of_trap) | intro _ | (with_reducible apply Kept.ite) | (with_reducible apply KeptR.ite) | dsimp only | split | (with_reducible apply Kept.other) | skip

theorem kept_execFxBtst {a : State} {k : Fin 64} {c : Fin 16} {o : Opnd} {s : State} (h : Kept a s) :
    KeptO a (execFxBtst k c o s) := by
  unfold execFxBtst
  iterate 40 all_goals first | (with_reducible assumption) | (with_reducible apply KeptO.next) | (with_reducible apply kept_long) | (with_reducible apply kept_btstOp) | (with_reducible apply KeptR.of_go) | (with_reducible apply KeptR.of_trap) | intro _ | (with_reducible apply Kept.ite) | (with_reducible apply KeptR.ite) | dsimp only | split | (with_reducible apply Kept.other) | skip

theorem kept_execFxTfc {a : State} {k : Fin 64} {c : Fin 16} {o : Opnd} {s : State} (h : Kept a s) :
    KeptO a (execFxTfc k c o s) := by
  unfold execFxTfc
  iterate 40 all_goals first | (with_reducible assumption) | (with_reducible apply KeptO.next) | (with_reducible apply kept_long) | (with_reducible apply kept_updTh) | (with_reducible apply KeptR.of_go) | (with_reducible apply KeptR.of_trap) | intro _ | (with_reducible apply Kept.ite) | (with_reducible apply KeptR.ite) | dsimp only | split | (with_reducible apply Kept.other) | skip

theorem kept_execFxMul {a : State} {k : Fin 64} {c : Fin 16} {o : Opnd} {s : State} (h : Kept a s) :
    KeptO a (execFxMul k c o s) := by
  unfold execFxMul
  iterate 40 all_goals first | (with_reducible assumption) | (with_reducible apply KeptO.next) | (with_reducible apply kept_long) | (with_reducible apply kept_mulOp) | (with_reducible apply KeptR.of_go) | (with_reducible apply KeptR.of_trap) | intro _ | (with_reducible apply Kept.ite) | (with_reducible apply KeptR.ite) | dsimp only | split | (with_reducible apply Kept.other) | skip

theorem kept_execFxMulu {a : State} {k : Fin 64} {c : Fin 16} {o : Opnd} {s : State} (h : Kept a s) :
    KeptO a (execFxMulu k c o s) := by
  unfold execFxMulu
  iterate 40 all_goals first | (with_reducible assumption) | (with_reducible apply KeptO.next) | (with_reducible apply kept_long) | (with_reducible apply kept_mulOp) | (with_reducible apply KeptR.of_go) | (with_reducible apply KeptR.of_trap) | intro _ | (with_reducible apply Kept.ite) | (with_reducible apply KeptR.ite) | dsimp only | split | (with_reducible apply Kept.other) | skip

theorem kept_execFxMac {a : State} {k : Fin 64} {c : Fin 16} {o : Opnd} {s : State} (h : Kept a s) :
    KeptO a (execFxMac k c o s) := by
  unfold execFxMac
  iterate 40 all_goals first | (with_reducible assumption) | (with_reducible apply KeptO.next) | (with_reducible apply kept_long) | (with_reducible apply kept_mulOp) | (with_reducible apply KeptR.of_go) | (with_reducible apply KeptR.of_trap) | intro _ | (with_reducible apply Kept.ite) | (with_reducible apply KeptR.ite) | dsimp only | split | (with_reducible apply Kept.other) | skip

theorem kept_execFxMacu {a : State} {k : Fin 64} {c : Fin 16} {o : Opnd} {s : State} (h : Kept a s) :
    KeptO a (execFxMacu k c o s) := by
  unfold execFxMacu
  iterate 40 all_goals first | (with_reducible assumption) | (with_reducible apply KeptO.next) | (with_reducible apply kept_long) | (with_reducible apply kept_mulOp) | (with_reducible apply KeptR.of_go) | (with_reducible apply KeptR.of_trap) | intro _ | (with_reducible apply Kept.ite) | (with_reducible apply KeptR.ite) | dsimp only | split | (with_reducible apply Kept.other) | skip

theorem kept_execFxMsu {a : State} {k : Fin 64} {c : Fin 16} {o : Opnd} {s : State} (h : Kept a s) :
    KeptO a (execFxMsu k c o s) := by
  unfold execFxMsu
  iterate 40 all_goals first | (with_reducible assumption) | (with_reducible apply KeptO.next) | (with_reducible apply kept_long) | (with_reducible apply kept_mulOp) | (with_reducible apply KeptR.of_go) | (with_reducible apply KeptR.of_trap) | intro _ | (with_reducible apply Kept.ite) | (with_reducible apply KeptR.ite) | dsimp only | split | (with_reducible apply Kept.other) | skip

theorem kept_execFxMacz {a : State} {k : Fin 64} {c : Fin 16} {o : Opnd} {s : State} (h : Kept a s) :
    KeptO a (execFxMacz k c o s) := by
  unfold execFxMacz
  iterate 40 all_goals first | (with_reducible assumption) | (with_reducible apply KeptO.next) | (with_reducible apply kept_long) | (with_reducible apply kept_mulOp) | (with_reducible apply KeptR.of_go) | (with_reducible apply KeptR.of_trap) | intro _ | (with_reducible apply Kept.ite) | (with_reducible apply KeptR.ite) | dsimp only | split | (with_reducible apply Kept.other) | skip

theorem kept_execFxExa {a : State} {k : Fin 64} {c : Fin 16} {o : Opnd} {s : State} (h : Kept a s) :
    KeptO a (execFxExa k c o s) := by
  unfold execFxExa
  iterate 40 all_goals first | (with_reducible assumption) | (with_reducible apply KeptO.next) | (with_reducible apply kept_long) | (with_reducible apply kept_updTh) | (with_reducible apply KeptR.of_go) | (with_reducible apply KeptR.of_trap) | intro _ | (with_reducible apply Kept.ite) | (with_reducible apply KeptR.ite) | dsimp only | split | (with_reducible apply Kept.other) | skip

theorem kept_execFxLd {a : State} {k : Fin 64} {c : Fin 16} {o : Opnd} {s : State} (h : Kept a s) :
    KeptO a (execFxLd k c o s) := by
  unfold execFxLd
  iterate 40 all_goals first | (with_reducible assumption) | (with_reducible apply KeptO.next) | (with_reducible apply kept_long) | (with_reducible apply kept_ldOp) | (with_reducible apply KeptR.of_go) | (with_reducible apply KeptR.of_trap) | intro _ | (with_reducible apply Kept.ite) | (with_reducible apply KeptR.ite) | dsimp only | split | (with_reducible apply Kept.other) | skip

theorem kept_execFxSt {a : State} {k : Fin 64} {c : Fin 16} {o : Opnd} {s : State} (h : Kept a s) :
    KeptO a (execFxSt k c o s) := by
  unfold execFxSt
  iterate 40 all_goals first | (with_reducible assumption) | (with_reducible apply KeptO.next) | (with_reducible apply kept_long) | (with_reducible apply kept_stOp) | (with_reducible apply KeptR.of_go) | (with_reducible apply KeptR.of_trap) | intro _ | (with_reducible apply Kept.ite) | (with_reducible apply KeptR.ite) | dsimp only | split | (with_reducible apply Kept.other) | skip

theorem kept_execFxLdi {a : State} {k : Fin 64} {c : Fin 16} {o : Opnd} {s : State} (h : Kept a s) :
    KeptO a (execFxLdi k c o s) := by
  unfold execFxLdi
  iterate 40 all_goals first | (with_reducible assumption) | (with_reducible apply KeptO.next) | (with_reducible apply kept_long) | (with_reducible apply kept_ldOp) | (with_reducible apply KeptR.of_go) | (with_reducible apply KeptR.of_trap) | intro _ | (with_reducible apply Kept.ite) | (with_reducible apply KeptR.ite) | dsimp only | split | (with_reducible apply Kept.other) | skip

theorem kept_execFxSti {a : State} {k : Fin 64} {c : Fin 16} {o : Opnd} {s : State} (h : Kept a s) :
    KeptO a (execFxSti k c o s) := by
  unfold execFxSti
  iterate 40 all_goals first | (with_reducible assumption) | (with_reducible apply KeptO.next) | (with_reducible apply kept_long) | (with_reducible apply kept_stOp) | (with_reducible apply KeptR.of_go) | (with_reducible apply KeptR.of_trap) | intro _ | (with_reducible apply Kept.ite) | (with_reducible apply KeptR.ite) | dsimp only | split | (with_reducible apply Kept.other) | skip

theorem kept_execFxMovsRead {a : State} {k : Fin 64} {c : Fin 16} {o : Opnd} {s : State} (h : Kept a s) :
    KeptO a (execFxMovsRead k c o s) := by
  unfold execFxMovsRead
  iterate 40 all_goals first | (with_reducible assumption) | (with_reducible apply KeptO.next) | (with_reducible apply kept_long) | (with_reducible apply kept_movOp) | (with_reducible apply KeptR.of_go) | (with_reducible apply KeptR.of_trap) | intro _ | (with_reducible apply Kept.ite) | (with_reducible apply KeptR.ite) | dsimp only | split | (with_reducible apply Kept.other) | skip

theorem kept_execFxMovsWrite {a : State} {k : Fin 64} {c : Fin 16} {o : Opnd} {s : State} (h : Kept a s) :
    KeptO a (execFxMovsWrite k c o s) := by
  unfold execFxMovsWrite
  iterate 40 all_goals first | (with_reducible assumption) | (with_reducible apply KeptO.next) | (with_reducible apply kept_long) | (with_reducible apply kept_spWriteOp) | (with_reducible apply KeptR.of_go) | (with_reducible apply KeptR.of_trap) | intro _ | (with_reducible apply Kept.ite) | (with_reducible apply KeptR.ite) | dsimp only | split | (with_reducible apply Kept.other) | skip

theorem kept_jump {a : State} {k : Nat} {a1 : BitVec 14} :
    KeptR a (jump k a1) := by
  unfold jump
  iterate 40 all_goals first | (with_reducible assumption) | (with_reducible apply KeptR.of_trap) | (with_reducible apply KeptR.of_go) | (with_reducible apply kept_updTh) | intro _ | (with_reducible apply Kept.ite) | (with_reducible apply KeptR.ite) | dsimp only | split | (with_reducible apply Kept.other) | skip

theorem kept_call {a : State} {k : Nat} {t : Thread} {a1 : BitVec 14} :
    KeptR a (call k t a1) := by
  unfold call
  iterate 40 all_goals first | (with_reducible assumption) | (with_reducible apply KeptR.of_trap) | (with_reducible apply KeptR.of_go) | (with_reducible apply kept_updTh) | intro _ | (with_reducible apply Kept.ite) | (with_reducible apply KeptR.ite) | dsimp only | split | (with_reducible apply Kept.other) | skip

theorem kept_execFxB {a : State} {k : Fin 64} {c : Fin 16} {o : Opnd} {s : State} (h : Kept a s) :
    KeptO a (execFxB k c o s) := by
  unfold execFxB
  iterate 40 all_goals first | (with_reducible assumption) | (with_reducible apply KeptO.next) | (with_reducible apply kept_long) | (with_reducible apply kept_jump) | (with_reducible apply KeptR.of_go) | (with_reducible apply KeptR.of_trap) | intro _ | (with_reducible apply Kept.ite) | (with_reducible apply KeptR.ite) | dsimp only | split | (with_reducible apply Kept.other) | skip

theorem kept_execFxBr {a : State} {k : Fin 64} {c : Fin 16} {o : Opnd} {s : State} (h : Kept a s) :
    KeptO a (execFxBr k c o s) := by
  unfold execFxBr
  iterate 40 all_goals first | (with_reducible assumption) | (with_reducible apply KeptO.next) | (with_reducible apply kept_long) | (with_reducible apply kept_jump) | (with_reducible apply KeptR.of_go) | (with_reducible apply KeptR.of_trap) | intro _ | (with_reducible apply Kept.ite) | (with_reducible apply KeptR.ite) | dsimp only | split | (with_reducible apply Kept.other) | skip

theorem kept_execFxCall {a : State} {k : Fin 64} {c : Fin 16} {o : Opnd} {s : State} (h : Kept a s) :
    KeptO a (execFxCall k c o s) := by
  unfold execFxCall
  iterate 40 all_goals first | (with_reducible assumption) | (with_reducible apply KeptO.next) | (with_reducible apply kept_long) | (with_reducible apply kept_call) | (with_reducible apply KeptR.of_go) | (with_reducible apply KeptR.of_trap) | intro _ | (with_reducible apply Kept.ite) | (with_reducible apply KeptR.ite) | dsimp only | split | (with_reducible apply Kept.other) | skip

theorem kept_execFxCallr {a : State} {k : Fin 64} {c : Fin 16} {o : Opnd} {s : State} (h : Kept a s) :
    KeptO a (execFxCallr k c o s) := by
  unfold execFxCallr
  iterate 40 all_goals first | (with_reducible assumption) | (with_reducible apply KeptO.next) | (with_reducible apply kept_long) | (with_reducible apply kept_call) | (with_reducible apply KeptR.of_go) | (with_reducible apply KeptR.of_trap) | intro _ | (with_reducible apply Kept.ite) | (with_reducible apply KeptR.ite) | dsimp only | split | (with_reducible apply Kept.other) | skip

theorem kept_execFxRet {a : State} {k : Fin 64} {c : Fin 16} {o : Opnd} {s : State} (h : Kept a s) :
    KeptO a (execFxRet k c o s) := by
  unfold execFxRet
  iterate 40 all_goals first | (with_reducible assumption) | (with_reducible apply KeptO.next) | (with_reducible apply kept_long) | (with_reducible apply kept_jump) | (with_reducible apply KeptR.of_go) | (with_reducible apply KeptR.of_trap) | intro _ | (with_reducible apply Kept.ite) | (with_reducible apply KeptR.ite) | dsimp only | split | (with_reducible apply Kept.other) | skip

theorem kept_execFxRett {a : State} {k : Fin 64} {c : Fin 16} {o : Opnd} {s : State} (h : Kept a s) :
    KeptO a (execFxRett k c o s) := by
  unfold execFxRett
  iterate 40 all_goals first | (with_reducible assumption) | (with_reducible apply KeptO.next) | (with_reducible apply kept_long) | (with_reducible apply kept_updTh) | (with_reducible apply KeptR.of_go) | (with_reducible apply KeptR.of_trap) | intro _ | (with_reducible apply Kept.ite) | (with_reducible apply KeptR.ite) | dsimp only | split | (with_reducible apply Kept.other) | skip

theorem kept_execFxDbnz {a : State} {k : Fin 64} {c : Fin 16} {o : Opnd} {s : State} (h : Kept a s) :
    KeptO a (execFxDbnz k c o s) := by
  unfold execFxDbnz
  iterate 40 all_goals first | (with_reducible assumption) | (with_reducible apply KeptO.next) | (with_reducible apply kept_long) | (with_reducible apply kept_updTh) | (with_reducible apply KeptR.of_go) | (with_reducible apply KeptR.of_trap) | intro _ | (with_reducible apply Kept.ite) | (with_reducible apply KeptR.ite) | dsimp only | split | (with_reducible apply Kept.other) | skip

theorem kept_repOp {a : State} {k : Nat} {n : W24} :
    KeptR a (repOp k n) := by
  unfold repOp
  iterate 40 all_goals first | (with_reducible assumption) | (with_reducible apply KeptR.of_trap) | (with_reducible apply KeptR.of_go) | (with_reducible apply kept_updTh) | intro _ | (with_reducible apply Kept.ite) | (with_reducible apply KeptR.ite) | dsimp only | split | (with_reducible apply Kept.other) | skip

theorem kept_execFxRep {a : State} {k : Fin 64} {c : Fin 16} {o : Opnd} {s : State} (h : Kept a s) :
    KeptO a (execFxRep k c o s) := by
  unfold execFxRep
  iterate 40 all_goals first | (with_reducible assumption) | (with_reducible apply KeptO.next) | (with_reducible apply kept_long) | (with_reducible apply kept_repOp) | (with_reducible apply KeptR.of_go) | (with_reducible apply KeptR.of_trap) | intro _ | (with_reducible apply Kept.ite) | (with_reducible apply KeptR.ite) | dsimp only | split | (with_reducible apply Kept.other) | skip

theorem kept_execFxRepLc {a : State} {k : Fin 64} {c : Fin 16} {o : Opnd} {s : State} (h : Kept a s) :
    KeptO a (execFxRepLc k c o s) := by
  unfold execFxRepLc
  iterate 40 all_goals first | (with_reducible assumption) | (with_reducible apply KeptO.next) | (with_reducible apply kept_long) | (with_reducible apply kept_repOp) | (with_reducible apply KeptR.of_go) | (with_reducible apply KeptR.of_trap) | intro _ | (with_reducible apply Kept.ite) | (with_reducible apply KeptR.ite) | dsimp only | split | (with_reducible apply Kept.other) | skip

theorem kept_execFoxWatchdogExpiry {a : State} {k : Fin 64} {s : State} (h : Kept a s) :
    KeptO a (execFoxWatchdogExpiry k s) := by
  unfold execFoxWatchdogExpiry
  iterate 40 all_goals first | (with_reducible assumption) | (with_reducible apply KeptO.next) | (with_reducible apply kept_raise) | (with_reducible apply kept_wdRestart) | (with_reducible apply kept_updTh) | (with_reducible apply kept_trap) | intro _ | (with_reducible apply Kept.ite) | dsimp only | split | (with_reducible apply Kept.other) | skip

theorem kept_waitOp {a : State} {k : Nat} {t : Thread} {m : W24} {d : Option (Fin 16)} :
    KeptR a (waitOp k t m d) := by
  unfold waitOp
  iterate 40 all_goals first | (with_reducible assumption) | (with_reducible apply KeptR.of_trap) | (with_reducible apply KeptR.of_go) | (with_reducible apply kept_updTh) | intro _ | (with_reducible apply Kept.ite) | (with_reducible apply KeptR.ite) | dsimp only | split | (with_reducible apply Kept.other) | skip

theorem kept_execFxWaitph {a : State} {k : Fin 64} {c : Fin 16} {o : Opnd} {s : State} (h : Kept a s) :
    KeptO a (execFxWaitph k c o s) := by
  unfold execFxWaitph
  iterate 40 all_goals first | (with_reducible assumption) | (with_reducible apply KeptO.next) | (with_reducible apply kept_long) | (with_reducible apply kept_waitOp) | (with_reducible apply KeptR.of_go) | (with_reducible apply KeptR.of_trap) | intro _ | (with_reducible apply Kept.ite) | (with_reducible apply KeptR.ite) | dsimp only | split | (with_reducible apply Kept.other) | skip

theorem kept_execFxWaitev {a : State} {k : Fin 64} {c : Fin 16} {o : Opnd} {s : State} (h : Kept a s) :
    KeptO a (execFxWaitev k c o s) := by
  unfold execFxWaitev
  iterate 40 all_goals first | (with_reducible assumption) | (with_reducible apply KeptO.next) | (with_reducible apply kept_long) | (with_reducible apply kept_waitOp) | (with_reducible apply KeptR.of_go) | (with_reducible apply KeptR.of_trap) | intro _ | (with_reducible apply Kept.ite) | (with_reducible apply KeptR.ite) | dsimp only | split | (with_reducible apply Kept.other) | skip

theorem kept_execWaitWake {a : State} {k : Fin 64} {s : State} (h : Kept a s) :
    KeptO a (execWaitWake k s) := by
  unfold execWaitWake
  iterate 40 all_goals first | (with_reducible assumption) | (with_reducible apply KeptO.next) | (with_reducible apply kept_setTh) | intro _ | (with_reducible apply Kept.ite) | dsimp only | split | (with_reducible apply Kept.other) | skip

theorem kept_execSignalDelivery {a : State} {k : Fin 64} {s : State} (h : Kept a s) :
    KeptO a (execSignalDelivery k s) := by
  unfold execSignalDelivery
  iterate 40 all_goals first | (with_reducible assumption) | (with_reducible apply KeptO.next) | (with_reducible apply kept_signal) | intro _ | (with_reducible apply Kept.ite) | dsimp only | split | (with_reducible apply Kept.other) | skip

end Sys2Proof.Machine
end

