-- ==== Sys2Proof/Laws/KeptImage.lean ====
section
/-!
SUPPORT. What the operations of Machine/Image.lean keep.
-/
namespace Sys2Proof.Machine

theorem kept_setFlowByte {a : State} {s : State} {x : Nat} {b : Nat} {v : Byte} (h : Kept a s) :
    Kept a (State.setFlowByte s x b v) := by
  exact Kept.of_flowMem h wf0_set

theorem kept_execFlowStale {a : State} {x : Fin 1024} {s : State} (h : Kept a s) :
    KeptO a (execFlowStale x s) := by
  unfold execFlowStale
  iterate 40 all_goals first | (with_reducible assumption) | (with_reducible apply KeptO.next) | (with_reducible apply kept_raise) | (with_reducible apply kept_tmStop) | (with_reducible apply kept_put) | intro _ | (with_reducible apply Kept.ite) | dsimp only | split | (with_reducible apply Kept.other) | skip

theorem kept_setImgMark {a : State} {s : State} {v : Nat} {w : Nat} {b : Bool} (h : Kept a s) :
    Kept a (State.setImgMark s v w b) := by
  unfold State.setImgMark
  iterate 40 all_goals first | (with_reducible assumption) | (with_reducible apply kept_setMark) | intro _ | (with_reducible apply Kept.ite) | dsimp only | split | (with_reducible apply Kept.other) | skip

theorem kept_moveMarks {a : State} {s : State} {b : Nat} {src : Nat} {dst : Nat} (h : Kept a s) :
    Kept a (State.moveMarks s b src dst) := by
  unfold State.moveMarks
  iterate 40 all_goals first | (with_reducible assumption) | (with_reducible apply kept_each) | (with_reducible apply kept_setImgMark) | intro _ | (with_reducible apply Kept.ite) | dsimp only | split | (with_reducible apply Kept.other) | skip

theorem kept_openBack {a : State} {s : State} {a1 : Nat} (h : Kept a s) :
    Kept a (State.openBack s a1) := by
  unfold State.openBack
  exact Kept.ite h (kept_moveMarks (Kept.of_imgBack h wf0_fill))

theorem kept_setBack {a : State} {s : State} {a1 : Nat} {v : Byte} (h : Kept a s) :
    Kept a (State.setBack s a1 v) := by
  exact Kept.of_imgBack (kept_openBack h) wf0_set

theorem kept_putBack {a : State} {s : State} {a1 : Nat} {l : List Byte} (h : Kept a s) :
    Kept a (State.putBack s a1 l) := by
  unfold State.putBack
  iterate 40 all_goals first | (with_reducible assumption) | (with_reducible apply kept_each) | (with_reducible apply kept_setBack) | (with_reducible apply kept_setImgMark) | intro _ | (with_reducible apply Kept.ite) | dsimp only | split | (with_reducible apply Kept.other) | skip

theorem kept_commitBlk {a : State} {s : State} {b : Nat} (h : Kept a s) :
    Kept a (State.commitBlk s b) := by
  unfold State.commitBlk
  refine kept_moveMarks (Kept.of_imgCur ?_ wf0_fill)
  exact Kept.ite (kept_moveMarks (Kept.of_imgLease h wf0_fill)) h

theorem kept_stopping {a : State} {s : State} {le : Nat} (h : Kept a s) :
    Kept a (State.stopping s le) := by
  unfold State.stopping
  iterate 40 all_goals first | (with_reducible assumption) | (with_reducible apply kept_put) | (with_reducible apply kept_setEng) | intro _ | (with_reducible apply Kept.ite) | dsimp only | split | (with_reducible apply Kept.other) | skip

theorem kept_switchCut {a : State} {s : State} (h : Kept a s) :
    Kept a (State.switchCut s) := by
  unfold State.switchCut
  iterate 40 all_goals first | (with_reducible assumption) | (with_reducible apply kept_each) | (with_reducible apply kept_stopping) | intro _ | (with_reducible apply Kept.ite) | dsimp only | split | (with_reducible apply Kept.other) | skip

theorem kept_snapCopy {a : State} {s : State} (h : Kept a s) :
    Kept a (State.snapCopy s) := by
  unfold State.snapCopy
  iterate 40 all_goals first | (with_reducible assumption) | intro _ | (with_reducible apply Kept.ite) | dsimp only | split | (with_reducible apply Kept.other) | skip

theorem kept_snapCommit {a : State} {s : State} (h : Kept a s) :
    Kept a (State.snapCommit s) := by
  unfold State.snapCommit
  iterate 40 all_goals first | (with_reducible assumption) | (with_reducible apply kept_snapCopy) | intro _ | (with_reducible apply Kept.ite) | dsimp only | split | (with_reducible apply Kept.other) | skip

theorem kept_commit {a : State} {s : State} (h : Kept a s) :
    Kept a (State.commit s) := by
  unfold State.commit
  iterate 40 all_goals first | exact wf0_set | exact wf0_fill | exact wf0_keep | exact wf0_filter | (exact fun _ : SMap.wf _ _ = true => rfl) | exact Nat.le_add_right _ _ | (with_reducible assumption) | (with_reducible apply kept_each) | (with_reducible apply kept_commitBlk) | (with_reducible apply kept_incWrap) | (with_reducible apply kept_switchCut) | intro _ | (with_reducible apply Kept.ite) | dsimp only | split | (with_reducible apply Kept.other) | (with_reducible apply Kept.of_imgBack) | skip

theorem kept_askCommit {a : State} {s : State} (h : Kept a s) :
    Kept a (State.askCommit s) := by
  unfold State.askCommit
  iterate 40 all_goals first | (with_reducible assumption) | intro _ | (with_reducible apply Kept.ite) | dsimp only | split | (with_reducible apply Kept.other) | skip

theorem kept_execCommitNow {a : State} {s : State} (h : Kept a s) :
    KeptO a (execCommitNow s) := by
  unfold execCommitNow
  iterate 40 all_goals first | (with_reducible assumption) | (with_reducible apply KeptO.next) | (with_reducible apply kept_hostWr) | (with_reducible apply kept_askCommit) | intro _ | (with_reducible apply Kept.ite) | dsimp only | split | (with_reducible apply Kept.other) | skip

theorem kept_freeLeased {a : State} {s : State} (h : Kept a s) :
    Kept a (State.freeLeased s) := by
  exact Kept.of_imgLease h (fun _ => rfl)

theorem kept_leaseOpen {a : State} {s : State} {v : Nat} (h : Kept a s) :
    Kept a (State.leaseOpen s v) := by
  unfold State.leaseOpen
  iterate 40 all_goals first | (with_reducible assumption) | (with_reducible apply kept_put) | (with_reducible apply kept_freeLeased) | intro _ | (with_reducible apply Kept.ite) | dsimp only | split | (with_reducible apply Kept.other) | skip

theorem kept_leaseClose {a : State} {s : State} (h : Kept a s) :
    Kept a (State.leaseClose s) := by
  unfold State.leaseClose
  iterate 40 all_goals first | (with_reducible assumption) | (with_reducible apply kept_put) | (with_reducible apply kept_freeLeased) | intro _ | (with_reducible apply Kept.ite) | dsimp only | split | (with_reducible apply Kept.other) | skip

theorem kept_execImgLeaseOpen {a : State} {v : W32} {s : State} (h : Kept a s) :
    KeptO a (execImgLeaseOpen v s) := by
  unfold execImgLeaseOpen
  iterate 40 all_goals first | (with_reducible assumption) | (with_reducible apply KeptO.next) | (with_reducible apply kept_hostWr) | (with_reducible apply kept_leaseOpen) | intro _ | (with_reducible apply Kept.ite) | dsimp only | split | (with_reducible apply Kept.other) | skip

theorem kept_execImgLeaseClose {a : State} {s : State} (h : Kept a s) :
    KeptO a (execImgLeaseClose s) := by
  unfold execImgLeaseClose
  iterate 40 all_goals first | (with_reducible assumption) | (with_reducible apply KeptO.next) | (with_reducible apply kept_hostWr) | (with_reducible apply kept_leaseClose) | intro _ | (with_reducible apply Kept.ite) | dsimp only | split | (with_reducible apply Kept.other) | skip

theorem kept_execLeaseExpire {a : State} {s : State} (h : Kept a s) :
    KeptO a (execLeaseExpire s) := by
  unfold execLeaseExpire
  iterate 40 all_goals first | (with_reducible assumption) | (with_reducible apply KeptO.next) | (with_reducible apply kept_doorbell) | (with_reducible apply kept_put) | (with_reducible apply kept_leaseClose) | intro _ | (with_reducible apply Kept.ite) | dsimp only | split | (with_reducible apply Kept.other) | skip

theorem kept_snapGo {a : State} {s : State} {whn : Bool} {clear : Bool} (h : Kept a s) :
    Kept a (State.snapGo s whn clear) := by
  unfold State.snapGo
  iterate 40 all_goals first | (with_reducible assumption) | (with_reducible apply kept_put) | intro _ | (with_reducible apply Kept.ite) | dsimp only | split | (with_reducible apply Kept.other) | skip

theorem kept_snapRelease {a : State} {s : State} (h : Kept a s) :
    Kept a (State.snapRelease s) := by
  unfold State.snapRelease
  iterate 40 all_goals first | (with_reducible assumption) | (with_reducible apply kept_put) | intro _ | (with_reducible apply Kept.ite) | dsimp only | split | (with_reducible apply Kept.other) | skip

theorem kept_snapCancel {a : State} {s : State} (h : Kept a s) :
    Kept a (State.snapCancel s) := by
  unfold State.snapCancel
  iterate 40 all_goals first | (with_reducible assumption) | (with_reducible apply kept_put) | intro _ | (with_reducible apply Kept.ite) | dsimp only | split | (with_reducible apply Kept.other) | skip

theorem kept_execCsnapGo {a : State} {whn : Bool} {clear : Bool} {s : State} (h : Kept a s) :
    KeptO a (execCsnapGo whn clear s) := by
  unfold execCsnapGo
  iterate 40 all_goals first | (with_reducible assumption) | (with_reducible apply KeptO.next) | (with_reducible apply kept_hostWr) | (with_reducible apply kept_snapGo) | intro _ | (with_reducible apply Kept.ite) | dsimp only | split | (with_reducible apply Kept.other) | skip

theorem kept_execCsnapRelease {a : State} {s : State} (h : Kept a s) :
    KeptO a (execCsnapRelease s) := by
  unfold execCsnapRelease
  iterate 40 all_goals first | (with_reducible assumption) | (with_reducible apply KeptO.next) | (with_reducible apply kept_hostWr) | (with_reducible apply kept_snapRelease) | intro _ | (with_reducible apply Kept.ite) | dsimp only | split | (with_reducible apply Kept.other) | skip

theorem kept_snapEdge {a : State} {s : State} (h : Kept a s) :
    Kept a (State.snapEdge s) := by
  unfold State.snapEdge
  iterate 40 all_goals first | (with_reducible assumption) | (with_reducible apply kept_snapCopy) | (with_reducible apply kept_put) | intro _ | (with_reducible apply Kept.ite) | dsimp only | split | (with_reducible apply Kept.other) | skip

theorem kept_hostPut {a : State} {s : State} {a1 : Nat} {l : List Byte} (h : Kept a s) :
    Kept a (State.hostPut s a1 l) := by
  unfold State.hostPut
  iterate 40 all_goals first | (with_reducible assumption) | (with_reducible apply kept_putCram) | intro _ | (with_reducible apply Kept.ite) | dsimp only | split | (with_reducible apply Kept.other) | skip

theorem kept_bar2Write {a : State} {s : State} {a1 : Nat} {l : List Byte} (h : Kept a s) :
    Kept a (State.bar2Write s a1 l) := by
  unfold State.bar2Write
  iterate 40 all_goals first | (with_reducible assumption) | (with_reducible apply kept_logPwe) | (with_reducible apply kept_logRefuse) | (with_reducible apply kept_hostPut) | (with_reducible apply kept_putBack) | (with_reducible apply kept_inc) | intro _ | (with_reducible apply Kept.ite) | dsimp only | split | (with_reducible apply Kept.other) | skip

theorem kept_mergeUe {a : State} {s : State} {a1 : Nat} (h : Kept a s) :
    Kept a (State.mergeUe s a1) := by
  unfold State.mergeUe
  iterate 40 all_goals first | (with_reducible assumption) | (with_reducible apply kept_setMark) | (with_reducible apply kept_memUe) | intro _ | (with_reducible apply Kept.ite) | dsimp only | split | (with_reducible apply Kept.other) | skip

theorem kept_bar2Read {a : State} {s : State} {a1 : Nat} {n : Nat} (h : Kept a s) :
    Kept a (State.bar2Read s a1 n) := by
  unfold State.bar2Read
  iterate 40 all_goals first | (with_reducible assumption) | (with_reducible apply kept_logRefuse) | intro _ | (with_reducible apply Kept.ite) | dsimp only | split | (with_reducible apply Kept.other) | skip

end Sys2Proof.Machine
end

