-- ==== Sys2Proof/Laws/KeptFabric.lean ====
section
/-!
SUPPORT. What the operations of Machine/Fabric.lean keep.
-/
namespace Sys2Proof.Machine

theorem kept_setPort {a : State} {s : State} {p : Nat} {x : Port} (h : Kept a s) :
    Kept a (State.setPort s p x) := by
  unfold State.setPort
  iterate 40 all_goals first | (with_reducible assumption) | intro _ | (with_reducible apply Kept.ite) | dsimp only | split | (with_reducible apply Kept.other) | skip

theorem kept_updPort {a : State} {s : State} {p : Nat} {g : Port → Port} (h : Kept a s) :
    Kept a (State.updPort s p g) := by
  unfold State.updPort
  iterate 40 all_goals first | (with_reducible assumption) | (with_reducible apply kept_setPort) | intro _ | (with_reducible apply Kept.ite) | dsimp only | split | (with_reducible apply Kept.other) | skip

theorem kept_lpiExit {a : State} {s : State} {n : Nat} (h : Kept a s) :
    Kept a (State.lpiExit s n) := by
  unfold State.lpiExit
  iterate 40 all_goals first | (with_reducible assumption) | (with_reducible apply kept_inc) | (with_reducible apply kept_put) | intro _ | (with_reducible apply Kept.ite) | dsimp only | split | (with_reducible apply Kept.other) | skip

theorem kept_pauseGo {a : State} {s : State} {n : Nat} (h : Kept a s) :
    Kept a (State.pauseGo s n) := by
  unfold State.pauseGo
  iterate 40 all_goals first | (with_reducible assumption) | (with_reducible apply kept_inc) | (with_reducible apply kept_lpiExit) | (with_reducible apply kept_tmStart) | (with_reducible apply kept_updPort) | intro _ | (with_reducible apply Kept.ite) | dsimp only | split | (with_reducible apply Kept.other) | skip

theorem kept_flowCtl {a : State} {s : State} {n : Nat} {on : Bool} (h : Kept a s) :
    Kept a (State.flowCtl s n on) := by
  unfold State.flowCtl
  iterate 40 all_goals first | (with_reducible assumption) | (with_reducible apply kept_pauseGo) | (with_reducible apply kept_updPort) | intro _ | (with_reducible apply Kept.ite) | dsimp only | split | (with_reducible apply Kept.other) | skip

theorem kept_takeExt {a : State} {s : State} {i : Nat} {c : Nat × Nat} (h : Kept a s) :
    Kept a (State.takeExt s i c) := by
  unfold State.takeExt
  iterate 40 all_goals first | (with_reducible assumption) | (with_reducible apply kept_put) | (with_reducible apply kept_flowCtl) | (with_reducible apply kept_inc) | intro _ | (with_reducible apply Kept.ite) | dsimp only | split | (with_reducible apply Kept.other) | skip

theorem kept_stageTake {a : State} {s : State} {k : Nat} {n : Nat} (h : Kept a s) :
    Kept a (State.stageTake s k n) := by
  unfold State.stageTake
  iterate 40 all_goals first | (with_reducible assumption) | (with_reducible apply kept_put) | intro _ | (with_reducible apply Kept.ite) | dsimp only | split | (with_reducible apply Kept.other) | skip

theorem kept_freeCells {a : State} {s : State} {f : Frame} (h : Kept a s) :
    Kept a (State.freeCells s f) := by
  unfold State.freeCells
  iterate 40 all_goals first | (with_reducible assumption) | (with_reducible apply kept_put) | (with_reducible apply kept_flowCtl) | intro _ | (with_reducible apply Kept.ite) | dsimp only | split | (with_reducible apply Kept.other) | skip

theorem kept_dropFrame {a : State} {s : State} {h1 : Nat} (h : Kept a s) :
    Kept a (State.dropFrame s h1) := by
  unfold State.dropFrame
  iterate 40 all_goals first | (with_reducible assumption) | (with_reducible apply kept_freeCells) | intro _ | (with_reducible apply Kept.ite) | dsimp only | split | (with_reducible apply Kept.other) | skip

theorem kept_complete {a : State} {s : State} {k : Nat} {c : Completion} (h : Kept a s) :
    Kept a (State.complete s k c) := by
  unfold State.complete
  iterate 40 all_goals first | (with_reducible assumption) | (with_reducible apply kept_setEvp) | (with_reducible apply kept_updTh) | intro _ | (with_reducible apply Kept.ite) | dsimp only | split | (with_reducible apply Kept.other) | skip

theorem kept_hostComplete {a : State} {s : State} {tag : Nat} {status : Nat} {egress : Nat} (h : Kept a s) :
    Kept a (State.hostComplete s tag status egress) := by
  unfold State.hostComplete
  iterate 40 all_goals first | (with_reducible assumption) | (with_reducible apply kept_doorbell) | intro _ | (with_reducible apply Kept.ite) | dsimp only | split | (with_reducible apply Kept.other) | skip

theorem kept_owe {a : State} {s : State} {f : Frame} (h : Kept a s) :
    Kept a (State.owe s f) := by
  unfold State.owe
  iterate 40 all_goals first | (with_reducible assumption) | (with_reducible apply kept_complete) | (with_reducible apply kept_hostComplete) | intro _ | (with_reducible apply Kept.ite) | dsimp only | split | (with_reducible apply Kept.other) | skip

theorem kept_finish {a : State} {s : State} {h1 : Nat} (h : Kept a s) :
    Kept a (State.finish s h1) := by
  unfold State.finish
  iterate 40 all_goals first | (with_reducible assumption) | (with_reducible apply kept_dropFrame) | (with_reducible apply kept_owe) | intro _ | (with_reducible apply Kept.ite) | dsimp only | split | (with_reducible apply Kept.other) | skip

theorem kept_holdShow {a : State} {s : State} {o : Nat} (h : Kept a s) :
    Kept a (State.holdShow s o) := by
  unfold State.holdShow
  iterate 40 all_goals first | (with_reducible assumption) | (with_reducible apply kept_put) | intro _ | (with_reducible apply Kept.ite) | dsimp only | split | (with_reducible apply Kept.other) | skip

theorem kept_dropAt {a : State} {s : State} {h1 : Nat} {o : Nat} {status : Nat} {ctr : Field} (h : Kept a s) :
    Kept a (State.dropAt s h1 o status ctr) := by
  unfold State.dropAt
  iterate 40 all_goals first | (with_reducible assumption) | (with_reducible apply kept_inc) | (with_reducible apply kept_setFrame) | intro _ | (with_reducible apply Kept.ite) | dsimp only | split | (with_reducible apply Kept.other) | skip

theorem kept_unqueue {a : State} {s : State} {h1 : Nat} {o : Nat} (h : Kept a s) :
    Kept a (State.unqueue s h1 o) := by
  unfold State.unqueue
  iterate 40 all_goals first | (with_reducible assumption) | intro _ | (with_reducible apply Kept.ite) | dsimp only | split | (with_reducible apply Kept.other) | skip

theorem kept_unpin {a : State} {s : State} {h1 : Nat} (h : Kept a s) :
    Kept a (State.unpin s h1) := by
  unfold State.unpin
  iterate 40 all_goals first | (with_reducible assumption) | intro _ | (with_reducible apply Kept.ite) | dsimp only | split | (with_reducible apply Kept.other) | skip

theorem kept_mirrorCopy {a : State} {s : State} {n : Nat} {dst : Nat} {f : Frame} {runt : Bool} {mh : Nat} (h : Kept a s) :
    Kept a (State.mirrorCopy s n dst f runt mh) := by
  unfold State.mirrorCopy
  iterate 40 all_goals first | (with_reducible assumption) | (with_reducible apply kept_inc) | (with_reducible apply kept_tookFree) | (with_reducible apply kept_put) | (with_reducible apply kept_setFrame) | intro _ | (with_reducible apply Kept.ite) | dsimp only | split | (with_reducible apply Kept.other) | skip

theorem kept_mirrorRx {a : State} {s : State} {i : Nat} {f : Frame} {runt : Bool} {mh : Nat} (h : Kept a s) :
    Kept a (State.mirrorRx s i f runt mh) := by
  unfold State.mirrorRx
  iterate 40 all_goals first | (with_reducible assumption) | (with_reducible apply kept_mirrorCopy) | intro _ | (with_reducible apply Kept.ite) | dsimp only | split | (with_reducible apply Kept.other) | skip

theorem kept_mirrorTx {a : State} {s : State} {o : Nat} {f : Frame} {mh : Nat} (h : Kept a s) :
    Kept a (State.mirrorTx s o f mh) := by
  unfold State.mirrorTx
  iterate 40 all_goals first | (with_reducible assumption) | (with_reducible apply kept_mirrorCopy) | intro _ | (with_reducible apply Kept.ite) | dsimp only | split | (with_reducible apply Kept.other) | skip

theorem kept_refuseAt {a : State} {s : State} {h1 : Nat} {o : Nat} {x3 : Judge} (h : Kept a s) :
    Kept a (State.refuseAt s h1 o x3) := by
  unfold State.refuseAt
  iterate 40 all_goals first | (with_reducible assumption) | (with_reducible apply kept_dropAt) | intro _ | (with_reducible apply Kept.ite) | dsimp only | split | (with_reducible apply Kept.other) | skip

theorem kept_flowReleased {a : State} {s : State} {x : Option Nat} (h : Kept a s) :
    Kept a (State.flowReleased s x) := by
  unfold State.flowReleased
  iterate 40 all_goals first | (with_reducible assumption) | (with_reducible apply kept_when) | (with_reducible apply kept_tmStart) | (with_reducible apply kept_put) | (with_reducible apply kept_incWrap) | intro _ | (with_reducible apply Kept.ite) | dsimp only | split | (with_reducible apply Kept.other) | skip

theorem kept_tapUsc {a : State} {s : State} {i : Nat} {x : Option Nat} {f : Frame} (h : Kept a s) :
    Kept a (State.tapUsc s i x f) := by
  unfold State.tapUsc
  iterate 40 all_goals first | (with_reducible assumption) | intro _ | (with_reducible apply Kept.ite) | dsimp only | split | (with_reducible apply Kept.other) | skip

theorem kept_flowCancelled {a : State} {s : State} {x : Option Nat} (h : Kept a s) :
    Kept a (State.flowCancelled s x) := by
  unfold State.flowCancelled
  iterate 40 all_goals first | (with_reducible assumption) | (with_reducible apply kept_incWrap) | intro _ | (with_reducible apply Kept.ite) | dsimp only | split | (with_reducible apply Kept.other) | skip

theorem kept_passed {a : State} {s : State} {i : Nat} {h1 : Nat} {mh : Nat} (h : Kept a s) :
    Kept a (State.passed s i h1 mh) := by
  unfold State.passed
  iterate 40 all_goals first | (with_reducible assumption) | (with_reducible apply kept_mirrorRx) | (with_reducible apply kept_tapUsc) | (with_reducible apply kept_flowReleased) | (with_reducible apply kept_inc) | intro _ | (with_reducible apply Kept.ite) | dsimp only | split | (with_reducible apply Kept.other) | skip

theorem kept_release {a : State} {s : State} {i : Nat} {h1 : Nat} {lk : Look} {ext : Bool} {mh : Nat} (h : Kept a s) :
    Kept a (State.release s i h1 lk ext mh) := by
  unfold State.release
  iterate 40 all_goals first | (with_reducible assumption) | (with_reducible apply kept_finish) | (with_reducible apply kept_inc) | (with_reducible apply kept_setFrame) | (with_reducible apply kept_passed) | (with_reducible apply kept_each) | (with_reducible apply kept_refuseAt) | intro _ | (with_reducible apply Kept.ite) | dsimp only | split | (with_reducible apply Kept.other) | skip

theorem kept_cancel {a : State} {s : State} {i : Nat} {h1 : Nat} {flow : Option Nat} {status : Nat} {ctr : Field} (h : Kept a s) :
    Kept a (State.cancel s i h1 flow status ctr) := by
  unfold State.cancel
  iterate 40 all_goals first | (with_reducible assumption) | (with_reducible apply kept_setFrame) | (with_reducible apply kept_finish) | (with_reducible apply kept_flowCancelled) | (with_reducible apply kept_inc) | intro _ | (with_reducible apply Kept.ite) | dsimp only | split | (with_reducible apply Kept.other) | skip

theorem kept_receiveExt {a : State} {s : State} {i : Nat} {l : List Byte} {fcs : Bool} {lost : Bool} {rxts : Option Stamp} {sfd : Nat} {hdr : Nat} {h1 : Nat} {mh : Nat} (h : Kept a s) :
    Kept a (State.receiveExt s i l fcs lost rxts sfd hdr h1 mh) := by
  unfold State.receiveExt
  iterate 40 all_goals first | (with_reducible assumption) | (with_reducible apply kept_asOf) | (with_reducible apply kept_setFrame) | (with_reducible apply kept_takeExt) | (with_reducible apply kept_tookFree) | (with_reducible apply kept_cancel) | (with_reducible apply kept_mirrorRx) | (with_reducible apply kept_release) | intro _ | (with_reducible apply Kept.ite) | dsimp only | split | (with_reducible apply Kept.other) | skip

theorem kept_submit {a : State} {s : State} {i : Nat} {h1 : Nat} {spec : Nat} (h : Kept a s) :
    Kept a (State.submit s i h1 spec) := by
  unfold State.submit
  iterate 40 all_goals first | (with_reducible assumption) | (with_reducible apply kept_setFrame) | intro _ | (with_reducible apply Kept.ite) | dsimp only | split | (with_reducible apply Kept.other) | skip

theorem kept_verdictInt {a : State} {s : State} {i : Nat} {h1 : Nat} {spec : Nat} {mh : Nat} (h : Kept a s) :
    Kept a (State.verdictInt s i h1 spec mh) := by
  unfold State.verdictInt
  iterate 40 all_goals first | (with_reducible assumption) | (with_reducible apply kept_asOf) | (with_reducible apply kept_setFrame) | (with_reducible apply kept_cancel) | (with_reducible apply kept_release) | intro _ | (with_reducible apply Kept.ite) | dsimp only | split | (with_reducible apply Kept.other) | skip

theorem kept_execStage1Transfer {a : State} {i : Fin 32} {k : Fin 32} {s : State} (h : Kept a s) :
    KeptO a (execStage1Transfer i k s) := by
  unfold execStage1Transfer
  iterate 40 all_goals first | (with_reducible assumption) | (with_reducible apply KeptO.next) | intro _ | (with_reducible apply Kept.ite) | dsimp only | split | (with_reducible apply Kept.other) | skip

theorem kept_unrel {a : State} {s : State} {o : Nat} {h1 : Nat} (h : Kept a s) :
    Kept a (State.unrel s o h1) := by
  unfold State.unrel
  iterate 40 all_goals first | (with_reducible assumption) | (with_reducible apply kept_updPort) | intro _ | (with_reducible apply Kept.ite) | dsimp only | split | (with_reducible apply Kept.other) | skip

theorem kept_gateShut {a : State} {s : State} {o : Nat} (h : Kept a s) :
    Kept a (State.gateShut s o) := by
  unfold State.gateShut
  iterate 40 all_goals first | (with_reducible assumption) | (with_reducible apply kept_updPort) | intro _ | (with_reducible apply Kept.ite) | dsimp only | split | (with_reducible apply Kept.other) | skip

theorem kept_dropHead {a : State} {s : State} {h1 : Nat} {o : Nat} {status : Nat} {ctr : Field} (h : Kept a s) :
    Kept a (State.dropHead s h1 o status ctr) := by
  unfold State.dropHead
  iterate 40 all_goals first | (with_reducible assumption) | (with_reducible apply kept_holdShow) | (with_reducible apply kept_finish) | (with_reducible apply kept_unrel) | (with_reducible apply kept_unpin) | (with_reducible apply kept_dropAt) | (with_reducible apply kept_unqueue) | intro _ | (with_reducible apply Kept.ite) | dsimp only | split | (with_reducible apply Kept.other) | skip

theorem kept_purgeN {a : State} {s : State} {o : Nat} {x2 : Nat} (h : Kept a s) :
    Kept a (State.purgeN s o x2) := by
  induction x2 generalizing s with
  | zero => exact h
  | succ n ih =>
    rw [State.purgeN]
    split
    · exact h
    · exact ih (kept_dropHead h)

theorem kept_purge {a : State} {s : State} {o : Nat} (h : Kept a s) :
    Kept a (State.purge s o) := by
  unfold State.purge
  iterate 40 all_goals first | (with_reducible assumption) | (with_reducible apply kept_purgeN) | intro _ | (with_reducible apply Kept.ite) | dsimp only | split | (with_reducible apply Kept.other) | skip

theorem kept_execStage2Transfer {a : State} {k : Fin 32} {o : Fin 32} {s : State} (h : Kept a s) :
    KeptO a (execStage2Transfer k o s) := by
  unfold execStage2Transfer
  iterate 40 all_goals first | (with_reducible assumption) | (with_reducible apply KeptO.next) | (with_reducible apply kept_purge) | intro _ | (with_reducible apply Kept.ite) | dsimp only | split | (with_reducible apply Kept.other) | skip

theorem kept_execFrameAged {a : State} {o : Fin 32} {c : Fin 8} {s : State} (h : Kept a s) :
    KeptO a (execFrameAged o c s) := by
  unfold execFrameAged
  iterate 40 all_goals first | (with_reducible assumption) | (with_reducible apply KeptO.next) | (with_reducible apply kept_purge) | (with_reducible apply kept_dropHead) | intro _ | (with_reducible apply Kept.ite) | dsimp only | split | (with_reducible apply Kept.other) | skip

theorem kept_execAonReevaluate {a : State} {i : Fin 32} {k : Fin 32} {s : State} (h : Kept a s) :
    KeptO a (execAonReevaluate i k s) := by
  unfold execAonReevaluate
  iterate 40 all_goals first | (with_reducible assumption) | (with_reducible apply KeptO.next) | (with_reducible apply kept_each) | (with_reducible apply kept_passed) | (with_reducible apply kept_setFrame) | intro _ | (with_reducible apply Kept.ite) | dsimp only | split | (with_reducible apply Kept.other) | skip

theorem kept_execAonExpire {a : State} {i : Fin 32} {k : Fin 32} {s : State} (h : Kept a s) :
    KeptO a (execAonExpire i k s) := by
  unfold execAonExpire
  iterate 40 all_goals first | (with_reducible assumption) | (with_reducible apply KeptO.next) | (with_reducible apply kept_each) | (with_reducible apply kept_setFrame) | (with_reducible apply kept_finish) | (with_reducible apply kept_inc) | intro _ | (with_reducible apply Kept.ite) | dsimp only | split | (with_reducible apply Kept.other) | skip

theorem kept_flush {a : State} {s : State} {o : Nat} {p : Frame → Bool} (h : Kept a s) :
    Kept a (State.flush s o p) := by
  unfold State.flush
  iterate 40 all_goals first | (with_reducible assumption) | (with_reducible apply kept_each) | (with_reducible apply kept_dropHead) | intro _ | (with_reducible apply Kept.ite) | dsimp only | split | (with_reducible apply Kept.other) | skip

end Sys2Proof.Machine
end

