-- ==== Sys2Proof/Laws/KeptShrew.lean ====
section
/-!
SUPPORT. What the operations of Machine/Shrew.lean keep.
-/
namespace Sys2Proof.Machine

theorem kept_setShr {a : State} {s : State} {e : Nat} {x : Shrew} (h : Kept a s) :
    Kept a (State.setShr s e x) := by
  unfold State.setShr
  iterate 40 all_goals first | (with_reducible assumption) | intro _ | (with_reducible apply Kept.ite) | dsimp only | split | (with_reducible apply Kept.other) | skip

theorem kept_updShr {a : State} {s : State} {e : Nat} {g : Shrew → Shrew} (h : Kept a s) :
    Kept a (State.updShr s e g) := by
  unfold State.updShr
  iterate 40 all_goals first | (with_reducible assumption) | (with_reducible apply kept_setShr) | intro _ | (with_reducible apply Kept.ite) | dsimp only | split | (with_reducible apply Kept.other) | skip

theorem kept_driveRaw {a : State} {s : State} {e : Nat} {l : Nat} {b : Bool} (h : Kept a s) :
    Kept a (State.driveRaw s e l b) := by
  unfold State.driveRaw
  iterate 40 all_goals first | (with_reducible assumption) | intro _ | (with_reducible apply Kept.ite) | dsimp only | split | (with_reducible apply Kept.other) | skip

theorem kept_drive {a : State} {s : State} {e : Nat} {l : Nat} {b : Bool} (h : Kept a s) :
    Kept a (State.drive s e l b) := by
  unfold State.drive
  iterate 40 all_goals first | (with_reducible assumption) | (with_reducible apply kept_driveRaw) | intro _ | (with_reducible apply Kept.ite) | dsimp only | split | (with_reducible apply Kept.other) | skip

theorem kept_driveOe {a : State} {s : State} {e : Nat} {l : Nat} {b : Bool} (h : Kept a s) :
    Kept a (State.driveOe s e l b) := by
  unfold State.driveOe
  iterate 40 all_goals first | (with_reducible assumption) | intro _ | (with_reducible apply Kept.ite) | dsimp only | split | (with_reducible apply Kept.other) | skip

theorem kept_kEnd {a : State} {s : State} {e : Nat} (h : Kept a s) :
    Kept a (State.kEnd s e) := by
  unfold State.kEnd
  iterate 40 all_goals first | (with_reducible assumption) | (with_reducible apply kept_updShr) | (with_reducible apply kept_driveRaw) | intro _ | (with_reducible apply Kept.ite) | dsimp only | split | (with_reducible apply Kept.other) | skip

theorem kept_strobe {a : State} {s : State} {e : Nat} {k : Bool} (h : Kept a s) :
    Kept a (State.strobe s e k) := by
  unfold State.strobe
  iterate 40 all_goals first | (with_reducible assumption) | (with_reducible apply kept_updShr) | (with_reducible apply kept_driveRaw) | intro _ | (with_reducible apply Kept.ite) | dsimp only | split | (with_reducible apply Kept.other) | skip

theorem kept_shrEvt {a : State} {s : State} {e : Nat} {b : Nat} (h : Kept a s) :
    Kept a (State.shrEvt s e b) := by
  unfold State.shrEvt
  iterate 40 all_goals first | (with_reducible assumption) | (with_reducible apply kept_setEvp) | intro _ | (with_reducible apply Kept.ite) | dsimp only | split | (with_reducible apply Kept.other) | skip

theorem kept_rxfPush {a : State} {s : State} {e : Nat} {w : W24} (h : Kept a s) :
    Kept a (State.rxfPush s e w) := by
  unfold State.rxfPush
  iterate 40 all_goals first | (with_reducible assumption) | (with_reducible apply kept_setShr) | (with_reducible apply kept_shrEvt) | intro _ | (with_reducible apply Kept.ite) | dsimp only | split | (with_reducible apply Kept.other) | skip

theorem kept_txfShrink {a : State} {s : State} {e : Nat} {q : List W24} (h : Kept a s) :
    Kept a (State.txfShrink s e q) := by
  unfold State.txfShrink
  iterate 40 all_goals first | (with_reducible assumption) | (with_reducible apply kept_setShr) | (with_reducible apply kept_shrEvt) | intro _ | (with_reducible apply Kept.ite) | dsimp only | split | (with_reducible apply Kept.other) | skip

theorem kept_txfPush {a : State} {s : State} {e : Nat} {w : W24} (h : Kept a s) :
    Kept a (State.txfPush s e w).2 := by
  unfold State.txfPush
  iterate 40 all_goals first | (with_reducible assumption) | (with_reducible apply kept_setShr) | intro _ | (with_reducible apply Kept.ite) | dsimp only | split | (with_reducible apply Kept.other) | skip

theorem kept_txfPush_eq {a : State} {s : State} {e : Nat} {w : W24} {u : State} {r0 : Bool} (hq : (State.txfPush s e w) = (r0, u)) (h : Kept a s) : Kept a u := by
  have g := kept_txfPush (s := s) (e := e) (w := w) h
  rw [hq] at g
  exact g

theorem kept_rxfPop {a : State} {s : State} {e : Nat} (h : Kept a s) :
    Kept a (State.rxfPop s e).2 := by
  unfold State.rxfPop
  iterate 40 all_goals first | (with_reducible assumption) | (with_reducible apply kept_setShr) | intro _ | (with_reducible apply Kept.ite) | dsimp only | split | (with_reducible apply Kept.other) | skip

theorem kept_rxfPop_eq {a : State} {s : State} {e : Nat} {u : State} {r0 : Option W24} (hq : (State.rxfPop s e) = (r0, u)) (h : Kept a s) : Kept a u := by
  have g := kept_rxfPop (s := s) (e := e) h
  rw [hq] at g
  exact g

theorem kept_shFault {a : State} {s : State} {e : Nat} (h : Kept a s) :
    Kept a (State.shFault s e) := by
  unfold State.shFault
  iterate 40 all_goals first | (with_reducible assumption) | (with_reducible apply kept_raise) | (with_reducible apply kept_put) | (with_reducible apply kept_updShr) | intro _ | (with_reducible apply Kept.ite) | dsimp only | split | (with_reducible apply Kept.other) | skip

theorem kept_shUe {a : State} {s : State} {e : Nat} (h : Kept a s) :
    Kept a (State.shUe s e) := by
  unfold State.shUe
  iterate 40 all_goals first | (with_reducible assumption) | (with_reducible apply kept_chFault) | (with_reducible apply kept_shFault) | (with_reducible apply kept_hard) | (with_reducible apply kept_setChan) | intro _ | (with_reducible apply Kept.ite) | dsimp only | split | (with_reducible apply Kept.other) | skip

theorem kept_shTick {a : State} {s : State} {e : Nat} {x : ShTick} {legal : Bool} {run : Shrew → State → State} (h : Kept a s) (hg : ∀ x0 t, Kept a t → Kept a (run x0 t)) :
    Kept a (State.shTick s e x legal run) := by
  unfold State.shTick
  iterate 40 all_goals first | (with_reducible assumption) | (with_reducible apply hg) | (with_reducible apply kept_put) | (with_reducible apply kept_shUe) | (with_reducible apply kept_chFault) | (with_reducible apply kept_shFault) | intro _ | (with_reducible apply Kept.ite) | dsimp only | split | (with_reducible apply Kept.other) | skip

theorem kept_shGo {a : State} {s : State} {e : Nat} {pc : Nat} (h : Kept a s) :
    Kept a (State.shGo s e pc) := by
  unfold State.shGo
  iterate 40 all_goals first | (with_reducible assumption) | (with_reducible apply kept_updShr) | intro _ | (with_reducible apply Kept.ite) | dsimp only | split | (with_reducible apply Kept.other) | skip

theorem kept_shNext {a : State} {s : State} {e : Nat} (h : Kept a s) :
    Kept a (State.shNext s e) := by
  unfold State.shNext
  iterate 40 all_goals first | (with_reducible assumption) | (with_reducible apply kept_shGo) | intro _ | (with_reducible apply Kept.ite) | dsimp only | split | (with_reducible apply Kept.other) | skip

theorem kept_shAgain {a : State} {s : State} {e : Nat} {st : ShSt} (h : Kept a s) :
    Kept a (State.shAgain s e st) := by
  unfold State.shAgain
  iterate 40 all_goals first | (with_reducible assumption) | (with_reducible apply kept_updShr) | intro _ | (with_reducible apply Kept.ite) | dsimp only | split | (with_reducible apply Kept.other) | skip

theorem kept_execShrewBr {a : State} {e : Fin 32} {x : ShTick} {o : BitVec 12} {s : State} (h : Kept a s) :
    KeptO a (execShrewBr e x o s) := by
  unfold execShrewBr
  iterate 40 all_goals first | (with_reducible assumption) | (with_reducible apply KeptO.next) | (with_reducible apply kept_shTick) | (with_reducible apply kept_shGo) | intro _ | (with_reducible apply Kept.ite) | dsimp only | split | (with_reducible apply Kept.other) | skip

theorem kept_execWait {a : State} {e : Fin 32} {x : ShTick} {o : BitVec 12} {s : State} (h : Kept a s) :
    KeptO a (execWait e x o s) := by
  unfold execWait
  iterate 40 all_goals first | (with_reducible assumption) | (with_reducible apply KeptO.next) | (with_reducible apply kept_shTick) | (with_reducible apply kept_shNext) | (with_reducible apply kept_shAgain) | (with_reducible apply kept_updShr) | (with_reducible apply kept_put) | intro _ | (with_reducible apply Kept.ite) | dsimp only | split | (with_reducible apply Kept.other) | skip

theorem kept_execSet {a : State} {e : Fin 32} {x : ShTick} {o : BitVec 12} {s : State} (h : Kept a s) :
    KeptO a (execSet e x o s) := by
  unfold execSet
  iterate 40 all_goals first | (with_reducible assumption) | (with_reducible apply KeptO.next) | (with_reducible apply kept_shTick) | (with_reducible apply kept_each) | (with_reducible apply kept_driveOe) | (with_reducible apply kept_drive) | (with_reducible apply kept_shNext) | (with_reducible apply kept_strobe) | intro _ | (with_reducible apply Kept.ite) | dsimp only | split | (with_reducible apply Kept.other) | skip

theorem kept_execLdc {a : State} {e : Fin 32} {x : ShTick} {o : BitVec 12} {s : State} (h : Kept a s) :
    KeptO a (execLdc e x o s) := by
  unfold execLdc
  iterate 40 all_goals first | (with_reducible assumption) | (with_reducible apply KeptO.next) | (with_reducible apply kept_shTick) | (with_reducible apply kept_shNext) | (with_reducible apply kept_strobe) | (with_reducible apply kept_updShr) | intro _ | (with_reducible apply Kept.ite) | dsimp only | split | (with_reducible apply Kept.other) | skip

theorem kept_shRep {a : State} {s : State} {e : Nat} {rep : Nat} {untilDone : Bool} (h : Kept a s) :
    Kept a (State.shRep s e rep untilDone) := by
  unfold State.shRep
  iterate 40 all_goals first | (with_reducible assumption) | (with_reducible apply kept_shNext) | (with_reducible apply kept_shAgain) | (with_reducible apply kept_updShr) | intro _ | (with_reducible apply Kept.ite) | dsimp only | split | (with_reducible apply Kept.other) | skip

theorem kept_execOut {a : State} {e : Fin 32} {x : ShTick} {o : BitVec 12} {s : State} (h : Kept a s) :
    KeptO a (execOut e x o s) := by
  unfold execOut
  iterate 40 all_goals first | (with_reducible assumption) | (with_reducible apply KeptO.next) | (with_reducible apply kept_shTick) | (with_reducible apply kept_shAgain) | (with_reducible apply kept_setShr) | (with_reducible apply kept_each) | (with_reducible apply kept_drive) | (with_reducible apply kept_shRep) | (with_reducible apply kept_strobe) | intro _ | (with_reducible apply Kept.ite) | dsimp only | split | (with_reducible apply Kept.other) | skip

theorem kept_execShIn {a : State} {e : Fin 32} {x : ShTick} {o : BitVec 12} {s : State} (h : Kept a s) :
    KeptO a (execShIn e x o s) := by
  unfold execShIn
  iterate 40 all_goals first | (with_reducible assumption) | (with_reducible apply KeptO.next) | (with_reducible apply kept_shTick) | (with_reducible apply kept_shAgain) | (with_reducible apply kept_setShr) | (with_reducible apply kept_shRep) | (with_reducible apply kept_strobe) | intro _ | (with_reducible apply Kept.ite) | dsimp only | split | (with_reducible apply Kept.other) | skip

theorem kept_execShiftPush {a : State} {e : Fin 32} {x : ShTick} {o : BitVec 10} {s : State} (h : Kept a s) :
    KeptO a (execShiftPush e x o s) := by
  unfold execShiftPush
  iterate 40 all_goals first | (with_reducible assumption) | (with_reducible apply KeptO.next) | (with_reducible apply kept_shTick) | (with_reducible apply kept_shNext) | (with_reducible apply kept_updShr) | (with_reducible apply kept_shAgain) | (with_reducible apply kept_setShr) | intro _ | (with_reducible apply Kept.ite) | dsimp only | split | (with_reducible apply Kept.other) | skip

theorem kept_execShiftPull {a : State} {e : Fin 32} {x : ShTick} {o : BitVec 10} {s : State} (h : Kept a s) :
    KeptO a (execShiftPull e x o s) := by
  unfold execShiftPull
  iterate 40 all_goals first | (with_reducible assumption) | (with_reducible apply KeptO.next) | (with_reducible apply kept_shTick) | (with_reducible apply kept_shNext) | (with_reducible apply kept_shAgain) | (with_reducible apply kept_setShr) | intro _ | (with_reducible apply Kept.ite) | dsimp only | split | (with_reducible apply Kept.other) | skip

theorem kept_execShiftClr {a : State} {e : Fin 32} {x : ShTick} {o : BitVec 10} {s : State} (h : Kept a s) :
    KeptO a (execShiftClr e x o s) := by
  unfold execShiftClr
  iterate 40 all_goals first | (with_reducible assumption) | (with_reducible apply KeptO.next) | (with_reducible apply kept_shTick) | (with_reducible apply kept_shNext) | (with_reducible apply kept_updShr) | intro _ | (with_reducible apply Kept.ite) | dsimp only | split | (with_reducible apply Kept.other) | skip

theorem kept_execShrewMov {a : State} {e : Fin 32} {x : ShTick} {o : BitVec 12} {s : State} (h : Kept a s) :
    KeptO a (execShrewMov e x o s) := by
  unfold execShrewMov
  iterate 40 all_goals first | (with_reducible assumption) | (with_reducible apply KeptO.next) | (with_reducible apply kept_shTick) | (with_reducible apply kept_setShr) | (with_reducible apply kept_each) | (with_reducible apply kept_drive) | (with_reducible apply kept_driveOe) | (with_reducible apply kept_shNext) | intro _ | (with_reducible apply Kept.ite) | dsimp only | split | (with_reducible apply Kept.other) | skip

theorem kept_execLoop {a : State} {e : Fin 32} {x : ShTick} {o : BitVec 12} {s : State} (h : Kept a s) :
    KeptO a (execLoop e x o s) := by
  unfold execLoop
  iterate 40 all_goals first | (with_reducible assumption) | (with_reducible apply KeptO.next) | (with_reducible apply kept_shTick) | (with_reducible apply kept_shNext) | (with_reducible apply kept_shGo) | (with_reducible apply kept_setShr) | intro _ | (with_reducible apply Kept.ite) | dsimp only | split | (with_reducible apply Kept.other) | skip

theorem kept_execFlag {a : State} {e : Fin 32} {x : ShTick} {o : BitVec 12} {s : State} (h : Kept a s) :
    KeptO a (execFlag e x o s) := by
  unfold execFlag
  iterate 40 all_goals first | (with_reducible assumption) | (with_reducible apply KeptO.next) | (with_reducible apply kept_shTick) | (with_reducible apply kept_shNext) | intro _ | (with_reducible apply Kept.ite) | dsimp only | split | (with_reducible apply Kept.other) | skip

theorem kept_post {a : State} {s : State} {e : Nat} {n : Int} (h : Kept a s) :
    Kept a (State.post s e n) := by
  unfold State.post
  iterate 40 all_goals first | (with_reducible assumption) | (with_reducible apply kept_updShr) | (with_reducible apply kept_each) | (with_reducible apply kept_count) | intro _ | (with_reducible apply Kept.ite) | dsimp only | split | (with_reducible apply Kept.other) | skip

theorem kept_execQstep {a : State} {e : Fin 32} {x : ShTick} {o : BitVec 12} {s : State} (h : Kept a s) :
    KeptO a (execQstep e x o s) := by
  unfold execQstep
  iterate 40 all_goals first | (with_reducible assumption) | (with_reducible apply KeptO.next) | (with_reducible apply kept_shTick) | (with_reducible apply kept_setShr) | (with_reducible apply kept_post) | (with_reducible apply kept_inc) | (with_reducible apply kept_shNext) | intro _ | (with_reducible apply Kept.ite) | dsimp only | split | (with_reducible apply Kept.other) | skip

theorem kept_execAxp {a : State} {e : Fin 32} {x : ShTick} {o : BitVec 12} {s : State} (h : Kept a s) :
    KeptO a (execAxp e x o s) := by
  unfold execAxp
  iterate 40 all_goals first | (with_reducible assumption) | (with_reducible apply KeptO.next) | (with_reducible apply kept_shTick) | (with_reducible apply kept_shNext) | (with_reducible apply kept_post) | intro _ | (with_reducible apply Kept.ite) | dsimp only | split | (with_reducible apply Kept.other) | skip

theorem kept_execHalt {a : State} {e : Fin 32} {x : ShTick} {o : BitVec 12} {s : State} (h : Kept a s) :
    KeptO a (execHalt e x o s) := by
  unfold execHalt
  iterate 40 all_goals first | (with_reducible assumption) | (with_reducible apply KeptO.next) | (with_reducible apply kept_shTick) | (with_reducible apply kept_updShr) | (with_reducible apply kept_shNext) | intro _ | (with_reducible apply Kept.ite) | dsimp only | split | (with_reducible apply Kept.other) | skip

theorem kept_execRxLatchPass {a : State} {e : Fin 32} {s : State} (h : Kept a s) :
    KeptO a (execRxLatchPass e s) := by
  unfold execRxLatchPass
  iterate 40 all_goals first | (with_reducible assumption) | (with_reducible apply KeptO.next) | (with_reducible apply kept_rxfPush) | (with_reducible apply kept_updShr) | intro _ | (with_reducible apply Kept.ite) | dsimp only | split | (with_reducible apply Kept.other) | skip

theorem kept_execTxLatchTake {a : State} {e : Fin 32} {s : State} (h : Kept a s) :
    KeptO a (execTxLatchTake e s) := by
  unfold execTxLatchTake
  iterate 40 all_goals first | (with_reducible assumption) | (with_reducible apply KeptO.next) | (with_reducible apply kept_updShr) | (with_reducible apply kept_txfShrink) | intro _ | (with_reducible apply Kept.ite) | dsimp only | split | (with_reducible apply Kept.other) | skip

theorem kept_shrTxf {a : State} {s : State} {e : Nat} {v : Nat} (h : Kept a s) :
    Kept a (State.shrTxf s e v) := by
  unfold State.shrTxf
  iterate 40 all_goals first | (with_reducible assumption) | (with_reducible apply kept_txfPush) | (with_reducible apply kept_put) | (with_reducible refine kept_txfPush_eq (by assumption) ?_) | intro _ | (with_reducible apply Kept.ite) | dsimp only | split | (with_reducible apply Kept.other) | skip

theorem kept_shrRxf {a : State} {s : State} {e : Nat} (h : Kept a s) :
    Kept a (State.shrRxf s e) := by
  unfold State.shrRxf
  iterate 40 all_goals first | (with_reducible assumption) | (with_reducible apply kept_rxfPop) | (with_reducible apply kept_put) | (with_reducible refine kept_rxfPop_eq (by assumption) ?_) | intro _ | (with_reducible apply Kept.ite) | dsimp only | split | (with_reducible apply Kept.other) | skip

theorem kept_shrFlush {a : State} {s : State} {e : Nat} {tx : Bool} {rx : Bool} (h : Kept a s) :
    Kept a (State.shrFlush s e tx rx) := by
  unfold State.shrFlush
  iterate 40 all_goals first | (with_reducible assumption) | (with_reducible apply kept_updShr) | (with_reducible apply kept_txfShrink) | intro _ | (with_reducible apply Kept.ite) | dsimp only | split | (with_reducible apply Kept.other) | skip

theorem kept_execShrTxf {a : State} {e : Fin 32} {v : W24} {s : State} (h : Kept a s) :
    KeptO a (execShrTxf e v s) := by
  unfold execShrTxf
  iterate 40 all_goals first | (with_reducible assumption) | (with_reducible apply KeptO.next) | (with_reducible apply kept_hostWr) | (with_reducible apply kept_shrTxf) | intro _ | (with_reducible apply Kept.ite) | dsimp only | split | (with_reducible apply Kept.other) | skip

theorem kept_execShrRxf {a : State} {e : Fin 32} {s : State} (h : Kept a s) :
    KeptO a (execShrRxf e s) := by
  unfold execShrRxf
  iterate 40 all_goals first | (with_reducible assumption) | (with_reducible apply KeptO.next) | (with_reducible apply kept_shrRxf) | intro _ | (with_reducible apply Kept.ite) | dsimp only | split | (with_reducible apply Kept.other) | skip

theorem kept_execFlushTxf {a : State} {e : Fin 32} {s : State} (h : Kept a s) :
    KeptO a (execFlushTxf e s) := by
  unfold execFlushTxf
  iterate 40 all_goals first | (with_reducible assumption) | (with_reducible apply KeptO.next) | (with_reducible apply kept_hostWr) | (with_reducible apply kept_shrFlush) | intro _ | (with_reducible apply Kept.ite) | dsimp only | split | (with_reducible apply Kept.other) | skip

theorem kept_execFlushRxf {a : State} {e : Fin 32} {s : State} (h : Kept a s) :
    KeptO a (execFlushRxf e s) := by
  unfold execFlushRxf
  iterate 40 all_goals first | (with_reducible assumption) | (with_reducible apply KeptO.next) | (with_reducible apply kept_hostWr) | (with_reducible apply kept_shrFlush) | intro _ | (with_reducible apply Kept.ite) | dsimp only | split | (with_reducible apply Kept.other) | skip

theorem kept_shSwapNow {a : State} {s : State} {e : Nat} (h : Kept a s) :
    Kept a (State.shSwapNow s e) := by
  unfold State.shSwapNow
  iterate 40 all_goals first | (with_reducible assumption) | (with_reducible apply kept_inc) | (with_reducible apply kept_updShr) | intro _ | (with_reducible apply Kept.ite) | dsimp only | split | (with_reducible apply Kept.other) | skip

theorem kept_shDivide {a : State} {s : State} {e : Nat} (h : Kept a s) :
    Kept a (State.shDivide s e) := by
  unfold State.shDivide
  iterate 40 all_goals first | (with_reducible assumption) | (with_reducible apply kept_updShr) | (with_reducible apply kept_kEnd) | intro _ | (with_reducible apply Kept.ite) | dsimp only | split | (with_reducible apply Kept.other) | skip

theorem kept_shStart {a : State} {s : State} {e : Nat} (h : Kept a s) :
    Kept a (State.shStart s e) := by
  unfold State.shStart
  iterate 40 all_goals first | (with_reducible assumption) | (with_reducible apply kept_inc) | (with_reducible apply kept_shSwapNow) | (with_reducible apply kept_updShr) | (with_reducible apply kept_shDivide) | (with_reducible apply kept_put) | intro _ | (with_reducible apply Kept.ite) | dsimp only | split | (with_reducible apply Kept.other) | skip

theorem kept_shStop {a : State} {s : State} {e : Nat} (h : Kept a s) :
    Kept a (State.shStop s e) := by
  unfold State.shStop
  iterate 40 all_goals first | (with_reducible assumption) | (with_reducible apply kept_updShr) | intro _ | (with_reducible apply Kept.ite) | dsimp only | split | (with_reducible apply Kept.other) | skip

theorem kept_shFswap {a : State} {s : State} {e : Nat} (h : Kept a s) :
    Kept a (State.shFswap s e) := by
  unfold State.shFswap
  iterate 40 all_goals first | (with_reducible assumption) | (with_reducible apply kept_shSwapNow) | (with_reducible apply kept_put) | (with_reducible apply kept_updShr) | (with_reducible apply kept_shDivide) | (with_reducible apply kept_shGo) | intro _ | (with_reducible apply Kept.ite) | dsimp only | split | (with_reducible apply Kept.other) | skip

theorem kept_eachShr {a : State} {s : State} {m : Nat} {g : State → Nat → State} (h : Kept a s) (hg : ∀ t x1, Kept a t → Kept a (g t x1)) :
    Kept a (State.eachShr s m g) := by
  unfold State.eachShr
  iterate 40 all_goals first | (with_reducible assumption) | (with_reducible apply hg) | (with_reducible apply kept_each) | intro _ | (with_reducible apply Kept.ite) | dsimp only | split | (with_reducible apply Kept.other) | skip

theorem kept_execShrStartSet {a : State} {m : W32} {s : State} (h : Kept a s) :
    KeptO a (execShrStartSet m s) := by
  unfold execShrStartSet
  iterate 40 all_goals first | (with_reducible assumption) | (with_reducible apply KeptO.next) | (with_reducible apply kept_hostWr) | (with_reducible apply kept_eachShr) | (with_reducible apply kept_shStart) | intro _ | (with_reducible apply Kept.ite) | dsimp only | split | (with_reducible apply Kept.other) | skip

theorem kept_execShrStop {a : State} {m : W32} {s : State} (h : Kept a s) :
    KeptO a (execShrStop m s) := by
  unfold execShrStop
  iterate 40 all_goals first | (with_reducible assumption) | (with_reducible apply KeptO.next) | (with_reducible apply kept_hostWr) | (with_reducible apply kept_eachShr) | (with_reducible apply kept_shStop) | intro _ | (with_reducible apply Kept.ite) | dsimp only | split | (with_reducible apply Kept.other) | skip

theorem kept_execShrFswap {a : State} {m : W32} {s : State} (h : Kept a s) :
    KeptO a (execShrFswap m s) := by
  unfold execShrFswap
  iterate 40 all_goals first | (with_reducible assumption) | (with_reducible apply KeptO.next) | (with_reducible apply kept_hostWr) | (with_reducible apply kept_eachShr) | (with_reducible apply kept_shFswap) | intro _ | (with_reducible apply Kept.ite) | dsimp only | split | (with_reducible apply Kept.other) | skip

theorem kept_execShrClkRestart {a : State} {m : W32} {s : State} (h : Kept a s) :
    KeptO a (execShrClkRestart m s) := by
  unfold execShrClkRestart
  iterate 40 all_goals first | (with_reducible assumption) | (with_reducible apply KeptO.next) | (with_reducible apply kept_hostWr) | (with_reducible apply kept_eachShr) | (with_reducible apply kept_shDivide) | intro _ | (with_reducible apply Kept.ite) | dsimp only | split | (with_reducible apply Kept.other) | skip

theorem kept_shSwapReq {a : State} {s : State} {e : Nat} (h : Kept a s) :
    Kept a (State.shSwapReq s e) := by
  unfold State.shSwapReq
  iterate 40 all_goals first | (with_reducible assumption) | (with_reducible apply kept_updShr) | intro _ | (with_reducible apply Kept.ite) | dsimp only | split | (with_reducible apply Kept.other) | skip

theorem kept_execShrSwap {a : State} {m : W32} {s : State} (h : Kept a s) :
    KeptO a (execShrSwap m s) := by
  unfold execShrSwap
  iterate 40 all_goals first | (with_reducible assumption) | (with_reducible apply KeptO.next) | (with_reducible apply kept_hostWr) | (with_reducible apply kept_eachShr) | (with_reducible apply kept_shSwapReq) | intro _ | (with_reducible apply Kept.ite) | dsimp only | split | (with_reducible apply Kept.other) | skip

theorem kept_execSwapAtSafePoint {a : State} {e : Fin 32} {s : State} (h : Kept a s) :
    KeptO a (execSwapAtSafePoint e s) := by
  unfold execSwapAtSafePoint
  iterate 40 all_goals first | (with_reducible assumption) | (with_reducible apply KeptO.next) | (with_reducible apply kept_shSwapNow) | (with_reducible apply kept_shGo) | intro _ | (with_reducible apply Kept.ite) | dsimp only | split | (with_reducible apply Kept.other) | skip

theorem kept_flagsSet {a : State} {s : State} {v : Nat} (h : Kept a s) :
    Kept a (State.flagsSet s v) := by
  unfold State.flagsSet
  iterate 40 all_goals first | (with_reducible assumption) | intro _ | (with_reducible apply Kept.ite) | dsimp only | split | (with_reducible apply Kept.other) | skip

theorem kept_flagsClr {a : State} {s : State} {v : Nat} (h : Kept a s) :
    Kept a (State.flagsClr s v) := by
  unfold State.flagsClr
  iterate 40 all_goals first | (with_reducible assumption) | intro _ | (with_reducible apply Kept.ite) | dsimp only | split | (with_reducible apply Kept.other) | skip

theorem kept_execShrFlagsSet {a : State} {v : BitVec 16} {s : State} (h : Kept a s) :
    KeptO a (execShrFlagsSet v s) := by
  unfold execShrFlagsSet
  iterate 40 all_goals first | (with_reducible assumption) | (with_reducible apply KeptO.next) | (with_reducible apply kept_hostWr) | (with_reducible apply kept_flagsSet) | intro _ | (with_reducible apply Kept.ite) | dsimp only | split | (with_reducible apply Kept.other) | skip

theorem kept_execShrFlagsClr {a : State} {v : BitVec 16} {s : State} (h : Kept a s) :
    KeptO a (execShrFlagsClr v s) := by
  unfold execShrFlagsClr
  iterate 40 all_goals first | (with_reducible assumption) | (with_reducible apply KeptO.next) | (with_reducible apply kept_hostWr) | (with_reducible apply kept_flagsClr) | intro _ | (with_reducible apply Kept.ite) | dsimp only | split | (with_reducible apply Kept.other) | skip

theorem kept_irqSet {a : State} {s : State} {e : Nat} {v : Nat} (h : Kept a s) :
    Kept a (State.irqSet s e v) := by
  unfold State.irqSet
  iterate 40 all_goals first | (with_reducible assumption) | (with_reducible apply kept_put) | intro _ | (with_reducible apply Kept.ite) | dsimp only | split | (with_reducible apply Kept.other) | skip

theorem kept_execShrIrqSet {a : State} {e : Fin 32} {v : BitVec 8} {s : State} (h : Kept a s) :
    KeptO a (execShrIrqSet e v s) := by
  unfold execShrIrqSet
  iterate 40 all_goals first | (with_reducible assumption) | (with_reducible apply KeptO.next) | (with_reducible apply kept_hostWr) | (with_reducible apply kept_irqSet) | intro _ | (with_reducible apply Kept.ite) | dsimp only | split | (with_reducible apply Kept.other) | skip

theorem kept_trigLatch {a : State} {s : State} {b : Nat} (h : Kept a s) :
    Kept a (State.trigLatch s b) := by
  unfold State.trigLatch
  iterate 40 all_goals first | (with_reducible assumption) | (with_reducible apply kept_each) | (with_reducible apply kept_irqSet) | intro _ | (with_reducible apply Kept.ite) | dsimp only | split | (with_reducible apply Kept.other) | skip

theorem kept_pmData {a : State} {s : State} {copy : Nat} {e : Nat} {wr : Option Nat} (h : Kept a s) :
    Kept a (State.pmData s copy e wr) := by
  unfold State.pmData
  iterate 40 all_goals first | exact wf0_set | exact wf0_fill | exact wf0_keep | exact wf0_filter | (exact fun _ : SMap.wf _ _ = true => rfl) | exact Nat.le_add_right _ _ | (with_reducible assumption) | (with_reducible apply kept_put) | intro _ | (with_reducible apply Kept.ite) | dsimp only | split | (with_reducible apply Kept.other) | (with_reducible apply Kept.of_shrPm) | skip

theorem kept_execShrPmData {a : State} {r : Req} {e : Fin 32} {wr : Option (BitVec 16)} {s : State} (h : Kept a s) :
    KeptO a (execShrPmData r e wr s) := by
  unfold execShrPmData
  iterate 40 all_goals first | (with_reducible assumption) | (with_reducible apply KeptO.next) | (with_reducible apply kept_pmData) | (with_reducible apply kept_hostWr) | (with_reducible apply kept_id) | intro _ | (with_reducible apply Kept.ite) | dsimp only | split | (with_reducible apply Kept.other) | skip

theorem kept_bankCheck {a : State} {s : State} {k : Nat} (h : Kept a s) :
    Kept a (State.bankCheck s k) := by
  unfold State.bankCheck
  iterate 40 all_goals first | (with_reducible assumption) | (with_reducible apply kept_put) | (with_reducible apply kept_raise) | intro _ | (with_reducible apply Kept.ite) | dsimp only | split | (with_reducible apply Kept.other) | skip

theorem kept_execBankMismatch {a : State} {k : Fin 8} {v33 : Bool} {s : State} (h : Kept a s) :
    KeptO a (execBankMismatch k v33 s) := by
  unfold execBankMismatch
  iterate 40 all_goals first | (with_reducible assumption) | (with_reducible apply KeptO.next) | (with_reducible apply kept_bankCheck) | intro _ | (with_reducible apply Kept.ite) | dsimp only | split | (with_reducible apply Kept.other) | skip

end Sys2Proof.Machine
end

