-- ==== Sys2Proof/Laws/KeptFoxIo.lean ====
section
/-!
SUPPORT. What the operations of Machine/FoxIo.lean keep.
-/
namespace Sys2Proof.Machine

theorem kept_onFrame {a : State} {s : State} {k : Nat} {t : Thread} {a1 : Nat} {n : Nat} {r : FRes} (hr : KeptR a r) :
    KeptR a (onFrame s k t a1 n r) := by
  unfold onFrame
  iterate 40 all_goals first | (with_reducible assumption) | (with_reducible apply hg) | (with_reducible apply KeptR.of_trap) | (with_reducible apply KeptR.of_go) | intro _ | (with_reducible apply Kept.ite) | (with_reducible apply KeptR.ite) | dsimp only | split | (with_reducible apply Kept.other) | skip

theorem kept_fitCells {a : State} {s : State} {h1 : Nat} {le : Nat} (h : Kept a s) :
    Kept a (State.fitCells s h1 le) := by
  unfold State.fitCells
  iterate 40 all_goals first | (with_reducible assumption) | (with_reducible apply kept_tookFree) | (with_reducible apply kept_setFrame) | (with_reducible apply kept_stageTake) | (with_reducible apply kept_freeCells) | intro _ | (with_reducible apply Kept.ite) | dsimp only | split | (with_reducible apply Kept.other) | skip

theorem kept_frameWrite {a : State} {s : State} {h1 : Nat} {le : Nat} {g : Frame → Frame} (h : Kept a s) :
    Kept a (State.frameWrite s h1 le g) := by
  unfold State.frameWrite
  iterate 40 all_goals first | (with_reducible assumption) | (with_reducible apply kept_fitCells) | (with_reducible apply kept_setFrame) | intro _ | (with_reducible apply Kept.ite) | dsimp only | split | (with_reducible apply Kept.other) | skip

theorem kept_doWrite {a : State} {s : State} {k : Nat} {w : FWrite} (h : Kept a s) :
    Kept a (State.doWrite s k w) := by
  unfold State.doWrite
  iterate 40 all_goals first | (with_reducible assumption) | (with_reducible apply kept_frameWrite) | intro _ | (with_reducible apply Kept.ite) | dsimp only | split | (with_reducible apply Kept.other) | skip

theorem kept_drainAll {a : State} {s : State} {k : Nat} (h : Kept a s) :
    Kept a (State.drainAll s k) := by
  unfold State.drainAll
  iterate 40 all_goals first | (with_reducible assumption) | (with_reducible apply kept_updTh) | (with_reducible apply kept_each) | (with_reducible apply kept_doWrite) | intro _ | (with_reducible apply Kept.ite) | dsimp only | split | (with_reducible apply Kept.other) | skip

theorem kept_postWrite {a : State} {k : Nat} {t : Thread} {w : FWrite} {b : Block} :
    KeptR a (postWrite k t w b) := by
  unfold postWrite
  iterate 40 all_goals first | (with_reducible assumption) | (with_reducible apply KeptR.of_trap) | (with_reducible apply KeptR.of_go) | (with_reducible apply kept_updTh) | intro _ | (with_reducible apply Kept.ite) | (with_reducible apply KeptR.ite) | dsimp only | split | (with_reducible apply Kept.other) | skip

theorem kept_execFrameWriteDrain {a : State} {k : Fin 64} {s : State} (h : Kept a s) :
    KeptO a (execFrameWriteDrain k s) := by
  unfold execFrameWriteDrain
  iterate 40 all_goals first | (with_reducible assumption) | (with_reducible apply KeptO.next) | (with_reducible apply kept_updTh) | (with_reducible apply kept_doWrite) | (with_reducible apply kept_unblock) | intro _ | (with_reducible apply Kept.ite) | dsimp only | split | (with_reducible apply Kept.other) | skip

theorem kept_blockOp {a : State} {k : Nat} {t : Thread} {b : Block} :
    KeptR a (blockOp k t b) := by
  unfold blockOp
  iterate 40 all_goals first | (with_reducible assumption) | (with_reducible apply KeptR.of_trap) | (with_reducible apply KeptR.of_go) | (with_reducible apply kept_updTh) | intro _ | (with_reducible apply Kept.ite) | (with_reducible apply KeptR.ite) | dsimp only | split | (with_reducible apply Kept.other) | skip

theorem kept_gaRefuse {a : State} {s : State} {k : Nat} {wr : Bool} {w : Nat} {a1 : Nat} (h : Kept a s) :
    Kept a (State.gaRefuse s k wr w a1) := by
  unfold State.gaRefuse
  iterate 40 all_goals first | (with_reducible assumption) | (with_reducible apply kept_logRefuse) | intro _ | (with_reducible apply Kept.ite) | dsimp only | split | (with_reducible apply Kept.other) | skip

theorem kept_gaIssue {a : State} {s : State} {k : Fin 64} {c : Fin 16} {o : Opnd} {wr : Bool} (h : Kept a s) :
    Kept a (State.gaIssue s k c o wr) := by
  unfold State.gaIssue
  iterate 40 all_goals first | (with_reducible assumption) | (with_reducible apply kept_long) | (with_reducible apply kept_blockOp) | (with_reducible apply kept_gaRefuse) | (with_reducible apply KeptR.of_go) | (with_reducible apply KeptR.of_trap) | intro _ | (with_reducible apply Kept.ite) | (with_reducible apply KeptR.ite) | dsimp only | split | (with_reducible apply Kept.other) | skip

theorem kept_execFxGld {a : State} {k : Fin 64} {c : Fin 16} {o : Opnd} {s : State} (h : Kept a s) :
    KeptO a (execFxGld k c o s) := by
  unfold execFxGld
  iterate 40 all_goals first | (with_reducible assumption) | (with_reducible apply KeptO.next) | (with_reducible apply kept_gaIssue) | intro _ | (with_reducible apply Kept.ite) | dsimp only | split | (with_reducible apply Kept.other) | skip

theorem kept_execFxGst {a : State} {k : Fin 64} {c : Fin 16} {o : Opnd} {s : State} (h : Kept a s) :
    KeptO a (execFxGst k c o s) := by
  unfold execFxGst
  iterate 40 all_goals first | (with_reducible assumption) | (with_reducible apply KeptO.next) | (with_reducible apply kept_gaIssue) | intro _ | (with_reducible apply Kept.ite) | dsimp only | split | (with_reducible apply Kept.other) | skip

theorem kept_execFxFrd {a : State} {k : Fin 64} {c : Fin 16} {o : Opnd} {s : State} (h : Kept a s) :
    KeptO a (execFxFrd k c o s) := by
  unfold execFxFrd
  iterate 40 all_goals first | (with_reducible assumption) | (with_reducible apply KeptO.next) | (with_reducible apply kept_long) | (with_reducible apply kept_onFrame) | (with_reducible apply kept_blockOp) | (with_reducible apply KeptR.of_go) | (with_reducible apply KeptR.of_trap) | intro _ | (with_reducible apply Kept.ite) | (with_reducible apply KeptR.ite) | dsimp only | split | (with_reducible apply Kept.other) | skip

theorem kept_execFxFwr {a : State} {k : Fin 64} {c : Fin 16} {o : Opnd} {s : State} (h : Kept a s) :
    KeptO a (execFxFwr k c o s) := by
  unfold execFxFwr
  iterate 40 all_goals first | (with_reducible assumption) | (with_reducible apply KeptO.next) | (with_reducible apply kept_long) | (with_reducible apply kept_onFrame) | (with_reducible apply kept_postWrite) | (with_reducible apply KeptR.of_go) | (with_reducible apply KeptR.of_trap) | intro _ | (with_reducible apply Kept.ite) | (with_reducible apply KeptR.ite) | dsimp only | split | (with_reducible apply Kept.other) | skip

theorem kept_execFxFsetl {a : State} {k : Fin 64} {c : Fin 16} {o : Opnd} {s : State} (h : Kept a s) :
    KeptO a (execFxFsetl k c o s) := by
  unfold execFxFsetl
  iterate 40 all_goals first | (with_reducible assumption) | (with_reducible apply KeptO.next) | (with_reducible apply kept_long) | (with_reducible apply kept_onFrame) | (with_reducible apply kept_frameWrite) | (with_reducible apply kept_drainAll) | (with_reducible apply KeptR.of_go) | (with_reducible apply KeptR.of_trap) | intro _ | (with_reducible apply Kept.ite) | (with_reducible apply KeptR.ite) | dsimp only | split | (with_reducible apply Kept.other) | skip

theorem kept_execFxFinfo {a : State} {k : Fin 64} {c : Fin 16} {o : Opnd} {s : State} (h : Kept a s) :
    KeptO a (execFxFinfo k c o s) := by
  unfold execFxFinfo
  iterate 40 all_goals first | (with_reducible assumption) | (with_reducible apply KeptO.next) | (with_reducible apply kept_long) | (with_reducible apply kept_movOp) | (with_reducible apply KeptR.of_go) | (with_reducible apply KeptR.of_trap) | intro _ | (with_reducible apply Kept.ite) | (with_reducible apply KeptR.ite) | dsimp only | split | (with_reducible apply Kept.other) | skip

theorem kept_execFxDpop {a : State} {k : Fin 64} {c : Fin 16} {o : Opnd} {s : State} (h : Kept a s) :
    KeptO a (execFxDpop k c o s) := by
  unfold execFxDpop
  iterate 40 all_goals first | (with_reducible assumption) | (with_reducible apply KeptO.next) | (with_reducible apply kept_long) | (with_reducible apply kept_updTh) | (with_reducible apply kept_setFrame) | (with_reducible apply KeptR.of_go) | (with_reducible apply KeptR.of_trap) | intro _ | (with_reducible apply Kept.ite) | (with_reducible apply KeptR.ite) | dsimp only | split | (with_reducible apply Kept.other) | skip

theorem kept_execFxFnew {a : State} {k : Fin 64} {c : Fin 16} {o : Opnd} {s : State} (h : Kept a s) :
    KeptO a (execFxFnew k c o s) := by
  unfold execFxFnew
  iterate 40 all_goals first | (with_reducible assumption) | (with_reducible apply KeptO.next) | (with_reducible apply kept_long) | (with_reducible apply kept_blockOp) | (with_reducible apply KeptR.of_go) | (with_reducible apply KeptR.of_trap) | intro _ | (with_reducible apply Kept.ite) | (with_reducible apply KeptR.ite) | dsimp only | split | (with_reducible apply Kept.other) | skip

theorem kept_releaseOwned {a : State} {s : State} {k : Nat} {h1 : Nat} (h : Kept a s) :
    Kept a (State.releaseOwned s k h1) := by
  unfold State.releaseOwned
  iterate 40 all_goals first | (with_reducible assumption) | (with_reducible apply kept_dropFrame) | intro _ | (with_reducible apply Kept.ite) | dsimp only | split | (with_reducible apply Kept.other) | skip

theorem kept_execFxFrel {a : State} {k : Fin 64} {c : Fin 16} {o : Opnd} {s : State} (h : Kept a s) :
    KeptO a (execFxFrel k c o s) := by
  unfold execFxFrel
  iterate 40 all_goals first | (with_reducible assumption) | (with_reducible apply KeptO.next) | (with_reducible apply kept_long) | (with_reducible apply kept_updTh) | (with_reducible apply kept_releaseOwned) | (with_reducible apply kept_drainAll) | (with_reducible apply KeptR.of_go) | (with_reducible apply KeptR.of_trap) | intro _ | (with_reducible apply Kept.ite) | (with_reducible apply KeptR.ite) | dsimp only | split | (with_reducible apply Kept.other) | skip

theorem kept_pushDone {a : State} {s : State} {k : Nat} {cpl : Bool} {tag : W24} {status : Nat} {egress : Nat} (h : Kept a s) :
    Kept a (State.pushDone s k cpl tag status egress) := by
  unfold State.pushDone
  iterate 40 all_goals first | (with_reducible assumption) | (with_reducible apply kept_complete) | intro _ | (with_reducible apply Kept.ite) | dsimp only | split | (with_reducible apply Kept.other) | skip

theorem kept_push {a : State} {s : State} {k : Nat} {tag : W24} {spec : Nat} (h : Kept a s) :
    Kept a (State.push s k tag spec) := by
  unfold State.push
  iterate 40 all_goals first | (with_reducible assumption) | (with_reducible apply kept_drainAll) | (with_reducible apply kept_updTh) | (with_reducible apply kept_pushDone) | (with_reducible apply kept_dropFrame) | (with_reducible apply kept_inc) | (with_reducible apply kept_setFrame) | (with_reducible apply kept_submit) | intro _ | (with_reducible apply Kept.ite) | dsimp only | split | (with_reducible apply Kept.other) | skip

theorem kept_pushOp {a : State} {k : Nat} {t : Thread} {tag : W24} {spec : Nat} {s : State} :
    KeptR a (pushOp k t tag spec s) := by
  unfold pushOp
  iterate 40 all_goals first | (with_reducible assumption) | (with_reducible apply KeptR.of_trap) | (with_reducible apply KeptR.of_go) | (with_reducible apply kept_updTh) | (with_reducible apply kept_push) | intro _ | (with_reducible apply Kept.ite) | (with_reducible apply KeptR.ite) | dsimp only | split | (with_reducible apply Kept.other) | skip

theorem kept_execFxDpush {a : State} {k : Fin 64} {c : Fin 16} {o : Opnd} {s : State} (h : Kept a s) :
    KeptO a (execFxDpush k c o s) := by
  unfold execFxDpush
  iterate 40 all_goals first | (with_reducible assumption) | (with_reducible apply KeptO.next) | (with_reducible apply kept_long) | (with_reducible apply kept_pushOp) | (with_reducible apply KeptR.of_go) | (with_reducible apply KeptR.of_trap) | intro _ | (with_reducible apply Kept.ite) | (with_reducible apply KeptR.ite) | dsimp only | split | (with_reducible apply Kept.other) | skip

theorem kept_execFxDpushr {a : State} {k : Fin 64} {c : Fin 16} {o : Opnd} {s : State} (h : Kept a s) :
    KeptO a (execFxDpushr k c o s) := by
  unfold execFxDpushr
  iterate 40 all_goals first | (with_reducible assumption) | (with_reducible apply KeptO.next) | (with_reducible apply kept_long) | (with_reducible apply kept_pushOp) | (with_reducible apply KeptR.of_go) | (with_reducible apply KeptR.of_trap) | intro _ | (with_reducible apply Kept.ite) | (with_reducible apply KeptR.ite) | dsimp only | split | (with_reducible apply Kept.other) | skip

theorem kept_execFxCpop {a : State} {k : Fin 64} {c : Fin 16} {o : Opnd} {s : State} (h : Kept a s) :
    KeptO a (execFxCpop k c o s) := by
  unfold execFxCpop
  iterate 40 all_goals first | (with_reducible assumption) | (with_reducible apply KeptO.next) | (with_reducible apply kept_long) | (with_reducible apply kept_updTh) | (with_reducible apply KeptR.of_go) | (with_reducible apply KeptR.of_trap) | intro _ | (with_reducible apply Kept.ite) | (with_reducible apply KeptR.ite) | dsimp only | split | (with_reducible apply Kept.other) | skip

theorem kept_execFxCrcf {a : State} {k : Fin 64} {c : Fin 16} {o : Opnd} {s : State} (h : Kept a s) :
    KeptO a (execFxCrcf k c o s) := by
  unfold execFxCrcf
  iterate 40 all_goals first | (with_reducible assumption) | (with_reducible apply KeptO.next) | (with_reducible apply kept_long) | (with_reducible apply kept_onFrame) | (with_reducible apply kept_blockOp) | (with_reducible apply KeptR.of_go) | (with_reducible apply KeptR.of_trap) | intro _ | (with_reducible apply Kept.ite) | (with_reducible apply KeptR.ite) | dsimp only | split | (with_reducible apply Kept.other) | skip

theorem kept_execFxCrcr {a : State} {k : Fin 64} {c : Fin 16} {o : Opnd} {s : State} (h : Kept a s) :
    KeptO a (execFxCrcr k c o s) := by
  unfold execFxCrcr
  iterate 40 all_goals first | (with_reducible assumption) | (with_reducible apply KeptO.next) | (with_reducible apply kept_long) | (with_reducible apply kept_updTh) | (with_reducible apply KeptR.of_go) | (with_reducible apply KeptR.of_trap) | intro _ | (with_reducible apply Kept.ite) | (with_reducible apply KeptR.ite) | dsimp only | split | (with_reducible apply Kept.other) | skip

theorem kept_execFxCsumf {a : State} {k : Fin 64} {c : Fin 16} {o : Opnd} {s : State} (h : Kept a s) :
    KeptO a (execFxCsumf k c o s) := by
  unfold execFxCsumf
  iterate 40 all_goals first | (with_reducible assumption) | (with_reducible apply KeptO.next) | (with_reducible apply kept_long) | (with_reducible apply kept_onFrame) | (with_reducible apply kept_blockOp) | (with_reducible apply KeptR.of_go) | (with_reducible apply KeptR.of_trap) | intro _ | (with_reducible apply Kept.ite) | (with_reducible apply KeptR.ite) | dsimp only | split | (with_reducible apply Kept.other) | skip

theorem kept_execFxHash {a : State} {k : Fin 64} {c : Fin 16} {o : Opnd} {s : State} (h : Kept a s) :
    KeptO a (execFxHash k c o s) := by
  unfold execFxHash
  iterate 40 all_goals first | (with_reducible assumption) | (with_reducible apply KeptO.next) | (with_reducible apply kept_long) | (with_reducible apply kept_movOp) | (with_reducible apply KeptR.of_go) | (with_reducible apply KeptR.of_trap) | intro _ | (with_reducible apply Kept.ite) | (with_reducible apply KeptR.ite) | dsimp only | split | (with_reducible apply Kept.other) | skip

theorem kept_execFxFext {a : State} {k : Fin 64} {c : Fin 16} {o : Opnd} {s : State} (h : Kept a s) :
    KeptO a (execFxFext k c o s) := by
  unfold execFxFext
  iterate 40 all_goals first | (with_reducible assumption) | (with_reducible apply KeptO.next) | (with_reducible apply kept_long) | (with_reducible apply kept_updTh) | (with_reducible apply kept_onFrame) | (with_reducible apply kept_blockOp) | (with_reducible apply KeptR.of_go) | (with_reducible apply KeptR.of_trap) | intro _ | (with_reducible apply Kept.ite) | (with_reducible apply KeptR.ite) | dsimp only | split | (with_reducible apply Kept.other) | skip

theorem kept_execFxFins {a : State} {k : Fin 64} {c : Fin 16} {o : Opnd} {s : State} (h : Kept a s) :
    KeptO a (execFxFins k c o s) := by
  unfold execFxFins
  iterate 40 all_goals first | (with_reducible assumption) | (with_reducible apply KeptO.next) | (with_reducible apply kept_long) | (with_reducible apply kept_updTh) | (with_reducible apply kept_onFrame) | (with_reducible apply kept_postWrite) | (with_reducible apply KeptR.of_go) | (with_reducible apply KeptR.of_trap) | intro _ | (with_reducible apply Kept.ite) | (with_reducible apply KeptR.ite) | dsimp only | split | (with_reducible apply Kept.other) | skip

theorem kept_execFxScale {a : State} {k : Fin 64} {c : Fin 16} {o : Opnd} {s : State} (h : Kept a s) :
    KeptO a (execFxScale k c o s) := by
  unfold execFxScale
  iterate 40 all_goals first | (with_reducible assumption) | (with_reducible apply KeptO.next) | (with_reducible apply kept_long) | (with_reducible apply kept_scaleOp) | (with_reducible apply KeptR.of_go) | (with_reducible apply KeptR.of_trap) | intro _ | (with_reducible apply Kept.ite) | (with_reducible apply KeptR.ite) | dsimp only | split | (with_reducible apply Kept.other) | skip

theorem kept_execFxTsr {a : State} {k : Fin 64} {c : Fin 16} {o : Opnd} {s : State} (h : Kept a s) :
    KeptO a (execFxTsr k c o s) := by
  unfold execFxTsr
  iterate 40 all_goals first | (with_reducible assumption) | (with_reducible apply KeptO.next) | (with_reducible apply kept_long) | (with_reducible apply kept_updTh) | (with_reducible apply KeptR.of_go) | (with_reducible apply KeptR.of_trap) | intro _ | (with_reducible apply Kept.ite) | (with_reducible apply KeptR.ite) | dsimp only | split | (with_reducible apply Kept.other) | skip

theorem kept_execFxFrxts {a : State} {k : Fin 64} {c : Fin 16} {o : Opnd} {s : State} (h : Kept a s) :
    KeptO a (execFxFrxts k c o s) := by
  unfold execFxFrxts
  iterate 40 all_goals first | (with_reducible assumption) | (with_reducible apply KeptO.next) | (with_reducible apply kept_long) | (with_reducible apply kept_onFrame) | (with_reducible apply kept_setFrame) | (with_reducible apply KeptR.of_go) | (with_reducible apply KeptR.of_trap) | intro _ | (with_reducible apply Kept.ite) | (with_reducible apply KeptR.ite) | dsimp only | split | (with_reducible apply Kept.other) | skip

theorem kept_signalOp {a : State} {k : Nat} {v : Nat} :
    KeptR a (signalOp k v) := by
  unfold signalOp
  iterate 40 all_goals first | (with_reducible assumption) | (with_reducible apply KeptR.of_trap) | (with_reducible apply KeptR.of_go) | (with_reducible apply kept_drainAll) | intro _ | (with_reducible apply Kept.ite) | (with_reducible apply KeptR.ite) | dsimp only | split | (with_reducible apply Kept.other) | skip

theorem kept_execFxSignal {a : State} {k : Fin 64} {c : Fin 16} {o : Opnd} {s : State} (h : Kept a s) :
    KeptO a (execFxSignal k c o s) := by
  unfold execFxSignal
  iterate 40 all_goals first | (with_reducible assumption) | (with_reducible apply KeptO.next) | (with_reducible apply kept_long) | (with_reducible apply kept_signalOp) | (with_reducible apply KeptR.of_go) | (with_reducible apply KeptR.of_trap) | intro _ | (with_reducible apply Kept.ite) | (with_reducible apply KeptR.ite) | dsimp only | split | (with_reducible apply Kept.other) | skip

theorem kept_execFxSignalr {a : State} {k : Fin 64} {c : Fin 16} {o : Opnd} {s : State} (h : Kept a s) :
    KeptO a (execFxSignalr k c o s) := by
  unfold execFxSignalr
  iterate 40 all_goals first | (with_reducible assumption) | (with_reducible apply KeptO.next) | (with_reducible apply kept_long) | (with_reducible apply kept_signalOp) | (with_reducible apply KeptR.of_go) | (with_reducible apply KeptR.of_trap) | intro _ | (with_reducible apply Kept.ite) | (with_reducible apply KeptR.ite) | dsimp only | split | (with_reducible apply Kept.other) | skip

theorem kept_execFxDoorbell {a : State} {k : Fin 64} {c : Fin 16} {o : Opnd} {s : State} (h : Kept a s) :
    KeptO a (execFxDoorbell k c o s) := by
  unfold execFxDoorbell
  iterate 40 all_goals first | (with_reducible assumption) | (with_reducible apply KeptO.next) | (with_reducible apply kept_long) | (with_reducible apply kept_doorbell) | (with_reducible apply kept_drainAll) | (with_reducible apply KeptR.of_go) | (with_reducible apply KeptR.of_trap) | intro _ | (with_reducible apply Kept.ite) | (with_reducible apply KeptR.ite) | dsimp only | split | (with_reducible apply Kept.other) | skip

theorem kept_execFxDoorbellr {a : State} {k : Fin 64} {c : Fin 16} {o : Opnd} {s : State} (h : Kept a s) :
    KeptO a (execFxDoorbellr k c o s) := by
  unfold execFxDoorbellr
  iterate 40 all_goals first | (with_reducible assumption) | (with_reducible apply KeptO.next) | (with_reducible apply kept_long) | (with_reducible apply kept_doorbell) | (with_reducible apply kept_drainAll) | (with_reducible apply KeptR.of_go) | (with_reducible apply KeptR.of_trap) | intro _ | (with_reducible apply Kept.ite) | (with_reducible apply KeptR.ite) | dsimp only | split | (with_reducible apply Kept.other) | skip

theorem kept_execFxShput {a : State} {k : Fin 64} {c : Fin 16} {o : Opnd} {s : State} (h : Kept a s) :
    KeptO a (execFxShput k c o s) := by
  unfold execFxShput
  iterate 40 all_goals first | (with_reducible assumption) | (with_reducible apply KeptO.next) | (with_reducible apply kept_long) | (with_reducible apply kept_blockOp) | (with_reducible apply KeptR.of_go) | (with_reducible apply KeptR.of_trap) | intro _ | (with_reducible apply Kept.ite) | (with_reducible apply KeptR.ite) | dsimp only | split | (with_reducible apply Kept.other) | skip

theorem kept_execFxShget {a : State} {k : Fin 64} {c : Fin 16} {o : Opnd} {s : State} (h : Kept a s) :
    KeptO a (execFxShget k c o s) := by
  unfold execFxShget
  iterate 40 all_goals first | (with_reducible assumption) | (with_reducible apply KeptO.next) | (with_reducible apply kept_long) | (with_reducible apply kept_blockOp) | (with_reducible apply KeptR.of_go) | (with_reducible apply KeptR.of_trap) | intro _ | (with_reducible apply Kept.ite) | (with_reducible apply KeptR.ite) | dsimp only | split | (with_reducible apply Kept.other) | skip

theorem kept_privOp {a : State} {s : State} {k : Nat} {r : FRes} (hr : KeptR a r) :
    KeptR a (privOp s k r) := by
  unfold privOp
  iterate 40 all_goals first | (with_reducible assumption) | (with_reducible apply hg) | (with_reducible apply KeptR.of_trap) | (with_reducible apply KeptR.of_go) | intro _ | (with_reducible apply Kept.ite) | (with_reducible apply KeptR.ite) | dsimp only | split | (with_reducible apply Kept.other) | skip

theorem kept_execFxXld {a : State} {k : Fin 64} {c : Fin 16} {o : Opnd} {s : State} (h : Kept a s) :
    KeptO a (execFxXld k c o s) := by
  unfold execFxXld
  iterate 40 all_goals first | (with_reducible assumption) | (with_reducible apply KeptO.next) | (with_reducible apply kept_long) | (with_reducible apply kept_privOp) | (with_reducible apply kept_blockOp) | (with_reducible apply KeptR.of_go) | (with_reducible apply KeptR.of_trap) | intro _ | (with_reducible apply Kept.ite) | (with_reducible apply KeptR.ite) | dsimp only | split | (with_reducible apply Kept.other) | skip

theorem kept_execFxXst {a : State} {k : Fin 64} {c : Fin 16} {o : Opnd} {s : State} (h : Kept a s) :
    KeptO a (execFxXst k c o s) := by
  unfold execFxXst
  iterate 40 all_goals first | (with_reducible assumption) | (with_reducible apply KeptO.next) | (with_reducible apply kept_long) | (with_reducible apply kept_privOp) | (with_reducible apply kept_blockOp) | (with_reducible apply KeptR.of_go) | (with_reducible apply KeptR.of_trap) | intro _ | (with_reducible apply Kept.ite) | (with_reducible apply KeptR.ite) | dsimp only | split | (with_reducible apply Kept.other) | skip

theorem kept_execFxTwake {a : State} {k : Fin 64} {c : Fin 16} {o : Opnd} {s : State} (h : Kept a s) :
    KeptO a (execFxTwake k c o s) := by
  unfold execFxTwake
  iterate 40 all_goals first | (with_reducible assumption) | (with_reducible apply KeptO.next) | (with_reducible apply kept_long) | (with_reducible apply kept_privOp) | (with_reducible apply kept_wake) | (with_reducible apply KeptR.of_go) | (with_reducible apply KeptR.of_trap) | intro _ | (with_reducible apply Kept.ite) | (with_reducible apply KeptR.ite) | dsimp only | split | (with_reducible apply Kept.other) | skip

theorem kept_execFxFadopt {a : State} {k : Fin 64} {c : Fin 16} {o : Opnd} {s : State} (h : Kept a s) :
    KeptO a (execFxFadopt k c o s) := by
  unfold execFxFadopt
  iterate 40 all_goals first | (with_reducible assumption) | (with_reducible apply KeptO.next) | (with_reducible apply kept_long) | (with_reducible apply kept_privOp) | (with_reducible apply kept_updTh) | (with_reducible apply kept_setFrame) | (with_reducible apply KeptR.of_go) | (with_reducible apply KeptR.of_trap) | intro _ | (with_reducible apply Kept.ite) | (with_reducible apply KeptR.ite) | dsimp only | split | (with_reducible apply Kept.other) | skip

theorem kept_slotRun {a : State} {k : Nat} {isA : Bool} {x : Nat} {t : Thread} {s : State} :
    KeptR a (slotRun k isA x t s) := by
  unfold slotRun
  iterate 40 all_goals first | (with_reducible assumption) | (with_reducible apply KeptR.of_trap) | (with_reducible apply KeptR.of_go) | (with_reducible apply kept_aluOp) | (with_reducible apply kept_movOp) | (with_reducible apply kept_shiftOp) | (with_reducible apply kept_btstOp) | (with_reducible apply kept_mulOp) | (with_reducible apply kept_ldOp) | (with_reducible apply kept_stOp) | (with_reducible apply kept_spWriteOp) | (with_reducible apply kept_scaleOp) | (with_reducible apply kept_id) | intro _ | (with_reducible apply Kept.ite) | (with_reducible apply KeptR.ite) | dsimp only | split | (with_reducible apply Kept.other) | skip

theorem kept_pairFrd {a : State} {k : Nat} {t : Thread} {s : State} {x : Nat} {other : Option (Bool × Nat)} :
    KeptR a (pairFrd k t s x other) := by
  unfold pairFrd
  dsimp only
  split
  · rename_i f hf
    have g : ∀ p b, KeptR a (onFrame s k t p 1 (blockOp k t b)) := fun _ _ => kept_onFrame kept_blockOp
    have g1 := g (((t.reg (slA x)).toNat + slOff x) % 2 ^ 24) (.frd (slD x) (((t.reg (slA x)).toNat + slOff x) % 2 ^ 24) 0)
    rw [hf] at g1
    exact KeptR.of_go (fun s hs => kept_updTh (g1 s hs))
  · exact kept_onFrame kept_blockOp

theorem kept_execFxPair {a : State} {k : Fin 64} {w : BitVec 47} {s : State} (h : Kept a s) :
    KeptO a (execFxPair k w s) := by
  refine KeptO.next (kept_issue h (fun t x => ?_))
  refine KeptR.ite KeptR.of_trap (KeptR.ite kept_pairFrd (KeptR.ite kept_pairFrd ?_))
  have hh : ∀ r1 r2 : FRes, KeptR a r1 → KeptR a r2 → KeptR a (match r1, r2 with
      | .trap c, _ => .trap c
      | _, .trap c => .trap c
      | .go f, .go g => .go (fun s => g (f s))) := by
    intro r1 r2 g1 g2
    cases r1 with
    | trap c => exact KeptR.of_trap
    | go f =>
      cases r2 with
      | trap c => exact KeptR.of_trap
      | go g => exact KeptR.of_go (fun s hs => g2 _ (g1 s hs))
  exact hh _ _ (KeptR.ite kept_slotRun (KeptR.of_go (fun _ h => h))) (KeptR.ite kept_slotRun (KeptR.of_go (fun _ h => h)))

theorem kept_runDefer {a : State} {s : State} {k : Nat} (h : Kept a s) :
    Kept a (State.runDefer s k) := by
  unfold State.runDefer
  dsimp only
  split
  · exact h
  · rename_i isA x acc _
    have hh : ∀ (r : FRes) (s1 : State), KeptR a r → Kept a s1 → Kept a (match r with | .go f => f s1 | .trap _ => s1) := by
      intro r s1 g1 g2
      cases r with
      | trap c => exact g2
      | go f => exact g1 _ g2
    exact hh _ _ kept_slotRun (kept_updTh h)

theorem kept_fnew {a : State} {s : State} {k : Nat} {h1 : Nat} (h : Kept a s) :
    Kept a (State.fnew s k h1) := by
  unfold State.fnew
  iterate 40 all_goals first | (with_reducible assumption) | (with_reducible apply kept_updTh) | (with_reducible apply kept_stageTake) | (with_reducible apply kept_tookFree) | (with_reducible apply kept_setFrame) | intro _ | (with_reducible apply Kept.ite) | dsimp only | split | (with_reducible apply Kept.other) | skip

theorem kept_execFrameAccessComplete {a : State} {k : Fin 64} {h1 : W24} {ecc : Ecc} {bank : Fin 34} {word : BitVec 13} {s : State} (h : Kept a s) :
    KeptO a (execFrameAccessComplete k h1 ecc bank word s) := by
  unfold execFrameAccessComplete
  iterate 40 all_goals first | (with_reducible assumption) | (with_reducible apply KeptO.next) | (with_reducible apply kept_drainAll) | (with_reducible apply kept_unblock) | (with_reducible apply kept_updTh) | (with_reducible apply kept_runDefer) | (with_reducible apply kept_chFault) | (with_reducible apply kept_inc) | (with_reducible apply kept_unblockTrap) | (with_reducible apply kept_memUe) | (with_reducible apply kept_fnew) | (with_reducible apply kept_txfPush) | (with_reducible apply kept_logPwe) | (with_reducible apply kept_rxfPop) | (with_reducible apply kept_dmSet) | (with_reducible refine kept_txfPush_eq (by assumption) ?_) | (with_reducible refine kept_rxfPop_eq (by assumption) ?_) | intro _ | (with_reducible apply Kept.ite) | dsimp only | split | (with_reducible apply Kept.other) | skip

end Sys2Proof.Machine
end

