-- ==== Sys2Proof/Laws/KeptCalendar.lean ====
section
/-!
SUPPORT. What the operations of Machine/Calendar.lean keep.
-/
namespace Sys2Proof.Machine

theorem kept_trig {a : State} {s : State} {arg : Nat} {same : Bool} (h : Kept a s) :
    Kept a (State.trig s arg same) := by
  unfold State.trig
  iterate 40 all_goals first | (with_reducible assumption) | (with_reducible apply kept_trigLatch) | (with_reducible apply kept_put) | (with_reducible apply kept_inc) | intro _ | (with_reducible apply Kept.ite) | dsimp only | split | (with_reducible apply Kept.other) | skip

theorem kept_calAct {a : State} {s : State} {action : Nat} {arg : Nat} {same : Bool} (h : Kept a s) :
    Kept a (State.calAct s action arg same) := by
  unfold State.calAct
  iterate 40 all_goals first | (with_reducible assumption) | (with_reducible apply kept_trig) | (with_reducible apply kept_eachShr) | (with_reducible apply kept_shStart) | (with_reducible apply kept_wake) | (with_reducible apply kept_gateShut) | (with_reducible apply kept_askCommit) | (with_reducible apply kept_qwStart) | (with_reducible apply kept_qwEnd) | (with_reducible apply kept_doorbell) | intro _ | (with_reducible apply Kept.ite) | dsimp only | split | (with_reducible apply Kept.other) | skip

theorem kept_calFire {a : State} {s : State} {e : Nat} {same : Bool} (h : Kept a s) :
    Kept a (State.calFire s e same) := by
  unfold State.calFire
  iterate 40 all_goals first | (with_reducible assumption) | (with_reducible apply kept_calAct) | (with_reducible apply kept_incWrap) | intro _ | (with_reducible apply Kept.ite) | dsimp only | split | (with_reducible apply Kept.other) | skip

theorem kept_execCalEntryFire {a : State} {e : Fin 512} {same : Bool} {s : State} (h : Kept a s) :
    KeptO a (execCalEntryFire e same s) := by
  unfold execCalEntryFire
  iterate 40 all_goals first | (with_reducible assumption) | (with_reducible apply KeptO.next) | (with_reducible apply kept_setCal) | (with_reducible apply kept_calFire) | (with_reducible apply kept_inc) | intro _ | (with_reducible apply Kept.ite) | dsimp only | split | (with_reducible apply Kept.other) | skip

end Sys2Proof.Machine
end

