-- ==== Sys2Proof/Laws/KeptPorts.lean ====
section
/-!
SUPPORT. What the operations of Machine/Ports.lean keep.
-/
namespace Sys2Proof.Machine

theorem kept_incPort {a : State} {s : State} {p : Nat} {eth : Field} {t1s : Field} {n : Nat} (h : Kept a s) :
    Kept a (State.incPort s p eth t1s n) := by
  unfold State.incPort
  iterate 40 all_goals first | (with_reducible assumption) | (with_reducible apply kept_inc) | intro _ | (with_reducible apply Kept.ite) | dsimp only | split | (with_reducible apply Kept.other) | skip

theorem kept_takeHead {a : State} {s : State} {o : Nat} {x2 : Nat} (h : Kept a s) :
    Kept a (State.takeHead s o x2).1 := by
  induction x2 generalizing s with
  | zero => exact h
  | succ n ih =>
    rw [State.takeHead]
    split
    · exact h
    · split
      · exact ih (kept_dropHead h)
      · split
        · exact ih (kept_dropHead h)
        · exact h

theorem kept_takeHead_eq {a : State} {s : State} {o : Nat} {x2 : Nat} {u : State} {r0 : Option Nat} (hq : (State.takeHead s o x2) = (u, r0)) (h : Kept a s) : Kept a u := by
  have g := kept_takeHead (s := s) (o := o) (x2 := x2) h
  rw [hq] at g
  exact g

theorem kept_started {a : State} {s : State} {o : Nat} {h1 : Nat} {wait : Nat} {mh : Nat} (h : Kept a s) :
    Kept a (State.started s o h1 wait mh) := by
  unfold State.started
  iterate 40 all_goals first | (with_reducible assumption) | (with_reducible apply kept_inc) | (with_reducible apply kept_put) | (with_reducible apply kept_purge) | (with_reducible apply kept_mirrorTx) | intro _ | (with_reducible apply Kept.ite) | dsimp only | split | (with_reducible apply Kept.other) | skip

theorem kept_sentAt {a : State} {s : State} {o : Nat} {h1 : Nat} (h : Kept a s) :
    Kept a (State.sentAt s o h1) := by
  unfold State.sentAt
  iterate 40 all_goals first | (with_reducible assumption) | (with_reducible apply kept_unpin) | (with_reducible apply kept_setFrame) | (with_reducible apply kept_finish) | intro _ | (with_reducible apply Kept.ite) | dsimp only | split | (with_reducible apply Kept.other) | skip

theorem kept_attempt {a : State} {s : State} {o : Nat} {h1 : Nat} {mac : Nat} (h : Kept a s) :
    Kept a (State.attempt s o h1 mac) := by
  unfold State.attempt
  iterate 40 all_goals first | (with_reducible assumption) | (with_reducible apply kept_updPort) | (with_reducible apply kept_setFrame) | intro _ | (with_reducible apply Kept.ite) | dsimp only | split | (with_reducible apply Kept.other) | skip

theorem kept_startWire {a : State} {s : State} {o : Nat} {h1 : Nat} {x : TxInfo} (h : Kept a s) :
    Kept a (State.startWire s o h1 x) := by
  unfold State.startWire
  iterate 40 all_goals first | (with_reducible assumption) | (with_reducible apply kept_started) | (with_reducible apply kept_lpiExit) | (with_reducible apply kept_unrel) | (with_reducible apply kept_incPort) | (with_reducible apply kept_updPort) | (with_reducible apply kept_attempt) | (with_reducible apply kept_chFault) | (with_reducible apply kept_inc) | (with_reducible apply kept_memUe) | intro _ | (with_reducible apply Kept.ite) | dsimp only | split | (with_reducible apply Kept.other) | skip

theorem kept_deliver {a : State} {s : State} {o : Nat} {h1 : Nat} {x : TxInfo} (h : Kept a s) :
    Kept a (State.deliver s o h1 x) := by
  unfold State.deliver
  iterate 40 all_goals first | (with_reducible assumption) | (with_reducible apply kept_started) | (with_reducible apply kept_unpin) | (with_reducible apply kept_setFrame) | (with_reducible apply kept_owe) | (with_reducible apply kept_setEvp) | (with_reducible apply kept_updTh) | intro _ | (with_reducible apply Kept.ite) | dsimp only | split | (with_reducible apply Kept.other) | skip

theorem kept_txDone {a : State} {s : State} {o : Nat} (h : Kept a s) :
    Kept a (State.txDone s o) := by
  unfold State.txDone
  iterate 40 all_goals first | (with_reducible assumption) | (with_reducible apply kept_pauseGo) | (with_reducible apply kept_sentAt) | (with_reducible apply kept_updPort) | intro _ | (with_reducible apply Kept.ite) | dsimp only | split | (with_reducible apply Kept.other) | skip

theorem kept_plcaNext {a : State} {s : State} {o : Nat} (h : Kept a s) :
    Kept a (State.plcaNext s o) := by
  unfold State.plcaNext
  iterate 40 all_goals first | (with_reducible assumption) | (with_reducible apply kept_tmStart) | (with_reducible apply kept_updPort) | intro _ | (with_reducible apply Kept.ite) | dsimp only | split | (with_reducible apply Kept.other) | skip

theorem kept_plcaUsed {a : State} {s : State} {o : Nat} (h : Kept a s) :
    Kept a (State.plcaUsed s o) := by
  unfold State.plcaUsed
  iterate 40 all_goals first | (with_reducible assumption) | (with_reducible apply kept_plcaNext) | (with_reducible apply kept_tmStart) | intro _ | (with_reducible apply Kept.ite) | dsimp only | split | (with_reducible apply Kept.other) | skip

theorem kept_execTransmitComplete {a : State} {o : Fin 32} {s : State} (h : Kept a s) :
    KeptO a (execTransmitComplete o s) := by
  unfold execTransmitComplete
  iterate 40 all_goals first | (with_reducible assumption) | (with_reducible apply KeptO.next) | (with_reducible apply kept_plcaUsed) | (with_reducible apply kept_txDone) | (with_reducible apply kept_put) | intro _ | (with_reducible apply Kept.ite) | dsimp only | split | (with_reducible apply Kept.other) | skip

theorem kept_pauseRx {a : State} {s : State} {n : Nat} {q : Nat} (h : Kept a s) :
    Kept a (State.pauseRx s n q) := by
  unfold State.pauseRx
  iterate 40 all_goals first | (with_reducible assumption) | (with_reducible apply kept_inc) | (with_reducible apply kept_updPort) | (with_reducible apply kept_put) | intro _ | (with_reducible apply Kept.ite) | dsimp only | split | (with_reducible apply Kept.other) | skip

theorem kept_macRx {a : State} {s : State} {p : Nat} {f : RxFrame} (h : Kept a s) :
    Kept a (State.macRx s p f) := by
  unfold State.macRx
  iterate 40 all_goals first | (with_reducible assumption) | (with_reducible apply kept_incPort) | (with_reducible apply kept_inc) | intro _ | (with_reducible apply Kept.ite) | dsimp only | split | (with_reducible apply Kept.other) | skip

theorem kept_l1208 {a : State} {s : State} {p : Nat} {f : RxFrame} (h : Kept a s) :
    Kept a (State.l1208 s p f) := by
  unfold State.l1208
  iterate 40 all_goals first | (with_reducible assumption) | (with_reducible apply kept_incPort) | intro _ | (with_reducible apply Kept.ite) | dsimp only | split | (with_reducible apply Kept.other) | skip

theorem kept_portRxAt {a : State} {s : State} {p : Nat} {q : Nat} {f : RxFrame} (h : Kept a s) :
    Kept a (State.portRxAt s p q f) := by
  unfold State.portRxAt
  iterate 40 all_goals first | (with_reducible assumption) | (with_reducible apply kept_macRx) | (with_reducible apply kept_asOf) | (with_reducible apply kept_l1208) | (with_reducible apply kept_pauseRx) | (with_reducible apply kept_inc) | (with_reducible apply kept_receiveExt) | intro _ | (with_reducible apply Kept.ite) | dsimp only | split | (with_reducible apply Kept.other) | skip

theorem kept_portRx {a : State} {s : State} {p : Nat} {f : RxFrame} (h : Kept a s) :
    Kept a (State.portRx s p f) := by
  unfold State.portRx
  iterate 40 all_goals first | (with_reducible assumption) | (with_reducible apply kept_portRxAt) | intro _ | (with_reducible apply Kept.ite) | dsimp only | split | (with_reducible apply Kept.other) | skip

theorem kept_intRx {a : State} {s : State} {i : Nat} {mh : Nat} (h : Kept a s) :
    Kept a (State.intRx s i mh) := by
  unfold State.intRx
  iterate 40 all_goals first | (with_reducible assumption) | (with_reducible apply kept_verdictInt) | intro _ | (with_reducible apply Kept.ite) | dsimp only | split | (with_reducible apply Kept.other) | skip

theorem kept_setArriving {a : State} {s : State} {p : Nat} {f : Option RxFrame} (h : Kept a s) :
    Kept a (State.setArriving s p f) := by
  unfold State.setArriving
  iterate 40 all_goals first | (with_reducible assumption) | intro _ | (with_reducible apply Kept.ite) | dsimp only | split | (with_reducible apply Kept.other) | skip

theorem kept_plcaHeard {a : State} {s : State} {p : Nat} (h : Kept a s) :
    Kept a (State.plcaHeard s p) := by
  unfold State.plcaHeard
  iterate 40 all_goals first | (with_reducible assumption) | (with_reducible apply kept_plcaUsed) | (with_reducible apply kept_updPort) | intro _ | (with_reducible apply Kept.ite) | dsimp only | split | (with_reducible apply Kept.other) | skip

theorem kept_execFrameReceived {a : State} {i : Fin 32} {f : RxFrame} {s : State} (h : Kept a s) :
    KeptO a (execFrameReceived i f s) := by
  unfold execFrameReceived
  iterate 40 all_goals first | (with_reducible assumption) | (with_reducible apply KeptO.next) | (with_reducible apply kept_intRx) | (with_reducible apply kept_plcaHeard) | (with_reducible apply kept_portRx) | (with_reducible apply kept_setArriving) | intro _ | (with_reducible apply Kept.ite) | dsimp only | split | (with_reducible apply Kept.other) | skip

theorem kept_fabricDown {a : State} {s : State} {o : Nat} {hold : Bool} (h : Kept a s) :
    Kept a (State.fabricDown s o hold) := by
  unfold State.fabricDown
  iterate 40 all_goals first | (with_reducible assumption) | (with_reducible apply kept_put) | (with_reducible apply kept_flush) | (with_reducible apply kept_tmStart) | (with_reducible apply kept_tmStop) | intro _ | (with_reducible apply Kept.ite) | dsimp only | split | (with_reducible apply Kept.other) | skip

theorem kept_fabricUp {a : State} {s : State} {o : Nat} (h : Kept a s) :
    Kept a (State.fabricUp s o) := by
  unfold State.fabricUp
  iterate 40 all_goals first | (with_reducible assumption) | (with_reducible apply kept_tmStop) | (with_reducible apply kept_put) | (with_reducible apply kept_updPort) | (with_reducible apply kept_flush) | intro _ | (with_reducible apply Kept.ite) | dsimp only | split | (with_reducible apply Kept.other) | skip

theorem kept_txAbort {a : State} {s : State} {p : Nat} (h : Kept a s) :
    Kept a (State.txAbort s p) := by
  unfold State.txAbort
  iterate 40 all_goals first | (with_reducible assumption) | (with_reducible apply kept_txDone) | (with_reducible apply kept_incPort) | intro _ | (with_reducible apply Kept.ite) | dsimp only | split | (with_reducible apply Kept.other) | skip

theorem kept_pauseEnd {a : State} {s : State} {n : Nat} (h : Kept a s) :
    Kept a (State.pauseEnd s n) := by
  unfold State.pauseEnd
  iterate 40 all_goals first | (with_reducible assumption) | (with_reducible apply kept_inc) | (with_reducible apply kept_put) | intro _ | (with_reducible apply Kept.ite) | dsimp only | split | (with_reducible apply Kept.other) | skip

theorem kept_lpiRx {a : State} {s : State} {n : Nat} {on : Bool} (h : Kept a s) :
    Kept a (State.lpiRx s n on) := by
  unfold State.lpiRx
  iterate 40 all_goals first | (with_reducible assumption) | (with_reducible apply kept_updPort) | (with_reducible apply kept_put) | (with_reducible apply kept_inc) | intro _ | (with_reducible apply Kept.ite) | dsimp only | split | (with_reducible apply Kept.other) | skip

theorem kept_linkLoss {a : State} {s : State} {p : Nat} {hold : Bool} {part : Option RxFrame} (h : Kept a s) :
    Kept a (State.linkLoss s p hold part) := by
  unfold State.linkLoss
  iterate 40 all_goals first | (with_reducible assumption) | (with_reducible apply kept_portRx) | (with_reducible apply kept_setArriving) | (with_reducible apply kept_pauseEnd) | (with_reducible apply kept_put) | (with_reducible apply kept_updPort) | (with_reducible apply kept_lpiRx) | (with_reducible apply kept_lpiExit) | (with_reducible apply kept_txAbort) | (with_reducible apply kept_incPort) | (with_reducible apply kept_raise) | (with_reducible apply kept_fabricDown) | intro _ | (with_reducible apply Kept.ite) | dsimp only | split | (with_reducible apply Kept.other) | skip

theorem kept_execLinkLoss {a : State} {p : Fin 12} {part : Option RxFrame} {s : State} (h : Kept a s) :
    KeptO a (execLinkLoss p part s) := by
  unfold execLinkLoss
  iterate 40 all_goals first | (with_reducible assumption) | (with_reducible apply KeptO.next) | (with_reducible apply kept_linkLoss) | intro _ | (with_reducible apply Kept.ite) | dsimp only | split | (with_reducible apply Kept.other) | skip

theorem kept_execHoldExpire {a : State} {p : Fin 14} {s : State} (h : Kept a s) :
    KeptO a (execHoldExpire p s) := by
  unfold execHoldExpire
  iterate 40 all_goals first | (with_reducible assumption) | (with_reducible apply KeptO.next) | (with_reducible apply kept_flush) | (with_reducible apply kept_tmStop) | (with_reducible apply kept_put) | intro _ | (with_reducible apply Kept.ite) | dsimp only | split | (with_reducible apply Kept.other) | skip

theorem kept_linkFault {a : State} {s : State} {p : Nat} (h : Kept a s) :
    Kept a (State.linkFault s p) := by
  unfold State.linkFault
  iterate 40 all_goals first | (with_reducible assumption) | (with_reducible apply kept_chFault) | intro _ | (with_reducible apply Kept.ite) | dsimp only | split | (with_reducible apply Kept.other) | skip

theorem kept_linkUpEdge {a : State} {s : State} {p : Nat} {mdix : Bool} (h : Kept a s) :
    Kept a (State.linkUpEdge s p mdix) := by
  unfold State.linkUpEdge
  iterate 40 all_goals first | (with_reducible assumption) | (with_reducible apply kept_put) | (with_reducible apply kept_raise) | (with_reducible apply kept_linkFault) | (with_reducible apply kept_fabricUp) | intro _ | (with_reducible apply Kept.ite) | dsimp only | split | (with_reducible apply Kept.other) | skip

theorem kept_execLinkUp {a : State} {l : LinkIn} {s : State} (h : Kept a s) :
    KeptO a (execLinkUp l s) := by
  unfold execLinkUp
  iterate 40 all_goals first | (with_reducible assumption) | (with_reducible apply KeptO.next) | (with_reducible apply kept_linkUpEdge) | intro _ | (with_reducible apply Kept.ite) | dsimp only | split | (with_reducible apply Kept.other) | skip

theorem kept_anFail {a : State} {s : State} {n : Nat} (h : Kept a s) :
    Kept a (State.anFail s n) := by
  unfold State.anFail
  iterate 40 all_goals first | (with_reducible assumption) | (with_reducible apply kept_chFault) | (with_reducible apply kept_raise) | (with_reducible apply kept_inc) | (with_reducible apply kept_put) | intro _ | (with_reducible apply Kept.ite) | dsimp only | split | (with_reducible apply Kept.other) | skip

theorem kept_execAnResolution {a : State} {n : Fin 8} {r : AnResult} {s : State} (h : Kept a s) :
    KeptO a (execAnResolution n r s) := by
  unfold execAnResolution
  iterate 40 all_goals first | (with_reducible assumption) | (with_reducible apply KeptO.next) | (with_reducible apply kept_put) | (with_reducible apply kept_anFail) | intro _ | (with_reducible apply Kept.ite) | dsimp only | split | (with_reducible apply Kept.other) | skip

theorem kept_restartAn {a : State} {s : State} {n : Nat} (h : Kept a s) :
    Kept a (State.restartAn s n) := by
  unfold State.restartAn
  iterate 40 all_goals first | (with_reducible assumption) | (with_reducible apply kept_linkLoss) | (with_reducible apply kept_put) | intro _ | (with_reducible apply Kept.ite) | dsimp only | split | (with_reducible apply Kept.other) | skip

theorem kept_execRestartAn {a : State} {n : Fin 8} {s : State} (h : Kept a s) :
    KeptO a (execRestartAn n s) := by
  unfold execRestartAn
  iterate 40 all_goals first | (with_reducible assumption) | (with_reducible apply KeptO.next) | (with_reducible apply kept_hostWr) | (with_reducible apply kept_restartAn) | intro _ | (with_reducible apply Kept.ite) | dsimp only | split | (with_reducible apply Kept.other) | skip

theorem kept_execCollision {a : State} {p : Fin 12} {late : Bool} {r : BitVec 10} {s : State} (h : Kept a s) :
    KeptO a (execCollision p late r s) := by
  unfold execCollision
  iterate 40 all_goals first | (with_reducible assumption) | (with_reducible apply KeptO.next) | (with_reducible apply kept_txDone) | (with_reducible apply kept_incPort) | (with_reducible apply kept_tmStart) | (with_reducible apply kept_updPort) | intro _ | (with_reducible apply Kept.ite) | dsimp only | split | (with_reducible apply Kept.other) | skip

theorem kept_execBackoffExpire {a : State} {p : Fin 12} {mac : Nat} {s : State} (h : Kept a s) :
    KeptO a (execBackoffExpire p mac s) := by
  unfold execBackoffExpire
  iterate 40 all_goals first | (with_reducible assumption) | (with_reducible apply KeptO.next) | (with_reducible apply kept_updPort) | (with_reducible apply kept_attempt) | intro _ | (with_reducible apply Kept.ite) | dsimp only | split | (with_reducible apply Kept.other) | skip

theorem kept_execPauseRepeat {a : State} {n : Fin 8} {s : State} (h : Kept a s) :
    KeptO a (execPauseRepeat n s) := by
  unfold execPauseRepeat
  iterate 40 all_goals first | (with_reducible assumption) | (with_reducible apply KeptO.next) | (with_reducible apply kept_flowCtl) | intro _ | (with_reducible apply Kept.ite) | dsimp only | split | (with_reducible apply Kept.other) | skip

theorem kept_execPauseFrame {a : State} {n : Fin 8} {q : BitVec 16} {s : State} (h : Kept a s) :
    KeptO a (execPauseFrame n q s) := by
  unfold execPauseFrame
  iterate 40 all_goals first | (with_reducible assumption) | (with_reducible apply KeptO.next) | (with_reducible apply kept_pauseRx) | (with_reducible apply kept_inc) | intro _ | (with_reducible apply Kept.ite) | dsimp only | split | (with_reducible apply Kept.other) | skip

theorem kept_execPauseExpire {a : State} {n : Fin 8} {s : State} (h : Kept a s) :
    KeptO a (execPauseExpire n s) := by
  unfold execPauseExpire
  iterate 40 all_goals first | (with_reducible assumption) | (with_reducible apply KeptO.next) | (with_reducible apply kept_pauseEnd) | intro _ | (with_reducible apply Kept.ite) | dsimp only | split | (with_reducible apply Kept.other) | skip

theorem kept_lpiEnter {a : State} {s : State} {n : Nat} (h : Kept a s) :
    Kept a (State.lpiEnter s n) := by
  unfold State.lpiEnter
  iterate 40 all_goals first | (with_reducible assumption) | (with_reducible apply kept_updPort) | (with_reducible apply kept_inc) | (with_reducible apply kept_put) | intro _ | (with_reducible apply Kept.ite) | dsimp only | split | (with_reducible apply Kept.other) | skip

theorem kept_execLpiEnter {a : State} {x : LpiIn} {s : State} (h : Kept a s) :
    KeptO a (execLpiEnter x s) := by
  unfold execLpiEnter
  iterate 40 all_goals first | (with_reducible assumption) | (with_reducible apply KeptO.next) | (with_reducible apply kept_lpiEnter) | (with_reducible apply kept_lpiRx) | intro _ | (with_reducible apply Kept.ite) | dsimp only | split | (with_reducible apply Kept.other) | skip

theorem kept_execLpiGateWake {a : State} {n : Fin 8} {s : State} (h : Kept a s) :
    KeptO a (execLpiGateWake n s) := by
  unfold execLpiGateWake
  iterate 40 all_goals first | (with_reducible assumption) | (with_reducible apply KeptO.next) | (with_reducible apply kept_lpiExit) | intro _ | (with_reducible apply Kept.ite) | dsimp only | split | (with_reducible apply Kept.other) | skip

theorem kept_execPlcaBeacon {a : State} {t : Fin 4} {s : State} (h : Kept a s) :
    KeptO a (execPlcaBeacon t s) := by
  unfold execPlcaBeacon
  iterate 40 all_goals first | (with_reducible assumption) | (with_reducible apply KeptO.next) | (with_reducible apply kept_tmStart) | (with_reducible apply kept_updPort) | (with_reducible apply kept_put) | (with_reducible apply kept_inc) | intro _ | (with_reducible apply Kept.ite) | dsimp only | split | (with_reducible apply Kept.other) | skip

theorem kept_execPlcaFallback {a : State} {t : Fin 4} {s : State} (h : Kept a s) :
    KeptO a (execPlcaFallback t s) := by
  unfold execPlcaFallback
  iterate 40 all_goals first | (with_reducible assumption) | (with_reducible apply KeptO.next) | (with_reducible apply kept_raise) | (with_reducible apply kept_inc) | (with_reducible apply kept_tmStop) | (with_reducible apply kept_put) | intro _ | (with_reducible apply Kept.ite) | dsimp only | split | (with_reducible apply Kept.other) | skip

theorem kept_execPlcaOpportunityTimeout {a : State} {t : Fin 4} {s : State} (h : Kept a s) :
    KeptO a (execPlcaOpportunityTimeout t s) := by
  unfold execPlcaOpportunityTimeout
  iterate 40 all_goals first | (with_reducible assumption) | (with_reducible apply KeptO.next) | (with_reducible apply kept_plcaNext) | intro _ | (with_reducible apply Kept.ite) | dsimp only | split | (with_reducible apply Kept.other) | skip

theorem kept_execT1sThresholdStep {a : State} {t : Fin 4} {rise : Bool} {s : State} (h : Kept a s) :
    KeptO a (execT1sThresholdStep t rise s) := by
  unfold execT1sThresholdStep
  iterate 40 all_goals first | (with_reducible assumption) | (with_reducible apply KeptO.next) | (with_reducible apply kept_tmStart) | (with_reducible apply kept_inc) | (with_reducible apply kept_put) | intro _ | (with_reducible apply Kept.ite) | dsimp only | split | (with_reducible apply Kept.other) | skip

theorem kept_execT1sPhyFault {a : State} {x : LineIn} {s : State} (h : Kept a s) :
    KeptO a (execT1sPhyFault x s) := by
  unfold execT1sPhyFault
  iterate 40 all_goals first | (with_reducible assumption) | (with_reducible apply KeptO.next) | (with_reducible apply kept_linkUpEdge) | (with_reducible apply kept_updPort) | (with_reducible apply kept_linkLoss) | (with_reducible apply kept_chFault) | (with_reducible apply kept_raise) | (with_reducible apply kept_put) | intro _ | (with_reducible apply Kept.ite) | dsimp only | split | (with_reducible apply Kept.other) | skip

theorem kept_l1208Read {a : State} {s : State} {p : Nat} {frag : Bool} (h : Kept a s) :
    Kept a (State.l1208Read s p frag) := by
  unfold State.l1208Read
  iterate 40 all_goals first | (with_reducible assumption) | (with_reducible apply kept_taken) | intro _ | (with_reducible apply Kept.ite) | dsimp only | split | (with_reducible apply Kept.other) | skip

theorem kept_execL1208Read {a : State} {p : Fin 12} {frag : Bool} {s : State} (h : Kept a s) :
    KeptO a (execL1208Read p frag s) := by
  unfold execL1208Read
  iterate 40 all_goals first | (with_reducible assumption) | (with_reducible apply KeptO.next) | (with_reducible apply kept_l1208Read) | intro _ | (with_reducible apply Kept.ite) | dsimp only | split | (with_reducible apply Kept.other) | skip

end Sys2Proof.Machine
end

