-- ==== Sys2Proof/Laws/KeptOwl.lean ====
section
/-!
SUPPORT. What the operations of Machine/Owl.lean keep.
-/
namespace Sys2Proof.Machine

theorem kept_putBytes {a : State} {s : State} {f : Field} {l : List Byte} (h : Kept a s) :
    Kept a (State.putBytes s f l) := by
  unfold State.putBytes
  iterate 40 all_goals first | (with_reducible assumption) | (with_reducible apply kept_each) | (with_reducible apply kept_put) | intro _ | (with_reducible apply Kept.ite) | dsimp only | split | (with_reducible apply Kept.other) | skip

theorem kept_tookNonce {a : State} {s : State} (h : Kept a s) :
    Kept a (State.tookNonce s) := by
  exact Kept.of_trngN h (Nat.le_add_right _ _)

theorem kept_logAppend {a : State} {s : State} {kind : Nat} {detail : Nat} {content : List Byte} (h : Kept a s) :
    Kept a (State.logAppend s kind detail content) := by
  unfold State.logAppend
  iterate 40 all_goals first | (with_reducible assumption) | (with_reducible apply kept_putBytes) | (with_reducible apply kept_put) | intro _ | (with_reducible apply Kept.ite) | dsimp only | split | (with_reducible apply Kept.other) | skip

theorem kept_setTwSt {a : State} {s : State} {k : Nat} {v : Nat} (h : Kept a s) :
    Kept a (State.setTwSt s k v) := by
  unfold State.setTwSt
  iterate 40 all_goals first | (with_reducible assumption) | (with_reducible apply kept_put) | intro _ | (with_reducible apply Kept.ite) | dsimp only | split | (with_reducible apply Kept.other) | skip

theorem kept_setTw {a : State} {s : State} {k : Nat} {x : TwEnt} (h : Kept a s) :
    Kept a (State.setTw s k x) := by
  unfold State.setTw
  iterate 40 all_goals first | (with_reducible assumption) | intro _ | (with_reducible apply Kept.ite) | dsimp only | split | (with_reducible apply Kept.other) | skip

theorem kept_setConn {a : State} {s : State} {c : Nat} {x : Conn} (h : Kept a s) :
    Kept a (State.setConn s c x) := by
  unfold State.setConn
  iterate 40 all_goals first | (with_reducible assumption) | intro _ | (with_reducible apply Kept.ite) | dsimp only | split | (with_reducible apply Kept.other) | skip

theorem kept_owlDrive {a : State} {s : State} (h : Kept a s) :
    Kept a (State.owlDrive s) := by
  unfold State.owlDrive
  iterate 40 all_goals first | (with_reducible assumption) | (with_reducible apply kept_put) | intro _ | (with_reducible apply Kept.ite) | dsimp only | split | (with_reducible apply Kept.other) | skip

theorem kept_lockout {a : State} {s : State} {cause : Nat} (h : Kept a s) :
    Kept a (State.lockout s cause) := by
  unfold State.lockout
  iterate 40 all_goals first | (with_reducible assumption) | (with_reducible apply kept_put) | (with_reducible apply kept_logAppend) | (with_reducible apply kept_owlDrive) | intro _ | (with_reducible apply Kept.ite) | dsimp only | split | (with_reducible apply Kept.other) | skip

theorem kept_execForceLock {a : State} {s : State} (h : Kept a s) :
    KeptO a (execForceLock s) := by
  unfold execForceLock
  iterate 40 all_goals first | (with_reducible assumption) | (with_reducible apply KeptO.next) | (with_reducible apply kept_hostWr) | (with_reducible apply kept_lockout) | intro _ | (with_reducible apply Kept.ite) | dsimp only | split | (with_reducible apply Kept.other) | skip

theorem kept_demandSet {a : State} {s : State} {w : Nat} (h : Kept a s) :
    Kept a (State.demandSet s w) := by
  unfold State.demandSet
  iterate 40 all_goals first | (with_reducible assumption) | (with_reducible apply kept_owlDrive) | (with_reducible apply kept_put) | (with_reducible apply kept_lockout) | (with_reducible apply kept_raise) | intro _ | (with_reducible apply Kept.ite) | dsimp only | split | (with_reducible apply Kept.other) | skip

theorem kept_execOwlDemand {a : State} {v : W32} {s : State} (h : Kept a s) :
    KeptO a (execOwlDemand v s) := by
  unfold execOwlDemand
  iterate 40 all_goals first | (with_reducible assumption) | (with_reducible apply KeptO.next) | (with_reducible apply kept_hostWr) | (with_reducible apply kept_demandSet) | intro _ | (with_reducible apply Kept.ite) | dsimp only | split | (with_reducible apply Kept.other) | skip

theorem kept_twFault {a : State} {s : State} {k : Nat} (h : Kept a s) :
    Kept a (State.twFault s k) := by
  unfold State.twFault
  iterate 40 all_goals first | (with_reducible assumption) | (with_reducible apply kept_raise) | (with_reducible apply kept_tmStart) | (with_reducible apply kept_setTw) | (with_reducible apply kept_setTwSt) | (with_reducible apply kept_lockout) | (with_reducible apply kept_owlDrive) | intro _ | (with_reducible apply Kept.ite) | dsimp only | split | (with_reducible apply Kept.other) | skip

theorem kept_twRestart {a : State} {s : State} {k : Nat} {v : Nat} (h : Kept a s) :
    Kept a (State.twRestart s k v) := by
  unfold State.twRestart
  iterate 40 all_goals first | (with_reducible assumption) | (with_reducible apply kept_tmStart) | (with_reducible apply kept_setTw) | (with_reducible apply kept_twFault) | (with_reducible apply kept_owlDrive) | (with_reducible apply kept_setTwSt) | intro _ | (with_reducible apply Kept.ite) | dsimp only | split | (with_reducible apply Kept.other) | skip

theorem kept_execOwlThreadReport {a : State} {s : State} (h : Kept a s) :
    KeptO a (execOwlThreadReport s) := by
  unfold execOwlThreadReport
  iterate 40 all_goals first | (with_reducible assumption) | (with_reducible apply KeptO.next) | (with_reducible apply kept_each) | (with_reducible apply kept_twRestart) | (with_reducible apply kept_twFault) | intro _ | (with_reducible apply Kept.ite) | dsimp only | split | (with_reducible apply Kept.other) | skip

theorem kept_execOwlThreadTimeout {a : State} {k : Fin 16} {s : State} (h : Kept a s) :
    KeptO a (execOwlThreadTimeout k s) := by
  unfold execOwlThreadTimeout
  iterate 40 all_goals first | (with_reducible assumption) | (with_reducible apply KeptO.next) | (with_reducible apply kept_twFault) | intro _ | (with_reducible apply Kept.ite) | dsimp only | split | (with_reducible apply Kept.other) | skip

theorem kept_twAck {a : State} {s : State} {m : Nat} (h : Kept a s) :
    Kept a (State.twAck s m) := by
  unfold State.twAck
  iterate 40 all_goals first | (with_reducible assumption) | (with_reducible apply kept_owlDrive) | (with_reducible apply kept_each) | (with_reducible apply kept_setTwSt) | intro _ | (with_reducible apply Kept.ite) | dsimp only | split | (with_reducible apply Kept.other) | skip

theorem kept_execOwlTwAck {a : State} {m : BitVec 16} {s : State} (h : Kept a s) :
    KeptO a (execOwlTwAck m s) := by
  unfold execOwlTwAck
  iterate 40 all_goals first | (with_reducible assumption) | (with_reducible apply KeptO.next) | (with_reducible apply kept_hostWr) | (with_reducible apply kept_twAck) | intro _ | (with_reducible apply Kept.ite) | dsimp only | split | (with_reducible apply Kept.other) | skip

theorem kept_uscCopy {a : State} {s : State} {c : Nat} (h : Kept a s) :
    Kept a (State.uscCopy s c) := by
  unfold State.uscCopy
  iterate 40 all_goals first | exact wf0_set | exact wf0_fill | exact wf0_keep | exact wf0_filter | (exact fun _ : SMap.wf _ _ = true => rfl) | exact Nat.le_add_right _ _ | (with_reducible assumption) | intro _ | (with_reducible apply Kept.ite) | dsimp only | split | (with_reducible apply Kept.other) | (with_reducible apply Kept.of_flowMem) | skip

theorem kept_uscFail {a : State} {s : State} {c : Nat} {v : Nat} (h : Kept a s) :
    Kept a (State.uscFail s c v) := by
  unfold State.uscFail
  iterate 40 all_goals first | (with_reducible assumption) | (with_reducible apply kept_put) | intro _ | (with_reducible apply Kept.ite) | dsimp only | split | (with_reducible apply Kept.other) | skip

theorem kept_connFault {a : State} {s : State} {c : Nat} {code : Nat} (h : Kept a s) :
    Kept a (State.connFault s c code) := by
  unfold State.connFault
  iterate 40 all_goals first | (with_reducible assumption) | (with_reducible apply kept_setConn) | (with_reducible apply kept_uscFail) | (with_reducible apply kept_inc) | (with_reducible apply kept_put) | (with_reducible apply kept_raise) | (with_reducible apply kept_lockout) | (with_reducible apply kept_owlDrive) | (with_reducible apply kept_uscCopy) | intro _ | (with_reducible apply Kept.ite) | dsimp only | split | (with_reducible apply Kept.other) | skip

theorem kept_chkFail {a : State} {s : State} {c : Nat} (h : Kept a s) :
    Kept a (State.chkFail s c) := by
  unfold State.chkFail
  iterate 40 all_goals first | (with_reducible assumption) | (with_reducible apply kept_setConn) | (with_reducible apply kept_inc) | (with_reducible apply kept_connFault) | (with_reducible apply kept_uscCopy) | intro _ | (with_reducible apply Kept.ite) | dsimp only | split | (with_reducible apply Kept.other) | skip

theorem kept_uscAccept {a : State} {s : State} {c : Nat} {q : Nat} {d : Nat} {ax : Nat} (h : Kept a s) :
    Kept a (State.uscAccept s c q d ax) := by
  unfold State.uscAccept
  iterate 40 all_goals first | (with_reducible assumption) | (with_reducible apply kept_setConn) | (with_reducible apply kept_tmStart) | (with_reducible apply kept_inc) | (with_reducible apply kept_put) | (with_reducible apply kept_uscCopy) | (with_reducible apply kept_owlDrive) | intro _ | (with_reducible apply Kept.ite) | dsimp only | split | (with_reducible apply Kept.other) | skip

theorem kept_uscCheck {a : State} {s : State} {c : Nat} {ax : Nat} {l : List Byte} (h : Kept a s) :
    Kept a (State.uscCheck s c ax l) := by
  unfold State.uscCheck
  iterate 40 all_goals first | (with_reducible assumption) | (with_reducible apply kept_connFault) | (with_reducible apply kept_setConn) | (with_reducible apply kept_uscCopy) | (with_reducible apply kept_inc) | (with_reducible apply kept_uscAccept) | intro _ | (with_reducible apply Kept.ite) | dsimp only | split | (with_reducible apply Kept.other) | skip

theorem kept_degrade {a : State} {s : State} {c : Nat} (h : Kept a s) :
    Kept a (State.degrade s c) := by
  unfold State.degrade
  iterate 40 all_goals first | (with_reducible assumption) | (with_reducible apply kept_setConn) | (with_reducible apply kept_uscCopy) | (with_reducible apply kept_raise) | (with_reducible apply kept_put) | intro _ | (with_reducible apply Kept.ite) | dsimp only | split | (with_reducible apply Kept.other) | skip

theorem kept_skewClose {a : State} {s : State} {c : Nat} (h : Kept a s) :
    Kept a (State.skewClose s c) := by
  unfold State.skewClose
  iterate 40 all_goals first | (with_reducible assumption) | (with_reducible apply kept_inc) | (with_reducible apply kept_setConn) | (with_reducible apply kept_degrade) | (with_reducible apply kept_uscCheck) | (with_reducible apply kept_uscCopy) | intro _ | (with_reducible apply Kept.ite) | dsimp only | split | (with_reducible apply Kept.other) | skip

theorem kept_uscCopyIn {a : State} {s : State} {c : Nat} {path : Nat} {ax : Nat} {l : List Byte} (h : Kept a s) :
    Kept a (State.uscCopyIn s c path ax l) := by
  unfold State.uscCopyIn
  iterate 40 all_goals first | (with_reducible assumption) | (with_reducible apply kept_skewClose) | (with_reducible apply kept_chkFail) | (with_reducible apply kept_tmStart) | (with_reducible apply kept_setConn) | (with_reducible apply kept_uscCopy) | (with_reducible apply kept_inc) | (with_reducible apply kept_degrade) | (with_reducible apply kept_uscCheck) | (with_reducible apply kept_connFault) | intro _ | (with_reducible apply Kept.ite) | dsimp only | split | (with_reducible apply Kept.other) | skip

theorem kept_uscMessage {a : State} {s : State} {t : Tap} (h : Kept a s) :
    Kept a (State.uscMessage s t) := by
  unfold State.uscMessage
  iterate 40 all_goals first | (with_reducible assumption) | (with_reducible apply kept_chkFail) | (with_reducible apply kept_uscCheck) | (with_reducible apply kept_uscCopyIn) | intro _ | (with_reducible apply Kept.ite) | dsimp only | split | (with_reducible apply Kept.other) | skip

theorem kept_execUscMessage {a : State} {s : State} (h : Kept a s) :
    KeptO a (execUscMessage s) := by
  unfold execUscMessage
  iterate 40 all_goals first | (with_reducible assumption) | (with_reducible apply KeptO.next) | (with_reducible apply kept_uscMessage) | intro _ | (with_reducible apply Kept.ite) | dsimp only | split | (with_reducible apply Kept.other) | skip

theorem kept_uscExpire {a : State} {s : State} {c : Nat} {code : Nat} (h : Kept a s) :
    Kept a (State.uscExpire s c code) := by
  unfold State.uscExpire
  iterate 40 all_goals first | (with_reducible assumption) | (with_reducible apply kept_setConn) | (with_reducible apply kept_connFault) | intro _ | (with_reducible apply Kept.ite) | dsimp only | split | (with_reducible apply Kept.other) | skip

theorem kept_execUscDeadline {a : State} {c : Fin 256} {s : State} (h : Kept a s) :
    KeptO a (execUscDeadline c s) := by
  unfold execUscDeadline
  iterate 40 all_goals first | (with_reducible assumption) | (with_reducible apply KeptO.next) | (with_reducible apply kept_uscExpire) | intro _ | (with_reducible apply Kept.ite) | dsimp only | split | (with_reducible apply Kept.other) | skip

theorem kept_execUscBackstop {a : State} {c : Fin 256} {s : State} (h : Kept a s) :
    KeptO a (execUscBackstop c s) := by
  unfold execUscBackstop
  iterate 40 all_goals first | (with_reducible assumption) | (with_reducible apply KeptO.next) | (with_reducible apply kept_uscExpire) | intro _ | (with_reducible apply Kept.ite) | dsimp only | split | (with_reducible apply Kept.other) | skip

theorem kept_execUscSkewClose {a : State} {c : Fin 256} {s : State} (h : Kept a s) :
    KeptO a (execUscSkewClose c s) := by
  unfold execUscSkewClose
  iterate 40 all_goals first | (with_reducible assumption) | (with_reducible apply KeptO.next) | (with_reducible apply kept_skewClose) | intro _ | (with_reducible apply Kept.ite) | dsimp only | split | (with_reducible apply Kept.other) | skip

theorem kept_connAck {a : State} {s : State} {c : Nat} (h : Kept a s) :
    Kept a (State.connAck s c) := by
  unfold State.connAck
  iterate 40 all_goals first | (with_reducible assumption) | (with_reducible apply kept_uscCopy) | (with_reducible apply kept_owlDrive) | (with_reducible apply kept_uscFail) | (with_reducible apply kept_put) | intro _ | (with_reducible apply Kept.ite) | dsimp only | split | (with_reducible apply Kept.other) | skip

theorem kept_execOwlCAck {a : State} {c : Fin 256} {s : State} (h : Kept a s) :
    KeptO a (execOwlCAck c s) := by
  unfold execOwlCAck
  iterate 40 all_goals first | (with_reducible assumption) | (with_reducible apply KeptO.next) | (with_reducible apply kept_hostWr) | (with_reducible apply kept_connAck) | intro _ | (with_reducible apply Kept.ite) | dsimp only | split | (with_reducible apply Kept.other) | skip

theorem kept_execSupplyFault {a : State} {m : Fin 5} {s : State} (h : Kept a s) :
    KeptO a (execSupplyFault m s) := by
  unfold execSupplyFault
  iterate 40 all_goals first | (with_reducible assumption) | (with_reducible apply KeptO.next) | (with_reducible apply kept_lockout) | (with_reducible apply kept_raise) | intro _ | (with_reducible apply Kept.ite) | dsimp only | split | (with_reducible apply Kept.other) | skip

theorem kept_execSupplyReturn {a : State} {k : Fin 5} {s : State} (h : Kept a s) :
    KeptO a (execSupplyReturn k s) := by
  unfold execSupplyReturn
  iterate 40 all_goals first | (with_reducible assumption) | (with_reducible apply KeptO.next) | intro _ | (with_reducible apply Kept.ite) | dsimp only | split | (with_reducible apply Kept.other) | skip

theorem kept_execClockFault {a : State} {k : Fin 6} {s : State} (h : Kept a s) :
    KeptO a (execClockFault k s) := by
  unfold execClockFault
  iterate 40 all_goals first | (with_reducible assumption) | (with_reducible apply KeptO.next) | (with_reducible apply kept_lockout) | (with_reducible apply kept_raise) | intro _ | (with_reducible apply Kept.ite) | dsimp only | split | (with_reducible apply Kept.other) | skip

theorem kept_readback {a : State} {s : State} {k : Nat} (h : Kept a s) :
    Kept a (State.readback s k) := by
  unfold State.readback
  iterate 40 all_goals first | (with_reducible assumption) | (with_reducible apply kept_lockout) | (with_reducible apply kept_raise) | intro _ | (with_reducible apply Kept.ite) | dsimp only | split | (with_reducible apply Kept.other) | skip

theorem kept_execReadbackFault {a : State} {k : Fin 4} {a1 : BitVec 4} {b : BitVec 4} {s : State} (h : Kept a s) :
    KeptO a (execReadbackFault k a1 b s) := by
  unfold execReadbackFault
  iterate 40 all_goals first | (with_reducible assumption) | (with_reducible apply KeptO.next) | (with_reducible apply kept_put) | (with_reducible apply kept_readback) | intro _ | (with_reducible apply Kept.ite) | dsimp only | split | (with_reducible apply Kept.other) | skip

theorem kept_execTestPulse {a : State} {k : Fin 4} {fail : Bool} {s : State} (h : Kept a s) :
    KeptO a (execTestPulse k fail s) := by
  unfold execTestPulse
  iterate 40 all_goals first | (with_reducible assumption) | (with_reducible apply KeptO.next) | (with_reducible apply kept_tmStart) | (with_reducible apply kept_readback) | intro _ | (with_reducible apply Kept.ite) | dsimp only | split | (with_reducible apply Kept.other) | skip

theorem kept_execOwlInternalFault {a : State} {s : State} (h : Kept a s) :
    KeptO a (execOwlInternalFault s) := by
  unfold execOwlInternalFault
  iterate 40 all_goals first | (with_reducible assumption) | (with_reducible apply KeptO.next) | (with_reducible apply kept_lockout) | (with_reducible apply kept_raise) | (with_reducible apply kept_owlDrive) | intro _ | (with_reducible apply Kept.ite) | dsimp only | split | (with_reducible apply Kept.other) | skip

theorem kept_owlGuard {a : State} {s : State} (h : Kept a s) :
    Kept a (State.owlGuard s) := by
  unfold State.owlGuard
  iterate 40 all_goals first | (with_reducible assumption) | (with_reducible apply kept_raise) | (with_reducible apply kept_lockout) | intro _ | (with_reducible apply Kept.ite) | dsimp only | split | (with_reducible apply Kept.other) | skip

theorem kept_execTxEnabledGateClosed {a : State} {s : State} (h : Kept a s) :
    KeptO a (execTxEnabledGateClosed s) := by
  unfold execTxEnabledGateClosed
  iterate 40 all_goals first | (with_reducible assumption) | (with_reducible apply KeptO.next) | (with_reducible apply kept_owlGuard) | intro _ | (with_reducible apply Kept.ite) | dsimp only | split | (with_reducible apply Kept.other) | skip

theorem kept_setAck {a : State} {s : State} {v : Nat} (h : Kept a s) :
    Kept a (State.setAck s v) := by
  unfold State.setAck
  iterate 40 all_goals first | (with_reducible assumption) | (with_reducible apply kept_put) | intro _ | (with_reducible apply Kept.ite) | dsimp only | split | (with_reducible apply Kept.other) | skip

theorem kept_noNonce {a : State} {s : State} (h : Kept a s) :
    Kept a (State.noNonce s) := by
  unfold State.noNonce
  iterate 40 all_goals first | (with_reducible assumption) | (with_reducible apply kept_putBytes) | intro _ | (with_reducible apply Kept.ite) | dsimp only | split | (with_reducible apply Kept.other) | skip

theorem kept_execSafeAckFall {a : State} {s : State} (h : Kept a s) :
    KeptO a (execSafeAckFall s) := by
  unfold execSafeAckFall
  iterate 40 all_goals first | (with_reducible assumption) | (with_reducible apply KeptO.next) | (with_reducible apply kept_tmStop) | (with_reducible apply kept_noNonce) | (with_reducible apply kept_setAck) | intro _ | (with_reducible apply Kept.ite) | dsimp only | split | (with_reducible apply Kept.other) | skip

theorem kept_execSafeAckRise {a : State} {clk : Bool} {s : State} (h : Kept a s) :
    KeptO a (execSafeAckRise clk s) := by
  unfold execSafeAckRise
  iterate 40 all_goals first | (with_reducible assumption) | (with_reducible apply KeptO.next) | (with_reducible apply kept_tmStart) | (with_reducible apply kept_setAck) | (with_reducible apply kept_put) | (with_reducible apply kept_tookNonce) | (with_reducible apply kept_putBytes) | intro _ | (with_reducible apply Kept.ite) | dsimp only | split | (with_reducible apply Kept.other) | skip

theorem kept_execAckStuck {a : State} {s : State} (h : Kept a s) :
    KeptO a (execAckStuck s) := by
  unfold execAckStuck
  iterate 40 all_goals first | (with_reducible assumption) | (with_reducible apply KeptO.next) | (with_reducible apply kept_setAck) | intro _ | (with_reducible apply Kept.ite) | dsimp only | split | (with_reducible apply Kept.other) | skip

theorem kept_execAckStuckClear {a : State} {s : State} (h : Kept a s) :
    KeptO a (execAckStuckClear s) := by
  unfold execAckStuckClear
  iterate 40 all_goals first | (with_reducible assumption) | (with_reducible apply KeptO.next) | (with_reducible apply kept_tmStop) | (with_reducible apply kept_setAck) | intro _ | (with_reducible apply Kept.ite) | dsimp only | split | (with_reducible apply Kept.other) | skip

theorem kept_execUnlockWindowExpire {a : State} {s : State} (h : Kept a s) :
    KeptO a (execUnlockWindowExpire s) := by
  unfold execUnlockWindowExpire
  iterate 40 all_goals first | (with_reducible assumption) | (with_reducible apply KeptO.next) | (with_reducible apply kept_noNonce) | intro _ | (with_reducible apply Kept.ite) | dsimp only | split | (with_reducible apply Kept.other) | skip

theorem kept_unlock {a : State} {s : State} {tok : List Byte} (h : Kept a s) :
    Kept a (State.unlock s tok) := by
  unfold State.unlock
  iterate 40 all_goals first | (with_reducible assumption) | (with_reducible apply kept_noNonce) | (with_reducible apply kept_put) | (with_reducible apply kept_setAck) | (with_reducible apply kept_owlDrive) | (with_reducible apply kept_logAppend) | intro _ | (with_reducible apply Kept.ite) | dsimp only | split | (with_reducible apply Kept.other) | skip

theorem kept_authReq {a : State} {s : State} (h : Kept a s) :
    Kept a (State.authReq s) := by
  unfold State.authReq
  iterate 40 all_goals first | (with_reducible assumption) | (with_reducible apply kept_tookNonce) | (with_reducible apply kept_putBytes) | (with_reducible apply kept_put) | intro _ | (with_reducible apply Kept.ite) | dsimp only | split | (with_reducible apply Kept.other) | skip

theorem kept_execOwlAuthReq {a : State} {s : State} (h : Kept a s) :
    KeptO a (execOwlAuthReq s) := by
  unfold execOwlAuthReq
  iterate 40 all_goals first | (with_reducible assumption) | (with_reducible apply KeptO.next) | (with_reducible apply kept_hostWr) | (with_reducible apply kept_authReq) | intro _ | (with_reducible apply Kept.ite) | dsimp only | split | (with_reducible apply Kept.other) | skip

theorem kept_authWritten {a : State} {s : State} (h : Kept a s) :
    Kept a (State.authWritten s) := by
  unfold State.authWritten
  iterate 40 all_goals first | (with_reducible assumption) | (with_reducible apply kept_put) | intro _ | (with_reducible apply Kept.ite) | dsimp only | split | (with_reducible apply Kept.other) | skip

theorem kept_authGo {a : State} {s : State} (h : Kept a s) :
    Kept a (State.authGo s) := by
  unfold State.authGo
  iterate 40 all_goals first | (with_reducible assumption) | (with_reducible apply kept_logAppend) | (with_reducible apply kept_put) | intro _ | (with_reducible apply Kept.ite) | dsimp only | split | (with_reducible apply Kept.other) | skip

theorem kept_execOwlAuthGo {a : State} {s : State} (h : Kept a s) :
    KeptO a (execOwlAuthGo s) := by
  unfold execOwlAuthGo
  iterate 40 all_goals first | (with_reducible assumption) | (with_reducible apply KeptO.next) | (with_reducible apply kept_hostWr) | (with_reducible apply kept_authGo) | intro _ | (with_reducible apply Kept.ite) | dsimp only | split | (with_reducible apply Kept.other) | skip

theorem kept_execLogEntryWritten {a : State} {s : State} (h : Kept a s) :
    KeptO a (execLogEntryWritten s) := by
  unfold execLogEntryWritten
  iterate 40 all_goals first | (with_reducible assumption) | (with_reducible apply KeptO.next) | (with_reducible apply kept_put) | intro _ | (with_reducible apply Kept.ite) | dsimp only | split | (with_reducible apply Kept.other) | skip

theorem kept_connApplied {a : State} {s : State} {c : Nat} {was : Bool} (h : Kept a s) :
    Kept a (State.connApplied s c was) := by
  unfold State.connApplied
  iterate 40 all_goals first | (with_reducible assumption) | (with_reducible apply kept_uscCopy) | (with_reducible apply kept_put) | (with_reducible apply kept_setConn) | (with_reducible apply kept_uscFail) | intro _ | (with_reducible apply Kept.ite) | dsimp only | split | (with_reducible apply Kept.other) | skip

theorem kept_twApplied {a : State} {s : State} {old : State} {k : Nat} (h : Kept a s) :
    Kept a (State.twApplied s old k) := by
  unfold State.twApplied
  iterate 40 all_goals first | (with_reducible assumption) | (with_reducible apply kept_setTw) | (with_reducible apply kept_setTwSt) | (with_reducible apply kept_tmStart) | (with_reducible apply kept_tmStop) | intro _ | (with_reducible apply Kept.ite) | dsimp only | split | (with_reducible apply Kept.other) | skip

theorem kept_owlApplied {a : State} {s : State} {old : State} (h : Kept a s) :
    Kept a (State.owlApplied s old) := by
  unfold State.owlApplied
  iterate 40 all_goals first | (with_reducible assumption) | (with_reducible apply kept_each) | (with_reducible apply kept_connApplied) | (with_reducible apply kept_twApplied) | (with_reducible apply kept_tmStart) | (with_reducible apply kept_owlDrive) | (with_reducible apply kept_put) | intro _ | (with_reducible apply Kept.ite) | dsimp only | split | (with_reducible apply Kept.other) | skip

end Sys2Proof.Machine
end

