-- ==== Sys2Proof/Laws/KeptRing.lean ====
section
/-!
SUPPORT. What the operations of Machine/Ring.lean keep.
-/
namespace Sys2Proof.Machine

theorem kept_setLane {a : State} {s : State} {p : Nat} {x : Lane} (h : Kept a s) :
    Kept a (State.setLane s p x) := by
  unfold State.setLane
  iterate 40 all_goals first | (with_reducible assumption) | intro _ | (with_reducible apply Kept.ite) | dsimp only | split | (with_reducible apply Kept.other) | skip

theorem kept_updLane {a : State} {s : State} {p : Nat} {g : Lane → Lane} (h : Kept a s) :
    Kept a (State.updLane s p g) := by
  unfold State.updLane
  iterate 40 all_goals first | (with_reducible assumption) | (with_reducible apply kept_setLane) | intro _ | (with_reducible apply Kept.ite) | dsimp only | split | (with_reducible apply Kept.other) | skip

theorem kept_setRst {a : State} {s : State} {v : Nat} (h : Kept a s) :
    Kept a (State.setRst s v) := by
  unfold State.setRst
  iterate 40 all_goals first | (with_reducible assumption) | (with_reducible apply kept_put) | intro _ | (with_reducible apply Kept.ite) | dsimp only | split | (with_reducible apply Kept.other) | skip

theorem kept_foldUpd {a : State} {s : State} (h : Kept a s) :
    Kept a (State.foldUpd s) := by
  unfold State.foldUpd
  iterate 40 all_goals first | (with_reducible assumption) | (with_reducible apply kept_put) | (with_reducible apply kept_each) | (with_reducible apply kept_degrade) | intro _ | (with_reducible apply Kept.ite) | dsimp only | split | (with_reducible apply Kept.other) | skip

theorem kept_joinLane {a : State} {s : State} {p : Nat} (h : Kept a s) :
    Kept a (State.joinLane s p) := by
  unfold State.joinLane
  iterate 40 all_goals first | (with_reducible assumption) | (with_reducible apply kept_foldUpd) | (with_reducible apply kept_fabricUp) | (with_reducible apply kept_put) | intro _ | (with_reducible apply Kept.ite) | dsimp only | split | (with_reducible apply Kept.other) | skip

theorem kept_settle {a : State} {s : State} {p : Nat} (h : Kept a s) :
    Kept a (State.settle s p) := by
  unfold State.settle
  iterate 40 all_goals first | (with_reducible assumption) | (with_reducible apply kept_put) | (with_reducible apply kept_updLane) | intro _ | (with_reducible apply Kept.ite) | dsimp only | split | (with_reducible apply Kept.other) | skip

theorem kept_cutInsert {a : State} {s : State} {p : Nat} (h : Kept a s) :
    Kept a (State.cutInsert s p) := by
  unfold State.cutInsert
  iterate 40 all_goals first | (with_reducible assumption) | (with_reducible apply kept_updLane) | (with_reducible apply kept_settle) | (with_reducible apply kept_txDone) | intro _ | (with_reducible apply Kept.ite) | dsimp only | split | (with_reducible apply Kept.other) | skip

theorem kept_unjoinLane {a : State} {s : State} {p : Nat} (h : Kept a s) :
    Kept a (State.unjoinLane s p) := by
  unfold State.unjoinLane
  iterate 40 all_goals first | (with_reducible assumption) | (with_reducible apply kept_foldUpd) | (with_reducible apply kept_updLane) | (with_reducible apply kept_fabricDown) | (with_reducible apply kept_cutInsert) | (with_reducible apply kept_put) | intro _ | (with_reducible apply Kept.ite) | dsimp only | split | (with_reducible apply Kept.other) | skip

theorem kept_laneOff {a : State} {s : State} {p : Nat} (h : Kept a s) :
    Kept a (State.laneOff s p) := by
  unfold State.laneOff
  iterate 40 all_goals first | (with_reducible assumption) | (with_reducible apply kept_put) | (with_reducible apply kept_unjoinLane) | (with_reducible apply kept_updLane) | intro _ | (with_reducible apply Kept.ite) | dsimp only | split | (with_reducible apply Kept.other) | skip

theorem kept_train {a : State} {s : State} {p : Nat} (h : Kept a s) :
    Kept a (State.train s p) := by
  unfold State.train
  iterate 40 all_goals first | (with_reducible assumption) | (with_reducible apply kept_tmStart) | (with_reducible apply kept_updLane) | intro _ | (with_reducible apply Kept.ite) | dsimp only | split | (with_reducible apply Kept.other) | skip

theorem kept_execRingSignalDetected {a : State} {p : Fin 2} {s : State} (h : Kept a s) :
    KeptO a (execRingSignalDetected p s) := by
  unfold execRingSignalDetected
  iterate 40 all_goals first | (with_reducible assumption) | (with_reducible apply KeptO.next) | (with_reducible apply kept_train) | intro _ | (with_reducible apply Kept.ite) | dsimp only | split | (with_reducible apply Kept.other) | skip

theorem kept_outsideUpd {a : State} {s : State} (h : Kept a s) :
    Kept a (State.outsideUpd s) := by
  unfold State.outsideUpd
  iterate 40 all_goals first | (with_reducible assumption) | (with_reducible apply kept_put) | intro _ | (with_reducible apply Kept.ite) | dsimp only | split | (with_reducible apply Kept.other) | skip

theorem kept_coldstart {a : State} {s : State} (h : Kept a s) :
    Kept a (State.coldstart s) := by
  unfold State.coldstart
  iterate 40 all_goals first | (with_reducible assumption) | (with_reducible apply kept_tmStart) | (with_reducible apply kept_setRst) | intro _ | (with_reducible apply Kept.ite) | dsimp only | split | (with_reducible apply Kept.other) | skip

theorem kept_listen {a : State} {s : State} (h : Kept a s) :
    Kept a (State.listen s) := by
  unfold State.listen
  iterate 40 all_goals first | (with_reducible assumption) | (with_reducible apply kept_tmStart) | (with_reducible apply kept_setRst) | (with_reducible apply kept_coldstart) | intro _ | (with_reducible apply Kept.ite) | dsimp only | split | (with_reducible apply Kept.other) | skip

theorem kept_execRingTrainEnd {a : State} {p : Fin 2} {ok : Bool} {x : TrainIn} {s : State} (h : Kept a s) :
    KeptO a (execRingTrainEnd p ok x s) := by
  unfold execRingTrainEnd
  iterate 40 all_goals first | (with_reducible assumption) | (with_reducible apply KeptO.next) | (with_reducible apply kept_updLane) | (with_reducible apply kept_tmStop) | (with_reducible apply kept_put) | (with_reducible apply kept_listen) | (with_reducible apply kept_outsideUpd) | (with_reducible apply kept_joinLane) | (with_reducible apply kept_tmStart) | (with_reducible apply kept_inc) | (with_reducible apply kept_chFault) | (with_reducible apply kept_hard) | intro _ | (with_reducible apply Kept.ite) | dsimp only | split | (with_reducible apply Kept.other) | skip

theorem kept_execRingTrainRetry {a : State} {p : Fin 2} {s : State} (h : Kept a s) :
    KeptO a (execRingTrainRetry p s) := by
  unfold execRingTrainRetry
  iterate 40 all_goals first | (with_reducible assumption) | (with_reducible apply KeptO.next) | (with_reducible apply kept_train) | intro _ | (with_reducible apply Kept.ite) | dsimp only | split | (with_reducible apply Kept.other) | skip

theorem kept_los {a : State} {s : State} {p : Nat} (h : Kept a s) :
    Kept a (State.los s p) := by
  unfold State.los
  iterate 40 all_goals first | (with_reducible assumption) | (with_reducible apply kept_laneOff) | (with_reducible apply kept_inc) | (with_reducible apply kept_put) | (with_reducible apply kept_chFault) | (with_reducible apply kept_raise) | (with_reducible apply kept_outsideUpd) | intro _ | (with_reducible apply Kept.ite) | dsimp only | split | (with_reducible apply Kept.other) | skip

theorem kept_execRingLos {a : State} {p : Fin 2} {s : State} (h : Kept a s) :
    KeptO a (execRingLos p s) := by
  unfold execRingLos
  iterate 40 all_goals first | (with_reducible assumption) | (with_reducible apply KeptO.next) | (with_reducible apply kept_los) | intro _ | (with_reducible apply Kept.ite) | dsimp only | split | (with_reducible apply Kept.other) | skip

theorem kept_execRingEqStep {a : State} {p : Fin 2} {dfe : Bool} {code : BitVec 8} {s : State} (h : Kept a s) :
    KeptO a (execRingEqStep p dfe code s) := by
  unfold execRingEqStep
  iterate 40 all_goals first | (with_reducible assumption) | (with_reducible apply KeptO.next) | (with_reducible apply kept_updLane) | intro _ | (with_reducible apply Kept.ite) | dsimp only | split | (with_reducible apply Kept.other) | skip

theorem kept_listenOnly {a : State} {s : State} {cause : Nat} (h : Kept a s) :
    Kept a (State.listenOnly s cause) := by
  unfold State.listenOnly
  iterate 40 all_goals first | (with_reducible assumption) | (with_reducible apply kept_inc) | (with_reducible apply kept_put) | (with_reducible apply kept_setRst) | (with_reducible apply kept_raise) | (with_reducible apply kept_updLane) | intro _ | (with_reducible apply Kept.ite) | dsimp only | split | (with_reducible apply Kept.other) | skip

theorem kept_gblock {a : State} {s : State} {p : Nat} (h : Kept a s) :
    Kept a (State.gblock s p) := by
  unfold State.gblock
  iterate 40 all_goals first | (with_reducible assumption) | (with_reducible apply kept_raise) | (with_reducible apply kept_put) | (with_reducible apply kept_inc) | (with_reducible apply kept_owlGuard) | (with_reducible apply kept_listenOnly) | intro _ | (with_reducible apply Kept.ite) | dsimp only | split | (with_reducible apply Kept.other) | skip

theorem kept_ringResync {a : State} {s : State} (h : Kept a s) :
    Kept a (State.ringResync s) := by
  unfold State.ringResync
  iterate 40 all_goals first | (with_reducible assumption) | (with_reducible apply kept_listenOnly) | intro _ | (with_reducible apply Kept.ite) | dsimp only | split | (with_reducible apply Kept.other) | skip

theorem kept_execRingResync {a : State} {s : State} (h : Kept a s) :
    KeptO a (execRingResync s) := by
  unfold execRingResync
  iterate 40 all_goals first | (with_reducible assumption) | (with_reducible apply KeptO.next) | (with_reducible apply kept_hostWr) | (with_reducible apply kept_ringResync) | intro _ | (with_reducible apply Kept.ite) | dsimp only | split | (with_reducible apply Kept.other) | skip

theorem kept_guardClkLoss {a : State} {s : State} (h : Kept a s) :
    Kept a (State.guardClkLoss s) := by
  unfold State.guardClkLoss
  iterate 40 all_goals first | (with_reducible assumption) | (with_reducible apply kept_raise) | (with_reducible apply kept_put) | intro _ | (with_reducible apply Kept.ite) | dsimp only | split | (with_reducible apply Kept.other) | skip

theorem kept_execGuardClkLoss {a : State} {s : State} (h : Kept a s) :
    KeptO a (execGuardClkLoss s) := by
  unfold execGuardClkLoss
  iterate 40 all_goals first | (with_reducible assumption) | (with_reducible apply KeptO.next) | (with_reducible apply kept_guardClkLoss) | intro _ | (with_reducible apply Kept.ite) | dsimp only | split | (with_reducible apply Kept.other) | skip

theorem kept_setMembers {a : State} {s : State} {m : Nat} (h : Kept a s) :
    Kept a (State.setMembers s m) := by
  unfold State.setMembers
  iterate 40 all_goals first | (with_reducible assumption) | (with_reducible apply kept_put) | intro _ | (with_reducible apply Kept.ite) | dsimp only | split | (with_reducible apply Kept.other) | skip

theorem kept_becomeNode {a : State} {s : State} {st : Nat} (h : Kept a s) :
    Kept a (State.becomeNode s st) := by
  unfold State.becomeNode
  iterate 40 all_goals first | (with_reducible assumption) | (with_reducible apply kept_setMembers) | (with_reducible apply kept_put) | (with_reducible apply kept_setRst) | intro _ | (with_reducible apply Kept.ite) | dsimp only | split | (with_reducible apply Kept.other) | skip

theorem kept_rejoin {a : State} {s : State} {st : Nat} (h : Kept a s) :
    Kept a (State.rejoin s st) := by
  unfold State.rejoin
  iterate 40 all_goals first | (with_reducible assumption) | (with_reducible apply kept_listen) | (with_reducible apply kept_tmStart) | (with_reducible apply kept_setRst) | (with_reducible apply kept_srcLost) | (with_reducible apply kept_tmStop) | (with_reducible apply kept_put) | (with_reducible apply kept_setMembers) | (with_reducible apply kept_updLane) | intro _ | (with_reducible apply Kept.ite) | dsimp only | split | (with_reducible apply Kept.other) | skip

theorem kept_emitFrame {a : State} {s : State} {p : Nat} {l : List Byte} (h : Kept a s) :
    Kept a (State.emitFrame s p l) := by
  unfold State.emitFrame
  iterate 40 all_goals first | (with_reducible assumption) | (with_reducible apply kept_updLane) | intro _ | (with_reducible apply Kept.ite) | dsimp only | split | (with_reducible apply Kept.other) | skip

theorem kept_emitBlocks {a : State} {s : State} {p : Nat} {l : List Block66} (h : Kept a s) :
    Kept a (State.emitBlocks s p l) := by
  unfold State.emitBlocks
  iterate 40 all_goals first | (with_reducible assumption) | (with_reducible apply kept_updLane) | intro _ | (with_reducible apply Kept.ite) | dsimp only | split | (with_reducible apply Kept.other) | skip

theorem kept_insert {a : State} {s : State} {p : Nat} {l : List Byte} (h : Kept a s) :
    Kept a (State.insert s p l) := by
  unfold State.insert
  iterate 40 all_goals first | (with_reducible assumption) | (with_reducible apply kept_inc) | (with_reducible apply kept_emitFrame) | intro _ | (with_reducible apply Kept.ite) | dsimp only | split | (with_reducible apply Kept.other) | skip

theorem kept_insertCtl {a : State} {s : State} {p : Nat} {l : List Byte} (h : Kept a s) :
    Kept a (State.insertCtl s p l) := by
  unfold State.insertCtl
  iterate 40 all_goals first | (with_reducible assumption) | (with_reducible apply kept_settle) | (with_reducible apply kept_updLane) | (with_reducible apply kept_insert) | intro _ | (with_reducible apply Kept.ite) | dsimp only | split | (with_reducible apply Kept.other) | skip

theorem kept_spliceAsk {a : State} {s : State} {m : Nat} {r : SpliceReq} (h : Kept a s) :
    Kept a (State.spliceAsk s m r) := by
  unfold State.spliceAsk
  iterate 40 all_goals first | (with_reducible assumption) | (with_reducible apply kept_raise) | (with_reducible apply kept_inc) | (with_reducible apply kept_id) | intro _ | (with_reducible apply Kept.ite) | dsimp only | split | (with_reducible apply Kept.other) | skip

theorem kept_announced {a : State} {s : State} {sp : Splice} {c : Nat} (h : Kept a s) :
    Kept a (State.announced s sp c) := by
  unfold State.announced
  iterate 40 all_goals first | (with_reducible assumption) | (with_reducible apply kept_put) | (with_reducible apply kept_updLane) | intro _ | (with_reducible apply Kept.ite) | dsimp only | split | (with_reducible apply Kept.other) | skip

theorem kept_execSpliceSwitch {a : State} {s : State} (h : Kept a s) :
    KeptO a (execSpliceSwitch s) := by
  unfold execSpliceSwitch
  iterate 40 all_goals first | (with_reducible assumption) | (with_reducible apply KeptO.next) | (with_reducible apply kept_put) | (with_reducible apply kept_each) | (with_reducible apply kept_tmStart) | (with_reducible apply kept_updLane) | (with_reducible apply kept_joinLane) | (with_reducible apply kept_becomeNode) | (with_reducible apply kept_raise) | intro _ | (with_reducible apply Kept.ite) | dsimp only | split | (with_reducible apply Kept.other) | skip

theorem kept_execSpliceFoldback {a : State} {p : Fin 2} {s : State} (h : Kept a s) :
    KeptO a (execSpliceFoldback p s) := by
  unfold execSpliceFoldback
  iterate 40 all_goals first | (with_reducible assumption) | (with_reducible apply KeptO.next) | (with_reducible apply kept_unjoinLane) | intro _ | (with_reducible apply Kept.ite) | dsimp only | split | (with_reducible apply Kept.other) | skip

theorem kept_execEchoReq {a : State} {p : Fin 2} {q : BitVec 8} {res : W32} {s : State} (h : Kept a s) :
    KeptO a (execEchoReq p q res s) := by
  unfold execEchoReq
  iterate 40 all_goals first | (with_reducible assumption) | (with_reducible apply KeptO.next) | (with_reducible apply kept_emitBlocks) | intro _ | (with_reducible apply Kept.ite) | dsimp only | split | (with_reducible apply Kept.other) | skip

theorem kept_execEchoResp {a : State} {p : Fin 2} {q : BitVec 8} {res : W32} {t4 : Nat} {s : State} (h : Kept a s) :
    KeptO a (execEchoResp p q res t4 s) := by
  unfold execEchoResp
  iterate 40 all_goals first | (with_reducible assumption) | (with_reducible apply KeptO.next) | (with_reducible apply kept_updLane) | (with_reducible apply kept_put) | (with_reducible apply kept_foldl) | intro _ | (with_reducible apply Kept.ite) | dsimp only | split | (with_reducible apply Kept.other) | skip

theorem kept_execLinkState {a : State} {p : Fin 2} {member : Bool} {node : Fin 32} {id : W32} {s : State} (h : Kept a s) :
    KeptO a (execLinkState p member node id s) := by
  unfold execLinkState
  iterate 40 all_goals first | (with_reducible assumption) | (with_reducible apply KeptO.next) | (with_reducible apply kept_updLane) | (with_reducible apply kept_unjoinLane) | (with_reducible apply kept_joinLane) | (with_reducible apply kept_outsideUpd) | (with_reducible apply kept_spliceAsk) | (with_reducible apply kept_id) | intro _ | (with_reducible apply Kept.ite) | dsimp only | split | (with_reducible apply Kept.other) | skip

theorem kept_execJoinA {a : State} {p : Fin 2} {id : BitVec 48} {s : State} (h : Kept a s) :
    KeptO a (execJoinA p id s) := by
  unfold execJoinA
  iterate 40 all_goals first | (with_reducible assumption) | (with_reducible apply KeptO.next) | (with_reducible apply kept_updLane) | (with_reducible apply kept_id) | intro _ | (with_reducible apply Kept.ite) | dsimp only | split | (with_reducible apply Kept.other) | skip

theorem kept_execJoinB {a : State} {p : Fin 2} {node : Fin 32} {hash : W32} {s : State} (h : Kept a s) :
    KeptO a (execJoinB p node hash s) := by
  unfold execJoinB
  iterate 40 all_goals first | (with_reducible assumption) | (with_reducible apply KeptO.next) | (with_reducible apply kept_updLane) | (with_reducible apply kept_spliceAsk) | (with_reducible apply kept_id) | intro _ | (with_reducible apply Kept.ite) | dsimp only | split | (with_reducible apply Kept.other) | skip

theorem kept_execControlBlockSend {a : State} {p : Fin 2} {t1 : Nat} {s : State} (h : Kept a s) :
    KeptO a (execControlBlockSend p t1 s) := by
  unfold execControlBlockSend
  iterate 40 all_goals first | (with_reducible assumption) | (with_reducible apply KeptO.next) | (with_reducible apply kept_tmStart) | (with_reducible apply kept_updLane) | (with_reducible apply kept_put) | (with_reducible apply kept_emitBlocks) | intro _ | (with_reducible apply Kept.ite) | dsimp only | split | (with_reducible apply Kept.other) | skip

theorem kept_execReservedControlBlock {a : State} {p : Fin 2} {ty : Fin 16} {s : State} (h : Kept a s) :
    KeptO a (execReservedControlBlock p ty s) := by
  unfold execReservedControlBlock
  iterate 40 all_goals first | (with_reducible assumption) | (with_reducible apply KeptO.next) | (with_reducible apply kept_inc) | intro _ | (with_reducible apply Kept.ite) | dsimp only | split | (with_reducible apply Kept.other) | skip

theorem kept_dualCheck {a : State} {s : State} (h : Kept a s) :
    Kept a (State.dualCheck s) := by
  unfold State.dualCheck
  iterate 40 all_goals first | (with_reducible assumption) | (with_reducible apply kept_id) | intro _ | (with_reducible apply Kept.ite) | dsimp only | split | (with_reducible apply Kept.other) | skip

theorem kept_statusRx {a : State} {s : State} {b : List Byte} (h : Kept a s) :
    Kept a (State.statusRx s b) := by
  unfold State.statusRx
  iterate 40 all_goals first | (with_reducible assumption) | (with_reducible apply kept_tmStart) | (with_reducible apply kept_foldUpd) | (with_reducible apply kept_setMembers) | intro _ | (with_reducible apply Kept.ite) | dsimp only | split | (with_reducible apply Kept.other) | skip

theorem kept_annRx {a : State} {s : State} {b : List Byte} (h : Kept a s) :
    Kept a (State.annRx s b) := by
  unfold State.annRx
  iterate 40 all_goals first | (with_reducible assumption) | (with_reducible apply kept_dualCheck) | (with_reducible apply kept_listenOnly) | (with_reducible apply kept_announced) | (with_reducible apply kept_id) | intro _ | (with_reducible apply Kept.ite) | dsimp only | split | (with_reducible apply Kept.other) | skip

theorem kept_cstartRx {a : State} {s : State} {b : List Byte} (h : Kept a s) :
    Kept a (State.cstartRx s b) := by
  unfold State.cstartRx
  iterate 40 all_goals first | (with_reducible assumption) | (with_reducible apply kept_tmStart) | (with_reducible apply kept_setRst) | intro _ | (with_reducible apply Kept.ite) | dsimp only | split | (with_reducible apply Kept.other) | skip

theorem kept_spliceRx {a : State} {s : State} {b : List Byte} (h : Kept a s) :
    Kept a (State.spliceRx s b) := by
  unfold State.spliceRx
  iterate 40 all_goals first | (with_reducible assumption) | (with_reducible apply kept_put) | (with_reducible apply kept_spliceAsk) | (with_reducible apply kept_id) | intro _ | (with_reducible apply Kept.ite) | dsimp only | split | (with_reducible apply Kept.other) | skip

theorem kept_ctlRx {a : State} {s : State} {p : Nat} {l : List Byte} (h : Kept a s) :
    Kept a (State.ctlRx s p l) := by
  unfold State.ctlRx
  iterate 40 all_goals first | (with_reducible assumption) | (with_reducible apply kept_inc) | (with_reducible apply kept_statusRx) | (with_reducible apply kept_annRx) | (with_reducible apply kept_cstartRx) | (with_reducible apply kept_spliceRx) | intro _ | (with_reducible apply Kept.ite) | dsimp only | split | (with_reducible apply Kept.other) | skip

theorem kept_ctlOp {a : State} {s : State} {p : Nat} {op : Nat} {b : List Byte} {g : State → State} (h : Kept a s) (hg : ∀ t, Kept a t → Kept a (g t)) :
    Kept a (State.ctlOp s p op b g) := by
  unfold State.ctlOp
  iterate 40 all_goals first | (with_reducible assumption) | (with_reducible apply hg) | intro _ | (with_reducible apply Kept.ite) | dsimp only | split | (with_reducible apply Kept.other) | skip

theorem kept_execStatus {a : State} {p : Fin 2} {b : List Byte} {s : State} (h : Kept a s) :
    KeptO a (execStatus p b s) := by
  unfold execStatus
  iterate 40 all_goals first | (with_reducible assumption) | (with_reducible apply KeptO.next) | (with_reducible apply kept_ctlOp) | (with_reducible apply kept_statusRx) | intro _ | (with_reducible apply Kept.ite) | dsimp only | split | (with_reducible apply Kept.other) | skip

theorem kept_execTimeAnn {a : State} {p : Fin 2} {b : List Byte} {s : State} (h : Kept a s) :
    KeptO a (execTimeAnn p b s) := by
  unfold execTimeAnn
  iterate 40 all_goals first | (with_reducible assumption) | (with_reducible apply KeptO.next) | (with_reducible apply kept_ctlOp) | (with_reducible apply kept_annRx) | intro _ | (with_reducible apply Kept.ite) | dsimp only | split | (with_reducible apply Kept.other) | skip

theorem kept_execCstart {a : State} {p : Fin 2} {b : List Byte} {s : State} (h : Kept a s) :
    KeptO a (execCstart p b s) := by
  unfold execCstart
  iterate 40 all_goals first | (with_reducible assumption) | (with_reducible apply KeptO.next) | (with_reducible apply kept_ctlOp) | (with_reducible apply kept_cstartRx) | intro _ | (with_reducible apply Kept.ite) | dsimp only | split | (with_reducible apply Kept.other) | skip

theorem kept_execSpliceReq {a : State} {p : Fin 2} {b : List Byte} {s : State} (h : Kept a s) :
    KeptO a (execSpliceReq p b s) := by
  unfold execSpliceReq
  iterate 40 all_goals first | (with_reducible assumption) | (with_reducible apply KeptO.next) | (with_reducible apply kept_ctlOp) | (with_reducible apply kept_spliceRx) | intro _ | (with_reducible apply Kept.ite) | dsimp only | split | (with_reducible apply Kept.other) | skip

theorem kept_terminate {a : State} {s : State} {p : Nat} {west : Bool} {f : RxFrame} (h : Kept a s) :
    Kept a (State.terminate s p west f) := by
  unfold State.terminate
  iterate 40 all_goals first | (with_reducible assumption) | (with_reducible apply kept_inc) | (with_reducible apply kept_portRxAt) | intro _ | (with_reducible apply Kept.ite) | dsimp only | split | (with_reducible apply Kept.other) | skip

theorem kept_relayOut {a : State} {s : State} {p : Nat} {q : Nat} {ago : Nat} {l : List Byte} (h : Kept a s) :
    Kept a (State.relayOut s p q ago l) := by
  unfold State.relayOut
  iterate 40 all_goals first | (with_reducible assumption) | (with_reducible apply kept_cutInsert) | (with_reducible apply kept_inc) | (with_reducible apply kept_updLane) | (with_reducible apply kept_emitFrame) | intro _ | (with_reducible apply Kept.ite) | dsimp only | split | (with_reducible apply Kept.other) | skip

theorem kept_ringFrame {a : State} {s : State} {p : Nat} {hdr : List Byte} {f : RxFrame} (h : Kept a s) :
    Kept a (State.ringFrame s p hdr f) := by
  unfold State.ringFrame
  iterate 40 all_goals first | (with_reducible assumption) | (with_reducible apply kept_inc) | (with_reducible apply kept_ctlRx) | (with_reducible apply kept_terminate) | (with_reducible apply kept_raise) | (with_reducible apply kept_relayOut) | intro _ | (with_reducible apply Kept.ite) | dsimp only | split | (with_reducible apply Kept.other) | skip

theorem kept_execRingFrame {a : State} {p : Fin 2} {hdr : List Byte} {f : RxFrame} {s : State} (h : Kept a s) :
    KeptO a (execRingFrame p hdr f s) := by
  unfold execRingFrame
  iterate 40 all_goals first | (with_reducible assumption) | (with_reducible apply KeptO.next) | (with_reducible apply kept_ringFrame) | intro _ | (with_reducible apply Kept.ite) | dsimp only | split | (with_reducible apply Kept.other) | skip

theorem kept_execLastgaspRx {a : State} {p : Fin 2} {src : Fin 32} {west : Bool} {f : RxFrame} {s : State} (h : Kept a s) :
    KeptO a (execLastgaspRx p src west f s) := by
  unfold execLastgaspRx
  iterate 40 all_goals first | (with_reducible assumption) | (with_reducible apply KeptO.next) | (with_reducible apply kept_raise) | (with_reducible apply kept_terminate) | intro _ | (with_reducible apply Kept.ite) | dsimp only | split | (with_reducible apply Kept.other) | skip

theorem kept_galign {a : State} {s : State} {v : Int} {c : Nat} (h : Kept a s) :
    Kept a (State.galign s v c) := by
  unfold State.galign
  iterate 40 all_goals first | (with_reducible assumption) | intro _ | (with_reducible apply Kept.ite) | dsimp only | split | (with_reducible apply Kept.other) | skip

theorem kept_guardAlign {a : State} {s : State} {v : Int} {c : Nat} (h : Kept a s) :
    Kept a (State.guardAlign s v c) := by
  unfold State.guardAlign
  iterate 40 all_goals first | (with_reducible assumption) | (with_reducible apply kept_put) | (with_reducible apply kept_galign) | (with_reducible apply kept_inc) | (with_reducible apply kept_listenOnly) | intro _ | (with_reducible apply Kept.ite) | dsimp only | split | (with_reducible apply Kept.other) | skip

theorem kept_setRate {a : State} {s : State} {v : Int} (h : Kept a s) :
    Kept a (State.setRate s v) := by
  unfold State.setRate
  iterate 40 all_goals first | (with_reducible assumption) | (with_reducible apply kept_put) | intro _ | (with_reducible apply Kept.ite) | dsimp only | split | (with_reducible apply Kept.other) | skip

theorem kept_servo {a : State} {s : State} {o : Int} (h : Kept a s) :
    Kept a (State.servo s o) := by
  unfold State.servo
  iterate 40 all_goals first | (with_reducible assumption) | (with_reducible apply kept_put) | (with_reducible apply kept_setTime) | (with_reducible apply kept_setRate) | (with_reducible apply kept_listenOnly) | (with_reducible apply kept_srcLost) | (with_reducible apply kept_srcLocked) | intro _ | (with_reducible apply Kept.ite) | dsimp only | split | (with_reducible apply Kept.other) | skip

theorem kept_csmTake {a : State} {s : State} {p : Nat} {x : CsmIn} (h : Kept a s) :
    Kept a (State.csmTake s p x) := by
  unfold State.csmTake
  iterate 40 all_goals first | (with_reducible assumption) | (with_reducible apply kept_put) | (with_reducible apply kept_guardAlign) | (with_reducible apply kept_tmStart) | (with_reducible apply kept_servo) | intro _ | (with_reducible apply Kept.ite) | dsimp only | split | (with_reducible apply Kept.other) | skip

theorem kept_csmRelay {a : State} {s : State} {p : Nat} {cyc : Nat} {corr : Nat} {hops : Nat} {folds : Nat} {dir : Bool} {first : Nat} {res : Nat} (h : Kept a s) :
    Kept a (State.csmRelay s p cyc corr hops folds dir first res) := by
  unfold State.csmRelay
  iterate 40 all_goals first | (with_reducible assumption) | (with_reducible apply kept_emitBlocks) | intro _ | (with_reducible apply Kept.ite) | dsimp only | split | (with_reducible apply Kept.other) | skip

theorem kept_csm {a : State} {s : State} {p : Nat} {x : CsmIn} (h : Kept a s) :
    Kept a (State.csm s p x) := by
  unfold State.csm
  iterate 40 all_goals first | (with_reducible assumption) | (with_reducible apply kept_updLane) | (with_reducible apply kept_csmRelay) | (with_reducible apply kept_dualCheck) | (with_reducible apply kept_raise) | (with_reducible apply kept_put) | (with_reducible apply kept_tmStart) | (with_reducible apply kept_setRst) | (with_reducible apply kept_csmTake) | intro _ | (with_reducible apply Kept.ite) | dsimp only | split | (with_reducible apply Kept.other) | skip

theorem kept_execCsmA {a : State} {p : Fin 2} {x : CsmIn} {s : State} (h : Kept a s) :
    KeptO a (execCsmA p x s) := by
  unfold execCsmA
  iterate 40 all_goals first | (with_reducible assumption) | (with_reducible apply KeptO.next) | (with_reducible apply kept_csm) | intro _ | (with_reducible apply Kept.ite) | dsimp only | split | (with_reducible apply Kept.other) | skip

theorem kept_execCsmB {a : State} {p : Fin 2} {hops : BitVec 6} {folds : BitVec 2} {dir : Bool} {first : Fin 32} {s : State} (h : Kept a s) :
    KeptO a (execCsmB p hops folds dir first s) := by
  unfold execCsmB
  iterate 40 all_goals first | (with_reducible assumption) | (with_reducible apply KeptO.next) | (with_reducible apply kept_updLane) | intro _ | (with_reducible apply Kept.ite) | dsimp only | split | (with_reducible apply Kept.other) | skip

theorem kept_execCsmLoss {a : State} {s : State} (h : Kept a s) :
    KeptO a (execCsmLoss s) := by
  unfold execCsmLoss
  iterate 40 all_goals first | (with_reducible assumption) | (with_reducible apply KeptO.next) | (with_reducible apply kept_put) | (with_reducible apply kept_rejoin) | intro _ | (with_reducible apply Kept.ite) | dsimp only | split | (with_reducible apply Kept.other) | skip

theorem kept_execNodeLost {a : State} {n : Fin 32} {s : State} (h : Kept a s) :
    KeptO a (execNodeLost n s) := by
  unfold execNodeLost
  iterate 40 all_goals first | (with_reducible assumption) | (with_reducible apply KeptO.next) | (with_reducible apply kept_raise) | (with_reducible apply kept_foldUpd) | (with_reducible apply kept_setMembers) | intro _ | (with_reducible apply Kept.ite) | dsimp only | split | (with_reducible apply Kept.other) | skip

theorem kept_execListenTimeout {a : State} {s : State} (h : Kept a s) :
    KeptO a (execListenTimeout s) := by
  unfold execListenTimeout
  iterate 40 all_goals first | (with_reducible assumption) | (with_reducible apply KeptO.next) | (with_reducible apply kept_coldstart) | (with_reducible apply kept_rejoin) | intro _ | (with_reducible apply Kept.ite) | dsimp only | split | (with_reducible apply Kept.other) | skip

theorem kept_startInsert {a : State} {s : State} {p : Nat} {l : List Byte} (h : Kept a s) :
    Kept a (State.startInsert s p l) := by
  unfold State.startInsert
  iterate 40 all_goals first | (with_reducible assumption) | (with_reducible apply kept_gblock) | (with_reducible apply kept_updLane) | (with_reducible apply kept_insertCtl) | intro _ | (with_reducible apply Kept.ite) | dsimp only | split | (with_reducible apply Kept.other) | skip

theorem kept_execCstartSend {a : State} {s : State} (h : Kept a s) :
    KeptO a (execCstartSend s) := by
  unfold execCstartSend
  iterate 40 all_goals first | (with_reducible assumption) | (with_reducible apply KeptO.next) | (with_reducible apply kept_each) | (with_reducible apply kept_startInsert) | intro _ | (with_reducible apply Kept.ite) | dsimp only | split | (with_reducible apply Kept.other) | skip

theorem kept_fnSteer {a : State} {s : State} (h : Kept a s) :
    Kept a (State.fnSteer s) := by
  unfold State.fnSteer
  iterate 40 all_goals first | (with_reducible assumption) | (with_reducible apply kept_setRate) | intro _ | (with_reducible apply Kept.ite) | dsimp only | split | (with_reducible apply Kept.other) | skip

theorem kept_becomeFirst {a : State} {s : State} (h : Kept a s) :
    Kept a (State.becomeFirst s) := by
  unfold State.becomeFirst
  iterate 40 all_goals first | (with_reducible assumption) | (with_reducible apply kept_put) | (with_reducible apply kept_becomeNode) | (with_reducible apply kept_fnSteer) | intro _ | (with_reducible apply Kept.ite) | dsimp only | split | (with_reducible apply Kept.other) | skip

theorem kept_execColdstartEnd {a : State} {s : State} (h : Kept a s) :
    KeptO a (execColdstartEnd s) := by
  unfold execColdstartEnd
  iterate 40 all_goals first | (with_reducible assumption) | (with_reducible apply KeptO.next) | (with_reducible apply kept_becomeFirst) | intro _ | (with_reducible apply Kept.ite) | dsimp only | split | (with_reducible apply Kept.other) | skip

theorem kept_fnRate {a : State} {s : State} {v : Nat} (h : Kept a s) :
    Kept a (State.fnRate s v) := by
  unfold State.fnRate
  iterate 40 all_goals first | (with_reducible assumption) | (with_reducible apply kept_fnSteer) | (with_reducible apply kept_put) | intro _ | (with_reducible apply Kept.ite) | dsimp only | split | (with_reducible apply Kept.other) | skip

theorem kept_offerCtl {a : State} {s : State} {p : Nat} (h : Kept a s) :
    Kept a (State.offerCtl s p) := by
  unfold State.offerCtl
  iterate 40 all_goals first | (with_reducible assumption) | (with_reducible apply kept_inc) | (with_reducible apply kept_updLane) | intro _ | (with_reducible apply Kept.ite) | dsimp only | split | (with_reducible apply Kept.other) | skip

theorem kept_sendCsm {a : State} {s : State} {k : Nat} (h : Kept a s) :
    Kept a (State.sendCsm s k) := by
  unfold State.sendCsm
  iterate 40 all_goals first | (with_reducible assumption) | (with_reducible apply kept_gblock) | (with_reducible apply kept_each) | (with_reducible apply kept_put) | (with_reducible apply kept_emitBlocks) | intro _ | (with_reducible apply Kept.ite) | dsimp only | split | (with_reducible apply Kept.other) | skip

theorem kept_resumeFirst {a : State} {s : State} (h : Kept a s) :
    Kept a (State.resumeFirst s) := by
  unfold State.resumeFirst
  iterate 40 all_goals first | (with_reducible assumption) | (with_reducible apply kept_becomeFirst) | intro _ | (with_reducible apply Kept.ite) | dsimp only | split | (with_reducible apply Kept.other) | skip

theorem kept_yieldFirst {a : State} {s : State} (h : Kept a s) :
    Kept a (State.yieldFirst s) := by
  unfold State.yieldFirst
  iterate 40 all_goals first | (with_reducible assumption) | (with_reducible apply kept_put) | (with_reducible apply kept_rejoin) | intro _ | (with_reducible apply Kept.ite) | dsimp only | split | (with_reducible apply Kept.other) | skip

theorem kept_followCycle {a : State} {s : State} (h : Kept a s) :
    Kept a (State.followCycle s) := by
  unfold State.followCycle
  iterate 40 all_goals first | (with_reducible assumption) | (with_reducible apply kept_inc) | (with_reducible apply kept_becomeNode) | (with_reducible apply kept_put) | (with_reducible apply kept_setRst) | intro _ | (with_reducible apply Kept.ite) | dsimp only | split | (with_reducible apply Kept.other) | skip

theorem kept_turnCycle {a : State} {s : State} {k : Nat} {gtk : Nat} (h : Kept a s) :
    Kept a (State.turnCycle s k gtk) := by
  unfold State.turnCycle
  iterate 40 all_goals first | (with_reducible assumption) | (with_reducible apply kept_sendCsm) | (with_reducible apply kept_guardAlign) | (with_reducible apply kept_followCycle) | intro _ | (with_reducible apply Kept.ite) | dsimp only | split | (with_reducible apply Kept.other) | skip

theorem kept_offerCtls {a : State} {s : State} (h : Kept a s) :
    Kept a (State.offerCtls s) := by
  unfold State.offerCtls
  iterate 40 all_goals first | (with_reducible assumption) | (with_reducible apply kept_offerCtl) | intro _ | (with_reducible apply Kept.ite) | dsimp only | split | (with_reducible apply Kept.other) | skip

theorem kept_execCycleStart {a : State} {gtk : Nat} {s : State} (h : Kept a s) :
    KeptO a (execCycleStart gtk s) := by
  unfold execCycleStart
  iterate 40 all_goals first | (with_reducible assumption) | (with_reducible apply KeptO.next) | (with_reducible apply kept_offerCtls) | (with_reducible apply kept_turnCycle) | (with_reducible apply kept_resumeFirst) | (with_reducible apply kept_put) | (with_reducible apply kept_yieldFirst) | intro _ | (with_reducible apply Kept.ite) | dsimp only | split | (with_reducible apply Kept.other) | skip

theorem kept_sendCtl {a : State} {s : State} {p : Nat} {c : Nat} (h : Kept a s) :
    Kept a (State.sendCtl s p c) := by
  unfold State.sendCtl
  iterate 40 all_goals first | (with_reducible assumption) | (with_reducible apply kept_insertCtl) | (with_reducible apply kept_announced) | intro _ | (with_reducible apply Kept.ite) | dsimp only | split | (with_reducible apply Kept.other) | skip

theorem kept_sendCtls {a : State} {s : State} {p : Nat} {x2 : List Nat} (h : Kept a s) :
    Kept a (State.sendCtls s p x2) := by
  induction x2 generalizing s with
  | nil => exact kept_updLane h
  | cons c r ih =>
    rw [State.sendCtls]
    exact Kept.ite (kept_updLane h) (ih (kept_sendCtl h))

theorem kept_ringNext {a : State} {s : State} {p : Nat} {x : TxInfo} (h : Kept a s) :
    Kept a (State.ringNext s p x) := by
  unfold State.ringNext
  iterate 40 all_goals first | (with_reducible assumption) | (with_reducible apply kept_takeHead) | (with_reducible apply kept_updLane) | (with_reducible apply kept_inc) | (with_reducible apply kept_gblock) | (with_reducible apply kept_startWire) | (with_reducible apply kept_insert) | (with_reducible refine kept_takeHead_eq (by assumption) ?_) | intro _ | (with_reducible apply Kept.ite) | dsimp only | split | (with_reducible apply Kept.other) | skip

theorem kept_suppress {a : State} {s : State} {p : Nat} {c : Nat} {r : List Nat} (h : Kept a s) :
    Kept a (State.suppress s p c r) := by
  unfold State.suppress
  iterate 40 all_goals first | (with_reducible assumption) | (with_reducible apply kept_gblock) | (with_reducible apply kept_updLane) | intro _ | (with_reducible apply Kept.ite) | dsimp only | split | (with_reducible apply Kept.other) | skip

theorem kept_execSlotStart {a : State} {i : Fin 256} {x : TxInfo} {s : State} (h : Kept a s) :
    KeptO a (execSlotStart i x s) := by
  unfold execSlotStart
  iterate 40 all_goals first | (with_reducible assumption) | (with_reducible apply KeptO.next) | (with_reducible apply kept_updLane) | (with_reducible apply kept_ringNext) | (with_reducible apply kept_sendCtls) | (with_reducible apply kept_suppress) | intro _ | (with_reducible apply Kept.ite) | dsimp only | split | (with_reducible apply Kept.other) | skip

theorem kept_gateShow {a : State} {s : State} (h : Kept a s) :
    Kept a (State.gateShow s) := by
  unfold State.gateShow
  iterate 40 all_goals first | (with_reducible assumption) | (with_reducible apply kept_put) | intro _ | (with_reducible apply Kept.ite) | dsimp only | split | (with_reducible apply Kept.other) | skip

theorem kept_execGuardGateOpen {a : State} {x : GateIn} {s : State} (h : Kept a s) :
    KeptO a (execGuardGateOpen x s) := by
  unfold execGuardGateOpen
  iterate 40 all_goals first | (with_reducible assumption) | (with_reducible apply KeptO.next) | (with_reducible apply kept_gateShow) | (with_reducible apply kept_updLane) | intro _ | (with_reducible apply Kept.ite) | dsimp only | split | (with_reducible apply Kept.other) | skip

theorem kept_execGuardGateClose {a : State} {i : Option (Fin 256)} {s : State} (h : Kept a s) :
    KeptO a (execGuardGateClose i s) := by
  unfold execGuardGateClose
  iterate 40 all_goals first | (with_reducible assumption) | (with_reducible apply KeptO.next) | (with_reducible apply kept_gateShow) | (with_reducible apply kept_updLane) | (with_reducible apply kept_gblock) | (with_reducible apply kept_cutInsert) | (with_reducible apply kept_settle) | intro _ | (with_reducible apply Kept.ite) | dsimp only | split | (with_reducible apply Kept.other) | skip

theorem kept_execTransmitStart {a : State} {o : Fin 32} {x : TxInfo} {s : State} (h : Kept a s) :
    KeptO a (execTransmitStart o x s) := by
  unfold execTransmitStart
  iterate 40 all_goals first | (with_reducible assumption) | (with_reducible apply KeptO.next) | (with_reducible apply kept_ringNext) | (with_reducible apply kept_takeHead) | (with_reducible apply kept_updPort) | (with_reducible apply kept_startWire) | (with_reducible apply kept_sentAt) | (with_reducible apply kept_started) | (with_reducible apply kept_deliver) | (with_reducible refine kept_takeHead_eq (by assumption) ?_) | intro _ | (with_reducible apply Kept.ite) | dsimp only | split | (with_reducible apply Kept.other) | skip

theorem kept_ringOff {a : State} {s : State} (h : Kept a s) :
    Kept a (State.ringOff s) := by
  unfold State.ringOff
  iterate 40 all_goals first | (with_reducible assumption) | (with_reducible apply kept_rejoin) | (with_reducible apply kept_laneOff) | (with_reducible apply kept_foldUpd) | (with_reducible apply kept_setMembers) | (with_reducible apply kept_put) | (with_reducible apply kept_setRst) | intro _ | (with_reducible apply Kept.ite) | dsimp only | split | (with_reducible apply Kept.other) | skip

theorem kept_ringApplied {a : State} {s : State} {old : State} (h : Kept a s) :
    Kept a (State.ringApplied s old) := by
  unfold State.ringApplied
  iterate 40 all_goals first | (with_reducible assumption) | (with_reducible apply kept_put) | (with_reducible apply kept_fnSteer) | (with_reducible apply kept_setRst) | (with_reducible apply kept_ringOff) | intro _ | (with_reducible apply Kept.ite) | dsimp only | split | (with_reducible apply Kept.other) | skip

theorem kept_lastGasp {a : State} {s : State} {cause : Nat} (h : Kept a s) :
    Kept a (State.lastGasp s cause) := by
  unfold State.lastGasp
  iterate 40 all_goals first | (with_reducible assumption) | intro _ | (with_reducible apply Kept.ite) | dsimp only | split | (with_reducible apply Kept.other) | skip

end Sys2Proof.Machine
end

