-- ==== Sys2Proof/Laws/KeptCan.lean ====
section
/-!
SUPPORT. What the operations of Machine/Can.lean keep.
-/
namespace Sys2Proof.Machine

theorem kept_setCan {a : State} {s : State} {n : Nat} {x : Can} (h : Kept a s) :
    Kept a (State.setCan s n x) := by
  unfold State.setCan
  iterate 40 all_goals first | (with_reducible assumption) | intro _ | (with_reducible apply Kept.ite) | dsimp only | split | (with_reducible apply Kept.other) | skip

theorem kept_updCan {a : State} {s : State} {n : Nat} {g : Can → Can} (h : Kept a s) :
    Kept a (State.updCan s n g) := by
  unfold State.updCan
  iterate 40 all_goals first | (with_reducible assumption) | (with_reducible apply kept_setCan) | intro _ | (with_reducible apply Kept.ite) | dsimp only | split | (with_reducible apply Kept.other) | skip

theorem kept_putCanWord {a : State} {s : State} {n : Nat} {b : Nat} {w : Nat} {v : Nat} (h : Kept a s) :
    Kept a (State.putCanWord s n b w v) := by
  unfold State.putCanWord
  iterate 40 all_goals first | (with_reducible assumption) | (with_reducible apply kept_putCram) | intro _ | (with_reducible apply Kept.ite) | dsimp only | split | (with_reducible apply Kept.other) | skip

theorem kept_setHolder {a : State} {s : State} {n : Nat} {b : Nat} {h1 : Nat} (h : Kept a s) :
    Kept a (State.setHolder s n b h1) := by
  unfold State.setHolder
  iterate 40 all_goals first | (with_reducible assumption) | intro _ | (with_reducible apply Kept.ite) | dsimp only | split | (with_reducible apply Kept.other) | skip

theorem kept_canLock {a : State} {s : State} {h1 : Nat} {n : Nat} {b : Nat} (h : Kept a s) :
    Kept a (State.canLock s h1 n b) := by
  unfold State.canLock
  iterate 40 all_goals first | (with_reducible assumption) | (with_reducible apply kept_tmStart) | (with_reducible apply kept_setHolder) | intro _ | (with_reducible apply Kept.ite) | dsimp only | split | (with_reducible apply Kept.other) | skip

theorem kept_canRelease {a : State} {s : State} {h1 : Nat} {n : Nat} {b : Nat} (h : Kept a s) :
    Kept a (State.canRelease s h1 n b) := by
  unfold State.canRelease
  iterate 40 all_goals first | (with_reducible assumption) | (with_reducible apply kept_putCanWord) | (with_reducible apply kept_setHolder) | intro _ | (with_reducible apply Kept.ite) | dsimp only | split | (with_reducible apply Kept.other) | skip

theorem kept_canTouch {a : State} {s : State} {h1 : Nat} {a1 : Nat} {len : Nat} (h : Kept a s) :
    Kept a (State.canTouch s h1 a1 len) := by
  unfold State.canTouch
  iterate 40 all_goals first | (with_reducible assumption) | (with_reducible apply kept_each) | (with_reducible apply kept_canLock) | (with_reducible apply kept_canRelease) | intro _ | (with_reducible apply Kept.ite) | dsimp only | split | (with_reducible apply Kept.other) | skip

theorem kept_execCanBufferLock {a : State} {r : Req} {n : Fin 4} {b : Fin 256} {s : State} (h : Kept a s) :
    KeptO a (execCanBufferLock r n b s) := by
  unfold execCanBufferLock
  iterate 40 all_goals first | (with_reducible assumption) | (with_reducible apply KeptO.next) | (with_reducible apply kept_canLock) | intro _ | (with_reducible apply Kept.ite) | dsimp only | split | (with_reducible apply Kept.other) | skip

theorem kept_execCanBufferRelease {a : State} {r : Req} {n : Fin 4} {b : Fin 256} {s : State} (h : Kept a s) :
    KeptO a (execCanBufferRelease r n b s) := by
  unfold execCanBufferRelease
  iterate 40 all_goals first | (with_reducible assumption) | (with_reducible apply KeptO.next) | (with_reducible apply kept_canRelease) | intro _ | (with_reducible apply Kept.ite) | dsimp only | split | (with_reducible apply Kept.other) | skip

theorem kept_execCanLockTimeout {a : State} {n : Fin 4} {b : Fin 256} {s : State} (h : Kept a s) :
    KeptO a (execCanLockTimeout n b s) := by
  unfold execCanLockTimeout
  iterate 40 all_goals first | (with_reducible assumption) | (with_reducible apply KeptO.next) | (with_reducible apply kept_inc) | (with_reducible apply kept_setHolder) | intro _ | (with_reducible apply Kept.ite) | dsimp only | split | (with_reducible apply Kept.other) | skip

theorem kept_canUnlock {a : State} {s : State} {n : Nat} {p : Nat → Nat → Bool} (h : Kept a s) :
    Kept a (State.canUnlock s n p) := by
  unfold State.canUnlock
  iterate 40 all_goals first | (with_reducible assumption) | intro _ | (with_reducible apply Kept.ite) | dsimp only | split | (with_reducible apply Kept.other) | skip

theorem kept_canEngineStop {a : State} {s : State} {le : Nat} (h : Kept a s) :
    Kept a (State.canEngineStop s le) := by
  unfold State.canEngineStop
  iterate 40 all_goals first | (with_reducible assumption) | (with_reducible apply kept_each) | (with_reducible apply kept_canUnlock) | intro _ | (with_reducible apply Kept.ite) | dsimp only | split | (with_reducible apply Kept.other) | skip

theorem kept_canEvent {a : State} {s : State} {n : Nat} {b : Nat} (h : Kept a s) :
    Kept a (State.canEvent s n b) := by
  unfold State.canEvent
  iterate 40 all_goals first | (with_reducible assumption) | (with_reducible apply kept_doorbell) | (with_reducible apply kept_setEvp) | intro _ | (with_reducible apply Kept.ite) | dsimp only | split | (with_reducible apply Kept.other) | skip

theorem kept_ttMissed {a : State} {s : State} {n : Nat} {p : Nat → Bool} (h : Kept a s) :
    Kept a (State.ttMissed s n p) := by
  unfold State.ttMissed
  iterate 40 all_goals first | (with_reducible assumption) | (with_reducible apply kept_updCan) | (with_reducible apply kept_inc) | intro _ | (with_reducible apply Kept.ite) | dsimp only | split | (with_reducible apply Kept.other) | skip

theorem kept_ttMiss {a : State} {s : State} {n : Nat} (h : Kept a s) :
    Kept a (State.ttMiss s n) := by
  unfold State.ttMiss
  iterate 40 all_goals first | (with_reducible assumption) | (with_reducible apply kept_ttMissed) | intro _ | (with_reducible apply Kept.ite) | dsimp only | split | (with_reducible apply Kept.other) | skip

theorem kept_canConfine {a : State} {s : State} {n : Nat} (h : Kept a s) :
    Kept a (State.canConfine s n) := by
  unfold State.canConfine
  iterate 40 all_goals first | (with_reducible assumption) | (with_reducible apply kept_inc) | (with_reducible apply kept_put) | (with_reducible apply kept_chFault) | (with_reducible apply kept_raise) | (with_reducible apply kept_updCan) | (with_reducible apply kept_ttMissed) | intro _ | (with_reducible apply Kept.ite) | dsimp only | split | (with_reducible apply Kept.other) | skip

theorem kept_canErr {a : State} {s : State} {n : Nat} {kind : Nat} {tx : Bool} {inc : Nat} (h : Kept a s) :
    Kept a (State.canErr s n kind tx inc) := by
  unfold State.canErr
  iterate 40 all_goals first | (with_reducible assumption) | (with_reducible apply kept_put) | (with_reducible apply kept_inc) | (with_reducible apply kept_updCan) | (with_reducible apply kept_ttMiss) | (with_reducible apply kept_canConfine) | intro _ | (with_reducible apply Kept.ite) | dsimp only | split | (with_reducible apply Kept.other) | skip

theorem kept_execCanError {a : State} {n : Fin 4} {kind : Fin 6} {tx : Bool} {inc : BitVec 4} {s : State} (h : Kept a s) :
    KeptO a (execCanError n kind tx inc s) := by
  unfold execCanError
  iterate 40 all_goals first | (with_reducible assumption) | (with_reducible apply KeptO.next) | (with_reducible apply kept_canErr) | intro _ | (with_reducible apply Kept.ite) | dsimp only | split | (with_reducible apply Kept.other) | skip

theorem kept_canData {a : State} {s : State} {n : Nat} {b : Nat} {f : CanFrame} {h1 : Option Nat} (h : Kept a s) :
    Kept a (State.canData s n b f h1) := by
  unfold State.canData
  iterate 40 all_goals first | (with_reducible assumption) | (with_reducible apply kept_putCram) | intro _ | (with_reducible apply Kept.ite) | dsimp only | split | (with_reducible apply Kept.other) | skip

theorem kept_canStore {a : State} {s : State} {n : Nat} {t : Nat} {b : Nat} {f : CanFrame} {h1 : Option Nat} (h : Kept a s) :
    Kept a (State.canStore s n t b f h1) := by
  unfold State.canStore
  iterate 40 all_goals first | (with_reducible assumption) | (with_reducible apply kept_inc) | (with_reducible apply kept_putCanWord) | (with_reducible apply kept_canData) | (with_reducible apply kept_putCram) | (with_reducible apply kept_updCan) | (with_reducible apply kept_canEvent) | (with_reducible apply kept_id) | intro _ | (with_reducible apply Kept.ite) | dsimp only | split | (with_reducible apply Kept.other) | skip

theorem kept_canSett {a : State} {s : State} {n : Nat} {t : Nat} {f : CanFrame} (h : Kept a s) :
    KeptOpt a (State.canSett s n t f) := by
  unfold State.canSett
  iterate 40 all_goals first | (with_reducible assumption) | (with_reducible apply kept_stageTake) | (with_reducible apply kept_tookFree) | (with_reducible apply kept_setFrame) | (with_reducible apply KeptOpt.of_some) | (with_reducible apply KeptOpt.of_none) | (with_reducible apply KeptOpt.ite) | intro _ | (with_reducible apply Kept.ite) | dsimp only | split | (with_reducible apply Kept.other) | skip

theorem kept_canSett_eq {a : State} {s : State} {n : Nat} {t : Nat} {f : CanFrame} {u : State} (hq : (State.canSett s n t f) = some u) (h : Kept a s) : Kept a u := by
  have g := kept_canSett (s := s) (n := n) (t := t) (f := f) h
  rw [hq] at g
  exact g

theorem kept_canPlace {a : State} {s : State} {n : Nat} {t : Nat} {f : CanFrame} (h : Kept a s) :
    Kept a (State.canPlace s n t f) := by
  unfold State.canPlace
  iterate 40 all_goals first | (with_reducible assumption) | (with_reducible apply kept_canSett) | (with_reducible apply kept_canStore) | (with_reducible apply kept_inc) | (with_reducible apply kept_raise) | (with_reducible refine kept_canSett_eq (by assumption) ?_) | (with_reducible apply kept_id) | intro _ | (with_reducible apply Kept.ite) | dsimp only | split | (with_reducible apply Kept.other) | skip

theorem kept_ttMark {a : State} {s : State} {n : Nat} {sof : Nat} (h : Kept a s) :
    Kept a (State.ttMark s n sof) := by
  unfold State.ttMark
  iterate 40 all_goals first | (with_reducible assumption) | (with_reducible apply kept_tmStart) | (with_reducible apply kept_updCan) | (with_reducible apply kept_ttMissed) | intro _ | (with_reducible apply Kept.ite) | dsimp only | split | (with_reducible apply Kept.other) | skip

theorem kept_ttRef {a : State} {s : State} {n : Nat} {f : CanFrame} (h : Kept a s) :
    Kept a (State.ttRef s n f) := by
  unfold State.ttRef
  iterate 40 all_goals first | (with_reducible assumption) | (with_reducible apply kept_ttMark) | (with_reducible apply kept_inc) | (with_reducible apply kept_put) | (with_reducible apply kept_raise) | (with_reducible apply kept_updCan) | (with_reducible apply kept_id) | intro _ | (with_reducible apply Kept.ite) | dsimp only | split | (with_reducible apply Kept.other) | skip

theorem kept_canRecDown {a : State} {s : State} {n : Nat} (h : Kept a s) :
    Kept a (State.canRecDown s n) := by
  unfold State.canRecDown
  iterate 40 all_goals first | (with_reducible assumption) | (with_reducible apply kept_canConfine) | (with_reducible apply kept_tookFree) | (with_reducible apply kept_put) | intro _ | (with_reducible apply Kept.ite) | dsimp only | split | (with_reducible apply Kept.other) | skip

theorem kept_execCanFrameReceive {a : State} {n : Fin 4} {f : CanFrame} {s : State} (h : Kept a s) :
    KeptO a (execCanFrameReceive n f s) := by
  unfold execCanFrameReceive
  iterate 40 all_goals first | (with_reducible assumption) | (with_reducible apply KeptO.next) | (with_reducible apply kept_tmStop) | (with_reducible apply kept_tmStart) | (with_reducible apply kept_canErr) | (with_reducible apply kept_updCan) | (with_reducible apply kept_raise) | (with_reducible apply kept_put) | (with_reducible apply kept_ttMiss) | (with_reducible apply kept_ttRef) | (with_reducible apply kept_canRecDown) | (with_reducible apply kept_canPlace) | (with_reducible apply kept_inc) | intro _ | (with_reducible apply Kept.ite) | dsimp only | split | (with_reducible apply Kept.other) | skip

theorem kept_canTxBad {a : State} {s : State} {n : Nat} {b : Nat} (h : Kept a s) :
    Kept a (State.canTxBad s n b) := by
  unfold State.canTxBad
  iterate 40 all_goals first | (with_reducible assumption) | (with_reducible apply kept_inc) | (with_reducible apply kept_putCanWord) | intro _ | (with_reducible apply Kept.ite) | dsimp only | split | (with_reducible apply Kept.other) | skip

theorem kept_canArm {a : State} {s : State} {n : Nat} {b : Nat} (h : Kept a s) :
    Kept a (State.canArm s n b) := by
  unfold State.canArm
  iterate 40 all_goals first | (with_reducible assumption) | (with_reducible apply kept_canTxBad) | (with_reducible apply kept_setFrame) | intro _ | (with_reducible apply Kept.ite) | dsimp only | split | (with_reducible apply Kept.other) | skip

theorem kept_canWrote {a : State} {s : State} {a1 : Nat} {len : Nat} (h : Kept a s) :
    Kept a (State.canWrote s a1 len) := by
  unfold State.canWrote
  iterate 40 all_goals first | (with_reducible assumption) | (with_reducible apply kept_each) | (with_reducible apply kept_canArm) | intro _ | (with_reducible apply Kept.ite) | dsimp only | split | (with_reducible apply Kept.other) | skip

theorem kept_hostWrite {a : State} {s : State} {a1 : Nat} {l : List Byte} (h : Kept a s) :
    Kept a (State.hostWrite s a1 l) := by
  unfold State.hostWrite
  iterate 40 all_goals first | (with_reducible assumption) | (with_reducible apply kept_bar2Write) | (with_reducible apply kept_canWrote) | intro _ | (with_reducible apply Kept.ite) | dsimp only | split | (with_reducible apply Kept.other) | skip

theorem kept_execCanArm {a : State} {n : Fin 4} {b : Fin 256} {s : State} (h : Kept a s) :
    KeptO a (execCanArm n b s) := by
  unfold execCanArm
  iterate 40 all_goals first | (with_reducible assumption) | (with_reducible apply KeptO.next) | (with_reducible apply kept_canArm) | intro _ | (with_reducible apply Kept.ite) | dsimp only | split | (with_reducible apply Kept.other) | skip

theorem kept_canTdc {a : State} {s : State} {n : Nat} {b : Nat} {tdcv : Option (BitVec 8)} (h : Kept a s) :
    Kept a (State.canTdc s n b tdcv) := by
  unfold State.canTdc
  iterate 40 all_goals first | (with_reducible assumption) | (with_reducible apply kept_updCan) | (with_reducible apply kept_put) | intro _ | (with_reducible apply Kept.ite) | dsimp only | split | (with_reducible apply Kept.other) | skip

theorem kept_execCanArbitration {a : State} {n : Fin 4} {tdcv : Option (BitVec 8)} {s : State} (h : Kept a s) :
    KeptO a (execCanArbitration n tdcv s) := by
  unfold execCanArbitration
  iterate 40 all_goals first | (with_reducible assumption) | (with_reducible apply KeptO.next) | (with_reducible apply kept_updCan) | (with_reducible apply kept_each) | (with_reducible apply kept_ttMissed) | (with_reducible apply kept_canArm) | (with_reducible apply kept_canTdc) | intro _ | (with_reducible apply Kept.ite) | dsimp only | split | (with_reducible apply Kept.other) | skip

theorem kept_canFreeSett {a : State} {s : State} {n : Nat} {b : Nat} (h : Kept a s) :
    Kept a (State.canFreeSett s n b) := by
  unfold State.canFreeSett
  iterate 40 all_goals first | (with_reducible assumption) | (with_reducible apply kept_dropFrame) | intro _ | (with_reducible apply Kept.ite) | dsimp only | split | (with_reducible apply Kept.other) | skip

theorem kept_execCanTxComplete {a : State} {n : Fin 4} {sec : W32} {ns : BitVec 30} {sof : Nat} {s : State} (h : Kept a s) :
    KeptO a (execCanTxComplete n sec ns sof s) := by
  unfold execCanTxComplete
  iterate 40 all_goals first | (with_reducible assumption) | (with_reducible apply KeptO.next) | (with_reducible apply kept_put) | (with_reducible apply kept_inc) | (with_reducible apply kept_canConfine) | (with_reducible apply kept_ttMark) | (with_reducible apply kept_updCan) | (with_reducible apply kept_putCanWord) | (with_reducible apply kept_canFreeSett) | (with_reducible apply kept_putCram) | (with_reducible apply kept_canEvent) | intro _ | (with_reducible apply Kept.ite) | dsimp only | split | (with_reducible apply Kept.other) | skip

theorem kept_canCancel {a : State} {s : State} {n : Nat} {b : Nat} (h : Kept a s) :
    Kept a (State.canCancel s n b) := by
  unfold State.canCancel
  iterate 40 all_goals first | (with_reducible assumption) | (with_reducible apply kept_putCanWord) | (with_reducible apply kept_canFreeSett) | intro _ | (with_reducible apply Kept.ite) | dsimp only | split | (with_reducible apply Kept.other) | skip

theorem kept_execCanTxcancel {a : State} {n : Fin 4} {b : Fin 256} {s : State} (h : Kept a s) :
    KeptO a (execCanTxcancel n b s) := by
  unfold execCanTxcancel
  iterate 40 all_goals first | (with_reducible assumption) | (with_reducible apply KeptO.next) | (with_reducible apply kept_hostWr) | (with_reducible apply kept_canCancel) | intro _ | (with_reducible apply Kept.ite) | dsimp only | split | (with_reducible apply Kept.other) | skip

theorem kept_canDetEnd {a : State} {s : State} {n : Nat} (h : Kept a s) :
    Kept a (State.canDetEnd s n) := by
  unfold State.canDetEnd
  iterate 40 all_goals first | (with_reducible assumption) | (with_reducible apply kept_put) | intro _ | (with_reducible apply Kept.ite) | dsimp only | split | (with_reducible apply Kept.other) | skip

theorem kept_canDetect {a : State} {s : State} {n : Nat} {r : Nat} {k : Nat} (h : Kept a s) :
    Kept a (State.canDetect s n r k) := by
  unfold State.canDetect
  iterate 40 all_goals first | (with_reducible assumption) | (with_reducible apply kept_tmStart) | (with_reducible apply kept_updCan) | (with_reducible apply kept_canDetEnd) | intro _ | (with_reducible apply Kept.ite) | dsimp only | split | (with_reducible apply Kept.other) | skip

theorem kept_execCanDetectWindow {a : State} {n : Fin 4} {s : State} (h : Kept a s) :
    KeptO a (execCanDetectWindow n s) := by
  unfold execCanDetectWindow
  iterate 40 all_goals first | (with_reducible assumption) | (with_reducible apply KeptO.next) | (with_reducible apply kept_canDetect) | intro _ | (with_reducible apply Kept.ite) | dsimp only | split | (with_reducible apply Kept.other) | skip

theorem kept_canRecover {a : State} {s : State} {n : Nat} {flush : Bool} (h : Kept a s) :
    Kept a (State.canRecover s n flush) := by
  unfold State.canRecover
  iterate 40 all_goals first | (with_reducible assumption) | (with_reducible apply kept_each) | (with_reducible apply kept_canCancel) | (with_reducible apply kept_tmStart) | (with_reducible apply kept_put) | intro _ | (with_reducible apply Kept.ite) | dsimp only | split | (with_reducible apply Kept.other) | skip

theorem kept_execCanRecoveryDone {a : State} {n : Fin 4} {s : State} (h : Kept a s) :
    KeptO a (execCanRecoveryDone n s) := by
  unfold execCanRecoveryDone
  iterate 40 all_goals first | (with_reducible assumption) | (with_reducible apply KeptO.next) | (with_reducible apply kept_raise) | (with_reducible apply kept_put) | intro _ | (with_reducible apply Kept.ite) | dsimp only | split | (with_reducible apply Kept.other) | skip

theorem kept_execTtRefSend {a : State} {n : Fin 4} {s : State} (h : Kept a s) :
    KeptO a (execTtRefSend n s) := by
  unfold execTtRefSend
  iterate 40 all_goals first | (with_reducible assumption) | (with_reducible apply KeptO.next) | (with_reducible apply kept_updCan) | intro _ | (with_reducible apply Kept.ite) | dsimp only | split | (with_reducible apply Kept.other) | skip

theorem kept_execTtBackupTimeout {a : State} {n : Fin 4} {s : State} (h : Kept a s) :
    KeptO a (execTtBackupTimeout n s) := by
  unfold execTtBackupTimeout
  iterate 40 all_goals first | (with_reducible assumption) | (with_reducible apply KeptO.next) | (with_reducible apply kept_updCan) | (with_reducible apply kept_raise) | (with_reducible apply kept_put) | intro _ | (with_reducible apply Kept.ite) | dsimp only | split | (with_reducible apply Kept.other) | skip

theorem kept_execTtTxTrigger {a : State} {n : Fin 4} {b : Fin 256} {hit : Bool} {s : State} (h : Kept a s) :
    KeptO a (execTtTxTrigger n b hit s) := by
  unfold execTtTxTrigger
  iterate 40 all_goals first | (with_reducible assumption) | (with_reducible apply KeptO.next) | (with_reducible apply kept_updCan) | (with_reducible apply kept_inc) | intro _ | (with_reducible apply Kept.ite) | dsimp only | split | (with_reducible apply Kept.other) | skip

theorem kept_execTtSyncLost {a : State} {n : Fin 4} {s : State} (h : Kept a s) :
    KeptO a (execTtSyncLost n s) := by
  unfold execTtSyncLost
  iterate 40 all_goals first | (with_reducible assumption) | (with_reducible apply KeptO.next) | (with_reducible apply kept_put) | intro _ | (with_reducible apply Kept.ite) | dsimp only | split | (with_reducible apply Kept.other) | skip

theorem kept_canApplied {a : State} {s : State} {old : State} {n : Nat} (h : Kept a s) :
    Kept a (State.canApplied s old n) := by
  unfold State.canApplied
  iterate 40 all_goals first | (with_reducible assumption) | (with_reducible apply kept_updCan) | (with_reducible apply kept_canUnlock) | (with_reducible apply kept_tmStart) | (with_reducible apply kept_tmStop) | (with_reducible apply kept_put) | (with_reducible apply kept_canDetEnd) | (with_reducible apply kept_canDetect) | intro _ | (with_reducible apply Kept.ite) | dsimp only | split | (with_reducible apply Kept.other) | skip

end Sys2Proof.Machine
end

