-- ==== Sys2Proof/Laws/KeptGateway.lean ====
section
/-!
SUPPORT. What the operations of Machine/Gateway.lean keep.
-/
namespace Sys2Proof.Machine

theorem kept_gwSend {a : State} {s : State} {le : Nat} {proto : Nat} {l : List Byte} (h : Kept a s) :
    Kept a (State.gwSend s le proto l) := by
  unfold State.gwSend
  iterate 40 all_goals first | (with_reducible assumption) | (with_reducible apply kept_stageTake) | (with_reducible apply kept_tookFree) | (with_reducible apply kept_setFrame) | (with_reducible apply kept_submit) | intro _ | (with_reducible apply Kept.ite) | dsimp only | split | (with_reducible apply Kept.other) | skip

theorem kept_gwSendQueue {a : State} {s : State} {le : Nat} (h : Kept a s) :
    Kept a (State.gwSendQueue s le) := by
  unfold State.gwSendQueue
  iterate 40 all_goals first | (with_reducible assumption) | (with_reducible apply kept_each) | (with_reducible apply kept_gwSend) | intro _ | (with_reducible apply Kept.ite) | dsimp only | split | (with_reducible apply Kept.other) | skip

theorem kept_hwqShow {a : State} {s : State} (h : Kept a s) :
    Kept a (State.hwqShow s) := by
  unfold State.hwqShow
  iterate 40 all_goals first | (with_reducible assumption) | (with_reducible apply kept_put) | intro _ | (with_reducible apply Kept.ite) | dsimp only | split | (with_reducible apply Kept.other) | skip

theorem kept_gwRemote {a : State} {s : State} {le : Nat} {e : Nat} {x : GwEntry} {l : List Byte} (h : Kept a s) :
    Kept a (State.gwRemote s le e x l) := by
  unfold State.gwRemote
  iterate 40 all_goals first | (with_reducible assumption) | (with_reducible apply kept_inc) | (with_reducible apply kept_each) | (with_reducible apply kept_gwSend) | intro _ | (with_reducible apply Kept.ite) | dsimp only | split | (with_reducible apply Kept.other) | skip

theorem kept_gwExec {a : State} {s : State} {le : Nat} {e : Nat} {x : GwEntry} {h1 : Nat} (h : Kept a s) :
    Kept a (State.gwExec s le e x h1) := by
  unfold State.gwExec
  iterate 40 all_goals first | (with_reducible assumption) | (with_reducible apply kept_raise) | (with_reducible apply kept_inc) | (with_reducible apply kept_gwRemote) | (with_reducible apply kept_putBack) | intro _ | (with_reducible apply Kept.ite) | dsimp only | split | (with_reducible apply Kept.other) | skip

theorem kept_gwStart {a : State} {s : State} {j : Nat} (h : Kept a s) :
    Kept a (State.gwStart s j) := by
  unfold State.gwStart
  iterate 40 all_goals first | (with_reducible assumption) | (with_reducible apply kept_hwqShow) | (with_reducible apply kept_gwSendQueue) | (with_reducible apply kept_put) | intro _ | (with_reducible apply Kept.ite) | dsimp only | split | (with_reducible apply Kept.other) | skip

theorem kept_gwRun {a : State} {s : State} {j : Nat} {h1 : Nat} {l : List (Nat × GwEntry)} (h : Kept a s) :
    Kept a (State.gwRun s j h1 l) := by
  unfold State.gwRun
  iterate 40 all_goals first | (with_reducible assumption) | (with_reducible apply kept_each) | (with_reducible apply kept_gwExec) | intro _ | (with_reducible apply Kept.ite) | dsimp only | split | (with_reducible apply Kept.other) | skip

theorem kept_execPhasePass {a : State} {j : Fin 8} {cut : Option (Fin 4096)} {s : State} (h : Kept a s) :
    KeptO a (execPhasePass j cut s) := by
  unfold execPhasePass
  iterate 40 all_goals first | (with_reducible assumption) | (with_reducible apply KeptO.next) | (with_reducible apply kept_gwStart) | (with_reducible apply kept_updTh) | (with_reducible apply kept_gwRun) | (with_reducible apply kept_inc) | (with_reducible apply kept_commit) | intro _ | (with_reducible apply Kept.ite) | dsimp only | split | (with_reducible apply Kept.other) | skip

theorem kept_gwDrop {a : State} {s : State} {j : Nat} {h1 : Nat} (h : Kept a s) :
    Kept a (State.gwDrop s j h1) := by
  unfold State.gwDrop
  iterate 40 all_goals first | (with_reducible assumption) | (with_reducible apply kept_dropFrame) | (with_reducible apply kept_updTh) | intro _ | (with_reducible apply Kept.ite) | dsimp only | split | (with_reducible apply Kept.other) | skip

theorem kept_execFramePass {a : State} {j : Fin 8} {s : State} (h : Kept a s) :
    KeptO a (execFramePass j s) := by
  unfold execFramePass
  iterate 40 all_goals first | (with_reducible assumption) | (with_reducible apply KeptO.next) | (with_reducible apply kept_gwDrop) | (with_reducible apply kept_gwStart) | (with_reducible apply kept_gwRun) | intro _ | (with_reducible apply Kept.ite) | dsimp only | split | (with_reducible apply Kept.other) | skip

theorem kept_gwTake {a : State} {s : State} {j : Nat} {ty : Nat} {g : List Byte → State → State} (h : Kept a s) (hg : ∀ x0 t, Kept a t → Kept a (g x0 t)) :
    Kept a (State.gwTake s j ty g) := by
  unfold State.gwTake
  iterate 40 all_goals first | (with_reducible assumption) | (with_reducible apply hg) | (with_reducible apply kept_gwDrop) | (with_reducible apply kept_inc) | intro _ | (with_reducible apply Kept.ite) | dsimp only | split | (with_reducible apply Kept.other) | skip

theorem kept_gwRack {a : State} {s : State} {r : Nat} {int : Bool} (h : Kept a s) :
    Kept a (State.gwRack s r int) := by
  unfold State.gwRack
  iterate 40 all_goals first | (with_reducible assumption) | (with_reducible apply kept_put) | (with_reducible apply kept_doorbell) | intro _ | (with_reducible apply Kept.ite) | dsimp only | split | (with_reducible apply Kept.other) | skip

theorem kept_execGwRack {a : State} {r : Fin 256} {int : Bool} {s : State} (h : Kept a s) :
    KeptO a (execGwRack r int s) := by
  unfold execGwRack
  iterate 40 all_goals first | (with_reducible assumption) | (with_reducible apply KeptO.next) | (with_reducible apply kept_hostWr) | (with_reducible apply kept_gwRack) | intro _ | (with_reducible apply Kept.ite) | dsimp only | split | (with_reducible apply Kept.other) | skip

theorem kept_execPollDone {a : State} {j : Fin 8} {s : State} (h : Kept a s) :
    KeptO a (execPollDone j s) := by
  unfold execPollDone
  iterate 40 all_goals first | (with_reducible assumption) | (with_reducible apply KeptO.next) | (with_reducible apply kept_gwTake) | (with_reducible apply kept_gwRack) | intro _ | (with_reducible apply Kept.ite) | dsimp only | split | (with_reducible apply Kept.other) | skip

theorem kept_writeDone {a : State} {s : State} {l : List Byte} (h : Kept a s) :
    Kept a (State.writeDone s l) := by
  unfold State.writeDone
  iterate 40 all_goals first | (with_reducible assumption) | (with_reducible apply kept_hwqShow) | (with_reducible apply kept_logPweTag) | (with_reducible apply kept_inc) | intro _ | (with_reducible apply Kept.ite) | dsimp only | split | (with_reducible apply Kept.other) | skip

theorem kept_execWriteDone {a : State} {j : Fin 8} {s : State} (h : Kept a s) :
    KeptO a (execWriteDone j s) := by
  unfold execWriteDone
  iterate 40 all_goals first | (with_reducible assumption) | (with_reducible apply KeptO.next) | (with_reducible apply kept_gwTake) | (with_reducible apply kept_writeDone) | intro _ | (with_reducible apply Kept.ite) | dsimp only | split | (with_reducible apply Kept.other) | skip

theorem kept_pollDue {a : State} {s : State} {r : Nat} (h : Kept a s) :
    Kept a (State.pollDue s r) := by
  unfold State.pollDue
  iterate 40 all_goals first | (with_reducible assumption) | (with_reducible apply kept_inc) | (with_reducible apply kept_put) | (with_reducible apply kept_gwSend) | (with_reducible apply kept_signal) | (with_reducible apply kept_raise) | intro _ | (with_reducible apply Kept.ite) | dsimp only | split | (with_reducible apply Kept.other) | skip

theorem kept_execRemotePollDue {a : State} {r : Fin 256} {s : State} (h : Kept a s) :
    KeptO a (execRemotePollDue r s) := by
  unfold execRemotePollDue
  iterate 40 all_goals first | (with_reducible assumption) | (with_reducible apply KeptO.next) | (with_reducible apply kept_pollDue) | intro _ | (with_reducible apply Kept.ite) | dsimp only | split | (with_reducible apply Kept.other) | skip

theorem kept_hwqPush {a : State} {s : State} {tag : Nat} (h : Kept a s) :
    Kept a (State.hwqPush s tag) := by
  unfold State.hwqPush
  iterate 40 all_goals first | (with_reducible assumption) | (with_reducible apply kept_logPweTag) | (with_reducible apply kept_inc) | (with_reducible apply kept_hwqShow) | (with_reducible apply kept_put) | intro _ | (with_reducible apply Kept.ite) | dsimp only | split | (with_reducible apply Kept.other) | skip

theorem kept_execGwHwqPush {a : State} {tag : BitVec 16} {s : State} (h : Kept a s) :
    KeptO a (execGwHwqPush tag s) := by
  unfold execGwHwqPush
  iterate 40 all_goals first | (with_reducible assumption) | (with_reducible apply KeptO.next) | (with_reducible apply kept_hostWr) | (with_reducible apply kept_hwqPush) | intro _ | (with_reducible apply Kept.ite) | dsimp only | split | (with_reducible apply Kept.other) | skip

theorem kept_cntAdd {a : State} {s : State} {sel : Nat} {n : Nat} (h : Kept a s) :
    Kept a (State.cntAdd s sel n) := by
  unfold State.cntAdd
  iterate 40 all_goals first | (with_reducible assumption) | (with_reducible apply kept_inc) | intro _ | (with_reducible apply Kept.ite) | dsimp only | split | (with_reducible apply Kept.other) | skip

theorem kept_execGwCntAdd {a : State} {sel : Fin 16} {n : W24} {s : State} (h : Kept a s) :
    KeptO a (execGwCntAdd sel n s) := by
  unfold execGwCntAdd
  iterate 40 all_goals first | (with_reducible assumption) | (with_reducible apply KeptO.next) | (with_reducible apply kept_hostWr) | (with_reducible apply kept_cntAdd) | intro _ | (with_reducible apply Kept.ite) | dsimp only | split | (with_reducible apply Kept.other) | skip

theorem kept_giveBank {a : State} {s : State} {b : Nat} {o : Nat} (h : Kept a s) :
    Kept a (State.giveBank s b o) := by
  unfold State.giveBank
  iterate 40 all_goals first | (with_reducible assumption) | (with_reducible apply kept_put) | intro _ | (with_reducible apply Kept.ite) | dsimp only | split | (with_reducible apply Kept.other) | skip

theorem kept_execGwHandoverDone {a : State} {s : State} (h : Kept a s) :
    KeptO a (execGwHandoverDone s) := by
  unfold execGwHandoverDone
  iterate 40 all_goals first | (with_reducible assumption) | (with_reducible apply KeptO.next) | (with_reducible apply kept_put) | (with_reducible apply kept_giveBank) | intro _ | (with_reducible apply Kept.ite) | dsimp only | split | (with_reducible apply Kept.other) | skip

theorem kept_gwApplied {a : State} {s : State} {old : State} (h : Kept a s) :
    Kept a (State.gwApplied s old) := by
  unfold State.gwApplied
  iterate 40 all_goals first | (with_reducible assumption) | (with_reducible apply kept_each) | (with_reducible apply kept_tmStart) | (with_reducible apply kept_put) | (with_reducible apply kept_giveBank) | intro _ | (with_reducible apply Kept.ite) | dsimp only | split | (with_reducible apply Kept.other) | skip

end Sys2Proof.Machine
end

