-- ==== Sys2Proof/Laws/KeptSupervisor.lean ====
section
/-!
SUPPORT. What the operations of Machine/Supervisor.lean keep.
-/
namespace Sys2Proof.Machine

theorem kept_devPut {a : State} {s : State} {a1 : Nat} {l : List Byte} (h : Kept a s) :
    Kept a (State.devPut s a1 l) := by
  unfold State.devPut
  iterate 40 all_goals first | (with_reducible assumption) | (with_reducible apply kept_logRefuse) | (with_reducible apply kept_hostPut) | intro _ | (with_reducible apply Kept.ite) | dsimp only | split | (with_reducible apply Kept.other) | skip

theorem kept_putSpace {a : State} {s : State} {space : Nat} {a1 : Nat} {l : List Byte} (h : Kept a s) :
    Kept a (State.putSpace s space a1 l) := by
  unfold State.putSpace
  iterate 40 all_goals first | (with_reducible assumption) | (with_reducible apply kept_putHost) | (with_reducible apply kept_devPut) | intro _ | (with_reducible apply Kept.ite) | dsimp only | split | (with_reducible apply Kept.other) | skip

theorem kept_tookEffect {a : State} {s : State} {l : List Byte} (h : Kept a s) :
    Kept a (State.tookEffect s l) := by
  unfold State.tookEffect
  iterate 40 all_goals first | (with_reducible assumption) | (with_reducible apply kept_raise) | (with_reducible apply kept_put) | intro _ | (with_reducible apply Kept.ite) | dsimp only | split | (with_reducible apply Kept.other) | skip

theorem kept_putResult {a : State} {s : State} {x : Mbx} {res : List Byte} (h : Kept a s) :
    Kept a (State.putResult s x res) := by
  unfold State.putResult
  iterate 40 all_goals first | (with_reducible assumption) | (with_reducible apply kept_putSpace) | intro _ | (with_reducible apply Kept.ite) | dsimp only | split | (with_reducible apply Kept.other) | skip

theorem kept_mbxAck {a : State} {s : State} {m : Nat} {tag : Nat} {code : Nat} (h : Kept a s) :
    Kept a (State.mbxAck s m tag code) := by
  unfold State.mbxAck
  iterate 40 all_goals first | (with_reducible assumption) | (with_reducible apply kept_setMb) | (with_reducible apply kept_doorbell) | (with_reducible apply kept_put) | intro _ | (with_reducible apply Kept.ite) | dsimp only | split | (with_reducible apply Kept.other) | skip

theorem kept_mbxEnd {a : State} {s : State} {m : Nat} {code : Nat} {res : Option (List Byte)} (h : Kept a s) :
    Kept a (State.mbxEnd s m code res) := by
  unfold State.mbxEnd
  iterate 40 all_goals first | (with_reducible assumption) | (with_reducible apply kept_mbxAck) | (with_reducible apply kept_putResult) | intro _ | (with_reducible apply Kept.ite) | dsimp only | split | (with_reducible apply Kept.other) | skip

theorem kept_startDone {a : State} {s : State} (h : Kept a s) :
    Kept a (State.startDone s) := by
  unfold State.startDone
  iterate 40 all_goals first | (with_reducible assumption) | (with_reducible apply kept_setMb) | (with_reducible apply kept_mbxEnd) | (with_reducible apply kept_tookEffect) | (with_reducible apply kept_put) | intro _ | (with_reducible apply Kept.ite) | dsimp only | split | (with_reducible apply Kept.other) | skip

theorem kept_startFail {a : State} {s : State} {op : Nat} {code : Nat} (h : Kept a s) :
    Kept a (State.startFail s op code) := by
  unfold State.startFail
  iterate 40 all_goals first | (with_reducible assumption) | (with_reducible apply kept_startDone) | (with_reducible apply kept_raise) | intro _ | (with_reducible apply Kept.ite) | dsimp only | split | (with_reducible apply Kept.other) | skip

theorem kept_startNext {a : State} {s : State} (h : Kept a s) :
    Kept a (State.startNext s) := by
  unfold State.startNext
  iterate 40 all_goals first | (with_reducible assumption) | (with_reducible apply kept_startDone) | (with_reducible apply kept_startFail) | (with_reducible apply kept_setMb) | intro _ | (with_reducible apply Kept.ite) | dsimp only | split | (with_reducible apply Kept.other) | skip

theorem kept_startEnd {a : State} {s : State} {code : Nat} (h : Kept a s) :
    Kept a (State.startEnd s code) := by
  unfold State.startEnd
  iterate 40 all_goals first | (with_reducible assumption) | (with_reducible apply kept_startNext) | (with_reducible apply kept_startFail) | intro _ | (with_reducible apply Kept.ite) | dsimp only | split | (with_reducible apply Kept.other) | skip

theorem kept_cmdEnd {a : State} {s : State} {m : Nat} {code : Nat} {res : Option (List Byte)} (h : Kept a s) :
    Kept a (State.cmdEnd s m code res) := by
  unfold State.cmdEnd
  iterate 40 all_goals first | (with_reducible assumption) | (with_reducible apply kept_startEnd) | (with_reducible apply kept_mbxEnd) | intro _ | (with_reducible apply Kept.ite) | dsimp only | split | (with_reducible apply Kept.other) | skip

theorem kept_cmd {a : State} {s : State} {m : Nat} {op : Nat} {run : State → Mbx → State} (h : Kept a s) (hg : ∀ t x1, Kept a t → Kept a (run t x1)) :
    Kept a (State.cmd s m op run) := by
  unfold State.cmd
  iterate 40 all_goals first | (with_reducible assumption) | (with_reducible apply hg) | (with_reducible apply kept_cmdEnd) | (with_reducible apply kept_setMb) | intro _ | (with_reducible apply Kept.ite) | dsimp only | split | (with_reducible apply Kept.other) | skip

theorem kept_endAll {a : State} {s : State} {op : Nat} {p : Mbx → Bool} {code : Nat} {res : Mbx → List Byte} (h : Kept a s) :
    Kept a (State.endAll s op p code res) := by
  unfold State.endAll
  iterate 40 all_goals first | (with_reducible assumption) | (with_reducible apply kept_each) | (with_reducible apply kept_cmdEnd) | intro _ | (with_reducible apply Kept.ite) | dsimp only | split | (with_reducible apply Kept.other) | skip

theorem kept_snapWithdraw {a : State} {s : State} {code : Nat} (h : Kept a s) :
    Kept a (State.snapWithdraw s code) := by
  unfold State.snapWithdraw
  iterate 40 all_goals first | (with_reducible assumption) | (with_reducible apply kept_snapCancel) | (with_reducible apply kept_cmdEnd) | intro _ | (with_reducible apply Kept.ite) | dsimp only | split | (with_reducible apply Kept.other) | skip

end Sys2Proof.Machine
end

