-- ==== Sys2Proof/Laws/KeptMemory.lean ====
section
/-!
SUPPORT. What the operations of Machine/Memory.lean keep.
-/
namespace Sys2Proof.Machine

theorem kept_zeroBank {a : State} {s : State} {b : Nat} (h : Kept a s) :
    Kept a (State.zeroBank s b) := by
  unfold State.zeroBank
  iterate 40 all_goals first | exact wf0_set | exact wf0_fill | exact wf0_keep | exact wf0_filter | (exact fun _ : SMap.wf _ _ = true => rfl) | exact Nat.le_add_right _ _ | (with_reducible assumption) | intro _ | (with_reducible apply Kept.ite) | dsimp only | split | (with_reducible apply Kept.other) | (with_reducible apply Kept.of_cram) | skip

theorem kept_bankWrite {a : State} {s : State} {b : Nat} {v : Nat} (h : Kept a s) :
    Kept a (State.bankWrite s b v) := by
  unfold State.bankWrite
  iterate 40 all_goals first | (with_reducible assumption) | (with_reducible apply kept_put) | intro _ | (with_reducible apply Kept.ite) | dsimp only | split | (with_reducible apply Kept.other) | skip

theorem kept_execBankHandover {a : State} {b : Fin 32} {v : W32} {s : State} (h : Kept a s) :
    KeptO a (execBankHandover b v s) := by
  unfold execBankHandover
  iterate 40 all_goals first | (with_reducible assumption) | (with_reducible apply KeptO.next) | (with_reducible apply kept_hostWr) | (with_reducible apply kept_bankWrite) | intro _ | (with_reducible apply Kept.ite) | dsimp only | split | (with_reducible apply Kept.other) | skip

theorem kept_bankCleared {a : State} {s : State} {b : Nat} (h : Kept a s) :
    Kept a (State.bankCleared s b) := by
  unfold State.bankCleared
  iterate 40 all_goals first | (with_reducible assumption) | (with_reducible apply kept_put) | (with_reducible apply kept_zeroBank) | (with_reducible apply kept_each) | (with_reducible apply kept_canWrote) | (with_reducible apply kept_putCram) | intro _ | (with_reducible apply Kept.ite) | dsimp only | split | (with_reducible apply Kept.other) | skip

theorem kept_execBankClearDone {a : State} {b : Fin 32} {s : State} (h : Kept a s) :
    KeptO a (execBankClearDone b s) := by
  unfold execBankClearDone
  iterate 40 all_goals first | (with_reducible assumption) | (with_reducible apply KeptO.next) | (with_reducible apply kept_bankCleared) | intro _ | (with_reducible apply Kept.ite) | dsimp only | split | (with_reducible apply Kept.other) | skip

theorem kept_execHostMemoryWrite {a : State} {a1 : W24} {bytes : List Byte} {ue : Bool} {s : State} (h : Kept a s) :
    KeptO a (execHostMemoryWrite a1 bytes ue s) := by
  unfold execHostMemoryWrite
  iterate 40 all_goals first | (with_reducible assumption) | (with_reducible apply KeptO.next) | (with_reducible apply kept_hostWrite) | (with_reducible apply kept_mergeUe) | intro _ | (with_reducible apply Kept.ite) | dsimp only | split | (with_reducible apply Kept.other) | skip

theorem kept_execScrubPassEnd {a : State} {done : Bool} {s : State} (h : Kept a s) :
    KeptO a (execScrubPassEnd done s) := by
  unfold execScrubPassEnd
  iterate 40 all_goals first | (with_reducible assumption) | (with_reducible apply KeptO.next) | (with_reducible apply kept_tmStart) | (with_reducible apply kept_tmStop) | (with_reducible apply kept_inc) | (with_reducible apply kept_put) | intro _ | (with_reducible apply Kept.ite) | dsimp only | split | (with_reducible apply Kept.other) | skip

theorem kept_memCe {a : State} {s : State} {target : Nat} {unit : Nat} (h : Kept a s) :
    Kept a (State.memCe s target unit) := by
  unfold State.memCe
  iterate 40 all_goals first | (with_reducible assumption) | (with_reducible apply kept_inc) | (with_reducible apply kept_chFault) | intro _ | (with_reducible apply Kept.ite) | dsimp only | split | (with_reducible apply Kept.other) | skip

theorem kept_execScrubCorrection {a : State} {t : Fin 5} {u : Fin 64} {w : BitVec 16} {ue : Bool} {wr : Bool} {s : State} (h : Kept a s) :
    KeptO a (execScrubCorrection t u w ue wr s) := by
  unfold execScrubCorrection
  iterate 40 all_goals first | (with_reducible assumption) | (with_reducible apply KeptO.next) | (with_reducible apply kept_when) | (with_reducible apply kept_memUe) | (with_reducible apply kept_setMark) | (with_reducible apply kept_memCe) | (with_reducible apply kept_inc) | intro _ | (with_reducible apply Kept.ite) | dsimp only | split | (with_reducible apply Kept.other) | skip

theorem kept_uePop {a : State} {s : State} (h : Kept a s) :
    Kept a (State.uePop s) := by
  unfold State.uePop
  split
  · exact Kept.other h
  · rename_i r q hq
    exact Kept.of_ueLog h (fun w => by rw [hq] at w; exact Nat.le_trans (Nat.le_succ _) w)

theorem kept_execMemUePop {a : State} {s : State} (h : Kept a s) :
    KeptO a (execMemUePop s) := by
  unfold execMemUePop
  iterate 40 all_goals first | (with_reducible assumption) | (with_reducible apply KeptO.next) | (with_reducible apply kept_uePop) | intro _ | (with_reducible apply Kept.ite) | dsimp only | split | (with_reducible apply Kept.other) | skip

theorem kept_refusePop {a : State} {s : State} (h : Kept a s) :
    Kept a (State.refusePop s) := by
  unfold State.refusePop
  split
  · exact Kept.other h
  · rename_i r q hq
    exact Kept.of_refLog h (fun w => by rw [hq] at w; exact Nat.le_trans (Nat.le_succ _) w)

theorem kept_execMemRefusePop {a : State} {s : State} (h : Kept a s) :
    KeptO a (execMemRefusePop s) := by
  unfold execMemRefusePop
  iterate 40 all_goals first | (with_reducible assumption) | (with_reducible apply KeptO.next) | (with_reducible apply kept_refusePop) | intro _ | (with_reducible apply Kept.ite) | dsimp only | split | (with_reducible apply Kept.other) | skip

theorem kept_engStopped {a : State} {s : State} {le : Nat} (h : Kept a s) :
    Kept a (State.engStopped s le) := by
  unfold State.engStopped
  iterate 40 all_goals first | (with_reducible assumption) | (with_reducible apply kept_each) | (with_reducible apply kept_updTh) | (with_reducible apply kept_drainAll) | (with_reducible apply kept_dropFrame) | (with_reducible apply kept_canEngineStop) | (with_reducible apply kept_put) | intro _ | (with_reducible apply Kept.ite) | dsimp only | split | (with_reducible apply Kept.other) | skip

theorem kept_migrate {a : State} {s : State} {le : Nat} {x : Nat} {retire : Bool} (h : Kept a s) :
    Kept a (State.migrate s le x retire) := by
  unfold State.migrate
  iterate 40 all_goals first | (with_reducible assumption) | (with_reducible apply kept_tmStart) | (with_reducible apply kept_setEng) | (with_reducible apply kept_put) | intro _ | (with_reducible apply Kept.ite) | dsimp only | split | (with_reducible apply Kept.other) | skip

theorem kept_unmigrate {a : State} {s : State} {le : Nat} (h : Kept a s) :
    Kept a (State.unmigrate s le) := by
  unfold State.unmigrate
  iterate 40 all_goals first | (with_reducible assumption) | (with_reducible apply kept_deliverHeld) | (with_reducible apply kept_tmStop) | (with_reducible apply kept_put) | (with_reducible apply kept_setEng) | intro _ | (with_reducible apply Kept.ite) | dsimp only | split | (with_reducible apply Kept.other) | skip

theorem kept_retireEnd {a : State} {s : State} {kind : Nat} {n : Nat} {spare : Nat} (h : Kept a s) :
    Kept a (State.retireEnd s kind n spare) := by
  unfold State.retireEnd
  iterate 40 all_goals first | (with_reducible assumption) | (with_reducible apply kept_setChan) | (with_reducible apply kept_setRetired) | (with_reducible apply kept_put) | (with_reducible apply kept_inc) | (with_reducible apply kept_raise) | (with_reducible apply kept_endAll) | intro _ | (with_reducible apply Kept.ite) | dsimp only | split | (with_reducible apply Kept.other) | skip

theorem kept_retirePort {a : State} {s : State} {p : Nat} (h : Kept a s) :
    Kept a (State.retirePort s p) := by
  unfold State.retirePort
  iterate 40 all_goals first | (with_reducible assumption) | (with_reducible apply kept_linkLoss) | (with_reducible apply kept_fabricDown) | (with_reducible apply kept_restartAn) | intro _ | (with_reducible apply Kept.ite) | dsimp only | split | (with_reducible apply Kept.other) | skip

theorem kept_retireLane {a : State} {s : State} {l : Nat} (h : Kept a s) :
    Kept a (State.retireLane s l) := by
  unfold State.retireLane
  iterate 40 all_goals first | (with_reducible assumption) | (with_reducible apply kept_laneOff) | (with_reducible apply kept_raise) | (with_reducible apply kept_ringOff) | (with_reducible apply kept_outsideUpd) | intro _ | (with_reducible apply Kept.ite) | dsimp only | split | (with_reducible apply Kept.other) | skip

theorem kept_leaveFox {a : State} {s : State} {le : Nat} {p : Nat} (h : Kept a s) :
    Kept a (State.leaveFox s le p) := by
  unfold State.leaveFox
  iterate 40 all_goals first | (with_reducible assumption) | (with_reducible apply kept_migrate) | (with_reducible apply kept_put) | (with_reducible apply kept_retireEnd) | (with_reducible apply kept_raise) | intro _ | (with_reducible apply Kept.ite) | dsimp only | split | (with_reducible apply Kept.other) | skip

theorem kept_retireFox {a : State} {s : State} {p : Nat} (h : Kept a s) :
    Kept a (State.retireFox s p) := by
  unfold State.retireFox
  iterate 40 all_goals first | (with_reducible assumption) | (with_reducible apply kept_setEng) | (with_reducible apply kept_leaveFox) | (with_reducible apply kept_retireEnd) | (with_reducible apply kept_unmigrate) | (with_reducible apply kept_put) | intro _ | (with_reducible apply Kept.ite) | dsimp only | split | (with_reducible apply Kept.other) | skip

theorem kept_settShow {a : State} {s : State} (h : Kept a s) :
    Kept a (State.settShow s) := by
  unfold State.settShow
  iterate 40 all_goals first | (with_reducible assumption) | (with_reducible apply kept_put) | intro _ | (with_reducible apply Kept.ite) | dsimp only | split | (with_reducible apply Kept.other) | skip

theorem kept_sharedShow {a : State} {s : State} (h : Kept a s) :
    Kept a (State.sharedShow s) := by
  unfold State.sharedShow
  iterate 40 all_goals first | (with_reducible assumption) | (with_reducible apply kept_put) | (with_reducible apply kept_foldl) | intro _ | (with_reducible apply Kept.ite) | dsimp only | split | (with_reducible apply Kept.other) | skip

theorem kept_loseFrames {a : State} {s : State} {g : Nat} (h : Kept a s) :
    Kept a (State.loseFrames s g) := by
  unfold State.loseFrames
  iterate 40 all_goals first | (with_reducible assumption) | (with_reducible apply kept_each) | (with_reducible apply kept_purge) | intro _ | (with_reducible apply Kept.ite) | dsimp only | split | (with_reducible apply Kept.other) | skip

theorem kept_retireSett {a : State} {s : State} {p : Nat} (h : Kept a s) :
    Kept a (State.retireSett s p) := by
  unfold State.retireSett
  iterate 40 all_goals first | (with_reducible assumption) | (with_reducible apply kept_retireEnd) | (with_reducible apply kept_settShow) | (with_reducible apply kept_setRetired) | (with_reducible apply kept_loseFrames) | (with_reducible apply kept_put) | (with_reducible apply kept_sharedShow) | intro _ | (with_reducible apply Kept.ite) | dsimp only | split | (with_reducible apply Kept.other) | skip

theorem kept_retireCram {a : State} {s : State} {b : Nat} (h : Kept a s) :
    Kept a (State.retireCram s b) := by
  unfold State.retireCram
  iterate 40 all_goals first | (with_reducible assumption) | (with_reducible apply kept_put) | (with_reducible apply kept_setRetired) | (with_reducible apply kept_each) | (with_reducible apply kept_updCan) | (with_reducible apply kept_retireEnd) | (with_reducible apply kept_canApplied) | intro _ | (with_reducible apply Kept.ite) | dsimp only | split | (with_reducible apply Kept.other) | skip

theorem kept_retireCan {a : State} {s : State} {n : Nat} (h : Kept a s) :
    Kept a (State.retireCan s n) := by
  unfold State.retireCan
  iterate 40 all_goals first | (with_reducible assumption) | (with_reducible apply kept_retireEnd) | (with_reducible apply kept_canApplied) | (with_reducible apply kept_setRetired) | intro _ | (with_reducible apply Kept.ite) | dsimp only | split | (with_reducible apply Kept.other) | skip

theorem kept_retireShrew {a : State} {s : State} {e : Nat} (h : Kept a s) :
    Kept a (State.retireShrew s e) := by
  unfold State.retireShrew
  iterate 40 all_goals first | (with_reducible assumption) | (with_reducible apply kept_updShr) | (with_reducible apply kept_shStop) | (with_reducible apply kept_retireEnd) | (with_reducible apply kept_foldl) | intro _ | (with_reducible apply Kept.ite) | dsimp only | split | (with_reducible apply Kept.other) | skip

theorem kept_retireAct {a : State} {s : State} {kind : Nat} {n : Nat} (h : Kept a s) :
    Kept a (State.retireAct s kind n) := by
  unfold State.retireAct
  iterate 40 all_goals first | (with_reducible assumption) | (with_reducible apply kept_retireEnd) | (with_reducible apply kept_retirePort) | (with_reducible apply kept_retireLane) | (with_reducible apply kept_retireFox) | (with_reducible apply kept_retireSett) | (with_reducible apply kept_retireCram) | (with_reducible apply kept_retireCan) | (with_reducible apply kept_retireShrew) | intro _ | (with_reducible apply Kept.ite) | dsimp only | split | (with_reducible apply Kept.other) | skip

theorem kept_execRetirement {a : State} {kind : Fin 6} {n : Fin 34} {s : State} (h : Kept a s) :
    KeptO a (execRetirement kind n s) := by
  unfold execRetirement
  iterate 40 all_goals first | (with_reducible assumption) | (with_reducible apply KeptO.next) | (with_reducible apply kept_retireAct) | intro _ | (with_reducible apply Kept.ite) | dsimp only | split | (with_reducible apply Kept.other) | skip

theorem kept_moveFoxMarks {a : State} {s : State} {p : Nat} {x : Nat} (h : Kept a s) :
    Kept a (State.moveFoxMarks s p x) := by
  unfold State.moveFoxMarks
  iterate 40 all_goals first | (with_reducible assumption) | (with_reducible apply kept_foldl) | intro _ | (with_reducible apply Kept.ite) | dsimp only | split | (with_reducible apply Kept.other) | skip

theorem kept_execHealthLogWrite {a : State} {ok : Bool} {s : State} (h : Kept a s) :
    KeptO a (execHealthLogWrite ok s) := by
  unfold execHealthLogWrite
  refine KeptO.next ?_
  split
  · exact h
  · refine Kept.ite h (Kept.ite ?_ ?_)
    · exact kept_inc (Kept.of_healthSeq h (Nat.le_succ _))
    · exact kept_raise (kept_inc (Kept.of_healthSeq h (Nat.le_succ _)))

theorem kept_deliverEv {a : State} {s : State} {r : EvRec} (h : Kept a s) :
    Kept a (State.deliverEv s r) := by
  unfold State.deliverEv
  dsimp only
  refine Kept.ite (kept_inc h) ?_
  split
  · rename_i hl
    refine kept_doorbell (Kept.of_evFifo (kept_inc h) (fun _ => ?_))
    simp only [List.length_append, List.length_singleton]; omega
  · exact kept_inc (kept_inc h)

theorem deliverEv_evOpen (s : State) (r : EvRec) : (s.deliverEv r).evOpen = s.evOpen := by
  unfold State.deliverEv
  dsimp only
  split
  · simp
  · split <;> simp
theorem oldestRec_mem {l : List EvRec} {r : EvRec} (h : oldestRec l = some r) : r ∈ l := by
  induction l generalizing r with
  | nil => simp [oldestRec] at h
  | cons x q ih =>
    rw [oldestRec] at h
    split at h
    · simp_all
    · rename_i y hy
      split at h
      · simp only [Option.some.injEq] at h; subst h; exact List.mem_cons_of_mem _ (ih hy)
      · simp_all
theorem oldestRec_none {l : List EvRec} (h : oldestRec l = none) : l = [] := by
  cases l with
  | nil => rfl
  | cons x q =>
    rw [oldestRec] at h
    split at h
    · simp at h
    · split at h <;> simp at h

theorem kept_aggregate {a : State} {s : State} {e : Event} (h : Kept a s) :
    Kept a (State.aggregate s e) := by
  unfold State.aggregate
  split
  · exact Kept.of_evOpen h (fun w => by simpa using w)
  · split
    · rename_i hl
      refine Kept.of_evOpen h (fun _ => ?_)
      simp only [List.length_append, List.length_singleton]; omega
    · split
      · rename_i hn
        refine Kept.of_evOpen h (fun _ => ?_)
        rw [oldestRec_none hn]; simp
      · rename_i r hr
        have h1 : Kept s (State.deliverEv (State.inc { s with evOpen := s.evOpen.erase r } F.evtCEarlyCnt) { r with early := true }) :=
          kept_deliverEv (kept_inc (Kept.of_evOpen (Kept.refl s) (fun w => Nat.le_trans List.length_erase_le w)))
        have h2 : (State.deliverEv (State.inc { s with evOpen := s.evOpen.erase r } F.evtCEarlyCnt) { r with early := true }).evOpen =
            s.evOpen.erase r := by rw [deliverEv_evOpen]; simp
        generalize State.deliverEv (State.inc { s with evOpen := s.evOpen.erase r } F.evtCEarlyCnt) { r with early := true } = t at h1 h2 ⊢
        refine h.trans ⟨h1.pending, h1.up, h1.fresh, h1.trngN, h1.healthSeq, h1.memWf, fun w => ?_⟩
        have g := h1.logsFit w
        have hb := List.length_erase_of_mem (oldestRec_mem hr)
        simp only [State.logsFit, Bool.and_eq_true, decide_eq_true_eq] at g w ⊢
        refine ⟨⟨⟨⟨⟨g.1.1.1.1.1, g.1.1.1.1.2⟩, ?_⟩, g.1.1.2⟩, g.1.2⟩, g.2⟩
        rw [h2, List.length_append, hb]
        have := w.1.1.1.2
        simp only [List.length_singleton]; omega

theorem kept_execEventAggregate {a : State} {s : State} (h : Kept a s) :
    KeptO a (execEventAggregate s) := by
  unfold execEventAggregate
  refine KeptO.next ?_
  split
  · exact h
  · rename_i e q hq
    exact kept_aggregate (Kept.of_evq h (fun w => by rw [hq] at w; exact Nat.le_trans (Nat.le_succ _) w))

theorem kept_closeRec {a : State} {s : State} {i : Nat} (h : Kept a s) :
    Kept a (State.closeRec s i) := by
  unfold State.closeRec
  split
  · exact h
  · exact kept_deliverEv (Kept.of_evOpen h (fun w => Nat.le_trans (List.length_eraseIdx_le _ _) w))

theorem kept_execRecordClose {a : State} {i : Fin 64} {s : State} (h : Kept a s) :
    KeptO a (execRecordClose i s) := by
  unfold execRecordClose
  iterate 40 all_goals first | (with_reducible assumption) | (with_reducible apply KeptO.next) | (with_reducible apply kept_closeRec) | intro _ | (with_reducible apply Kept.ite) | dsimp only | split | (with_reducible apply Kept.other) | skip

theorem kept_flushEvents {a : State} {s : State} (h : Kept a s) :
    Kept a (State.flushEvents s) := by
  exact kept_each (Kept.of_evOpen h (fun _ => Nat.zero_le _)) (fun _ _ g => kept_deliverEv g)

theorem kept_execEvtFlush {a : State} {s : State} (h : Kept a s) :
    KeptO a (execEvtFlush s) := by
  unfold execEvtFlush
  iterate 40 all_goals first | (with_reducible assumption) | (with_reducible apply KeptO.next) | (with_reducible apply kept_hostWr) | (with_reducible apply kept_flushEvents) | intro _ | (with_reducible apply Kept.ite) | dsimp only | split | (with_reducible apply Kept.other) | skip

theorem kept_evtPop {a : State} {s : State} (h : Kept a s) :
    Kept a (State.evtPop s) := by
  unfold State.evtPop
  split
  · exact Kept.other h
  · rename_i r q hq
    exact kept_put (kept_put (kept_put (kept_put (kept_put (kept_put (kept_put (Kept.of_evFifo h (fun w => by
      rw [hq] at w; exact Nat.le_trans (Nat.le_succ _) w))))))))

theorem kept_execEvtPop {a : State} {s : State} (h : Kept a s) :
    KeptO a (execEvtPop s) := by
  unfold execEvtPop
  iterate 40 all_goals first | (with_reducible assumption) | (with_reducible apply KeptO.next) | (with_reducible apply kept_evtPop) | intro _ | (with_reducible apply Kept.ite) | dsimp only | split | (with_reducible apply Kept.other) | skip

theorem kept_raiseNow {a : State} {s : State} {cause : Nat} (h : Kept a s) :
    Kept a (State.raiseNow s cause) := by
  unfold State.raiseNow
  iterate 40 all_goals first | (with_reducible assumption) | (with_reducible apply kept_deliverEv) | (with_reducible apply kept_inc) | intro _ | (with_reducible apply Kept.ite) | dsimp only | split | (with_reducible apply Kept.other) | skip

end Sys2Proof.Machine
end

