-- ==== Sys2Proof/Laws/KeptHost.lean ====
section
/-!
SUPPORT. What the operations of Machine/Host.lean keep.
-/
namespace Sys2Proof.Machine

theorem kept_d2hPend {a : State} {s : State} {v : Nat} (h : Kept a s) :
    Kept a (State.d2hPend s v) := by
  unfold State.d2hPend
  iterate 40 all_goals first | (with_reducible assumption) | (with_reducible apply kept_put) | intro _ | (with_reducible apply Kept.ite) | dsimp only | split | (with_reducible apply Kept.other) | skip

theorem kept_execMbxD2hPend {a : State} {v : WriteIn} {s : State} (h : Kept a s) :
    KeptO a (execMbxD2hPend v s) := by
  unfold execMbxD2hPend
  iterate 40 all_goals first | (with_reducible assumption) | (with_reducible apply KeptO.next) | (with_reducible apply kept_hostWr) | (with_reducible apply kept_d2hPend) | intro _ | (with_reducible apply Kept.ite) | dsimp only | split | (with_reducible apply Kept.other) | skip

theorem kept_d2hMask {a : State} {s : State} {v : Nat} (h : Kept a s) :
    Kept a (State.d2hMask s v) := by
  unfold State.d2hMask
  iterate 40 all_goals first | (with_reducible assumption) | (with_reducible apply kept_irqEdge) | (with_reducible apply kept_put) | intro _ | (with_reducible apply Kept.ite) | dsimp only | split | (with_reducible apply Kept.other) | skip

theorem kept_execMbxD2hMask {a : State} {v : W32} {s : State} (h : Kept a s) :
    KeptO a (execMbxD2hMask v s) := by
  unfold execMbxD2hMask
  iterate 40 all_goals first | (with_reducible assumption) | (with_reducible apply KeptO.next) | (with_reducible apply kept_hostWr) | (with_reducible apply kept_d2hMask) | intro _ | (with_reducible apply Kept.ite) | dsimp only | split | (with_reducible apply Kept.other) | skip

theorem kept_h2dGo {a : State} {s : State} (h : Kept a s) :
    Kept a (State.h2dGo s) := by
  unfold State.h2dGo
  iterate 40 all_goals first | (with_reducible assumption) | (with_reducible apply kept_put) | (with_reducible apply kept_each) | (with_reducible apply kept_setEvp) | intro _ | (with_reducible apply Kept.ite) | dsimp only | split | (with_reducible apply Kept.other) | skip

theorem kept_h2dSet {a : State} {s : State} {v : Nat} (h : Kept a s) :
    Kept a (State.h2dSet s v) := by
  unfold State.h2dSet
  iterate 40 all_goals first | (with_reducible assumption) | (with_reducible apply kept_h2dGo) | (with_reducible apply kept_put) | intro _ | (with_reducible apply Kept.ite) | dsimp only | split | (with_reducible apply Kept.other) | skip

theorem kept_execMbxH2dSet {a : State} {v : W32} {s : State} (h : Kept a s) :
    KeptO a (execMbxH2dSet v s) := by
  unfold execMbxH2dSet
  iterate 40 all_goals first | (with_reducible assumption) | (with_reducible apply KeptO.next) | (with_reducible apply kept_hostWr) | (with_reducible apply kept_h2dSet) | intro _ | (with_reducible apply Kept.ite) | dsimp only | split | (with_reducible apply Kept.other) | skip

theorem kept_h2dMask {a : State} {s : State} {v : Nat} (h : Kept a s) :
    Kept a (State.h2dMask s v) := by
  unfold State.h2dMask
  iterate 40 all_goals first | (with_reducible assumption) | (with_reducible apply kept_h2dGo) | (with_reducible apply kept_put) | intro _ | (with_reducible apply Kept.ite) | dsimp only | split | (with_reducible apply Kept.other) | skip

theorem kept_execMbxH2dMask {a : State} {v : W32} {s : State} (h : Kept a s) :
    KeptO a (execMbxH2dMask v s) := by
  unfold execMbxH2dMask
  iterate 40 all_goals first | (with_reducible assumption) | (with_reducible apply KeptO.next) | (with_reducible apply kept_hostWr) | (with_reducible apply kept_h2dMask) | intro _ | (with_reducible apply Kept.ite) | dsimp only | split | (with_reducible apply Kept.other) | skip

theorem kept_mbxPost {a : State} {s : State} {n : Nat} {v : Nat} (h : Kept a s) :
    Kept a (State.mbxPost s n v) := by
  unfold State.mbxPost
  iterate 40 all_goals first | (with_reducible assumption) | (with_reducible apply kept_logPwe) | (with_reducible apply kept_put) | (with_reducible apply kept_setMb) | intro _ | (with_reducible apply Kept.ite) | dsimp only | split | (with_reducible apply Kept.other) | skip

theorem kept_execMbxPost {a : State} {n : Fin 8} {v : W32} {s : State} (h : Kept a s) :
    KeptO a (execMbxPost n v s) := by
  unfold execMbxPost
  iterate 40 all_goals first | (with_reducible assumption) | (with_reducible apply KeptO.next) | (with_reducible apply kept_hostWr) | (with_reducible apply kept_mbxPost) | intro _ | (with_reducible apply Kept.ite) | dsimp only | split | (with_reducible apply Kept.other) | skip

theorem kept_mbxFetch {a : State} {s : State} {n : Nat} {data : Option (List Byte)} (h : Kept a s) :
    Kept a (State.mbxFetch s n data) := by
  unfold State.mbxFetch
  iterate 40 all_goals first | (with_reducible assumption) | (with_reducible apply kept_mbxAck) | (with_reducible apply kept_setMb) | intro _ | (with_reducible apply Kept.ite) | dsimp only | split | (with_reducible apply Kept.other) | skip

theorem kept_execMailboxFetch {a : State} {n : Fin 8} {data : Option (List Byte)} {s : State} (h : Kept a s) :
    KeptO a (execMailboxFetch n data s) := by
  unfold execMailboxFetch
  iterate 40 all_goals first | (with_reducible assumption) | (with_reducible apply KeptO.next) | (with_reducible apply kept_mbxFetch) | intro _ | (with_reducible apply Kept.ite) | dsimp only | split | (with_reducible apply Kept.other) | skip

theorem kept_pwePop {a : State} {s : State} (h : Kept a s) :
    Kept a (State.pwePop s) := by
  unfold State.pwePop
  split
  · exact Kept.other h
  · rename_i r q hq
    exact kept_put (kept_put (kept_put (kept_put (kept_put (Kept.of_pwe h (fun w => by
      rw [hq] at w; exact Nat.le_trans (Nat.le_succ _) w))))))

theorem kept_execMbxPwePop {a : State} {s : State} (h : Kept a s) :
    KeptO a (execMbxPwePop s) := by
  unfold execMbxPwePop
  iterate 40 all_goals first | (with_reducible assumption) | (with_reducible apply KeptO.next) | (with_reducible apply kept_pwePop) | intro _ | (with_reducible apply Kept.ite) | dsimp only | split | (with_reducible apply Kept.other) | skip

theorem kept_htxPush {a : State} {s : State} {v : Nat} (h : Kept a s) :
    Kept a (State.htxPush s v) := by
  unfold State.htxPush
  iterate 40 all_goals first | (with_reducible assumption) | (with_reducible apply kept_logPwe) | intro _ | (with_reducible apply Kept.ite) | dsimp only | split | (with_reducible apply Kept.other) | skip

theorem kept_execMbxHtxPush {a : State} {v : W32} {s : State} (h : Kept a s) :
    KeptO a (execMbxHtxPush v s) := by
  unfold execMbxHtxPush
  iterate 40 all_goals first | (with_reducible assumption) | (with_reducible apply KeptO.next) | (with_reducible apply kept_hostWr) | (with_reducible apply kept_htxPush) | intro _ | (with_reducible apply Kept.ite) | dsimp only | split | (with_reducible apply Kept.other) | skip

theorem kept_hostFrame {a : State} {s : State} {r : HtxRec} {l : List Byte} {h1 : Nat} (h : Kept a s) :
    Kept a (State.hostFrame s r l h1) := by
  unfold State.hostFrame
  iterate 40 all_goals first | (with_reducible assumption) | (with_reducible apply kept_stageTake) | (with_reducible apply kept_tookFree) | (with_reducible apply kept_setFrame) | (with_reducible apply kept_submit) | intro _ | (with_reducible apply Kept.ite) | dsimp only | split | (with_reducible apply Kept.other) | skip

theorem kept_htxData {a : State} {s : State} {r : HtxRec} {data : Option (List Byte)} (h : Kept a s) :
    Kept a (State.htxData s r data).1 := by
  unfold State.htxData
  iterate 40 all_goals first | (with_reducible assumption) | (with_reducible apply kept_logRefuse) | intro _ | (with_reducible apply Kept.ite) | dsimp only | split | (with_reducible apply Kept.other) | skip

theorem kept_htxData_eq {a : State} {s : State} {r : HtxRec} {data : Option (List Byte)} {u : State} {r0 : Option (List Byte)} (hq : (State.htxData s r data) = (u, r0)) (h : Kept a s) : Kept a u := by
  have g := kept_htxData (s := s) (r := r) (data := data) h
  rw [hq] at g
  exact g

theorem kept_execHtxCopy {a : State} {data : Option (List Byte)} {h1 : W24} {s : State} (h : Kept a s) :
    KeptO a (execHtxCopy data h1 s) := by
  unfold execHtxCopy
  iterate 40 all_goals first | (with_reducible assumption) | (with_reducible apply KeptO.next) | (with_reducible apply kept_hostComplete) | (with_reducible apply kept_htxData) | (with_reducible apply kept_hostFrame) | (with_reducible refine kept_htxData_eq (by assumption) ?_) | intro _ | (with_reducible apply Kept.ite) | dsimp only | split | (with_reducible apply Kept.other) | skip

theorem kept_htxcPop {a : State} {s : State} (h : Kept a s) :
    Kept a (State.htxcPop s) := by
  unfold State.htxcPop
  iterate 40 all_goals first | (with_reducible assumption) | intro _ | (with_reducible apply Kept.ite) | dsimp only | split | (with_reducible apply Kept.other) | skip

theorem kept_execMbxHtxcPop {a : State} {s : State} (h : Kept a s) :
    KeptO a (execMbxHtxcPop s) := by
  unfold execMbxHtxcPop
  iterate 40 all_goals first | (with_reducible assumption) | (with_reducible apply KeptO.next) | (with_reducible apply kept_htxcPop) | intro _ | (with_reducible apply Kept.ite) | dsimp only | split | (with_reducible apply Kept.other) | skip

theorem kept_hrxWrite {a : State} {s : State} {mh : Nat} (h : Kept a s) :
    Kept a (State.hrxWrite s mh) := by
  unfold State.hrxWrite
  iterate 40 all_goals first | (with_reducible assumption) | (with_reducible apply kept_takeHead) | (with_reducible apply kept_unqueue) | (with_reducible apply kept_finish) | (with_reducible apply kept_unpin) | (with_reducible apply kept_setFrame) | (with_reducible apply kept_inc) | (with_reducible apply kept_tookFree) | (with_reducible apply kept_devPut) | (with_reducible apply kept_putSpace) | (with_reducible apply kept_started) | (with_reducible apply kept_put) | (with_reducible apply kept_doorbell) | (with_reducible apply kept_sentAt) | (with_reducible refine kept_takeHead_eq (by assumption) ?_) | intro _ | (with_reducible apply Kept.ite) | dsimp only | split | (with_reducible apply Kept.other) | skip

theorem kept_execHrxWrite {a : State} {mh : W24} {s : State} (h : Kept a s) :
    KeptO a (execHrxWrite mh s) := by
  unfold execHrxWrite
  iterate 40 all_goals first | (with_reducible assumption) | (with_reducible apply KeptO.next) | (with_reducible apply kept_hrxWrite) | intro _ | (with_reducible apply Kept.ite) | dsimp only | split | (with_reducible apply Kept.other) | skip

theorem kept_hostLinkDown {a : State} {s : State} (h : Kept a s) :
    Kept a (State.hostLinkDown s) := by
  unfold State.hostLinkDown
  iterate 40 all_goals first | (with_reducible assumption) | (with_reducible apply kept_put) | (with_reducible apply kept_each) | (with_reducible apply kept_mbxAck) | (with_reducible apply kept_hostComplete) | (with_reducible apply kept_raise) | intro _ | (with_reducible apply Kept.ite) | dsimp only | split | (with_reducible apply Kept.other) | skip

theorem kept_execHostLinkDown {a : State} {s : State} (h : Kept a s) :
    KeptO a (execHostLinkDown s) := by
  unfold execHostLinkDown
  iterate 40 all_goals first | (with_reducible assumption) | (with_reducible apply KeptO.next) | (with_reducible apply kept_hostLinkDown) | intro _ | (with_reducible apply Kept.ite) | dsimp only | split | (with_reducible apply Kept.other) | skip

theorem kept_execHostLinkUp {a : State} {two : Bool} {rate : Fin 3} {s : State} (h : Kept a s) :
    KeptO a (execHostLinkUp two rate s) := by
  unfold execHostLinkUp
  iterate 40 all_goals first | (with_reducible assumption) | (with_reducible apply KeptO.next) | (with_reducible apply kept_put) | (with_reducible apply kept_doorbell) | (with_reducible apply kept_raise) | intro _ | (with_reducible apply Kept.ite) | dsimp only | split | (with_reducible apply Kept.other) | skip

theorem kept_execD3hotEntry {a : State} {s : State} (h : Kept a s) :
    KeptO a (execD3hotEntry s) := by
  unfold execD3hotEntry
  iterate 40 all_goals first | (with_reducible assumption) | (with_reducible apply KeptO.next) | intro _ | (with_reducible apply Kept.ite) | dsimp only | split | (with_reducible apply Kept.other) | skip

theorem kept_execD0Return {a : State} {s : State} (h : Kept a s) :
    KeptO a (execD0Return s) := by
  unfold execD0Return
  iterate 40 all_goals first | (with_reducible assumption) | (with_reducible apply KeptO.next) | (with_reducible apply kept_each) | (with_reducible apply kept_sendIrq) | intro _ | (with_reducible apply Kept.ite) | dsimp only | split | (with_reducible apply Kept.other) | skip

end Sys2Proof.Machine
end

