-- ==== Sys2Proof/Laws/KeptPower.lean ====
section
/-!
SUPPORT. What the operations of Machine/Power.lean keep.
-/
namespace Sys2Proof.Machine

theorem kept_domReset {a : State} {s : State} {d : Dom} (h : Kept a s) :
    Kept a (State.domReset s d) := by
  unfold State.domReset
  cases d with
  | foxa => exact Kept.of_imDm h wf0_filter wf0_filter
  | foxb => exact Kept.of_imDm h wf0_filter wf0_filter
  | shrew => exact Kept.of_shrPm h (fun _ => rfl)
  | _ => first | exact Kept.other h | exact Kept.other (Kept.other h)

theorem kept_setDoms {a : State} {s : State} {m : Nat} (h : Kept a s) :
    Kept a (State.setDoms s m) := by
  unfold State.setDoms
  iterate 40 all_goals first | (with_reducible assumption) | (with_reducible apply kept_each) | (with_reducible apply kept_domReset) | (with_reducible apply kept_put) | intro _ | (with_reducible apply Kept.ite) | dsimp only | split | (with_reducible apply Kept.other) | skip

theorem kept_enterTrim {a : State} {s : State} {m : Nat} (h : Kept a s) :
    Kept a (State.enterTrim s m) := by
  unfold State.enterTrim
  iterate 40 all_goals first | (with_reducible assumption) | (with_reducible apply kept_inc) | (with_reducible apply kept_put) | (with_reducible apply kept_setDoms) | intro _ | (with_reducible apply Kept.ite) | dsimp only | split | (with_reducible apply Kept.other) | skip

theorem kept_enterRun {a : State} {s : State} (h : Kept a s) :
    Kept a (State.enterRun s) := by
  unfold State.enterRun
  iterate 40 all_goals first | (with_reducible assumption) | (with_reducible apply kept_put) | (with_reducible apply kept_setDoms) | intro _ | (with_reducible apply Kept.ite) | dsimp only | split | (with_reducible apply Kept.other) | skip

theorem kept_holdStop {a : State} {s : State} {e : Nat} (h : Kept a s) :
    Kept a (State.holdStop s e) := by
  unfold State.holdStop
  iterate 40 all_goals first | (with_reducible assumption) | (with_reducible apply kept_stopping) | (with_reducible apply kept_engStopped) | intro _ | (with_reducible apply Kept.ite) | dsimp only | split | (with_reducible apply Kept.other) | skip

theorem kept_enterHold {a : State} {s : State} (h : Kept a s) :
    Kept a (State.enterHold s) := by
  unfold State.enterHold
  iterate 40 all_goals first | (with_reducible assumption) | (with_reducible apply kept_each) | (with_reducible apply kept_holdStop) | (with_reducible apply kept_shStop) | (with_reducible apply kept_linkLoss) | (with_reducible apply kept_listenOnly) | (with_reducible apply kept_inc) | (with_reducible apply kept_put) | (with_reducible apply kept_setDoms) | intro _ | (with_reducible apply Kept.ite) | dsimp only | split | (with_reducible apply Kept.other) | skip

theorem kept_cold {a : State} {s : State} (h : Kept a s) :
    Kept a (State.cold s) := by
  unfold State.cold
  refine h.trans ⟨rfl, Nat.le_refl _, Nat.le_refl _, Nat.le_refl _, Nat.le_refl _, fun w => ?_, fun _ => rfl⟩
  simp only [State.memWf, Bool.and_eq_true] at w ⊢
  exact ⟨⟨⟨⟨⟨⟨⟨⟨rfl, rfl⟩, rfl⟩, rfl⟩, rfl⟩, rfl⟩, rfl⟩, w.1.2⟩, rfl⟩

theorem kept_enterOff {a : State} {s : State} (h : Kept a s) :
    Kept a (State.enterOff s) := by
  unfold State.enterOff
  iterate 40 all_goals first | (with_reducible assumption) | (with_reducible apply kept_cold) | (with_reducible apply kept_lockout) | (with_reducible apply kept_put) | intro _ | (with_reducible apply Kept.ite) | dsimp only | split | (with_reducible apply Kept.other) | skip

theorem kept_execPowerFail {a : State} {pin : Bool} {core : Bool} {serdes : Bool} {aon : Bool} {s : State} (h : Kept a s) :
    KeptO a (execPowerFail pin core serdes aon s) := by
  unfold execPowerFail
  iterate 40 all_goals first | (with_reducible assumption) | (with_reducible apply KeptO.next) | (with_reducible apply kept_put) | (with_reducible apply kept_tmStart) | (with_reducible apply kept_lastGasp) | (with_reducible apply kept_raiseNow) | intro _ | (with_reducible apply Kept.ite) | dsimp only | split | (with_reducible apply Kept.other) | skip

theorem kept_execPwrRestored {a : State} {s : State} (h : Kept a s) :
    KeptO a (execPwrRestored s) := by
  unfold execPwrRestored
  iterate 40 all_goals first | (with_reducible assumption) | (with_reducible apply KeptO.next) | (with_reducible apply kept_raise) | intro _ | (with_reducible apply Kept.ite) | dsimp only | split | (with_reducible apply Kept.other) | skip

theorem kept_refLoss {a : State} {s : State} {k : Nat} (h : Kept a s) :
    Kept a (State.refLoss s k) := by
  unfold State.refLoss
  iterate 40 all_goals first | (with_reducible assumption) | (with_reducible apply kept_put) | (with_reducible apply kept_outsideUpd) | (with_reducible apply kept_laneOff) | (with_reducible apply kept_hostLinkDown) | (with_reducible apply kept_guardClkLoss) | intro _ | (with_reducible apply Kept.ite) | dsimp only | split | (with_reducible apply Kept.other) | skip

theorem kept_execReferenceLoss {a : State} {k : Fin 6} {s : State} (h : Kept a s) :
    KeptO a (execReferenceLoss k s) := by
  unfold execReferenceLoss
  iterate 40 all_goals first | (with_reducible assumption) | (with_reducible apply KeptO.next) | (with_reducible apply kept_refLoss) | intro _ | (with_reducible apply Kept.ite) | dsimp only | split | (with_reducible apply Kept.other) | skip

theorem kept_execReferenceReturn {a : State} {k : Fin 6} {s : State} (h : Kept a s) :
    KeptO a (execReferenceReturn k s) := by
  unfold execReferenceReturn
  iterate 40 all_goals first | (with_reducible assumption) | (with_reducible apply KeptO.next) | (with_reducible apply kept_put) | (with_reducible apply kept_each) | (with_reducible apply kept_train) | intro _ | (with_reducible apply Kept.ite) | dsimp only | split | (with_reducible apply Kept.other) | skip

theorem kept_execAvsStep {a : State} {d : Fin 10} {slack : BitVec 8} {s : State} (h : Kept a s) :
    KeptO a (execAvsStep d slack s) := by
  unfold execAvsStep
  iterate 40 all_goals first | (with_reducible assumption) | (with_reducible apply KeptO.next) | (with_reducible apply kept_put) | (with_reducible apply kept_tmStart) | (with_reducible apply kept_inc) | intro _ | (with_reducible apply Kept.ite) | dsimp only | split | (with_reducible apply Kept.other) | skip

theorem kept_execAvsTimeout {a : State} {s : State} (h : Kept a s) :
    KeptO a (execAvsTimeout s) := by
  unfold execAvsTimeout
  iterate 40 all_goals first | (with_reducible assumption) | (with_reducible apply KeptO.next) | (with_reducible apply kept_tmStop) | (with_reducible apply kept_put) | intro _ | (with_reducible apply Kept.ite) | dsimp only | split | (with_reducible apply Kept.other) | skip

theorem kept_execDfsStep {a : State} {c : Fin 2} {occ : BitVec 8} {s : State} (h : Kept a s) :
    KeptO a (execDfsStep c occ s) := by
  unfold execDfsStep
  iterate 40 all_goals first | (with_reducible assumption) | (with_reducible apply KeptO.next) | (with_reducible apply kept_put) | (with_reducible apply kept_inc) | intro _ | (with_reducible apply Kept.ite) | dsimp only | split | (with_reducible apply Kept.other) | skip

theorem kept_execMainsThresholdStep {a : State} {m : Fin 2} {mid : BitVec 10} {s : State} (h : Kept a s) :
    KeptO a (execMainsThresholdStep m mid s) := by
  unfold execMainsThresholdStep
  iterate 40 all_goals first | (with_reducible assumption) | (with_reducible apply KeptO.next) | (with_reducible apply kept_inc) | (with_reducible apply kept_put) | (with_reducible apply kept_tmStart) | intro _ | (with_reducible apply Kept.ite) | dsimp only | split | (with_reducible apply Kept.other) | skip

theorem kept_tmWhile {a : State} {s : State} {k : Nat} {b : Bool} (h : Kept a s) :
    Kept a (State.tmWhile s k b) := by
  unfold State.tmWhile
  iterate 40 all_goals first | (with_reducible assumption) | (with_reducible apply kept_tmStop) | (with_reducible apply kept_tmStart) | intro _ | (with_reducible apply Kept.ite) | dsimp only | split | (with_reducible apply Kept.other) | skip

theorem kept_execThermalCap {a : State} {t0 : BitVec 11} {t1 : BitVec 11} {t2 : BitVec 11} {t3 : BitVec 11} {s : State} (h : Kept a s) :
    KeptO a (execThermalCap t0 t1 t2 t3 s) := by
  unfold execThermalCap
  iterate 40 all_goals first | (with_reducible assumption) | (with_reducible apply KeptO.next) | (with_reducible apply kept_put) | (with_reducible apply kept_tmWhile) | (with_reducible apply kept_inc) | intro _ | (with_reducible apply Kept.ite) | dsimp only | split | (with_reducible apply Kept.other) | skip

theorem kept_execThermalTrip {a : State} {s : State} (h : Kept a s) :
    KeptO a (execThermalTrip s) := by
  unfold execThermalTrip
  iterate 40 all_goals first | (with_reducible assumption) | (with_reducible apply KeptO.next) | (with_reducible apply kept_enterOff) | (with_reducible apply kept_put) | intro _ | (with_reducible apply Kept.ite) | dsimp only | split | (with_reducible apply Kept.other) | skip

theorem kept_execPlacementMigration {a : State} {le : Fin 16} {s : State} (h : Kept a s) :
    KeptO a (execPlacementMigration le s) := by
  unfold execPlacementMigration
  iterate 40 all_goals first | (with_reducible assumption) | (with_reducible apply KeptO.next) | (with_reducible apply kept_inc) | (with_reducible apply kept_migrate) | intro _ | (with_reducible apply Kept.ite) | dsimp only | split | (with_reducible apply Kept.other) | skip

theorem kept_execCardInsert {a : State} {s : State} (h : Kept a s) :
    KeptO a (execCardInsert s) := by
  unfold execCardInsert
  iterate 40 all_goals first | (with_reducible assumption) | (with_reducible apply KeptO.next) | (with_reducible apply kept_put) | (with_reducible apply kept_setRst) | intro _ | (with_reducible apply Kept.ite) | dsimp only | split | (with_reducible apply Kept.other) | skip

theorem kept_execCardExtract {a : State} {s : State} (h : Kept a s) :
    KeptO a (execCardExtract s) := by
  unfold execCardExtract
  iterate 40 all_goals first | (with_reducible assumption) | (with_reducible apply KeptO.next) | (with_reducible apply kept_ringOff) | (with_reducible apply kept_each) | (with_reducible apply kept_linkLoss) | (with_reducible apply kept_put) | intro _ | (with_reducible apply Kept.ite) | dsimp only | split | (with_reducible apply Kept.other) | skip

end Sys2Proof.Machine
end

