-- ==== Sys2Proof/Laws/KeptEngine.lean ====
section
/-!
SUPPORT. What the operations of Machine/Engine.lean keep.
-/
namespace Sys2Proof.Machine

theorem kept_verify {a : State} {s : State} {l : List Byte} {kind : Nat} (h : Kept a s) :
    Kept a (State.verify s l kind).1 := by
  unfold State.verify
  iterate 40 all_goals first | (with_reducible assumption) | (with_reducible apply kept_inc) | intro _ | (with_reducible apply Kept.ite) | dsimp only | split | (with_reducible apply Kept.other) | skip

theorem kept_verify_eq {a : State} {s : State} {l : List Byte} {kind : Nat} {u : State} {r0 : Nat} (hq : (State.verify s l kind) = (u, r0)) (h : Kept a s) : Kept a u := by
  have g := kept_verify (s := s) (l := l) (kind := kind) h
  rw [hq] at g
  exact g

theorem kept_setTcfg {a : State} {s : State} {k : Nat} {v : Nat} (h : Kept a s) :
    Kept a (State.setTcfg s k v) := by
  unfold State.setTcfg
  iterate 40 all_goals first | (with_reducible assumption) | (with_reducible apply kept_put) | intro _ | (with_reducible apply Kept.ite) | dsimp only | split | (with_reducible apply Kept.other) | skip

theorem wf0_groups {w : Nat} {k : Nat} {l : List (Nat × List (BitVec w))} {m : SMap (BitVec w)}
    (h : SMap.wf (fun _ v => v == 0) m = true) :
    SMap.wf (fun _ v => v == 0) (l.foldl (fun (m : SMap (BitVec w)) (g : Nat × List (BitVec w)) => SMap.fill 0 m (k + g.1) g.2) m) = true := by
  induction l generalizing m with
  | nil => exact h
  | cons x r ih => exact ih (wf0_fill h)

theorem kept_clearEngine {a : State} {s : State} {le : Nat} (h : Kept a s) :
    Kept a (State.clearEngine s le) := by
  exact Kept.of_imDm h wf0_keep wf0_keep

theorem kept_emptyEngine {a : State} {s : State} {le : Nat} (h : Kept a s) :
    Kept a (State.emptyEngine s le) := by
  unfold State.emptyEngine
  iterate 40 all_goals first | (with_reducible assumption) | (with_reducible apply kept_each) | (with_reducible apply kept_setTcfg) | (with_reducible apply kept_put) | (with_reducible apply kept_clearEngine) | intro _ | (with_reducible apply Kept.ite) | dsimp only | split | (with_reducible apply Kept.other) | skip

theorem kept_loadImage {a : State} {s : State} {le : Nat} {b : ImageBody} {hash : List Byte} (h : Kept a s) :
    Kept a (State.loadImage s le b hash) := by
  unfold State.loadImage
  dsimp only
  have h1 : ∀ t, Kept a t → Kept a (t.each (List.range 4) (fun s i => s.setTcfg (4 * le + i) (b.tcfg.getD i 0))) :=
    fun t g => kept_each g (fun _ _ g => kept_setTcfg g)
  refine kept_put (kept_put (kept_each ?_ (fun _ _ g => kept_setTcfg g)))
  refine Kept.ite (h1 _ (Kept.of_imDm (kept_clearEngine h) wf0_fill wf0_groups)) ?_
  exact Kept.of_im (h1 _ (Kept.of_imDm (kept_clearEngine h) wf0_fill wf0_groups)) wf0_fill

theorem kept_engStart {a : State} {s : State} {le : Nat} (h : Kept a s) :
    Kept a (State.engStart s le) := by
  unfold State.engStart
  iterate 40 all_goals first | (with_reducible assumption) | (with_reducible apply kept_each) | (with_reducible apply kept_wdRestart) | (with_reducible apply kept_updTh) | (with_reducible apply kept_setEng) | (with_reducible apply kept_put) | intro _ | (with_reducible apply Kept.ite) | dsimp only | split | (with_reducible apply Kept.other) | skip

theorem kept_verifyBundle {a : State} {s : State} {l : List Byte} (h : Kept a s) :
    Kept a (State.verifyBundle s l).1 := by
  unfold State.verifyBundle
  iterate 40 all_goals first | (with_reducible assumption) | (with_reducible apply kept_inc) | intro _ | (with_reducible apply Kept.ite) | dsimp only | split | (with_reducible apply Kept.other) | skip

theorem kept_verifyBundle_eq {a : State} {s : State} {l : List Byte} {u : State} {r0 : Nat} (hq : (State.verifyBundle s l) = (u, r0)) (h : Kept a s) : Kept a u := by
  have g := kept_verifyBundle (s := s) (l := l) h
  rw [hq] at g
  exact g

theorem kept_reloadP {a : State} {s : State} {les : List Nat} {images : List Section} {keysel : Nat} (h : Kept a s) :
    Kept a (State.reloadP s les images keysel) := by
  unfold State.reloadP
  iterate 40 all_goals first | (with_reducible assumption) | (with_reducible apply kept_each) | (with_reducible apply kept_emptyEngine) | (with_reducible apply kept_loadImage) | intro _ | (with_reducible apply Kept.ite) | dsimp only | split | (with_reducible apply Kept.other) | skip

theorem kept_switchUndo {a : State} {s : State} {w : Switch} (h : Kept a s) :
    Kept a (State.switchUndo s w) := by
  unfold State.switchUndo
  iterate 40 all_goals first | (with_reducible assumption) | (with_reducible apply kept_reloadP) | (with_reducible apply kept_each) | (with_reducible apply kept_put) | (with_reducible apply kept_engStart) | intro _ | (with_reducible apply Kept.ite) | dsimp only | split | (with_reducible apply Kept.other) | skip

end Sys2Proof.Machine
end

