-- ==== Sys2Proof/Laws/KeptApply.lean ====
section
/-!
SUPPORT. What the operations of Machine/Apply.lean keep.
-/
namespace Sys2Proof.Machine

theorem kept_timeApplied {a : State} {s : State} {old : State} (h : Kept a s) :
    Kept a (State.timeApplied s old) := by
  unfold State.timeApplied
  iterate 40 all_goals first | (with_reducible assumption) | intro _ | (with_reducible apply Kept.ite) | dsimp only | split | (with_reducible apply Kept.other) | skip

theorem kept_axApplied {a : State} {s : State} {old : State} {k : Nat} (h : Kept a s) :
    Kept a (State.axApplied s old k) := by
  unfold State.axApplied
  iterate 40 all_goals first | (with_reducible assumption) | (with_reducible apply kept_setAxis) | (with_reducible apply kept_jumped) | intro _ | (with_reducible apply Kept.ite) | dsimp only | split | (with_reducible apply Kept.other) | skip

theorem kept_pllApplied {a : State} {s : State} {old : State} {m : Nat} (h : Kept a s) :
    Kept a (State.pllApplied s old m) := by
  unfold State.pllApplied
  iterate 40 all_goals first | (with_reducible assumption) | (with_reducible apply kept_setPll) | (with_reducible apply kept_put) | (with_reducible apply kept_tmStart) | (with_reducible apply kept_tmStop) | intro _ | (with_reducible apply Kept.ite) | dsimp only | split | (with_reducible apply Kept.other) | skip

theorem kept_calApplied {a : State} {s : State} {old : State} {e : Nat} (h : Kept a s) :
    Kept a (State.calApplied s old e) := by
  unfold State.calApplied
  iterate 40 all_goals first | (with_reducible assumption) | (with_reducible apply kept_setCal) | (with_reducible apply kept_foldl) | intro _ | (with_reducible apply Kept.ite) | dsimp only | split | (with_reducible apply Kept.other) | skip

theorem kept_trigApplied {a : State} {s : State} {old : State} (h : Kept a s) :
    Kept a (State.trigApplied s old) := by
  unfold State.trigApplied
  iterate 40 all_goals first | (with_reducible assumption) | (with_reducible apply kept_put) | (with_reducible apply kept_foldl) | intro _ | (with_reducible apply Kept.ite) | dsimp only | split | (with_reducible apply Kept.other) | skip

theorem kept_phsApplied {a : State} {s : State} {old : State} (h : Kept a s) :
    Kept a (State.phsApplied s old) := by
  unfold State.phsApplied
  iterate 40 all_goals first | (with_reducible assumption) | (with_reducible apply kept_each) | (with_reducible apply kept_axApplied) | (with_reducible apply kept_pllApplied) | (with_reducible apply kept_calApplied) | (with_reducible apply kept_trigApplied) | intro _ | (with_reducible apply Kept.ite) | dsimp only | split | (with_reducible apply Kept.other) | skip

theorem kept_swApplied {a : State} {s : State} {old : State} (h : Kept a s) :
    Kept a (State.swApplied s old) := by
  unfold State.swApplied
  iterate 40 all_goals first | (with_reducible assumption) | (with_reducible apply kept_sharedShow) | (with_reducible apply kept_foldl) | intro _ | (with_reducible apply Kept.ite) | dsimp only | split | (with_reducible apply Kept.other) | skip

theorem kept_foxApplied {a : State} {s : State} {old : State} (h : Kept a s) :
    Kept a (State.foxApplied s old) := by
  unfold State.foxApplied
  iterate 40 all_goals first | (with_reducible assumption) | (with_reducible apply kept_each) | (with_reducible apply kept_wdRestart) | intro _ | (with_reducible apply Kept.ite) | dsimp only | split | (with_reducible apply Kept.other) | skip

theorem kept_flowApplied {a : State} {s : State} {old : State} (h : Kept a s) :
    Kept a (State.flowApplied s old) := by
  unfold State.flowApplied
  iterate 40 all_goals first | (with_reducible assumption) | (with_reducible apply kept_each) | (with_reducible apply kept_put) | (with_reducible apply kept_tmStop) | (with_reducible apply kept_tmStart) | (with_reducible apply kept_uscCopy) | intro _ | (with_reducible apply Kept.ite) | dsimp only | split | (with_reducible apply Kept.other) | skip

theorem kept_ethApplied {a : State} {s : State} {old : State} {n : Nat} (h : Kept a s) :
    Kept a (State.ethApplied s old n) := by
  unfold State.ethApplied
  iterate 40 all_goals first | (with_reducible assumption) | (with_reducible apply kept_restartAn) | (with_reducible apply kept_lpiExit) | intro _ | (with_reducible apply Kept.ite) | dsimp only | split | (with_reducible apply Kept.other) | skip

theorem kept_plcaApplied {a : State} {s : State} {t : Nat} (h : Kept a s) :
    Kept a (State.plcaApplied s t) := by
  unfold State.plcaApplied
  iterate 40 all_goals first | (with_reducible assumption) | (with_reducible apply kept_tmStart) | (with_reducible apply kept_updPort) | (with_reducible apply kept_put) | intro _ | (with_reducible apply Kept.ite) | dsimp only | split | (with_reducible apply Kept.other) | skip

theorem kept_t1sApplied {a : State} {s : State} {old : State} {t : Nat} (h : Kept a s) :
    Kept a (State.t1sApplied s old t) := by
  unfold State.t1sApplied
  iterate 40 all_goals first | (with_reducible assumption) | (with_reducible apply kept_put) | (with_reducible apply kept_plcaApplied) | (with_reducible apply kept_linkLoss) | (with_reducible apply kept_linkUpEdge) | intro _ | (with_reducible apply Kept.ite) | dsimp only | split | (with_reducible apply Kept.other) | skip

theorem kept_shrApplied {a : State} {s : State} {old : State} (h : Kept a s) :
    Kept a (State.shrApplied s old) := by
  unfold State.shrApplied
  iterate 40 all_goals first | (with_reducible assumption) | (with_reducible apply kept_each) | (with_reducible apply kept_bankCheck) | (with_reducible apply kept_foldl) | intro _ | (with_reducible apply Kept.ite) | dsimp only | split | (with_reducible apply Kept.other) | skip

theorem kept_mbxApplied {a : State} {s : State} {old : State} (h : Kept a s) :
    Kept a (State.mbxApplied s old) := by
  unfold State.mbxApplied
  iterate 40 all_goals first | (with_reducible assumption) | (with_reducible apply kept_put) | intro _ | (with_reducible apply Kept.ite) | dsimp only | split | (with_reducible apply Kept.other) | skip

theorem kept_denApplied {a : State} {s : State} {old : State} (h : Kept a s) :
    Kept a (State.denApplied s old) := by
  unfold State.denApplied
  iterate 40 all_goals first | (with_reducible assumption) | (with_reducible apply kept_putAct) | intro _ | (with_reducible apply Kept.ite) | dsimp only | split | (with_reducible apply Kept.other) | skip

theorem kept_memApplied {a : State} {s : State} {old : State} (h : Kept a s) :
    Kept a (State.memApplied s old) := by
  unfold State.memApplied
  iterate 40 all_goals first | (with_reducible assumption) | (with_reducible apply kept_tmStart) | (with_reducible apply kept_tmStop) | intro _ | (with_reducible apply Kept.ite) | dsimp only | split | (with_reducible apply Kept.other) | skip

theorem kept_pwrApplied {a : State} {s : State} (h : Kept a s) :
    Kept a (State.pwrApplied s) := by
  unfold State.pwrApplied
  iterate 40 all_goals first | (with_reducible assumption) | (with_reducible apply kept_put) | (with_reducible apply kept_each) | intro _ | (with_reducible apply Kept.ite) | dsimp only | split | (with_reducible apply Kept.other) | skip

theorem kept_clkApplied {a : State} {s : State} {old : State} (h : Kept a s) :
    Kept a (State.clkApplied s old) := by
  unfold State.clkApplied
  iterate 40 all_goals first | (with_reducible assumption) | (with_reducible apply kept_each) | (with_reducible apply kept_put) | intro _ | (with_reducible apply Kept.ite) | dsimp only | split | (with_reducible apply Kept.other) | skip

theorem kept_blockApplied {a : State} {s : State} {old : State} {b : Nat} (h : Kept a s) :
    Kept a (State.blockApplied s old b) := by
  unfold State.blockApplied
  iterate 40 all_goals first | (with_reducible assumption) | (with_reducible apply kept_timeApplied) | (with_reducible apply kept_fnSteer) | (with_reducible apply kept_phsApplied) | (with_reducible apply kept_swApplied) | (with_reducible apply kept_foxApplied) | (with_reducible apply kept_flowApplied) | (with_reducible apply kept_ringApplied) | (with_reducible apply kept_each) | (with_reducible apply kept_ethApplied) | (with_reducible apply kept_t1sApplied) | (with_reducible apply kept_canApplied) | (with_reducible apply kept_shrApplied) | (with_reducible apply kept_gwApplied) | (with_reducible apply kept_owlApplied) | (with_reducible apply kept_mbxApplied) | (with_reducible apply kept_denApplied) | (with_reducible apply kept_memApplied) | (with_reducible apply kept_pwrApplied) | (with_reducible apply kept_clkApplied) | intro _ | (with_reducible apply Kept.ite) | dsimp only | split | (with_reducible apply Kept.other) | skip

theorem kept_activate {a : State} {s : State} {scope : Nat} (h : Kept a s) :
    Kept a (State.activate s scope) := by
  unfold State.activate
  iterate 40 all_goals first | (with_reducible assumption) | intro _ | (with_reducible apply Kept.ite) | dsimp only | split | (with_reducible apply Kept.other) | skip

theorem kept_applied {a : State} {s : State} {scope : Nat} (h : Kept a s) :
    Kept a (State.applied s scope) := by
  unfold State.applied
  iterate 40 all_goals first | (with_reducible assumption) | (with_reducible apply kept_each) | (with_reducible apply kept_activate) | (with_reducible apply kept_blockApplied) | intro _ | (with_reducible apply Kept.ite) | dsimp only | split | (with_reducible apply Kept.other) | skip

theorem kept_applyGo {a : State} {s : State} {stay : Bool} {mbx : Option Nat} (h : Kept a s) :
    Kept a (State.applyGo s stay mbx) := by
  unfold State.applyGo
  iterate 40 all_goals first | (with_reducible assumption) | (with_reducible apply kept_put) | intro _ | (with_reducible apply Kept.ite) | dsimp only | split | (with_reducible apply Kept.other) | skip

theorem kept_applyAck {a : State} {s : State} {r : ApplyReq} {res : Nat} {blk : Nat} {edge : Bool} {code : Nat} (h : Kept a s) :
    Kept a (State.applyAck s r res blk edge code) := by
  unfold State.applyAck
  iterate 40 all_goals first | (with_reducible assumption) | (with_reducible apply kept_cmdEnd) | (with_reducible apply kept_switchUndo) | intro _ | (with_reducible apply Kept.ite) | dsimp only | split | (with_reducible apply Kept.other) | skip

theorem kept_applyCancel {a : State} {s : State} {code : Nat} (h : Kept a s) :
    Kept a (State.applyCancel s code) := by
  unfold State.applyCancel
  iterate 40 all_goals first | (with_reducible assumption) | (with_reducible apply kept_put) | (with_reducible apply kept_applyAck) | intro _ | (with_reducible apply Kept.ite) | dsimp only | split | (with_reducible apply Kept.other) | skip

theorem kept_applyCtrl {a : State} {s : State} {v : Nat} (h : Kept a s) :
    Kept a (State.applyCtrl s v) := by
  unfold State.applyCtrl
  iterate 40 all_goals first | (with_reducible assumption) | (with_reducible apply kept_put) | (with_reducible apply kept_applyCancel) | (with_reducible apply kept_applyGo) | intro _ | (with_reducible apply Kept.ite) | dsimp only | split | (with_reducible apply Kept.other) | skip

theorem kept_execApplyRequest {a : State} {v : W32} {s : State} (h : Kept a s) :
    KeptO a (execApplyRequest v s) := by
  unfold execApplyRequest
  iterate 40 all_goals first | (with_reducible assumption) | (with_reducible apply KeptO.next) | (with_reducible apply kept_hostWr) | (with_reducible apply kept_applyCtrl) | intro _ | (with_reducible apply Kept.ite) | dsimp only | split | (with_reducible apply Kept.other) | skip

theorem kept_execApplyCancel {a : State} {v : W32} {s : State} (h : Kept a s) :
    KeptO a (execApplyCancel v s) := by
  unfold execApplyCancel
  iterate 40 all_goals first | (with_reducible assumption) | (with_reducible apply KeptO.next) | (with_reducible apply kept_hostWr) | (with_reducible apply kept_applyCtrl) | intro _ | (with_reducible apply Kept.ite) | dsimp only | split | (with_reducible apply Kept.other) | skip

end Sys2Proof.Machine
end

