-- ==== Sys2Proof/Laws/KeptBus.lean ====
section
/-!
SUPPORT. What the operations of Machine/Bus.lean keep.
-/
namespace Sys2Proof.Machine

theorem kept_trngPop {a : State} {s : State} (h : Kept a s) :
    Kept a (State.trngPop s) := by
  unfold State.trngPop
  exact Kept.ite (Kept.of_trngN h (Nat.le_succ _)) (Kept.other h)

theorem kept_takeReg {a : State} {s : State} {h1 : Nat} {c : Nat} {r : Row} {i : Nat} {j : Nat} {x : Nat} (h : Kept a s) :
    Kept a (State.takeReg s h1 c r i j x) := by
  unfold State.takeReg
  iterate 40 all_goals first | (with_reducible assumption) | (with_reducible apply kept_captPop) | (with_reducible apply kept_l1208Read) | (with_reducible apply kept_canTouch) | (with_reducible apply kept_shrRxf) | (with_reducible apply kept_pmData) | (with_reducible apply kept_pwePop) | (with_reducible apply kept_htxcPop) | (with_reducible apply kept_trngPop) | (with_reducible apply kept_uePop) | (with_reducible apply kept_refusePop) | (with_reducible apply kept_evtPop) | (with_reducible apply kept_taken) | (with_reducible apply kept_foldl) | intro _ | (with_reducible apply Kept.ite) | dsimp only | split | (with_reducible apply Kept.other) | skip

theorem kept_busRead {a : State} {s : State} {q : Req} {o : Nat} (h : Kept a s) :
    Kept a (State.busRead s q o) := by
  unfold State.busRead
  iterate 40 all_goals first | (with_reducible assumption) | (with_reducible apply kept_takeReg) | intro _ | (with_reducible apply Kept.ite) | dsimp only | split | (with_reducible apply Kept.other) | skip

theorem kept_fieldWr {a : State} {s : State} {f : Field} {i : Nat} {v : Nat} {keep : Nat} (h : Kept a s) :
    Kept a (State.fieldWr s f i v keep) := by
  unfold State.fieldWr
  iterate 40 all_goals first | (with_reducible assumption) | (with_reducible apply kept_put) | intro _ | (with_reducible apply Kept.ite) | dsimp only | split | (with_reducible apply Kept.other) | skip

theorem kept_regWr {a : State} {s : State} {r : Row} {i : Nat} {v : Nat} {keep : Nat} (h : Kept a s) :
    Kept a (State.regWr s r i v keep) := by
  unfold State.regWr
  iterate 40 all_goals first | (with_reducible assumption) | (with_reducible apply kept_fieldWr) | (with_reducible apply kept_foldl) | intro _ | (with_reducible apply Kept.ite) | dsimp only | split | (with_reducible apply Kept.other) | skip

theorem kept_execCsnapCancel {a : State} {s : State} (h : Kept a s) :
    KeptO a (execCsnapCancel s) := by
  unfold execCsnapCancel
  iterate 40 all_goals first | (with_reducible assumption) | (with_reducible apply KeptO.next) | (with_reducible apply kept_hostWr) | (with_reducible apply kept_snapWithdraw) | intro _ | (with_reducible apply Kept.ite) | dsimp only | split | (with_reducible apply Kept.other) | skip

theorem kept_csnapCtrl {a : State} {s : State} {v : Nat} (h : Kept a s) :
    Kept a (State.csnapCtrl s v) := by
  unfold State.csnapCtrl
  iterate 40 all_goals first | (with_reducible assumption) | (with_reducible apply kept_snapWithdraw) | (with_reducible apply kept_snapRelease) | (with_reducible apply kept_snapGo) | (with_reducible apply kept_put) | intro _ | (with_reducible apply Kept.ite) | dsimp only | split | (with_reducible apply Kept.other) | skip

theorem kept_authCtrl {a : State} {s : State} {v : Nat} (h : Kept a s) :
    Kept a (State.authCtrl s v) := by
  unfold State.authCtrl
  iterate 40 all_goals first | (with_reducible assumption) | (with_reducible apply kept_authReq) | (with_reducible apply kept_authGo) | intro _ | (with_reducible apply Kept.ite) | dsimp only | split | (with_reducible apply Kept.other) | skip

theorem kept_trigWr1 {a : State} {s : State} {r : Row} {i : Nat} {v : Nat} (h : Kept a s) :
    KeptOpt a (State.trigWr1 s r i v) := by
  unfold State.trigWr1
  iterate 40 all_goals first | (with_reducible assumption) | (with_reducible apply kept_latch) | (with_reducible apply kept_regWr) | (with_reducible apply kept_timeRate) | (with_reducible apply kept_timeSet) | (with_reducible apply kept_steer) | (with_reducible apply kept_timeStep) | (with_reducible apply kept_timeSlew) | (with_reducible apply kept_softSet) | (with_reducible apply kept_runSet) | (with_reducible apply kept_askCommit) | (with_reducible apply kept_leaseOpen) | (with_reducible apply kept_leaseClose) | (with_reducible apply kept_applyCtrl) | (with_reducible apply kept_csnapCtrl) | (with_reducible apply kept_ringResync) | (with_reducible apply kept_fnRate) | (with_reducible apply kept_restartAn) | (with_reducible apply KeptOpt.of_some) | (with_reducible apply KeptOpt.of_none) | (with_reducible apply KeptOpt.ite) | intro _ | (with_reducible apply Kept.ite) | dsimp only | split | (with_reducible apply Kept.other) | skip

theorem kept_trigWr1_eq {a : State} {s : State} {r : Row} {i : Nat} {v : Nat} {u : State} (hq : (State.trigWr1 s r i v) = some u) (h : Kept a s) : Kept a u := by
  have g := kept_trigWr1 (s := s) (r := r) (i := i) (v := v) h
  rw [hq] at g
  exact g

theorem kept_trigWr2 {a : State} {s : State} {c : Nat} {r : Row} {i : Nat} {j : Nat} {x : Nat} {v : Nat} (h : Kept a s) :
    KeptOpt a (State.trigWr2 s c r i j x v) := by
  unfold State.trigWr2
  iterate 40 all_goals first | (with_reducible assumption) | (with_reducible apply kept_canCancel) | (with_reducible apply kept_canWrote) | (with_reducible apply kept_putCram) | (with_reducible apply kept_shrTxf) | (with_reducible apply kept_irqSet) | (with_reducible apply kept_shrFlush) | (with_reducible apply kept_pmData) | (with_reducible apply kept_eachShr) | (with_reducible apply kept_shStart) | (with_reducible apply kept_shDivide) | (with_reducible apply kept_shStop) | (with_reducible apply kept_shSwapReq) | (with_reducible apply kept_shFswap) | (with_reducible apply kept_flagsSet) | (with_reducible apply kept_flagsClr) | (with_reducible apply KeptOpt.of_some) | (with_reducible apply KeptOpt.of_none) | (with_reducible apply KeptOpt.ite) | intro _ | (with_reducible apply Kept.ite) | dsimp only | split | (with_reducible apply Kept.other) | skip

theorem kept_trigWr2_eq {a : State} {s : State} {c : Nat} {r : Row} {i : Nat} {j : Nat} {x : Nat} {v : Nat} {u : State} (hq : (State.trigWr2 s c r i j x v) = some u) (h : Kept a s) : Kept a u := by
  have g := kept_trigWr2 (s := s) (c := c) (r := r) (i := i) (j := j) (x := x) (v := v) h
  rw [hq] at g
  exact g

theorem kept_trigWr3 {a : State} {s : State} {r : Row} {i : Nat} {x : Nat} {v : Nat} (h : Kept a s) :
    KeptOpt a (State.trigWr3 s r i x v) := by
  unfold State.trigWr3
  iterate 40 all_goals first | (with_reducible assumption) | (with_reducible apply kept_cntAdd) | (with_reducible apply kept_gwRack) | (with_reducible apply kept_hwqPush) | (with_reducible apply kept_lockout) | (with_reducible apply kept_demandSet) | (with_reducible apply kept_twAck) | (with_reducible apply kept_connAck) | (with_reducible apply kept_authCtrl) | (with_reducible apply kept_d2hPend) | (with_reducible apply kept_d2hMask) | (with_reducible apply kept_h2dSet) | (with_reducible apply kept_h2dMask) | (with_reducible apply kept_mbxPost) | (with_reducible apply kept_htxPush) | (with_reducible apply kept_bankWrite) | (with_reducible apply kept_flushEvents) | (with_reducible apply KeptOpt.of_some) | (with_reducible apply KeptOpt.of_none) | (with_reducible apply KeptOpt.ite) | intro _ | (with_reducible apply Kept.ite) | dsimp only | split | (with_reducible apply Kept.other) | skip

theorem kept_trigWr3_eq {a : State} {s : State} {r : Row} {i : Nat} {x : Nat} {v : Nat} {u : State} (hq : (State.trigWr3 s r i x v) = some u) (h : Kept a s) : Kept a u := by
  have g := kept_trigWr3 (s := s) (r := r) (i := i) (x := x) (v := v) h
  rw [hq] at g
  exact g

theorem kept_wroteReg {a : State} {s : State} {r : Row} {x : Nat} (h : Kept a s) :
    Kept a (State.wroteReg s r x) := by
  unfold State.wroteReg
  iterate 40 all_goals first | (with_reducible assumption) | (with_reducible apply kept_setCal) | (with_reducible apply kept_authWritten) | intro _ | (with_reducible apply Kept.ite) | dsimp only | split | (with_reducible apply Kept.other) | skip

theorem kept_writeReg {a : State} {s : State} {c : Nat} {r : Row} {i : Nat} {j : Nat} {x : Nat} {v : Nat} {keep : Nat} (h : Kept a s) :
    Kept a (State.writeReg s c r i j x v keep) := by
  unfold State.writeReg
  iterate 40 all_goals first | (with_reducible assumption) | (with_reducible apply kept_trigWr1) | (with_reducible apply kept_trigWr2) | (with_reducible apply kept_trigWr3) | (with_reducible apply kept_wroteReg) | (with_reducible apply kept_regWr) | (with_reducible refine kept_trigWr1_eq (by assumption) ?_) | (with_reducible refine kept_trigWr2_eq (by assumption) ?_) | (with_reducible refine kept_trigWr3_eq (by assumption) ?_) | intro _ | (with_reducible apply Kept.ite) | dsimp only | split | (with_reducible apply Kept.other) | skip

theorem kept_noEngine {a : State} {s : State} {q : Req} {o : Nat} (h : Kept a s) :
    Kept a (State.noEngine s q o) := by
  unfold State.noEngine
  iterate 40 all_goals first | (with_reducible assumption) | (with_reducible apply kept_logPwe) | intro _ | (with_reducible apply Kept.ite) | dsimp only | split | (with_reducible apply Kept.other) | skip

theorem kept_holdWr {a : State} {s : State} {le : Nat} {o : Nat} {v : Nat} {keep : Nat} (h : Kept a s) :
    Kept a (State.holdWr s le o v keep) := by
  unfold State.holdWr
  iterate 40 all_goals first | (with_reducible assumption) | (with_reducible apply kept_setEng) | intro _ | (with_reducible apply Kept.ite) | dsimp only | split | (with_reducible apply Kept.other) | skip

theorem kept_busWrite {a : State} {s : State} {q : Req} {o : Nat} {v : Nat} {keep : Nat} (h : Kept a s) :
    Kept a (State.busWrite s q o v keep) := by
  unfold State.busWrite
  iterate 40 all_goals first | (with_reducible assumption) | (with_reducible apply kept_logPwe) | (with_reducible apply kept_msixWr) | (with_reducible apply kept_noEngine) | (with_reducible apply kept_holdWr) | (with_reducible apply kept_writeReg) | intro _ | (with_reducible apply Kept.ite) | dsimp only | split | (with_reducible apply Kept.other) | skip

theorem kept_logPartial {a : State} {s : State} {o : Nat} {n : Nat} (h : Kept a s) :
    Kept a (State.logPartial s o n) := by
  unfold State.logPartial
  iterate 40 all_goals first | (with_reducible assumption) | (with_reducible apply kept_logPwe) | intro _ | (with_reducible apply Kept.ite) | dsimp only | split | (with_reducible apply Kept.other) | skip

theorem kept_execRegisterWrite {a : State} {q : Req} {o : BitVec 20} {v : WriteIn} {be : BitVec 4} {s : State} (h : Kept a s) :
    KeptO a (execRegisterWrite q o v be s) := by
  unfold execRegisterWrite
  iterate 40 all_goals first | (with_reducible assumption) | (with_reducible apply KeptO.next) | (with_reducible apply kept_logPartial) | (with_reducible apply kept_busWrite) | intro _ | (with_reducible apply Kept.ite) | dsimp only | split | (with_reducible apply Kept.other) | skip

theorem kept_lbusRead {a : State} {s : State} {o : Nat} (h : Kept a s) :
    Kept a (State.lbusRead s o) := by
  unfold State.lbusRead
  iterate 40 all_goals first | (with_reducible assumption) | (with_reducible apply kept_busRead) | intro _ | (with_reducible apply Kept.ite) | dsimp only | split | (with_reducible apply Kept.other) | skip

theorem kept_execReadDelivered {a : State} {q : Req} {o : BitVec 20} {s : State} (h : Kept a s) :
    KeptO a (execReadDelivered q o s) := by
  unfold execReadDelivered
  iterate 40 all_goals first | (with_reducible assumption) | (with_reducible apply KeptO.next) | (with_reducible apply kept_lbusRead) | (with_reducible apply kept_busRead) | intro _ | (with_reducible apply Kept.ite) | dsimp only | split | (with_reducible apply Kept.other) | skip

theorem kept_execDenTrng {a : State} {s : State} (h : Kept a s) :
    KeptO a (execDenTrng s) := by
  unfold execDenTrng
  iterate 40 all_goals first | (with_reducible assumption) | (with_reducible apply KeptO.next) | (with_reducible apply kept_busRead) | intro _ | (with_reducible apply Kept.ite) | dsimp only | split | (with_reducible apply Kept.other) | skip

theorem kept_lbusWrite {a : State} {s : State} {a1 : Nat} {be : Nat} {v : Nat} (h : Kept a s) :
    Kept a (State.lbusWrite s a1 be v) := by
  unfold State.lbusWrite
  iterate 40 all_goals first | (with_reducible assumption) | (with_reducible apply kept_logPartial) | (with_reducible apply kept_hostWrite) | (with_reducible apply kept_busWrite) | intro _ | (with_reducible apply Kept.ite) | dsimp only | split | (with_reducible apply Kept.other) | skip

theorem kept_lbusWord {a : State} {s : State} {a1 : Nat} {be : Nat} {v : Nat} (h : Kept a s) :
    Kept a (State.lbusWord s a1 be v) := by
  unfold State.lbusWord
  iterate 40 all_goals first | (with_reducible assumption) | (with_reducible apply kept_logPartial) | (with_reducible apply kept_hostWrite) | (with_reducible apply kept_lbusWrite) | intro _ | (with_reducible apply Kept.ite) | dsimp only | split | (with_reducible apply Kept.other) | skip

theorem kept_execLbusHalfwordWrite {a : State} {a1 : BitVec 20} {be : BitVec 2} {v : BitVec 16} {s : State} (h : Kept a s) :
    KeptO a (execLbusHalfwordWrite a1 be v s) := by
  unfold execLbusHalfwordWrite
  iterate 40 all_goals first | (with_reducible assumption) | (with_reducible apply KeptO.next) | (with_reducible apply kept_lbusWord) | intro _ | (with_reducible apply Kept.ite) | dsimp only | split | (with_reducible apply Kept.other) | skip

theorem kept_qspiRegs {a : State} {s : State} {o : Nat} {n : Nat} {acc : List Nat} {x4 : Nat} (h : Kept a s) :
    Kept a (State.qspiRegs s o n acc x4).1 := by
  induction x4 generalizing s o n acc with
  | zero => exact h
  | succ k ih =>
    rw [State.qspiRegs]
    dsimp only
    split
    · exact h
    · split
      · exact h
      · exact ih (kept_busRead h)

theorem kept_qspiRegs_eq {a : State} {s : State} {o : Nat} {n : Nat} {acc : List Nat} {x4 : Nat} {u : State} {r0 : List Nat} (hq : (State.qspiRegs s o n acc x4) = (u, r0)) (h : Kept a s) : Kept a u := by
  have g := kept_qspiRegs (s := s) (o := o) (n := n) (acc := acc) (x4 := x4) h
  rw [hq] at g
  exact g

theorem kept_qspiRead {a : State} {s : State} {a1 : Nat} {n : Nat} (h : Kept a s) :
    Kept a (State.qspiRead s a1 n) := by
  unfold State.qspiRead
  iterate 40 all_goals first | (with_reducible assumption) | (with_reducible apply kept_qspiRegs) | (with_reducible apply kept_bar2Read) | (with_reducible refine kept_qspiRegs_eq (by assumption) ?_) | intro _ | (with_reducible apply Kept.ite) | dsimp only | split | (with_reducible apply Kept.other) | skip

theorem kept_execQspiRead {a : State} {a1 : W24} {wait : Nat} {n : Nat} {s : State} (h : Kept a s) :
    KeptO a (execQspiRead a1 wait n s) := by
  unfold execQspiRead
  iterate 40 all_goals first | (with_reducible assumption) | (with_reducible apply KeptO.next) | (with_reducible apply kept_qspiRead) | intro _ | (with_reducible apply Kept.ite) | dsimp only | split | (with_reducible apply Kept.other) | skip

theorem kept_qspiWords {a : State} {s : State} {o : Nat} {l : List Byte} {x3 : Nat} (h : Kept a s) :
    Kept a (State.qspiWords s o l x3) := by
  induction x3 generalizing s o l with
  | zero => exact h
  | succ k ih =>
    rw [State.qspiWords]
    exact Kept.ite h (Kept.ite (kept_logPartial h) (ih (kept_busWrite h)))

theorem kept_qspiWrite {a : State} {s : State} {a1 : Nat} {l : List Byte} (h : Kept a s) :
    Kept a (State.qspiWrite s a1 l) := by
  unfold State.qspiWrite
  iterate 40 all_goals first | (with_reducible assumption) | (with_reducible apply kept_qspiWords) | (with_reducible apply kept_hostWrite) | intro _ | (with_reducible apply Kept.ite) | dsimp only | split | (with_reducible apply Kept.other) | skip

theorem kept_execQspiWrite {a : State} {a1 : W24} {bytes : List Byte} {s : State} (h : Kept a s) :
    KeptO a (execQspiWrite a1 bytes s) := by
  unfold execQspiWrite
  iterate 40 all_goals first | (with_reducible assumption) | (with_reducible apply KeptO.next) | (with_reducible apply kept_qspiWrite) | intro _ | (with_reducible apply Kept.ite) | dsimp only | split | (with_reducible apply Kept.other) | skip

theorem kept_execQspiStatus {a : State} {s : State} (h : Kept a s) :
    KeptO a (execQspiStatus s) := by
  unfold execQspiStatus
  iterate 40 all_goals first | (with_reducible assumption) | (with_reducible apply KeptO.next) | intro _ | (with_reducible apply Kept.ite) | dsimp only | split | (with_reducible apply Kept.other) | skip

end Sys2Proof.Machine
end

