-- ==== Sys2Proof/Laws/KeptFoxGlobal.lean ====
section
/-!
SUPPORT. What the operations of Machine/FoxGlobal.lean keep.
-/
namespace Sys2Proof.Machine

theorem kept_gaEcc {a : State} {s : State} {ecc : Ecc} {slot : Nat} {a1 : Nat} (h : Kept a s) :
    Kept a (State.gaEcc s ecc slot a1) := by
  unfold State.gaEcc
  iterate 40 all_goals first | (with_reducible assumption) | (with_reducible apply kept_memCe) | (with_reducible apply kept_memUe) | intro _ | (with_reducible apply Kept.ite) | dsimp only | split | (with_reducible apply Kept.other) | skip

theorem kept_gaPoison {a : State} {s : State} {a1 : Nat} (h : Kept a s) :
    Kept a (State.gaPoison s a1) := by
  unfold State.gaPoison
  iterate 40 all_goals first | (with_reducible assumption) | (with_reducible apply kept_setMark) | (with_reducible apply kept_setImgMark) | intro _ | (with_reducible apply Kept.ite) | dsimp only | split | (with_reducible apply Kept.other) | skip

theorem kept_gaPut {a : State} {s : State} {a1 : Nat} {l : List Byte} (h : Kept a s) :
    Kept a (State.gaPut s a1 l) := by
  unfold State.gaPut
  iterate 40 all_goals first | (with_reducible assumption) | (with_reducible apply kept_canWrote) | (with_reducible apply kept_putCram) | (with_reducible apply kept_putBack) | (with_reducible apply kept_each) | (with_reducible apply kept_setFlowByte) | intro _ | (with_reducible apply Kept.ite) | dsimp only | split | (with_reducible apply Kept.other) | skip

theorem kept_gaLoad {a : State} {s : State} {k : Fin 64} {d : Fin 16} {a1 : Nat} {w : Nat} {ecc : Ecc} {slot : Nat} (h : Kept a s) :
    Kept a (State.gaLoad s k d a1 w ecc slot) := by
  unfold State.gaLoad
  iterate 40 all_goals first | (with_reducible assumption) | (with_reducible apply kept_busRead) | (with_reducible apply kept_unblock) | (with_reducible apply kept_updTh) | (with_reducible apply kept_unblockTrap) | (with_reducible apply kept_gaEcc) | (with_reducible apply kept_canTouch) | intro _ | (with_reducible apply Kept.ite) | dsimp only | split | (with_reducible apply Kept.other) | skip

theorem kept_gaStore {a : State} {s : State} {k : Fin 64} {a1 : Nat} {w : Nat} {v : Nat} {ecc : Ecc} {slot : Nat} (h : Kept a s) :
    Kept a (State.gaStore s k a1 w v ecc slot) := by
  unfold State.gaStore
  iterate 40 all_goals first | (with_reducible assumption) | (with_reducible apply kept_unblock) | (with_reducible apply kept_busWrite) | (with_reducible apply kept_gaPut) | (with_reducible apply kept_gaEcc) | (with_reducible apply kept_gaPoison) | intro _ | (with_reducible apply Kept.ite) | dsimp only | split | (with_reducible apply Kept.other) | skip

theorem kept_execGlobalAccessComplete {a : State} {k : Fin 64} {ecc : Ecc} {slot : Fin 3} {s : State} (h : Kept a s) :
    KeptO a (execGlobalAccessComplete k ecc slot s) := by
  unfold execGlobalAccessComplete
  iterate 40 all_goals first | (with_reducible assumption) | (with_reducible apply KeptO.next) | (with_reducible apply kept_unblock) | (with_reducible apply kept_gaRefuse) | (with_reducible apply kept_gaLoad) | (with_reducible apply kept_gaStore) | intro _ | (with_reducible apply Kept.ite) | dsimp only | split | (with_reducible apply Kept.other) | skip

end Sys2Proof.Machine
end

