-- ==== Sys2Proof/Laws/KeptCommand.lean ====
section
/-!
SUPPORT. What the operations of Machine/Command.lean keep.
-/
namespace Sys2Proof.Machine

theorem kept_cmdOp {a : State} {s : State} {m : Nat} {op : Nat} {p : Nat → Bool} {run : State → Mbx → State} (h : Kept a s) (hg : ∀ t x1, Kept a t → Kept a (run t x1)) :
    Kept a (State.cmdOp s m op p run) := by
  unfold State.cmdOp
  iterate 40 all_goals first | (with_reducible assumption) | (with_reducible apply hg) | (with_reducible apply kept_cmd) | intro _ | (with_reducible apply Kept.ite) | dsimp only | split | (with_reducible apply Kept.other) | skip

theorem kept_execHello {a : State} {m : Fin 9} {s : State} (h : Kept a s) :
    KeptO a (execHello m s) := by
  unfold execHello
  iterate 40 all_goals first | (with_reducible assumption) | (with_reducible apply KeptO.next) | (with_reducible apply kept_cmd) | (with_reducible apply kept_cmdEnd) | (with_reducible apply kept_put) | intro _ | (with_reducible apply Kept.ite) | dsimp only | split | (with_reducible apply Kept.other) | skip

theorem kept_execGetInfo {a : State} {m : Fin 9} {s : State} (h : Kept a s) :
    KeptO a (execGetInfo m s) := by
  unfold execGetInfo
  iterate 40 all_goals first | (with_reducible assumption) | (with_reducible apply KeptO.next) | (with_reducible apply kept_cmd) | (with_reducible apply kept_cmdEnd) | intro _ | (with_reducible apply Kept.ite) | dsimp only | split | (with_reducible apply Kept.other) | skip

theorem kept_applyFail {a : State} {s : State} {m : Nat} {code : Nat} {res : Nat} (h : Kept a s) :
    Kept a (State.applyFail s m code res) := by
  unfold State.applyFail
  iterate 40 all_goals first | (with_reducible assumption) | (with_reducible apply kept_cmdEnd) | intro _ | (with_reducible apply Kept.ite) | dsimp only | split | (with_reducible apply Kept.other) | skip

theorem kept_cmdApply {a : State} {s : State} {m : Nat} {x : Mbx} {scope : Nat} (h : Kept a s) :
    Kept a (State.cmdApply s m x scope) := by
  unfold State.cmdApply
  iterate 40 all_goals first | (with_reducible assumption) | (with_reducible apply kept_put) | (with_reducible apply kept_applyGo) | (with_reducible apply kept_applyCancel) | (with_reducible apply kept_applyFail) | intro _ | (with_reducible apply Kept.ite) | dsimp only | split | (with_reducible apply Kept.other) | skip

theorem kept_execApply {a : State} {m : Fin 9} {s : State} (h : Kept a s) :
    KeptO a (execApply m s) := by
  unfold execApply
  iterate 40 all_goals first | (with_reducible assumption) | (with_reducible apply KeptO.next) | (with_reducible apply kept_cmd) | (with_reducible apply kept_applyFail) | (with_reducible apply kept_cmdApply) | intro _ | (with_reducible apply Kept.ite) | dsimp only | split | (with_reducible apply Kept.other) | skip

theorem kept_flowWrite {a : State} {s : State} {e : FlowEntry} (h : Kept a s) :
    Kept a (State.flowWrite s e) := by
  unfold State.flowWrite
  iterate 40 all_goals first | (with_reducible assumption) | (with_reducible apply kept_each) | (with_reducible apply kept_regWr) | intro _ | (with_reducible apply Kept.ite) | dsimp only | split | (with_reducible apply Kept.other) | skip

theorem kept_execFlowOpen {a : State} {m : Fin 9} {s : State} (h : Kept a s) :
    KeptO a (execFlowOpen m s) := by
  unfold execFlowOpen
  iterate 40 all_goals first | (with_reducible assumption) | (with_reducible apply KeptO.next) | (with_reducible apply kept_cmd) | (with_reducible apply kept_applyFail) | (with_reducible apply kept_cmdApply) | (with_reducible apply kept_each) | (with_reducible apply kept_flowWrite) | intro _ | (with_reducible apply Kept.ite) | dsimp only | split | (with_reducible apply Kept.other) | skip

theorem kept_execFlowClose {a : State} {m : Fin 9} {s : State} (h : Kept a s) :
    KeptO a (execFlowClose m s) := by
  unfold execFlowClose
  iterate 40 all_goals first | (with_reducible assumption) | (with_reducible apply KeptO.next) | (with_reducible apply kept_cmd) | (with_reducible apply kept_applyFail) | (with_reducible apply kept_cmdApply) | (with_reducible apply kept_each) | (with_reducible apply kept_put) | intro _ | (with_reducible apply Kept.ite) | dsimp only | split | (with_reducible apply Kept.other) | skip

theorem kept_ringEnd {a : State} {s : State} {m : Nat} {code : Nat} (h : Kept a s) :
    Kept a (State.ringEnd s m code) := by
  unfold State.ringEnd
  iterate 40 all_goals first | (with_reducible assumption) | (with_reducible apply kept_cmdEnd) | intro _ | (with_reducible apply Kept.ite) | dsimp only | split | (with_reducible apply Kept.other) | skip

theorem kept_ringApply {a : State} {s : State} {m : Nat} {x : Mbx} {set : State → State} (h : Kept a s) (hg : ∀ t, Kept a t → Kept a (set t)) :
    Kept a (State.ringApply s m x set) := by
  unfold State.ringApply
  iterate 40 all_goals first | (with_reducible assumption) | (with_reducible apply hg) | (with_reducible apply kept_ringEnd) | (with_reducible apply kept_applyGo) | (with_reducible apply kept_put) | intro _ | (with_reducible apply Kept.ite) | dsimp only | split | (with_reducible apply Kept.other) | skip

theorem kept_execRingRoleSet {a : State} {m : Fin 9} {s : State} (h : Kept a s) :
    KeptO a (execRingRoleSet m s) := by
  unfold execRingRoleSet
  iterate 40 all_goals first | (with_reducible assumption) | (with_reducible apply KeptO.next) | (with_reducible apply kept_cmdOp) | (with_reducible apply kept_ringApply) | (with_reducible apply kept_put) | intro _ | (with_reducible apply Kept.ite) | dsimp only | split | (with_reducible apply Kept.other) | skip

theorem kept_execRingRoleResync {a : State} {m : Fin 9} {s : State} (h : Kept a s) :
    KeptO a (execRingRoleResync m s) := by
  unfold execRingRoleResync
  iterate 40 all_goals first | (with_reducible assumption) | (with_reducible apply KeptO.next) | (with_reducible apply kept_cmdOp) | (with_reducible apply kept_ringEnd) | (with_reducible apply kept_ringResync) | intro _ | (with_reducible apply Kept.ite) | dsimp only | split | (with_reducible apply Kept.other) | skip

theorem kept_execRingRoleLeave {a : State} {m : Fin 9} {s : State} (h : Kept a s) :
    KeptO a (execRingRoleLeave m s) := by
  unfold execRingRoleLeave
  iterate 40 all_goals first | (with_reducible assumption) | (with_reducible apply KeptO.next) | (with_reducible apply kept_cmdOp) | (with_reducible apply kept_ringApply) | (with_reducible apply kept_put) | intro _ | (with_reducible apply Kept.ite) | dsimp only | split | (with_reducible apply Kept.other) | skip

theorem kept_execRingRoleEnter {a : State} {m : Fin 9} {s : State} (h : Kept a s) :
    KeptO a (execRingRoleEnter m s) := by
  unfold execRingRoleEnter
  iterate 40 all_goals first | (with_reducible assumption) | (with_reducible apply KeptO.next) | (with_reducible apply kept_cmdOp) | (with_reducible apply kept_ringApply) | (with_reducible apply kept_put) | intro _ | (with_reducible apply Kept.ite) | dsimp only | split | (with_reducible apply Kept.other) | skip

theorem kept_execLeaseOpen {a : State} {m : Fin 9} {s : State} (h : Kept a s) :
    KeptO a (execLeaseOpen m s) := by
  unfold execLeaseOpen
  iterate 40 all_goals first | (with_reducible assumption) | (with_reducible apply KeptO.next) | (with_reducible apply kept_cmd) | (with_reducible apply kept_cmdEnd) | (with_reducible apply kept_leaseOpen) | intro _ | (with_reducible apply Kept.ite) | dsimp only | split | (with_reducible apply Kept.other) | skip

theorem kept_execLeaseClose {a : State} {m : Fin 9} {s : State} (h : Kept a s) :
    KeptO a (execLeaseClose m s) := by
  unfold execLeaseClose
  iterate 40 all_goals first | (with_reducible assumption) | (with_reducible apply KeptO.next) | (with_reducible apply kept_cmd) | (with_reducible apply kept_leaseClose) | (with_reducible apply kept_cmdEnd) | intro _ | (with_reducible apply Kept.ite) | dsimp only | split | (with_reducible apply Kept.other) | skip

theorem kept_execCounterSnapshotTake {a : State} {m : Fin 9} {s : State} (h : Kept a s) :
    KeptO a (execCounterSnapshotTake m s) := by
  unfold execCounterSnapshotTake
  iterate 40 all_goals first | (with_reducible assumption) | (with_reducible apply KeptO.next) | (with_reducible apply kept_cmdOp) | (with_reducible apply kept_cmdEnd) | (with_reducible apply kept_snapGo) | (with_reducible apply kept_snapWithdraw) | intro _ | (with_reducible apply Kept.ite) | dsimp only | split | (with_reducible apply Kept.other) | skip

theorem kept_execCounterSnapshotRelease {a : State} {m : Fin 9} {s : State} (h : Kept a s) :
    KeptO a (execCounterSnapshotRelease m s) := by
  unfold execCounterSnapshotRelease
  iterate 40 all_goals first | (with_reducible assumption) | (with_reducible apply KeptO.next) | (with_reducible apply kept_cmdOp) | (with_reducible apply kept_cmdEnd) | (with_reducible apply kept_snapRelease) | intro _ | (with_reducible apply Kept.ite) | dsimp only | split | (with_reducible apply Kept.other) | skip

theorem kept_execCounterSnapshotCancel {a : State} {m : Fin 9} {s : State} (h : Kept a s) :
    KeptO a (execCounterSnapshotCancel m s) := by
  unfold execCounterSnapshotCancel
  iterate 40 all_goals first | (with_reducible assumption) | (with_reducible apply KeptO.next) | (with_reducible apply kept_cmdOp) | (with_reducible apply kept_cmdEnd) | (with_reducible apply kept_snapWithdraw) | intro _ | (with_reducible apply Kept.ite) | dsimp only | split | (with_reducible apply Kept.other) | skip

theorem kept_execSnapshotEdge {a : State} {s : State} (h : Kept a s) :
    KeptO a (execSnapshotEdge s) := by
  unfold execSnapshotEdge
  iterate 40 all_goals first | (with_reducible assumption) | (with_reducible apply KeptO.next) | (with_reducible apply kept_snapEdge) | (with_reducible apply kept_cmdEnd) | intro _ | (with_reducible apply Kept.ite) | dsimp only | split | (with_reducible apply Kept.other) | skip

theorem kept_engineLoad {a : State} {s : State} {m : Nat} {le : Nat} {l : List Byte} (h : Kept a s) :
    Kept a (State.engineLoad s m le l) := by
  unfold State.engineLoad
  iterate 40 all_goals first | (with_reducible assumption) | (with_reducible apply kept_verify) | (with_reducible apply kept_cmdEnd) | (with_reducible apply kept_tookEffect) | (with_reducible apply kept_loadImage) | (with_reducible refine kept_verify_eq (by assumption) ?_) | intro _ | (with_reducible apply Kept.ite) | dsimp only | split | (with_reducible apply Kept.other) | skip

theorem kept_execEngineLoad {a : State} {m : Fin 9} {data : Option (List Byte)} {s : State} (h : Kept a s) :
    KeptO a (execEngineLoad m data s) := by
  unfold execEngineLoad
  iterate 40 all_goals first | (with_reducible assumption) | (with_reducible apply KeptO.next) | (with_reducible apply kept_cmd) | (with_reducible apply kept_cmdEnd) | (with_reducible apply kept_engineLoad) | intro _ | (with_reducible apply Kept.ite) | dsimp only | split | (with_reducible apply Kept.other) | skip

theorem kept_execEngineStart {a : State} {m : Fin 9} {s : State} (h : Kept a s) :
    KeptO a (execEngineStart m s) := by
  unfold execEngineStart
  iterate 40 all_goals first | (with_reducible assumption) | (with_reducible apply KeptO.next) | (with_reducible apply kept_cmd) | (with_reducible apply kept_cmdEnd) | (with_reducible apply kept_each) | (with_reducible apply kept_engStart) | intro _ | (with_reducible apply Kept.ite) | dsimp only | split | (with_reducible apply Kept.other) | skip

theorem kept_execEngineStop {a : State} {m : Fin 9} {s : State} (h : Kept a s) :
    KeptO a (execEngineStop m s) := by
  unfold execEngineStop
  iterate 40 all_goals first | (with_reducible assumption) | (with_reducible apply KeptO.next) | (with_reducible apply kept_cmd) | (with_reducible apply kept_cmdEnd) | (with_reducible apply kept_each) | (with_reducible apply kept_setMb) | (with_reducible apply kept_stopping) | intro _ | (with_reducible apply Kept.ite) | dsimp only | split | (with_reducible apply Kept.other) | skip

theorem kept_syncEnd {a : State} {s : State} {m : Nat} {code : Nat} (h : Kept a s) :
    Kept a (State.syncEnd s m code) := by
  unfold State.syncEnd
  iterate 40 all_goals first | (with_reducible assumption) | (with_reducible apply kept_cmdEnd) | intro _ | (with_reducible apply Kept.ite) | dsimp only | split | (with_reducible apply Kept.other) | skip

theorem kept_execSync {a : State} {m : Fin 9} {s : State} (h : Kept a s) :
    KeptO a (execSync m s) := by
  unfold execSync
  iterate 40 all_goals first | (with_reducible assumption) | (with_reducible apply KeptO.next) | (with_reducible apply kept_syncEnd) | (with_reducible apply kept_cmd) | intro _ | (with_reducible apply Kept.ite) | dsimp only | split | (with_reducible apply Kept.other) | skip

theorem kept_execCanRecover {a : State} {m : Fin 9} {s : State} (h : Kept a s) :
    KeptO a (execCanRecover m s) := by
  unfold execCanRecover
  iterate 40 all_goals first | (with_reducible assumption) | (with_reducible apply KeptO.next) | (with_reducible apply kept_cmd) | (with_reducible apply kept_cmdEnd) | (with_reducible apply kept_canRecover) | intro _ | (with_reducible apply Kept.ite) | dsimp only | split | (with_reducible apply Kept.other) | skip

theorem kept_execRetire {a : State} {m : Fin 9} {s : State} (h : Kept a s) :
    KeptO a (execRetire m s) := by
  unfold execRetire
  iterate 40 all_goals first | (with_reducible assumption) | (with_reducible apply KeptO.next) | (with_reducible apply kept_cmd) | (with_reducible apply kept_cmdEnd) | (with_reducible apply kept_setChan) | (with_reducible apply kept_addHealth) | (with_reducible apply kept_put) | intro _ | (with_reducible apply Kept.ite) | dsimp only | split | (with_reducible apply Kept.other) | skip

theorem kept_retireWithdraw {a : State} {s : State} {kind : Nat} {n : Nat} (h : Kept a s) :
    Kept a (State.retireWithdraw s kind n) := by
  unfold State.retireWithdraw
  iterate 40 all_goals first | (with_reducible assumption) | (with_reducible apply kept_put) | (with_reducible apply kept_setChan) | (with_reducible apply kept_addHealth) | (with_reducible apply kept_unmigrate) | intro _ | (with_reducible apply Kept.ite) | dsimp only | split | (with_reducible apply Kept.other) | skip

theorem kept_clearPort {a : State} {s : State} {n : Nat} (h : Kept a s) :
    Kept a (State.clearPort s n) := by
  unfold State.clearPort
  iterate 40 all_goals first | (with_reducible assumption) | (with_reducible apply kept_restartAn) | (with_reducible apply kept_setRst) | (with_reducible apply kept_updLane) | intro _ | (with_reducible apply Kept.ite) | dsimp only | split | (with_reducible apply Kept.other) | skip

theorem kept_clearCan {a : State} {s : State} {old : State} {n : Nat} (h : Kept a s) :
    Kept a (State.clearCan s old n) := by
  unfold State.clearCan
  iterate 40 all_goals first | (with_reducible assumption) | (with_reducible apply kept_canApplied) | (with_reducible apply kept_put) | intro _ | (with_reducible apply Kept.ite) | dsimp only | split | (with_reducible apply Kept.other) | skip

theorem kept_clearAct {a : State} {s : State} {old : State} {kind : Nat} {n : Nat} (h : Kept a s) :
    Kept a (State.clearAct s old kind n) := by
  unfold State.clearAct
  iterate 40 all_goals first | (with_reducible assumption) | (with_reducible apply kept_clearPort) | (with_reducible apply kept_put) | (with_reducible apply kept_settShow) | (with_reducible apply kept_zeroBank) | (with_reducible apply kept_clearCan) | (with_reducible apply kept_updShr) | intro _ | (with_reducible apply Kept.ite) | dsimp only | split | (with_reducible apply Kept.other) | skip

theorem kept_retireClear {a : State} {s : State} {kind : Nat} {n : Nat} (h : Kept a s) :
    Kept a (State.retireClear s kind n) := by
  unfold State.retireClear
  iterate 40 all_goals first | (with_reducible assumption) | (with_reducible apply kept_addHealth) | (with_reducible apply kept_setChan) | (with_reducible apply kept_setRetired) | (with_reducible apply kept_raise) | (with_reducible apply kept_clearAct) | intro _ | (with_reducible apply Kept.ite) | dsimp only | split | (with_reducible apply Kept.other) | skip

theorem kept_execRetireClear {a : State} {m : Fin 9} {s : State} (h : Kept a s) :
    KeptO a (execRetireClear m s) := by
  unfold execRetireClear
  iterate 40 all_goals first | (with_reducible assumption) | (with_reducible apply KeptO.next) | (with_reducible apply kept_cmd) | (with_reducible apply kept_cmdEnd) | (with_reducible apply kept_retireClear) | intro _ | (with_reducible apply Kept.ite) | dsimp only | split | (with_reducible apply Kept.other) | skip

end Sys2Proof.Machine
end

