-- ==== Sys2Proof/Laws/KeptProfile.lean ====
section
/-!
SUPPORT. What the operations of Machine/Profile.lean keep.
-/
namespace Sys2Proof.Machine

theorem kept_loadEngine {a : State} {s : State} {keysel : Nat} {x : Section} (h : Kept a s) :
    Kept a (State.loadEngine s keysel x) := by
  unfold State.loadEngine
  iterate 40 all_goals first | (with_reducible assumption) | (with_reducible apply kept_emptyEngine) | (with_reducible apply kept_loadImage) | intro _ | (with_reducible apply Kept.ite) | dsimp only | split | (with_reducible apply Kept.other) | skip

theorem kept_loadRegs {a : State} {s : State} {x1 : Nat} {x2 : List Byte} (h : Kept a s) :
    Kept a (State.loadRegs s x1 x2) := by
  induction x1 generalizing s x2 with
  | zero => exact h
  | succ n ih =>
    rw [State.loadRegs]
    exact Kept.ite h (ih (kept_busWrite h))

theorem kept_loadSec {a : State} {s : State} {keysel : Nat} {x : Section} (h : Kept a s) :
    Kept a (State.loadSec s keysel x) := by
  unfold State.loadSec
  iterate 40 all_goals first | (with_reducible assumption) | (with_reducible apply kept_loadEngine) | (with_reducible apply kept_putCram) | (with_reducible apply kept_loadRegs) | (with_reducible apply kept_each) | (with_reducible apply kept_flowWrite) | intro _ | (with_reducible apply Kept.ite) | dsimp only | split | (with_reducible apply Kept.other) | skip

theorem kept_tryCopy {a : State} {s : State} {slot : Nat} {c : Nat} {rd : BootRd} (h : Kept a s) :
    Kept a (State.tryCopy s slot c rd).1 := by
  unfold State.tryCopy
  iterate 40 all_goals first | (with_reducible assumption) | (with_reducible apply kept_inc) | intro _ | (with_reducible apply Kept.ite) | dsimp only | split | (with_reducible apply Kept.other) | skip

theorem kept_tryCopy_eq {a : State} {s : State} {slot : Nat} {c : Nat} {rd : BootRd} {u : State} {r0 : Nat} (hq : (State.tryCopy s slot c rd) = (u, r0)) (h : Kept a s) : Kept a u := by
  have g := kept_tryCopy (s := s) (slot := slot) (c := c) (rd := rd) h
  rw [hq] at g
  exact g

theorem kept_execProfileSelect {a : State} {m : Fin 9} {ok : Bool} {s : State} (h : Kept a s) :
    KeptO a (execProfileSelect m ok s) := by
  unfold execProfileSelect
  iterate 40 all_goals first | (with_reducible assumption) | (with_reducible apply KeptO.next) | (with_reducible apply kept_cmd) | (with_reducible apply kept_cmdEnd) | intro _ | (with_reducible apply Kept.ite) | dsimp only | split | (with_reducible apply Kept.other) | skip

theorem kept_storeCopies {a : State} {s : State} {m : Nat} {slot : Nat} {l : List Byte} {okA : Bool} {okB : Bool} (h : Kept a s) :
    Kept a (State.storeCopies s m slot l okA okB) := by
  unfold State.storeCopies
  iterate 40 all_goals first | (with_reducible assumption) | (with_reducible apply kept_cmdEnd) | intro _ | (with_reducible apply Kept.ite) | dsimp only | split | (with_reducible apply Kept.other) | skip

theorem kept_execProfileStore {a : State} {m : Fin 9} {data : Option (List Byte)} {okA : Bool} {okB : Bool} {s : State} (h : Kept a s) :
    KeptO a (execProfileStore m data okA okB s) := by
  unfold execProfileStore
  iterate 40 all_goals first | (with_reducible assumption) | (with_reducible apply KeptO.next) | (with_reducible apply kept_cmd) | (with_reducible apply kept_cmdEnd) | (with_reducible apply kept_verifyBundle) | (with_reducible apply kept_storeCopies) | (with_reducible refine kept_verifyBundle_eq (by assumption) ?_) | intro _ | (with_reducible apply Kept.ite) | dsimp only | split | (with_reducible apply Kept.other) | skip

theorem kept_withQ {a : State} {s : State} {obj : List Byte} (h : Kept a s) :
    Kept a (State.withQ s obj) := by
  unfold State.withQ
  iterate 40 all_goals first | (with_reducible assumption) | (with_reducible apply kept_each) | (with_reducible apply kept_loadSec) | intro _ | (with_reducible apply Kept.ite) | dsimp only | split | (with_reducible apply Kept.other) | skip

theorem kept_loadQ {a : State} {s : State} {w : Switch} (h : Kept a s) :
    Kept a (State.loadQ s w) := by
  unfold State.loadQ
  iterate 40 all_goals first | (with_reducible assumption) | (with_reducible apply kept_each) | (with_reducible apply kept_emptyEngine) | (with_reducible apply kept_loadSec) | intro _ | (with_reducible apply Kept.ite) | dsimp only | split | (with_reducible apply Kept.other) | skip

theorem kept_switchGo {a : State} {s : State} (h : Kept a s) :
    Kept a (State.switchGo s) := by
  unfold State.switchGo
  iterate 40 all_goals first | (with_reducible assumption) | (with_reducible apply kept_loadQ) | (with_reducible apply kept_put) | (with_reducible apply kept_applyGo) | (with_reducible apply kept_cmdEnd) | (with_reducible apply kept_switchUndo) | intro _ | (with_reducible apply Kept.ite) | dsimp only | split | (with_reducible apply Kept.other) | skip

theorem kept_switchBegin {a : State} {s : State} {m : Nat} {slot : Nat} {c : Nat} {brk : Bool} {obj : List Byte} (h : Kept a s) :
    Kept a (State.switchBegin s m slot c brk obj) := by
  unfold State.switchBegin
  iterate 40 all_goals first | (with_reducible assumption) | (with_reducible apply kept_withQ) | (with_reducible apply kept_switchGo) | (with_reducible apply kept_each) | (with_reducible apply kept_stopping) | (with_reducible apply kept_cmdEnd) | intro _ | (with_reducible apply Kept.ite) | dsimp only | split | (with_reducible apply Kept.other) | skip

theorem kept_switchRead {a : State} {s : State} {m : Nat} {slot : Nat} {brk : Bool} {rdA : BootRd} {rdB : BootRd} (h : Kept a s) :
    Kept a (State.switchRead s m slot brk rdA rdB) := by
  unfold State.switchRead
  iterate 40 all_goals first | (with_reducible assumption) | (with_reducible apply kept_tryCopy) | (with_reducible apply kept_switchBegin) | (with_reducible apply kept_cmdEnd) | (with_reducible refine kept_tryCopy_eq (by assumption) ?_) | intro _ | (with_reducible apply Kept.ite) | dsimp only | split | (with_reducible apply Kept.other) | skip

theorem kept_execProfileSwitch {a : State} {m : Fin 9} {rdA : BootRd} {rdB : BootRd} {s : State} (h : Kept a s) :
    KeptO a (execProfileSwitch m rdA rdB s) := by
  unfold execProfileSwitch
  iterate 40 all_goals first | (with_reducible assumption) | (with_reducible apply KeptO.next) | (with_reducible apply kept_cmd) | (with_reducible apply kept_cmdEnd) | (with_reducible apply kept_switchRead) | intro _ | (with_reducible apply Kept.ite) | dsimp only | split | (with_reducible apply Kept.other) | skip

theorem kept_runBundle {a : State} {s : State} {slot : Nat} {c : Nat} {obj : List Byte} (h : Kept a s) :
    Kept a (State.runBundle s slot c obj) := by
  unfold State.runBundle
  iterate 40 all_goals first | (with_reducible assumption) | (with_reducible apply kept_putBytes) | (with_reducible apply kept_put) | intro _ | (with_reducible apply Kept.ite) | dsimp only | split | (with_reducible apply Kept.other) | skip

theorem kept_switchEdge {a : State} {s : State} {w : Switch} (h : Kept a s) :
    Kept a (State.switchEdge s w) := by
  unfold State.switchEdge
  iterate 40 all_goals first | (with_reducible assumption) | (with_reducible apply kept_runBundle) | (with_reducible apply kept_startNext) | (with_reducible apply kept_each) | (with_reducible apply kept_engStart) | intro _ | (with_reducible apply Kept.ite) | dsimp only | split | (with_reducible apply Kept.other) | skip

theorem kept_execEpochCommit {a : State} {s : State} (h : Kept a s) :
    KeptO a (execEpochCommit s) := by
  unfold execEpochCommit
  iterate 40 all_goals first | (with_reducible assumption) | (with_reducible apply KeptO.next) | (with_reducible apply kept_switchGo) | (with_reducible apply kept_commit) | (with_reducible apply kept_inc) | (with_reducible apply kept_snapCommit) | intro _ | (with_reducible apply Kept.ite) | dsimp only | split | (with_reducible apply Kept.other) | skip

theorem kept_applyStat {a : State} {s : State} {res : Nat} {blk : Nat} (h : Kept a s) :
    Kept a (State.applyStat s res blk) := by
  unfold State.applyStat
  iterate 40 all_goals first | (with_reducible assumption) | (with_reducible apply kept_put) | intro _ | (with_reducible apply Kept.ite) | dsimp only | split | (with_reducible apply Kept.other) | skip

theorem kept_profileApply {a : State} {s : State} {scope : Nat} {slot : Nat} (h : Kept a s) :
    Kept a (State.profileApply s scope slot).1 := by
  unfold State.profileApply
  iterate 40 all_goals first | (with_reducible assumption) | (with_reducible apply kept_applyStat) | (with_reducible apply kept_applied) | (with_reducible apply kept_logAppend) | intro _ | (with_reducible apply Kept.ite) | dsimp only | split | (with_reducible apply Kept.other) | skip

theorem kept_profileApply_eq {a : State} {s : State} {scope : Nat} {slot : Nat} {u : State} {r0 : Option Nat} (hq : (State.profileApply s scope slot) = (u, r0)) (h : Kept a s) : Kept a u := by
  have g := kept_profileApply (s := s) (scope := scope) (slot := slot) h
  rw [hq] at g
  exact g

theorem kept_applyEdge {a : State} {s : State} {r : ApplyReq} (h : Kept a s) :
    Kept a (State.applyEdge s r) := by
  unfold State.applyEdge
  iterate 40 all_goals first | (with_reducible assumption) | (with_reducible apply kept_put) | (with_reducible apply kept_profileApply) | (with_reducible apply kept_applyAck) | (with_reducible apply kept_switchEdge) | (with_reducible apply kept_applyStat) | (with_reducible apply kept_applied) | (with_reducible refine kept_profileApply_eq (by assumption) ?_) | intro _ | (with_reducible apply Kept.ite) | dsimp only | split | (with_reducible apply Kept.other) | skip

theorem kept_execApplyEdge {a : State} {s : State} (h : Kept a s) :
    KeptO a (execApplyEdge s) := by
  unfold execApplyEdge
  iterate 40 all_goals first | (with_reducible assumption) | (with_reducible apply KeptO.next) | (with_reducible apply kept_applyEdge) | (with_reducible apply kept_applyGo) | intro _ | (with_reducible apply Kept.ite) | dsimp only | split | (with_reducible apply Kept.other) | skip

theorem kept_execEngineStopped {a : State} {le : Fin 16} {s : State} (h : Kept a s) :
    KeptO a (execEngineStopped le s) := by
  unfold execEngineStopped
  iterate 40 all_goals first | (with_reducible assumption) | (with_reducible apply KeptO.next) | (with_reducible apply kept_engStopped) | (with_reducible apply kept_endAll) | (with_reducible apply kept_switchGo) | intro _ | (with_reducible apply Kept.ite) | dsimp only | split | (with_reducible apply Kept.other) | skip

theorem kept_applyHeldWr {a : State} {s : State} {le : Nat} {x : Nat} (h : Kept a s) :
    Kept a (State.applyHeldWr s le x) := by
  unfold State.applyHeldWr
  iterate 40 all_goals first | (with_reducible assumption) | (with_reducible apply kept_each) | (with_reducible apply kept_setEng) | (with_reducible apply kept_busWrite) | intro _ | (with_reducible apply Kept.ite) | dsimp only | split | (with_reducible apply Kept.other) | skip

theorem kept_execMigrationEnd {a : State} {le : Fin 16} {s : State} (h : Kept a s) :
    KeptO a (execMigrationEnd le s) := by
  unfold execMigrationEnd
  iterate 40 all_goals first | (with_reducible assumption) | (with_reducible apply KeptO.next) | (with_reducible apply kept_moveFoxMarks) | (with_reducible apply kept_each) | (with_reducible apply kept_updTh) | (with_reducible apply kept_drainAll) | (with_reducible apply kept_unmigrate) | (with_reducible apply kept_applyHeldWr) | (with_reducible apply kept_put) | (with_reducible apply kept_raise) | (with_reducible apply kept_retireEnd) | intro _ | (with_reducible apply Kept.ite) | dsimp only | split | (with_reducible apply Kept.other) | skip

theorem kept_execSafeUnlock {a : State} {m : Fin 9} {s : State} (h : Kept a s) :
    KeptO a (execSafeUnlock m s) := by
  unfold execSafeUnlock
  iterate 40 all_goals first | (with_reducible assumption) | (with_reducible apply KeptO.next) | (with_reducible apply kept_cmd) | (with_reducible apply kept_cmdEnd) | (with_reducible apply kept_unlock) | intro _ | (with_reducible apply Kept.ite) | dsimp only | split | (with_reducible apply Kept.other) | skip

theorem kept_setPassword {a : State} {s : State} {pw : List Byte} (h : Kept a s) :
    Kept a (State.setPassword s pw) := by
  unfold State.setPassword
  iterate 40 all_goals first | (with_reducible assumption) | (with_reducible apply kept_putBytes) | (with_reducible apply kept_tookNonce) | (with_reducible apply kept_logAppend) | (with_reducible apply kept_put) | intro _ | (with_reducible apply Kept.ite) | dsimp only | split | (with_reducible apply Kept.other) | skip

theorem kept_execPasswordChange {a : State} {m : Fin 9} {s : State} (h : Kept a s) :
    KeptO a (execPasswordChange m s) := by
  unfold execPasswordChange
  iterate 40 all_goals first | (with_reducible assumption) | (with_reducible apply KeptO.next) | (with_reducible apply kept_cmd) | (with_reducible apply kept_cmdEnd) | (with_reducible apply kept_setPassword) | intro _ | (with_reducible apply Kept.ite) | dsimp only | split | (with_reducible apply Kept.other) | skip

theorem kept_execAttest {a : State} {m : Fin 9} {s : State} (h : Kept a s) :
    KeptO a (execAttest m s) := by
  unfold execAttest
  iterate 40 all_goals first | (with_reducible assumption) | (with_reducible apply KeptO.next) | (with_reducible apply kept_cmd) | (with_reducible apply kept_cmdEnd) | (with_reducible apply kept_putSpace) | intro _ | (with_reducible apply Kept.ite) | dsimp only | split | (with_reducible apply Kept.other) | skip

theorem kept_authDenied {a : State} {s : State} {l : List Byte} (h : Kept a s) :
    Kept a (State.authDenied s l) := by
  unfold State.authDenied
  iterate 40 all_goals first | (with_reducible assumption) | (with_reducible apply kept_inc) | intro _ | (with_reducible apply Kept.ite) | dsimp only | split | (with_reducible apply Kept.other) | skip

theorem kept_keyCmd {a : State} {s : State} {m : Nat} {x : Mbx} {data : Option (List Byte)} {run : State → Nat → List Byte → State} (h : Kept a s) (hg : ∀ t x1 x2, Kept a t → Kept a (run t x1 x2)) :
    Kept a (State.keyCmd s m x data run) := by
  unfold State.keyCmd
  iterate 40 all_goals first | (with_reducible assumption) | (with_reducible apply hg) | (with_reducible apply kept_cmdEnd) | intro _ | (with_reducible apply Kept.ite) | dsimp only | split | (with_reducible apply Kept.other) | skip

theorem kept_execKeyEnroll {a : State} {m : Fin 9} {data : Option (List Byte)} {took : Bool} {ok : Bool} {s : State} (h : Kept a s) :
    KeptO a (execKeyEnroll m data took ok s) := by
  unfold execKeyEnroll
  iterate 40 all_goals first | (with_reducible assumption) | (with_reducible apply KeptO.next) | (with_reducible apply kept_cmd) | (with_reducible apply kept_keyCmd) | (with_reducible apply kept_cmdEnd) | (with_reducible apply kept_authDenied) | (with_reducible apply kept_put) | (with_reducible apply kept_each) | intro _ | (with_reducible apply Kept.ite) | dsimp only | split | (with_reducible apply Kept.other) | skip

theorem kept_execKeyRevoke {a : State} {m : Fin 9} {data : Option (List Byte)} {took : Bool} {ok : Bool} {s : State} (h : Kept a s) :
    KeptO a (execKeyRevoke m data took ok s) := by
  unfold execKeyRevoke
  iterate 40 all_goals first | (with_reducible assumption) | (with_reducible apply KeptO.next) | (with_reducible apply kept_cmd) | (with_reducible apply kept_keyCmd) | (with_reducible apply kept_cmdEnd) | (with_reducible apply kept_authDenied) | (with_reducible apply kept_put) | intro _ | (with_reducible apply Kept.ite) | dsimp only | split | (with_reducible apply Kept.other) | skip

theorem kept_execJtagAuth {a : State} {pub : List Byte} {sig : List Byte} {level : Byte} {s : State} (h : Kept a s) :
    KeptO a (execJtagAuth pub sig level s) := by
  unfold execJtagAuth
  iterate 40 all_goals first | exact wf0_set | exact wf0_fill | exact wf0_keep | exact wf0_filter | (exact fun _ : SMap.wf _ _ = true => rfl) | exact Nat.le_add_right _ _ | (with_reducible assumption) | (with_reducible apply KeptO.next) | (with_reducible apply kept_lockout) | (with_reducible apply kept_raise) | (with_reducible apply kept_put) | (with_reducible apply kept_inc) | intro _ | (with_reducible apply Kept.ite) | dsimp only | split | (with_reducible apply Kept.other) | (with_reducible apply Kept.of_trngN) | skip

theorem kept_zeroUnit {a : State} {s : State} {target : Nat} {u : Nat} (h : Kept a s) :
    Kept a (State.zeroUnit s target u) := by
  unfold State.zeroUnit
  iterate 40 all_goals first | exact wf0_set | exact wf0_fill | exact wf0_keep | exact wf0_filter | (exact fun _ : SMap.wf _ _ = true => rfl) | exact Nat.le_add_right _ _ | (with_reducible assumption) | (with_reducible apply kept_zeroBank) | (with_reducible apply kept_clearEngine) | intro _ | (with_reducible apply Kept.ite) | dsimp only | split | (with_reducible apply Kept.other) | (with_reducible apply Kept.of_flowMem) | skip

theorem kept_march {a : State} {s : State} {mode : Nat} {target : Nat} {mask : Nat} {fails : Nat} (h : Kept a s) :
    Kept a (State.march s mode target mask fails).1 := by
  unfold State.march
  iterate 40 all_goals first | (with_reducible assumption) | (with_reducible apply kept_each) | (with_reducible apply kept_zeroUnit) | (with_reducible apply kept_hard) | (with_reducible apply kept_put) | intro _ | (with_reducible apply Kept.ite) | dsimp only | split | (with_reducible apply Kept.other) | skip

theorem kept_march_eq {a : State} {s : State} {mode : Nat} {target : Nat} {mask : Nat} {fails : Nat} {u : State} {r0 : Nat} (hq : (State.march s mode target mask fails) = (u, r0)) (h : Kept a s) : Kept a u := by
  have g := kept_march (s := s) (mode := mode) (target := target) (mask := mask) (fails := fails) h
  rw [hq] at g
  exact g

theorem kept_execMbist {a : State} {m : Fin 9} {fails : BitVec 64} {s : State} (h : Kept a s) :
    KeptO a (execMbist m fails s) := by
  unfold execMbist
  iterate 40 all_goals first | (with_reducible assumption) | (with_reducible apply KeptO.next) | (with_reducible apply kept_cmd) | (with_reducible apply kept_cmdEnd) | (with_reducible apply kept_march) | (with_reducible refine kept_march_eq (by assumption) ?_) | intro _ | (with_reducible apply Kept.ite) | dsimp only | split | (with_reducible apply Kept.other) | skip

theorem kept_execPowerState {a : State} {m : Fin 9} {s : State} (h : Kept a s) :
    KeptO a (execPowerState m s) := by
  unfold execPowerState
  iterate 40 all_goals first | (with_reducible assumption) | (with_reducible apply KeptO.next) | (with_reducible apply kept_cmd) | (with_reducible apply kept_cmdEnd) | (with_reducible apply kept_enterRun) | (with_reducible apply kept_enterTrim) | (with_reducible apply kept_enterHold) | (with_reducible apply kept_enterOff) | intro _ | (with_reducible apply Kept.ite) | dsimp only | split | (with_reducible apply Kept.other) | skip

theorem kept_switchTimeout {a : State} {s : State} {m : Nat} (h : Kept a s) :
    Kept a (State.switchTimeout s m) := by
  unfold State.switchTimeout
  iterate 40 all_goals first | (with_reducible assumption) | (with_reducible apply kept_applyCancel) | (with_reducible apply kept_cmdEnd) | (with_reducible apply kept_switchUndo) | intro _ | (with_reducible apply Kept.ite) | dsimp only | split | (with_reducible apply Kept.other) | skip

theorem kept_applyTimeout {a : State} {s : State} {m : Nat} (h : Kept a s) :
    Kept a (State.applyTimeout s m) := by
  unfold State.applyTimeout
  iterate 40 all_goals first | (with_reducible assumption) | (with_reducible apply kept_applyCancel) | intro _ | (with_reducible apply Kept.ite) | dsimp only | split | (with_reducible apply Kept.other) | skip

theorem kept_execCommandTimeout {a : State} {m : Fin 9} {s : State} (h : Kept a s) :
    KeptO a (execCommandTimeout m s) := by
  unfold execCommandTimeout
  iterate 40 all_goals first | (with_reducible assumption) | (with_reducible apply KeptO.next) | (with_reducible apply kept_switchTimeout) | (with_reducible apply kept_applyTimeout) | (with_reducible apply kept_snapWithdraw) | (with_reducible apply kept_cmdEnd) | (with_reducible apply kept_retireWithdraw) | (with_reducible apply kept_syncEnd) | intro _ | (with_reducible apply Kept.ite) | dsimp only | split | (with_reducible apply Kept.other) | skip

end Sys2Proof.Machine
end

