-- ==== Sys2Proof/Laws/KeptBoot.lean ====
section
/-!
SUPPORT. What the operations of Machine/Boot.lean keep.
-/
namespace Sys2Proof.Machine

theorem kept_resetAll {a : State} {s : State} (h : Kept a s) :
    Kept a (State.resetAll s) := by
  unfold State.resetAll
  iterate 40 all_goals first | (with_reducible assumption) | (with_reducible apply kept_cold) | (with_reducible apply kept_putBytes) | intro _ | (with_reducible apply Kept.ite) | dsimp only | split | (with_reducible apply Kept.other) | skip

theorem kept_execReset {a : State} {cause : Fin 3} {s : State} (h : Kept a s) :
    KeptO a (execReset cause s) := by
  unfold execReset
  iterate 40 all_goals first | (with_reducible assumption) | (with_reducible apply KeptO.next) | (with_reducible apply kept_resetAll) | (with_reducible apply kept_put) | intro _ | (with_reducible apply Kept.ite) | dsimp only | split | (with_reducible apply Kept.other) | skip

theorem kept_owlPowerOn {a : State} {s : State} (h : Kept a s) :
    Kept a (State.owlPowerOn s) := by
  unfold State.owlPowerOn
  iterate 40 all_goals first | (with_reducible assumption) | (with_reducible apply kept_resetAll) | (with_reducible apply kept_putBytes) | (with_reducible apply kept_put) | intro _ | (with_reducible apply Kept.ite) | dsimp only | split | (with_reducible apply Kept.other) | skip

theorem kept_execVddAonRise {a : State} {s : State} (h : Kept a s) :
    KeptO a (execVddAonRise s) := by
  unfold execVddAonRise
  iterate 40 all_goals first | (with_reducible assumption) | (with_reducible apply KeptO.next) | (with_reducible apply kept_lockout) | (with_reducible apply kept_owlPowerOn) | intro _ | (with_reducible apply Kept.ite) | dsimp only | split | (with_reducible apply Kept.other) | skip

theorem kept_bootRetire {a : State} {s : State} {kind : Nat} {n : Nat} (h : Kept a s) :
    Kept a (State.bootRetire s kind n) := by
  unfold State.bootRetire
  iterate 40 all_goals first | (with_reducible assumption) | (with_reducible apply kept_retireAct) | (with_reducible apply kept_retireEnd) | (with_reducible apply kept_put) | (with_reducible apply kept_raise) | intro _ | (with_reducible apply Kept.ite) | dsimp only | split | (with_reducible apply Kept.other) | skip

theorem kept_healthRetire {a : State} {s : State} (h : Kept a s) :
    Kept a (State.healthRetire s) := by
  unfold State.healthRetire
  iterate 40 all_goals first | (with_reducible assumption) | (with_reducible apply kept_each) | (with_reducible apply kept_bootRetire) | intro _ | (with_reducible apply Kept.ite) | dsimp only | split | (with_reducible apply Kept.other) | skip

theorem kept_startupFail {a : State} {s : State} {target : Nat} {u : Nat} (h : Kept a s) :
    Kept a (State.startupFail s target u) := by
  unfold State.startupFail
  iterate 40 all_goals first | (with_reducible assumption) | (with_reducible apply kept_hard) | (with_reducible apply kept_bootRetire) | intro _ | (with_reducible apply Kept.ite) | dsimp only | split | (with_reducible apply Kept.other) | skip

theorem kept_bootPins {a : State} {s : State} {b : BootIn} (h : Kept a s) :
    Kept a (State.bootPins s b) := by
  unfold State.bootPins
  iterate 40 all_goals first | (with_reducible assumption) | (with_reducible apply kept_put) | intro _ | (with_reducible apply Kept.ite) | dsimp only | split | (with_reducible apply Kept.other) | skip

theorem kept_bootCopy {a : State} {s : State} {slot : Nat} {c : Nat} {rd : BootRd} (h : Kept a s) :
    Kept a (State.bootCopy s slot c rd).1 := by
  unfold State.bootCopy
  iterate 40 all_goals first | (with_reducible assumption) | (with_reducible apply kept_tryCopy) | (with_reducible apply kept_each) | (with_reducible apply kept_loadSec) | (with_reducible apply kept_emptyEngine) | (with_reducible refine kept_tryCopy_eq (by assumption) ?_) | intro _ | (with_reducible apply Kept.ite) | dsimp only | split | (with_reducible apply Kept.other) | skip

theorem kept_bootCopy_eq {a : State} {s : State} {slot : Nat} {c : Nat} {rd : BootRd} {u : State} {r0 : Nat} (hq : (State.bootCopy s slot c rd) = (u, r0)) (h : Kept a s) : Kept a u := by
  have g := kept_bootCopy (s := s) (slot := slot) (c := c) (rd := rd) h
  rw [hq] at g
  exact g

theorem kept_bootRun {a : State} {s : State} {slot : Nat} {c : Nat} (h : Kept a s) :
    Kept a (State.bootRun s slot c) := by
  unfold State.bootRun
  iterate 40 all_goals first | (with_reducible assumption) | (with_reducible apply kept_put) | (with_reducible apply kept_runBundle) | (with_reducible apply kept_applyStat) | (with_reducible apply kept_applied) | (with_reducible apply kept_logAppend) | (with_reducible apply kept_startNext) | intro _ | (with_reducible apply Kept.ite) | dsimp only | split | (with_reducible apply Kept.other) | skip

theorem kept_bootNone {a : State} {s : State} (h : Kept a s) :
    Kept a (State.bootNone s) := by
  unfold State.bootNone
  iterate 40 all_goals first | (with_reducible assumption) | (with_reducible apply kept_startNext) | (with_reducible apply kept_raise) | intro _ | (with_reducible apply Kept.ite) | dsimp only | split | (with_reducible apply Kept.other) | skip

theorem kept_bootLoad {a : State} {s : State} {b : BootIn} (h : Kept a s) :
    Kept a (State.bootLoad s b) := by
  unfold State.bootLoad
  iterate 40 all_goals first | (with_reducible assumption) | (with_reducible apply kept_put) | (with_reducible apply kept_bootCopy) | (with_reducible apply kept_bootRun) | (with_reducible apply kept_bootNone) | (with_reducible refine kept_bootCopy_eq (by assumption) ?_) | intro _ | (with_reducible apply Kept.ite) | dsimp only | split | (with_reducible apply Kept.other) | skip

theorem kept_execResetRelease {a : State} {b : BootIn} {s : State} (h : Kept a s) :
    KeptO a (execResetRelease b s) := by
  unfold execResetRelease
  iterate 40 all_goals first | (with_reducible assumption) | (with_reducible apply KeptO.next) | (with_reducible apply kept_bootPins) | (with_reducible apply kept_healthRetire) | (with_reducible apply kept_bootLoad) | (with_reducible apply kept_each) | (with_reducible apply kept_startupFail) | intro _ | (with_reducible apply Kept.ite) | dsimp only | split | (with_reducible apply Kept.other) | skip

end Sys2Proof.Machine
end

