-- ==== Sys2Proof/Laws/KeptTick.lean ====
section
/-!
SUPPORT. What the operations of Machine/Tick.lean keep.
-/
namespace Sys2Proof.Machine

/-- No command undoes what `Kept` says. -/
theorem kept_exec {a : State} {i : Instr} {s : State} (h : Kept a s) : KeptO a (exec i s) := by
  unfold exec
  cases i with
  | registerWrite _ _ _ _ => exact kept_execRegisterWrite h
  | readDelivered _ _ => exact kept_execReadDelivered h
  | applyRequest _ => exact kept_execApplyRequest h
  | applyCancel _ => exact kept_execApplyCancel h
  | applyEdge => exact kept_execApplyEdge h
  | latch => exact kept_execLatch h
  | timeStep _ => exact kept_execTimeStep h
  | timeSet _ => exact kept_execTimeSet h
  | timeSlew _ => exact kept_execTimeSlew h
  | slewDone => exact kept_execSlewDone h
  | ppsInEdge _ _ => exact kept_execPpsInEdge h
  | ppsHoldover => exact kept_execPpsHoldover h
  | ppsOutStart => exact kept_execPpsOutStart h
  | ppsOutEnd => exact kept_execPpsOutEnd h
  | captEdge _ _ => exact kept_execCaptEdge h
  | captPop _ => exact kept_execCaptPop h
  | axisSoftSet _ _ => exact kept_execAxisSoftSet h
  | mainsCrossing _ _ _ => exact kept_execMainsCrossing h
  | mainsHoldover _ => exact kept_execMainsHoldover h
  | mainsStop _ => exact kept_execMainsStop h
  | phsRunSet _ => exact kept_execPhsRunSet h
  | calEntryFire _ _ => exact kept_execCalEntryFire h
  | qwTimeout _ => exact kept_execQwTimeout h
  | fxPair _ _ => exact kept_execFxPair h
  | fxNop _ _ _ => exact kept_execFxNop h
  | fxAdd _ _ _ => exact kept_execFxAdd h
  | fxAdc _ _ _ => exact kept_execFxAdc h
  | fxSub _ _ _ => exact kept_execFxSub h
  | fxSbc _ _ _ => exact kept_execFxSbc h
  | fxAnd _ _ _ => exact kept_execFxAnd h
  | fxOr _ _ _ => exact kept_execFxOr h
  | fxXor _ _ _ => exact kept_execFxXor h
  | fxAndn _ _ _ => exact kept_execFxAndn h
  | fxMin _ _ _ => exact kept_execFxMin h
  | fxMax _ _ _ => exact kept_execFxMax h
  | fxMinu _ _ _ => exact kept_execFxMinu h
  | fxMaxu _ _ _ => exact kept_execFxMaxu h
  | fxCmp _ _ _ => exact kept_execFxCmp h
  | fxTst _ _ _ => exact kept_execFxTst h
  | fxMov _ _ _ => exact kept_execFxMov h
  | fxAddi _ _ _ => exact kept_execFxAddi h
  | fxAdci _ _ _ => exact kept_execFxAdci h
  | fxSubi _ _ _ => exact kept_execFxSubi h
  | fxSbci _ _ _ => exact kept_execFxSbci h
  | fxAndi _ _ _ => exact kept_execFxAndi h
  | fxOri _ _ _ => exact kept_execFxOri h
  | fxXori _ _ _ => exact kept_execFxXori h
  | fxAndni _ _ _ => exact kept_execFxAndni h
  | fxMini _ _ _ => exact kept_execFxMini h
  | fxMaxi _ _ _ => exact kept_execFxMaxi h
  | fxMinui _ _ _ => exact kept_execFxMinui h
  | fxMaxui _ _ _ => exact kept_execFxMaxui h
  | fxCmpi _ _ _ => exact kept_execFxCmpi h
  | fxTsti _ _ _ => exact kept_execFxTsti h
  | fxMovi _ _ _ => exact kept_execFxMovi h
  | fxLsl _ _ _ => exact kept_execFxLsl h
  | fxLsr _ _ _ => exact kept_execFxLsr h
  | fxAsr _ _ _ => exact kept_execFxAsr h
  | fxRor _ _ _ => exact kept_execFxRor h
  | fxLsli _ _ _ => exact kept_execFxLsli h
  | fxLsri _ _ _ => exact kept_execFxLsri h
  | fxAsri _ _ _ => exact kept_execFxAsri h
  | fxRori _ _ _ => exact kept_execFxRori h
  | fxNeg _ _ _ => exact kept_execFxNeg h
  | fxNot _ _ _ => exact kept_execFxNot h
  | fxAbs _ _ _ => exact kept_execFxAbs h
  | fxClz _ _ _ => exact kept_execFxClz h
  | fxBset _ _ _ => exact kept_execFxBset h
  | fxBclr _ _ _ => exact kept_execFxBclr h
  | fxBtst _ _ _ => exact kept_execFxBtst h
  | fxTfc _ _ _ => exact kept_execFxTfc h
  | fxMul _ _ _ => exact kept_execFxMul h
  | fxMulu _ _ _ => exact kept_execFxMulu h
  | fxMac _ _ _ => exact kept_execFxMac h
  | fxMacu _ _ _ => exact kept_execFxMacu h
  | fxMsu _ _ _ => exact kept_execFxMsu h
  | fxMacz _ _ _ => exact kept_execFxMacz h
  | fxExa _ _ _ => exact kept_execFxExa h
  | fxLd _ _ _ => exact kept_execFxLd h
  | fxSt _ _ _ => exact kept_execFxSt h
  | fxLdi _ _ _ => exact kept_execFxLdi h
  | fxSti _ _ _ => exact kept_execFxSti h
  | fxMovsRead _ _ _ => exact kept_execFxMovsRead h
  | fxMovsWrite _ _ _ => exact kept_execFxMovsWrite h
  | fxGld _ _ _ => exact kept_execFxGld h
  | fxGst _ _ _ => exact kept_execFxGst h
  | globalAccessComplete _ _ _ => exact kept_execGlobalAccessComplete h
  | fxB _ _ _ => exact kept_execFxB h
  | fxBr _ _ _ => exact kept_execFxBr h
  | fxCall _ _ _ => exact kept_execFxCall h
  | fxCallr _ _ _ => exact kept_execFxCallr h
  | fxRet _ _ _ => exact kept_execFxRet h
  | fxRett _ _ _ => exact kept_execFxRett h
  | fxDbnz _ _ _ => exact kept_execFxDbnz h
  | fxRep _ _ _ => exact kept_execFxRep h
  | fxRepLc _ _ _ => exact kept_execFxRepLc h
  | foxWatchdogExpiry _ => exact kept_execFoxWatchdogExpiry h
  | fxFrd _ _ _ => exact kept_execFxFrd h
  | fxFwr _ _ _ => exact kept_execFxFwr h
  | fxFsetl _ _ _ => exact kept_execFxFsetl h
  | fxFinfo _ _ _ => exact kept_execFxFinfo h
  | fxDpop _ _ _ => exact kept_execFxDpop h
  | fxFnew _ _ _ => exact kept_execFxFnew h
  | fxFrel _ _ _ => exact kept_execFxFrel h
  | fxDpush _ _ _ => exact kept_execFxDpush h
  | fxDpushr _ _ _ => exact kept_execFxDpushr h
  | fxCpop _ _ _ => exact kept_execFxCpop h
  | fxCrcf _ _ _ => exact kept_execFxCrcf h
  | fxCrcr _ _ _ => exact kept_execFxCrcr h
  | fxCsumf _ _ _ => exact kept_execFxCsumf h
  | fxHash _ _ _ => exact kept_execFxHash h
  | fxFext _ _ _ => exact kept_execFxFext h
  | fxFins _ _ _ => exact kept_execFxFins h
  | fxScale _ _ _ => exact kept_execFxScale h
  | fxTsr _ _ _ => exact kept_execFxTsr h
  | fxFrxts _ _ _ => exact kept_execFxFrxts h
  | fxWaitph _ _ _ => exact kept_execFxWaitph h
  | fxWaitev _ _ _ => exact kept_execFxWaitev h
  | waitWake _ => exact kept_execWaitWake h
  | fxSignal _ _ _ => exact kept_execFxSignal h
  | fxSignalr _ _ _ => exact kept_execFxSignalr h
  | signalDelivery _ => exact kept_execSignalDelivery h
  | fxDoorbell _ _ _ => exact kept_execFxDoorbell h
  | fxDoorbellr _ _ _ => exact kept_execFxDoorbellr h
  | fxShput _ _ _ => exact kept_execFxShput h
  | fxShget _ _ _ => exact kept_execFxShget h
  | fxXld _ _ _ => exact kept_execFxXld h
  | fxXst _ _ _ => exact kept_execFxXst h
  | fxTwake _ _ _ => exact kept_execFxTwake h
  | fxFadopt _ _ _ => exact kept_execFxFadopt h
  | frameAccessComplete _ _ _ _ _ => exact kept_execFrameAccessComplete h
  | frameWriteDrain _ => exact kept_execFrameWriteDrain h
  | migrationEnd _ => exact kept_execMigrationEnd h
  | engineStopped _ => exact kept_execEngineStopped h
  | frameReceived _ _ => exact kept_execFrameReceived h
  | stage1Transfer _ _ => exact kept_execStage1Transfer h
  | stage2Transfer _ _ => exact kept_execStage2Transfer h
  | transmitStart _ _ => exact kept_execTransmitStart h
  | transmitComplete _ => exact kept_execTransmitComplete h
  | frameAged _ _ => exact kept_execFrameAged h
  | aonReevaluate _ _ => exact kept_execAonReevaluate h
  | aonExpire _ _ => exact kept_execAonExpire h
  | linkLoss _ _ => exact kept_execLinkLoss h
  | holdExpire _ => exact kept_execHoldExpire h
  | linkUp _ => exact kept_execLinkUp h
  | flowStale _ => exact kept_execFlowStale h
  | epochCommit => exact kept_execEpochCommit h
  | commitNow => exact kept_execCommitNow h
  | hostMemoryWrite _ _ _ => exact kept_execHostMemoryWrite h
  | imgLeaseOpen _ => exact kept_execImgLeaseOpen h
  | imgLeaseClose => exact kept_execImgLeaseClose h
  | leaseExpire => exact kept_execLeaseExpire h
  | csnapGo _ _ => exact kept_execCsnapGo h
  | csnapRelease => exact kept_execCsnapRelease h
  | csnapCancel => exact kept_execCsnapCancel h
  | snapshotEdge => exact kept_execSnapshotEdge h
  | ringTrainEnd _ _ _ => exact kept_execRingTrainEnd h
  | ringTrainRetry _ => exact kept_execRingTrainRetry h
  | ringLos _ => exact kept_execRingLos h
  | csmA _ _ => exact kept_execCsmA h
  | csmB _ _ _ _ _ => exact kept_execCsmB h
  | echoReq _ _ _ => exact kept_execEchoReq h
  | echoResp _ _ _ _ => exact kept_execEchoResp h
  | linkState _ _ _ _ => exact kept_execLinkState h
  | joinA _ _ => exact kept_execJoinA h
  | joinB _ _ _ => exact kept_execJoinB h
  | controlBlockSend _ _ => exact kept_execControlBlockSend h
  | ringFrame _ _ _ => exact kept_execRingFrame h
  | status _ _ => exact kept_execStatus h
  | timeAnn _ _ => exact kept_execTimeAnn h
  | cstart _ _ => exact kept_execCstart h
  | spliceReq _ _ => exact kept_execSpliceReq h
  | lastgaspRx _ _ _ _ => exact kept_execLastgaspRx h
  | cycleStart _ => exact kept_execCycleStart h
  | slotStart _ _ => exact kept_execSlotStart h
  | guardGateOpen _ => exact kept_execGuardGateOpen h
  | guardGateClose _ => exact kept_execGuardGateClose h
  | listenTimeout => exact kept_execListenTimeout h
  | cstartSend => exact kept_execCstartSend h
  | coldstartEnd => exact kept_execColdstartEnd h
  | csmLoss => exact kept_execCsmLoss h
  | nodeLost _ => exact kept_execNodeLost h
  | ringResync => exact kept_execRingResync h
  | guardClkLoss => exact kept_execGuardClkLoss h
  | spliceSwitch => exact kept_execSpliceSwitch h
  | spliceFoldback _ => exact kept_execSpliceFoldback h
  | anResolution _ _ => exact kept_execAnResolution h
  | restartAn _ => exact kept_execRestartAn h
  | collision _ _ _ => exact kept_execCollision h
  | backoffExpire _ _ => exact kept_execBackoffExpire h
  | pauseRepeat _ => exact kept_execPauseRepeat h
  | pauseFrame _ _ => exact kept_execPauseFrame h
  | pauseExpire _ => exact kept_execPauseExpire h
  | lpiEnter _ => exact kept_execLpiEnter h
  | lpiGateWake _ => exact kept_execLpiGateWake h
  | plcaBeacon _ => exact kept_execPlcaBeacon h
  | plcaFallback _ => exact kept_execPlcaFallback h
  | plcaOpportunityTimeout _ => exact kept_execPlcaOpportunityTimeout h
  | t1sThresholdStep _ _ => exact kept_execT1sThresholdStep h
  | t1sPhyFault _ => exact kept_execT1sPhyFault h
  | l1208Read _ _ => exact kept_execL1208Read h
  | canFrameReceive _ _ => exact kept_execCanFrameReceive h
  | canArm _ _ => exact kept_execCanArm h
  | canArbitration _ _ => exact kept_execCanArbitration h
  | canTxComplete _ _ _ _ => exact kept_execCanTxComplete h
  | canError _ _ _ _ => exact kept_execCanError h
  | canTxcancel _ _ => exact kept_execCanTxcancel h
  | canBufferLock _ _ _ => exact kept_execCanBufferLock h
  | canBufferRelease _ _ _ => exact kept_execCanBufferRelease h
  | canLockTimeout _ _ => exact kept_execCanLockTimeout h
  | canDetectWindow _ => exact kept_execCanDetectWindow h
  | canRecoveryDone _ => exact kept_execCanRecoveryDone h
  | ttRefSend _ => exact kept_execTtRefSend h
  | ttBackupTimeout _ => exact kept_execTtBackupTimeout h
  | ttTxTrigger _ _ _ => exact kept_execTtTxTrigger h
  | shrewBr _ _ _ => exact kept_execShrewBr h
  | wait _ _ _ => exact kept_execWait h
  | set _ _ _ => exact kept_execSet h
  | ldc _ _ _ => exact kept_execLdc h
  | out _ _ _ => exact kept_execOut h
  | shIn _ _ _ => exact kept_execShIn h
  | shiftPush _ _ _ => exact kept_execShiftPush h
  | shiftPull _ _ _ => exact kept_execShiftPull h
  | shiftClr _ _ _ => exact kept_execShiftClr h
  | shrewMov _ _ _ => exact kept_execShrewMov h
  | loop _ _ _ => exact kept_execLoop h
  | flag _ _ _ => exact kept_execFlag h
  | qstep _ _ _ => exact kept_execQstep h
  | axp _ _ _ => exact kept_execAxp h
  | halt _ _ _ => exact kept_execHalt h
  | rxLatchPass _ => exact kept_execRxLatchPass h
  | txLatchTake _ => exact kept_execTxLatchTake h
  | shrTxf _ _ => exact kept_execShrTxf h
  | shrRxf _ => exact kept_execShrRxf h
  | flushTxf _ => exact kept_execFlushTxf h
  | flushRxf _ => exact kept_execFlushRxf h
  | shrStartSet _ => exact kept_execShrStartSet h
  | shrStop _ => exact kept_execShrStop h
  | shrSwap _ => exact kept_execShrSwap h
  | swapAtSafePoint _ => exact kept_execSwapAtSafePoint h
  | shrFswap _ => exact kept_execShrFswap h
  | shrClkRestart _ => exact kept_execShrClkRestart h
  | shrFlagsSet _ => exact kept_execShrFlagsSet h
  | shrFlagsClr _ => exact kept_execShrFlagsClr h
  | shrIrqSet _ _ => exact kept_execShrIrqSet h
  | shrPmData _ _ _ => exact kept_execShrPmData h
  | bankMismatch _ _ => exact kept_execBankMismatch h
  | phasePass _ _ => exact kept_execPhasePass h
  | framePass _ => exact kept_execFramePass h
  | remotePollDue _ => exact kept_execRemotePollDue h
  | pollDone _ => exact kept_execPollDone h
  | writeDone _ => exact kept_execWriteDone h
  | gwRack _ _ => exact kept_execGwRack h
  | gwHwqPush _ => exact kept_execGwHwqPush h
  | gwCntAdd _ _ => exact kept_execGwCntAdd h
  | gwHandoverDone => exact kept_execGwHandoverDone h
  | uscMessage => exact kept_execUscMessage h
  | uscDeadline _ => exact kept_execUscDeadline h
  | uscBackstop _ => exact kept_execUscBackstop h
  | uscSkewClose _ => exact kept_execUscSkewClose h
  | owlThreadReport => exact kept_execOwlThreadReport h
  | owlThreadTimeout _ => exact kept_execOwlThreadTimeout h
  | owlDemand _ => exact kept_execOwlDemand h
  | supplyFault _ => exact kept_execSupplyFault h
  | clockFault _ => exact kept_execClockFault h
  | readbackFault _ _ _ => exact kept_execReadbackFault h
  | testPulse _ _ => exact kept_execTestPulse h
  | owlInternalFault => exact kept_execOwlInternalFault h
  | forceLock => exact kept_execForceLock h
  | safeAckFall => exact kept_execSafeAckFall h
  | safeAckRise _ => exact kept_execSafeAckRise h
  | ackStuck => exact kept_execAckStuck h
  | unlockWindowExpire => exact kept_execUnlockWindowExpire h
  | owlTwAck _ => exact kept_execOwlTwAck h
  | owlCAck _ => exact kept_execOwlCAck h
  | owlAuthReq => exact kept_execOwlAuthReq h
  | owlAuthGo => exact kept_execOwlAuthGo h
  | logEntryWritten => exact kept_execLogEntryWritten h
  | qspiRead _ _ _ => exact kept_execQspiRead h
  | qspiWrite _ _ => exact kept_execQspiWrite h
  | qspiStatus => exact kept_execQspiStatus h
  | lbusHalfwordWrite _ _ _ => exact kept_execLbusHalfwordWrite h
  | mbxD2hPend _ => exact kept_execMbxD2hPend h
  | mbxD2hMask _ => exact kept_execMbxD2hMask h
  | mbxH2dSet _ => exact kept_execMbxH2dSet h
  | mbxH2dMask _ => exact kept_execMbxH2dMask h
  | mbxPost _ _ => exact kept_execMbxPost h
  | mailboxFetch _ _ => exact kept_execMailboxFetch h
  | mbxPwePop => exact kept_execMbxPwePop h
  | mbxHtxPush _ => exact kept_execMbxHtxPush h
  | htxCopy _ _ => exact kept_execHtxCopy h
  | mbxHtxcPop => exact kept_execMbxHtxcPop h
  | hrxWrite _ => exact kept_execHrxWrite h
  | hostLinkDown => exact kept_execHostLinkDown h
  | hostLinkUp _ _ => exact kept_execHostLinkUp h
  | d3hotEntry => exact kept_execD3hotEntry h
  | d0Return => exact kept_execD0Return h
  | hello _ => exact kept_execHello h
  | getInfo _ => exact kept_execGetInfo h
  | profileSelect _ _ => exact kept_execProfileSelect h
  | profileSwitch _ _ _ => exact kept_execProfileSwitch h
  | profileStore _ _ _ _ => exact kept_execProfileStore h
  | apply _ => exact kept_execApply h
  | flowOpen _ => exact kept_execFlowOpen h
  | flowClose _ => exact kept_execFlowClose h
  | leaseOpen _ => exact kept_execLeaseOpen h
  | leaseClose _ => exact kept_execLeaseClose h
  | counterSnapshotTake _ => exact kept_execCounterSnapshotTake h
  | counterSnapshotRelease _ => exact kept_execCounterSnapshotRelease h
  | counterSnapshotCancel _ => exact kept_execCounterSnapshotCancel h
  | engineLoad _ _ => exact kept_execEngineLoad h
  | engineStart _ => exact kept_execEngineStart h
  | engineStop _ => exact kept_execEngineStop h
  | retire _ => exact kept_execRetire h
  | retireClear _ => exact kept_execRetireClear h
  | sync _ => exact kept_execSync h
  | ringRoleSet _ => exact kept_execRingRoleSet h
  | ringRoleResync _ => exact kept_execRingRoleResync h
  | ringRoleLeave _ => exact kept_execRingRoleLeave h
  | ringRoleEnter _ => exact kept_execRingRoleEnter h
  | canRecover _ => exact kept_execCanRecover h
  | safeUnlock _ => exact kept_execSafeUnlock h
  | passwordChange _ => exact kept_execPasswordChange h
  | attest _ => exact kept_execAttest h
  | keyEnroll _ _ _ _ => exact kept_execKeyEnroll h
  | keyRevoke _ _ _ _ => exact kept_execKeyRevoke h
  | mbist _ _ => exact kept_execMbist h
  | powerState _ => exact kept_execPowerState h
  | commandTimeout _ => exact kept_execCommandTimeout h
  | jtagAuth _ _ _ => exact kept_execJtagAuth h
  | denTrng => exact kept_execDenTrng h
  | bankHandover _ _ => exact kept_execBankHandover h
  | bankClearDone _ => exact kept_execBankClearDone h
  | scrubPassEnd _ => exact kept_execScrubPassEnd h
  | memUePop => exact kept_execMemUePop h
  | memRefusePop => exact kept_execMemRefusePop h
  | retirement _ _ => exact kept_execRetirement h
  | healthLogWrite _ => exact kept_execHealthLogWrite h
  | eventAggregate => exact kept_execEventAggregate h
  | recordClose _ => exact kept_execRecordClose h
  | evtFlush => exact kept_execEvtFlush h
  | evtPop => exact kept_execEvtPop h
  | powerFail _ _ _ _ => exact kept_execPowerFail h
  | pwrRestored => exact kept_execPwrRestored h
  | reset _ => exact kept_execReset h
  | resetRelease _ => exact kept_execResetRelease h
  | vddAonRise => exact kept_execVddAonRise h
  | referenceLoss _ => exact kept_execReferenceLoss h
  | avsStep _ _ => exact kept_execAvsStep h
  | avsTimeout => exact kept_execAvsTimeout h
  | dfsStep _ _ => exact kept_execDfsStep h
  | ringEqStep _ _ _ => exact kept_execRingEqStep h
  | mainsThresholdStep _ _ => exact kept_execMainsThresholdStep h
  | thermalCap _ _ _ _ => exact kept_execThermalCap h
  | thermalTrip => exact kept_execThermalTrip h
  | placementMigration _ => exact kept_execPlacementMigration h
  | cardInsert => exact kept_execCardInsert h
  | cardExtract => exact kept_execCardExtract h
  | ringSignalDetected _ => exact kept_execRingSignalDetected h
  | referenceReturn _ => exact kept_execReferenceReturn h
  | supplyReturn _ => exact kept_execSupplyReturn h
  | ackStuckClear => exact kept_execAckStuckClear h
  | ttSyncLost _ => exact kept_execTtSyncLost h
  | reservedControlBlock _ _ => exact kept_execReservedControlBlock h
  | scrubCorrection _ _ _ _ _ => exact kept_execScrubCorrection h
  | txEnabledGateClosed => exact kept_execTxEnabledGateClosed h

theorem kept_fired {a s : State} {o : Out} (_ : Kept a s) (g : KeptO a o) : Kept a (s.fired o) := by
  obtain ⟨t, rfl, ht⟩ := g
  exact ht

theorem kept_tickTime {a : State} {s : State} (h : Kept a s) :
    Kept a (State.tickTime s) := by
  unfold State.tickTime
  iterate 40 all_goals first | (with_reducible assumption) | (with_reducible apply kept_each) | (with_reducible apply kept_put) | intro _ | (with_reducible apply Kept.ite) | dsimp only | split | (with_reducible apply Kept.other) | skip

theorem kept_tickPll {a : State} {s : State} {m : Nat} (h : Kept a s) :
    Kept a (State.tickPll s m) := by
  unfold State.tickPll
  iterate 40 all_goals first | (with_reducible assumption) | (with_reducible apply kept_setPll) | intro _ | (with_reducible apply Kept.ite) | dsimp only | split | (with_reducible apply Kept.other) | skip

theorem kept_tickMains {a : State} {s : State} {k : Nat} (h : Kept a s) :
    Kept a (State.tickMains s k) := by
  unfold State.tickMains
  iterate 40 all_goals first | (with_reducible assumption) | (with_reducible apply kept_count) | (with_reducible apply kept_setAxis) | intro _ | (with_reducible apply Kept.ite) | dsimp only | split | (with_reducible apply Kept.other) | skip

theorem kept_tickAxes {a : State} {s : State} (h : Kept a s) :
    Kept a (State.tickAxes s) := by
  unfold State.tickAxes
  iterate 40 all_goals first | (with_reducible assumption) | (with_reducible apply kept_each) | (with_reducible apply kept_tickMains) | (with_reducible apply kept_tickPll) | intro _ | (with_reducible apply Kept.ite) | dsimp only | split | (with_reducible apply Kept.other) | skip

theorem kept_runWord {a : State} {s : State} {k : Fin 64} (h : Kept a s) :
    Kept a (State.runWord s k) := by
  unfold State.runWord
  split
  · exact kept_fired h (kept_exec h)
  · exact kept_issue h (fun _ _ => KeptR.of_go (fun _ g => g))

theorem kept_foxCycle {a : State} {s : State} {le : Fin 16} (h : Kept a s) :
    Kept a (State.foxCycle s le) := by
  unfold State.foxCycle
  iterate 40 all_goals first | (with_reducible assumption) | (with_reducible apply kept_runWord) | (with_reducible apply kept_fclk) | intro _ | (with_reducible apply Kept.ite) | dsimp only | split | (with_reducible apply Kept.other) | skip

theorem kept_tickFox {a : State} {s : State} {le : Fin 16} (h : Kept a s) :
    Kept a (State.tickFox s le) := by
  unfold State.tickFox
  iterate 40 all_goals first | (with_reducible assumption) | (with_reducible apply kept_each) | (with_reducible apply kept_foxCycle) | intro _ | (with_reducible apply Kept.ite) | dsimp only | split | (with_reducible apply Kept.other) | skip

theorem kept_tickWdg {a : State} {s : State} {k : Nat} (h : Kept a s) :
    Kept a (State.tickWdg s k) := by
  unfold State.tickWdg
  iterate 40 all_goals first | (with_reducible assumption) | (with_reducible apply kept_setTh) | intro _ | (with_reducible apply Kept.ite) | dsimp only | split | (with_reducible apply Kept.other) | skip

theorem kept_tickPace {a : State} {s : State} {e : Nat} (h : Kept a s) :
    Kept a (State.tickPace s e) := by
  unfold State.tickPace
  iterate 40 all_goals first | (with_reducible assumption) | (with_reducible apply kept_updShr) | (with_reducible apply kept_kEnd) | intro _ | (with_reducible apply Kept.ite) | dsimp only | split | (with_reducible apply Kept.other) | skip

theorem kept_shRun {a : State} {s : State} {e : Fin 32} (h : Kept a s) :
    Kept a (State.shRun s e) := by
  unfold State.shRun
  dsimp only
  split
  · exact kept_fired h (kept_exec h)
  · exact kept_shTick h (fun _ _ g => g)

theorem kept_tickShr {a : State} {s : State} (h : Kept a s) :
    Kept a (State.tickShr s) := by
  unfold State.tickShr
  dsimp only
  refine Kept.ite h (kept_each (kept_each (kept_each (kept_each (kept_each h ?_) (fun _ _ g => kept_tickPace g)) ?_)
    (fun _ _ g => kept_shRun g)) (fun _ _ g => kept_shRun g))
  · exact fun _ _ g => kept_fired (kept_fired g (kept_exec (i := .rxLatchPass _) g)) (kept_exec (i := .txLatchTake _) (kept_fired g (kept_exec (i := .rxLatchPass _) g)))
  · exact fun _ _ g => kept_fired g (kept_exec (i := .swapAtSafePoint _) g)

theorem kept_tickPort {a : State} {s : State} {n : Nat} (h : Kept a s) :
    Kept a (State.tickPort s n) := by
  unfold State.tickPort
  iterate 40 all_goals first | (with_reducible assumption) | (with_reducible apply kept_updPort) | intro _ | (with_reducible apply Kept.ite) | dsimp only | split | (with_reducible apply Kept.other) | skip

theorem kept_tick {a : State} {s : State} (h : Kept a s) :
    Kept a (State.tick s) := by
  unfold State.tick
  iterate 40 all_goals first | exact wf0_set | exact wf0_fill | exact wf0_keep | exact wf0_filter | (exact fun _ : SMap.wf _ _ = true => rfl) | exact Nat.le_add_right _ _ | (with_reducible assumption) | (with_reducible apply kept_tickAxes) | (with_reducible apply kept_tickTime) | (with_reducible apply kept_each) | (with_reducible apply kept_incWrap) | (with_reducible apply kept_tickPort) | (with_reducible apply kept_settle) | (with_reducible apply kept_tickFox) | (with_reducible apply kept_tickWdg) | (with_reducible apply kept_tickShr) | intro _ | (with_reducible apply Kept.ite) | dsimp only | split | (with_reducible apply Kept.other) | (with_reducible apply Kept.of_up) | skip

end Sys2Proof.Machine
end

