-- ==== Sys2Proof/WellFormed.lean ====
section
/-!
DEFINITION. The checks on a command beside the types of its operands: what the spec allows where a type allows more. `exec`
is total; a command that fails a check names something the device does not have.
-/
namespace Sys2Proof

/-- How many channels a fault-channel kind has (R519). -/
def kindSize (kind : Nat) : Nat :=
  match kind with
  | 0 => 14 | 1 => 18 | 2 => 34 | 3 => 32 | 4 => 4 | 5 => 32 | _ => 0
/-- How many test units a memory target has (Table 17-1). -/
def targetSize (target : Nat) : Nat :=
  match target with
  | 0 => 34 | 1 => 32 | 2 => 48 | 3 => 8 | 4 => 18 | _ => 0
/-- The payload length a CAN format allows (R371). -/
def canLenOk (fmt n : Nat) : Bool :=
  match fmt with
  | 0 => decide (n ≤ 8)
  | 1 => decide (n ≤ 8) || [12, 16, 20, 24, 32, 48, 64].contains n
  | _ => decide (1 ≤ n) && decide (n ≤ 2048)

/-- The checks. -/
def Instr.wf : Instr → Bool
  | .registerWrite _ o _ _ => o.toNat % 4 == 0
  | .readDelivered _ o => o.toNat % 4 == 0
  | .hostMemoryWrite a l _ => !l.isEmpty && decide (a.toNat + l.length ≤ 0x1000000)
  | .retirement kind n => decide (n.val < kindSize kind)
  | .scrubCorrection t u _ _ _ => decide (u.val < targetSize t)
  | .resetRelease b => b.fails.all (fun f => decide (f.2.val < targetSize f.1.val))
  | .canFrameReceive _ f => canLenOk f.fmt f.data.length
  | .ringFrame _ hdr _ => hdr.length == 10
  | .jtagAuth pub sig _ => pub.length == 96 && sig.length == 96
  | _ => true

end Sys2Proof
end

