-- ==== Sys2Proof/Tests/Slice0.lean ====
section
/-!
SUPPORT. Tests: for every check of WellFormed.lean a command that it refuses, for every statement a state and operands that meet
its hypotheses, and single steps with results from the worked examples and tables of spec/.
-/
set_option Elab.async false

namespace Sys2Proof.Tests
open Sys2Proof.Machine

/-! ## States -/

/-- Writing pending (or live) and active values. -/
def regs (l : List (Field × Nat × Nat)) (s : State) : State := l.foldl (fun s r => s.put r.1 r.2.1 r.2.2) s
def acts (l : List (Field × Nat × Nat)) (s : State) : State := l.foldl (fun s r => s.putAct r.1 r.2.1 r.2.2) s
/-- A device out of reset, its card inserted. -/
def up : State := regs [(F.pwrInsIso, 0, 0), (F.pwrInsCardPresent, 0, 1)] { State.reset with released := true }
/-- Fox engine 0 runs and its thread 0 is `t`, ready. -/
def fx (t : Thread) : State :=
  regs [(F.foxStatusState, 0, 2)] { up with threads := [(0, { t with st := .ready })] }
/-- Operand fields of a long word. -/
def opn (d a b imm : Nat) : BitVec 36 := BitVec.ofNat 36 (d * 2 ^ 32 + a * 2 ^ 28 + b * 2 ^ 24 + imm)
/-- The result of a command, for tests of its fields. -/
def after (c : Instr) (s : State) : State := match exec c s with | .next t => t | _ => s

/-! ## WellFormed: one term that each check refuses -/

theorem test_wf_registerWrite : (Instr.registerWrite .sup 0x2001 ⟨0, 0⟩ 15).wf = false := by decide
theorem test_wf_readDelivered : (Instr.readDelivered .sup 0x2002).wf = false := by decide
theorem test_wf_hostMemoryWrite_empty : (Instr.hostMemoryWrite 0 [] false).wf = false := by decide
theorem test_wf_hostMemoryWrite_range : (Instr.hostMemoryWrite 0xFFFFFF [1, 2] false).wf = false := by decide
theorem test_wf_retirement : (Instr.retirement 0 14).wf = false := by decide
theorem test_wf_scrubCorrection : (Instr.scrubCorrection 1 32 0 false true).wf = false := by decide
theorem test_wf_resetRelease : (Instr.resetRelease { hostSel := 0, prof := 0, card := false, fails := [(1, 32)] }).wf = false := by
  decide
theorem test_wf_canFrameReceive : (Instr.canFrameReceive 0 { fmt := 1, id := 0, data := List.replicate 9 0 }).wf = false := by
  decide
theorem test_wf_ringFrame : (Instr.ringFrame 0 [1] { bytes := [] }).wf = false := by decide
theorem test_wf_jtagAuth : (Instr.jtagAuth [] [] 0).wf = false := by decide
theorem test_wf_accepts : (Instr.registerWrite .sup 0x2000 ⟨0, 0⟩ 15).wf = true ∧ (Instr.retirement 0 13).wf = true := by decide


/-! ## Witnesses: registers and the queue -/

theorem witness_StepRunsTheFrontCommand :
    ({ up with pending := [.latch, .safeAckFall] } : State).pending = .latch :: [.safeAckFall] := rfl
theorem witness_EmptyQueueTicks :
    (State.reset.pending = [] ∧ State.reset.released = false) ∧ (({ up with off := true } : State).pending = [] ∧ ({ up with off := true } : State).off = true) ∧
    (up.pending = [] ∧ up.released = true ∧ up.off = false ∧ (∀ e, (up.shr e).st.live = false) ∧
      (∀ le, le < 16 → up.get F.foxStatusState le < 2) ∧ up.get F.timeRate = 0 ∧ up.slew = 0 ∧ up.time.frac < 2 ^ 48) :=
  ⟨by decide +kernel, by decide +kernel, rfl, rfl, rfl, fun _ => rfl, by decide +kernel, by decide +kernel, rfl, by decide⟩
theorem witness_EveryStepKeepsTheInvariant :
    up.memWf = true ∧ up.logsFit = true ∧ step State.reset = .next { State.reset with up := 4 } := ⟨by decide, by decide, rfl⟩
theorem witness_RegisterWritesTakeTheirBits : ∃ r i j x,
    up.busUp .sup = true ∧ up.domOn (busDom 0x2004) = true ∧ up.msixAt 0x2004 = false ∧
    findReg 0x2004 = some (r, i, j) ∧ up.regInst Req.sup.copy r i j = some x ∧
    up.trigWr1 r i 0 = none ∧ up.trigWr2 Req.sup.copy r i j x 0 = none ∧ up.trigWr3 r i x 0 = none ∧ r.off < 0x28000 :=
  ⟨_, _, _, _, by decide +kernel, by decide +kernel, by decide +kernel, rfl, rfl, rfl, rfl, rfl, by decide⟩
/-- The host, with its interface selected; with the RING domain off. -/
def host : State := up
def ringOff : State := regs [(F.pwrStateDomainsOn, 0, 0x3FF - 2 ^ 6)] up
theorem witness_RegisterReadsAndFailedAccesses :
    (up.busUp .sup = true ∧ up.msixAt 0x2004 = false ∧ (∃ r i j x, up.domOn (busDom 0x2004) = true ∧
      findReg 0x2004 = some (r, i, j) ∧ up.regInst Req.sup.copy r i j = some x ∧ popRegs.contains r.off = false)) ∧
    (findReg 0x2FFFC = none ∧ up.msixAt 0x2FFFC = false) ∧
    (∃ d, d = busDom 0xC000 ∧ (ringOff.busUp .sup = true ∧ ringOff.domOn d = false ∧ ringOff.msixAt 0xC000 = false)) :=
  ⟨⟨by decide +kernel, by decide +kernel, _, _, _, _, by decide +kernel, rfl, rfl, by decide⟩, ⟨by decide +kernel, by decide +kernel⟩,
   _, rfl, by decide +kernel⟩
/-- A migrating engine 3 is in its freeze; it migrates but is not frozen yet. -/
def migr (ago : Nat) : State :=
  { regs [(F.foxStatusState, 3, 4)] up with up := 20000, timers := [(tmMig 3, 20001 - ago)] }
theorem witness_RegisterWritesOfFrozenEngines :
    ((migr 17360).leOf 3).any (migr 17360).freezing = true ∧ ((migr 17359).leOf 3).any (migr 17359).freezing = false ∧
    (migr 17360).busUp .host = true ∧ (migr 17360).domOn (busDom (0x40000 + 3 * 8)) = true := by decide +kernel
theorem witness_LbusReadsBothHalfwords :
    (up.get F.mbxHostifSel = 0 ∧ (regs [(F.mbxHostifSel, 0, 1)] up).busUp .host = true ∧
      ({ regs [(F.mbxHostifSel, 0, 1)] up with lbusLast := some 0x2000 } : State).lbusLast = some ((0x2002 : BitVec 20).toNat / 4 * 4)) := by
  decide +kernel
theorem witness_FailedAccesses :
    ({ up with off := true } : State).busUp .host = false ∧ (host.busUp .host = true ∧ (7 : BitVec 4) ≠ 15 ∧ busReserved 0x62FFC = false ∧ busReserved 0x64000 = true) ∧
    (ringOff.busUp .host = true ∧ ringOff.domOn (busDom 0xC000) = false) := by decide +kernel
def onLbus : State := regs [(F.mbxHostifSel, 0, 1)] up
def onQspi : State := regs [(F.mbxHostifSel, 0, 2)] up
theorem witness_LbusAndQspiReachRegisters :
    (onLbus.off = false ∧ onLbus.domOn .host = true ∧ onLbus.get F.mbxHostifSel = 1 ∧ 2 * (0x7FFFF : BitVec 20).toNat < 0x100000 ∧
      onLbus.lbusLow = none ∧ (0x1000 : BitVec 20).toNat % 2 = 0 ∧ (0x7FFFF : BitVec 20).toNat % 2 = 1) ∧
    (({ onLbus with lbusLow := some (0x2000, 5) } : State).lbusLow = some (2 * (0x1001 : BitVec 20).toNat - 2, (5 : BitVec 16).toNat)) ∧
    (onQspi.off = false ∧ onQspi.domOn .host = true ∧ onQspi.get F.mbxHostifSel = 2 ∧ (0xFFFFC : BitVec 24).toNat % 4 = 0 ∧
      (0xFFFFC : BitVec 24).toNat < 0x100000) := by decide +kernel


/-! ## Witnesses: Fox -/

theorem witness_FoxArithmeticComputes :
    (fx {}).foxRuns 0 0 ∧ (Opnd.isLR (opn 1 2 0 0) = true ∧ Opnd.b (opn 1 2 0 0) = 0) ∧ foxRegLegal .add (opn 15 15 15 0) = true ∧ foxRegLegal .cmp (opn 0 1 2 0) = true ∧
    foxRegLegal .tst (opn 0 1 2 0) = true ∧ foxRegLegal .neg (opn 1 2 0 0) = true ∧ foxRegLegal .not (opn 1 2 0 0) = true ∧
    foxRegLegal .abs (opn 1 2 0 0) = true ∧ foxRegLegal .clz (opn 1 2 0 0) = true ∧
    Opnd.isLI (opn 1 2 0 0xFFFFFF) = true ∧ Opnd.d (opn 0 2 0 0xFFFFFF) = 0 ∧
    Opnd.b (opn 1 2 0 23) = 0 ∧ Opnd.imm (opn 1 2 0 23) < 24 := by
  unfold State.foxRuns; decide +kernel
theorem witness_FoxMovesBitsAndHash :
    (fx {}).foxRuns 0 0 ∧ (Opnd.isLR (opn 1 2 0 0) = true ∧ Opnd.b (opn 1 2 0 0) = 0) ∧
    (Opnd.a (opn 1 0 0 0xFFFFFF) = 0 ∧ Opnd.b (opn 1 0 0 0xFFFFFF) = 0) ∧
    (Opnd.b (opn 0 2 0 23) = 0 ∧ Opnd.imm (opn 0 2 0 23) < 24 ∧ Opnd.d (opn 0 2 0 23) = 0) ∧
    Opnd.isLQ (opn 0 0 15 0) = true ∧ opn 0 0 0 0 = 0 ∧ (Opnd.isLA (opn 1 0 0 47) = true ∧ Opnd.imm (opn 1 0 0 47) < 48) ∧
    (Opnd.isLP (opn 1 0 0 0) = true ∧ Opnd.b (opn 1 0 0 0) ≠ 3 ∧ Opnd.b (opn 1 0 0 0) ≠ 9 ∧ Opnd.b (opn 1 0 0 0) ≠ 13) ∧
    (Opnd.isLP (opn 1 0 13 0) = true ∧ Opnd.b (opn 1 0 13 0) = 13 ∧ (fx {}).get F.foxTTcfgSafety 0 = 0) := by
  unfold State.foxRuns; decide +kernel
theorem witness_FoxMultipliesLand : (fx {}).foxRuns 0 0 ∧ Opnd.isLX (opn 0 1 2 0) = true := by unfold State.foxRuns; decide +kernel
theorem witness_FoxLoadsAndStores :
    (fx {}).foxRuns 0 0 ∧ Opnd.b (opn 1 2 0 32767) = 0 ∧
    (((fx {}).th 0).reg (Opnd.a (opn 1 2 0 32767))).toNat + Opnd.imm (opn 1 2 0 32767) = 32767 ∧
    (fx {}).marked 4 ((fx {}).phys 0) (16384 + 32767) = false ∧
    (((fx {}).th 0).reg 2).toNat < 32768 ∧ (fx {}).marked 4 ((fx {}).phys 0) 16384 = false ∧
    Opnd.d (opn 1 2 0 32767) ≠ Opnd.a (opn 1 2 0 32767) := by unfold State.foxRuns; decide +kernel
theorem witness_FoxControlFlowAndRepeat :
    (fx { tm := true }).foxRuns 0 0 ∧ ((fx { tm := true }).th 0).rpt = 0 ∧ ((fx { tm := true }).th 0).tm = true ∧
    Opnd.isLT (opn 0 0 0 16383) = true ∧ Opnd.isLJ (opn 0 15 0 0) = true ∧ opn 0 0 0 0 = 0 ∧ Opnd.isLC (opn 0 0 0 0xFFFFFF) = true := by
  unfold State.foxRuns; decide +kernel
/-- The word at PC 0 of thread 0 has an uncorrectable error. -/
def fxUe : State := { fx {} with poison := [(markKey 4 0 0, true)] }
theorem witness_FoxTrapsAndSkips :
    (fxUe.canIssue 0 = true ∧ fxUe.marked 4 (fxUe.phys 0) ((fxUe.th 0).pc.toNat) = true) ∧
    ((fx {}).canIssue 0 = true ∧ Opnd.isLR (opn 1 2 3 1) = false ∧ (fx { tm := true }).canIssue 0 = true) ∧
    ((fx {}).marked 4 ((fx {}).phys 0) (((fx {}).th 0).pc.toNat) = false ∧ foxRegLegal .add (opn 1 2 3 0) = true ∧
      condHolds 1 ((fx {}).th 0).fl = false) := by decide +kernel

/-- Thread 0 holds frame 1 of 64 bytes, W2 is 0x10000 and W3 9600, and Common RAM bank 1 is its own or another's. -/
def fxFrame : State := { fx { fh := 1, w := (Vector.replicate 16 0).set 3 9600 } with frames := [(1, { len := 64, owner := some 0 })] }
def fxPriv : State := regs [(F.foxTTcfgPriv, 0, 1)] fxFrame
def fxBank : State := regs [(F.memBankOwnOwner, 1, 0)] (fx { w := (Vector.replicate 16 0).set 2 0x10000 })
theorem witness_FoxBlockingAccesses :
    (fxBank.foxRuns 0 0 ∧ (Opnd.b (opn 4 2 5 0)).val ≤ 5 ∧ evenReg (Opnd.d (opn 4 2 5 0)) = true ∧
      fxBank.gaTrap 0 false 5 0x10000 = none ∧ fxBank.gaTrap 0 true 5 0x10000 = none) ∧
    (fxFrame.foxRuns 0 0 ∧ (Opnd.b (opn 4 2 9 0)).val ≤ 9 ∧ evenReg (Opnd.d (opn 4 2 9 0)) = true ∧
      fxFrame.frameTrap 0 (fxFrame.th 0) 0 (widthBytes 9) = none) ∧
    (Opnd.isLR (opn 4 2 3 0) = true ∧ ((fxFrame.th 0).reg 3).toNat % 2 ^ 14 = 9600 ∧ fxFrame.frameTrap 0 (fxFrame.th 0) 0 9600 = none) ∧
    (fxPriv.foxRuns 0 0 ∧ Opnd.isLI (opn 4 0 0 31) = true ∧ Opnd.a (opn 4 0 0 31) = 0 ∧ Opnd.imm (opn 4 0 0 31) < 32 ∧
      fxPriv.shBound 0 31 = true) ∧
    (Opnd.isLR (opn 4 2 3 0) = true ∧ ((fxPriv.th 0).reg 2).toNat < 32768 ∧ fxPriv.isPriv 0 = true) ∧
    (Opnd.isLI (opn 4 2 0 (24 * 65536)) = true ∧ (FSpec.of (24 * 65536)).src = false ∧ 0 < (FSpec.of (24 * 65536)).len ∧
      (FSpec.of (24 * 65536)).len ≤ 24 ∧ fxFrame.frameTrap 0 (fxFrame.th 0) 0 3 = none) ∧
    ((0x10001 : Nat) % widthAlign 5 ≠ 0 ∧ 0x10001 % widthAlign 2 ≠ 0 ∧ (0x200000 : Nat) % widthAlign 5 = 0 ∧
      0x2FFFF8 + 8 ≤ 0x300000 ∧ 0x1FFFFC % widthAlign 5 = 0 ∧ 0x1FFFFC % 65536 + widthBytes 5 ≤ 65536) ∧
    ((fx {}).isPriv 0 = false ∧ fxFrame.foxRuns 0 0 ∧ (Opnd.b (opn 4 2 0 8)).val = 0 ∧
      (((fx {}).th 0).reg 2).toNat + Opnd.imm (opn 4 2 0 8) = 8 ∧ (fx {}).bankOwner 8 ≠ 0 ∧ ((fx {}).th 0).tm = false) := by
  unfold State.foxRuns; decide +kernel
/-- Slot words: ADD W1, W2, W3 in slot A and ADD Wd, W2, W3 in slot B. -/
def pairAdd (d : Nat) : BitVec 47 := BitVec.ofNat 47 ((2 ^ 14 + 1 * 2 ^ 10 + 2 * 2 ^ 6 + 3 * 2 ^ 2) * 2 ^ 24 + (2 ^ 14 + d * 2 ^ 10 + 2 * 2 ^ 6 + 3 * 2 ^ 2) * 2)
theorem witness_FoxFrameWritesAndPairs :
    (fxFrame.foxRuns 0 0 ∧ (Opnd.b (opn 4 2 9 0)).val ≤ 9 ∧ evenReg (Opnd.d (opn 4 2 9 0)) = true ∧
      fxFrame.frameTrap 0 (fxFrame.th 0) 0 (widthBytes 9) = none) ∧
    (Opnd.isLI (opn 4 2 0 (24 * 65536)) = true ∧ (FSpec.of (24 * 65536)).src = false ∧
      (FSpec.of (24 * 65536)).len = 24 ∧ fxFrame.frameTrap 0 (fxFrame.th 0) 0 3 = none) ∧
    (Opnd.isLI (opn 4 2 0 (2 ^ 23 + 24 * 65536 + 24)) = true ∧ (FSpec.of (2 ^ 23 + 24 * 65536 + 24)).src = true ∧
      evenReg (Opnd.a (opn 4 2 0 0)) = true ∧ (FSpec.of (2 ^ 23 + 24 * 65536 + 24)).bofs + 24 ≤ 48) ∧
    ((fx {}).canIssue 0 = true ∧ (fx {}).marked 4 ((fx {}).phys 0) 0 = false ∧
      (∀ d ∈ [1, 4], (pairAdd d).getLsbD 0 = false ∧ slOp (bitsAt (pairAdd d).toNat 24 23) = 1 ∧
        slOp (bitsAt (pairAdd d).toNat 1 23) = 1 ∧ bitsAt (bitsAt (pairAdd d).toNat 24 23) 0 2 = 0 ∧
        bitsAt (bitsAt (pairAdd d).toNat 1 23) 0 2 = 0) ∧
      slD (bitsAt (pairAdd 4).toNat 24 23) ≠ slD (bitsAt (pairAdd 4).toNat 1 23) ∧
      slD (bitsAt (pairAdd 1).toNat 24 23) = slD (bitsAt (pairAdd 1).toNat 1 23) ∧ ((fx {}).th 0).tm = false) := by
  unfold State.foxRuns; decide +kernel
/-- The frame at FH has lost data; frame 2 waits in the receive queue, frame 5 belongs to another engine. -/
def fxLost : State := { fx { fh := 1 } with frames := [(1, { len := 64, owner := some 0, lost := true })] }
def fxRx : State := { fxPriv with threads := [(0, { fxPriv.th 0 with rxq := [2], w := (Vector.replicate 16 0).set 2 5 })],
                                  frames := [(1, { len := 64, owner := some 0 }), (2, { len := 60 }), (5, { len := 70, owner := some 3 })] }
theorem witness_FoxFrameOperations :
    (17 + 24 ≤ 8 * (List.replicate 6 (0 : Byte)).length) ∧
    (fxRx.foxRuns 0 0 ∧ (fxRx.th 0).wbuf = [] ∧ Opnd.isLI (opn 1 0 0 8) = true ∧ Opnd.a (opn 1 0 0 8) = 0 ∧ Opnd.imm (opn 1 0 0 8) < 9) ∧
    (Opnd.isLR (opn 1 0 0 0) = true ∧ Opnd.a (opn 1 0 0 0) = 0 ∧ Opnd.b (opn 1 0 0 0) = 0 ∧ ((fx {}).th 0).rxq = [] ∧ ((fx {}).foxRuns 0 0) ∧
      (fxRx.th 0).rxq = 2 :: [] ∧ (fxRx.owned 0).length < 256) ∧
    (opn 0 0 0 0 = 0 ∧ fxRx.ownsF 0 (fxRx.th 0).fh.toNat = true) ∧
    (Opnd.isLJ (opn 0 2 0 0) = true ∧ fxLost.foxRuns 0 0 ∧ (fxLost.th 0).wbuf = [] ∧ fxLost.frameTrap 0 (fxLost.th 0) 0 0 = none ∧
      (fxLost.frame 1).lost = true ∧ fxRx.frameTrap 0 (fxRx.th 0) 0 5 = none ∧ (fxRx.frame 1).lost = false ∧
      evenReg (Opnd.a (opn 0 2 0 0)) = true) ∧
    (fxRx.isPriv 0 = true ∧ ((fxRx.th 0).reg 2).toNat = 5 ∧ (fxRx.frame 5).owner.any (fun e => decide (e < 16)) = true) := by
  unfold State.foxRuns; decide +kernel
/-- Frame 1 is empty; a port takes no more than 40 bytes. -/
def fxEmpty : State := { fxFrame with frames := [(1, { owner := some 0 })] }
def fxShort : State := acts [(F.ethMaxlen, 0, 40)] fxFrame
def fxComp : State := fx { comps := [{ tag := 5, status := 1, egress := 31, txts := none }] }
theorem witness_FoxPushesCrcAndTime :
    (fxFrame.foxRuns 0 0 ∧ (fxFrame.th 0).wbuf = [] ∧ Opnd.isLI (opn 0 2 0 0xCFF) = true ∧ Opnd.d (opn 0 2 0 0xCFF) = 0 ∧
      Opnd.imm (opn 0 2 0 0xCFF) < 4096 ∧ bitsAt (Opnd.imm (opn 0 2 0 0xCFF)) 8 2 = 0 ∧ Opnd.isLR (opn 0 2 3 0) = true ∧
      fxFrame.ownsF 0 1 = true ∧ hasBit 0xCFF 11 = true ∧ (fxFrame.th 0).comps.length + (fxFrame.th 0).outst < 64 ∧
      0 < (fxFrame.frame 1).len ∧ (fxFrame.frame 1).lost = false ∧ hasBit 0xCFF 10 = true ∧ (fxFrame.frame 1).len ≤ fxFrame.maxFrame 0) ∧
    (fxEmpty.foxRuns 0 0 ∧ fxEmpty.ownsF 0 1 = true ∧ (fxEmpty.frame 1).len = 0) ∧
    (fxShort.foxRuns 0 0 ∧ hasBit 0 11 = false ∧ hasBit 0 10 = false ∧ fxShort.maxFrame 0 < (fxShort.frame 1).len) ∧
    ((fx {}).foxRuns 0 0 ∧ evenReg (Opnd.d (opn 14 0 0 0)) = true ∧ Opnd.isLR (opn 14 0 0 0) = true ∧ Opnd.a (opn 14 0 0 0) = 0 ∧
      Opnd.b (opn 14 0 0 0) = 0 ∧ ((fx {}).th 0).comps = []) ∧
    (fxComp.foxRuns 0 0 ∧ (fxComp.th 0).comps ≠ []) ∧ (Opnd.isLH (opn 14 2 0 15) = true ∧ Opnd.imm (opn 14 2 0 15) < 16) ∧
    (Opnd.isLA (opn 14 0 0 36) = true ∧ 36 % 16 < 5 ∧ 36 / 16 < 3) ∧ (Opnd.isLA (opn 14 0 0 11) = true ∧ 8 ≤ 11 ∧ 11 < 12) := by
  unfold State.foxRuns; decide +kernel
/-- Thread 1 of engine 0 waits; the device has a signal on its way to thread 0. -/
def fxPair : State := { fxPriv with threads := [(0, { fxPriv.th 0 with w := Vector.replicate 16 0 }), (1, { st := .waitph, blk := .waitph, evp := 2 })],
                                    sigs := [{ dst := 0, sig := 7 }] }
def fxWait (b : Block) (p m : Nat) : State :=
  { up with threads := [(0, { st := .waitev, blk := b, evp := BitVec.ofNat 24 p, evm := BitVec.ofNat 24 m })], sigs := [{ dst := 0, sig := 7 }] }
def fxDog (b : Block) (st : ThState) : State :=
  acts [(F.foxTWdgEn, 0, 1)] { up with threads := [(0, { st := st, blk := b })] }
/-- Thread 0 of engine 0, which freezes for its migration, waits for its phase. -/
def fxFrozen : State :=
  { regs [(F.foxStatusState, 0, 4)] { fxWait .waitph 1 0 with up := 20000 } with timers := [(tmMig 0, 2000)] }
/-- Thread 0 is privileged; engine 2 freezes. -/
def fxTwakeHeld : State := { regs [(F.foxStatusState, 2, 4)] { fxPair with up := 20000 } with timers := [(tmMig 2, 2000)] }
theorem witness_FoxFreezeHoldsEvents :
    (fxFrozen.frozen 0 = true ∧ fxFrozen.freezing 0 = true ∧ fxFrozen.sigs.find? (fun x => x.dst == 0) = some { dst := 0, sig := 7 }) ∧
    (fxTwakeHeld.foxRuns 0 0 ∧ (fxTwakeHeld.th 0).wbuf = [] ∧ fxTwakeHeld.isPriv 0 = true ∧
      fxTwakeHeld.freezing ((4 * (2 % 16) + 2 / 16) / 4) = true) ∧
    ((fxWait .waitph 1 0).frozen 0 = false ∧ (fxWait .waitph 1 0).freezing 0 = false ∧ (fxWait .waitph 1 0).carried 0 = true) := by
  unfold State.foxRuns; decide +kernel
theorem witness_FoxSignalsWaitsAndEvents :
    (fxPair.foxRuns 0 0 ∧ (fxPair.th 0).wbuf = [] ∧ Opnd.isLJ (opn 0 15 0 0) = true ∧ Opnd.isLI (opn 0 0 0 0x3F7) = true ∧
      Opnd.imm (opn 0 0 0 0x3F7) < 1024 ∧ hasBit 0x3F7 3 = false ∧ Opnd.imm (opn 0 0 0 31) < 32 ∧
      Opnd.imm (opn 0 0 0 16) < 64 ∧ fxPair.isPriv 0 = true ∧ 4 * (16 % 16) + 16 / 16 ≠ (0 : Nat) ∧ (fxPair.th 1).started = true ∧
      (fxPair.th 1).evp.getLsbD 0 = false) ∧
    ((fxPair.th 0).rpt = 0 ∧ opn 0 0 0 0 = 0 ∧ Opnd.isLR (opn 1 0 0 0) = true) ∧
    (((fxWait (.waitev 1) 3 2).th 0).blk = .waitev 1 ∧ ((fxWait (.waitev 1) 3 2).th 0).evp &&& ((fxWait (.waitev 1) 3 2).th 0).evm ≠ 0) ∧
    (((fxWait .waitph 1 0).th 0).blk = .waitph ∧ ((fxWait .waitph 1 0).th 0).evp.getLsbD 0 = true) ∧
    (fxPair.sigs.find? (fun x => x.dst == 0) = some { dst := 0, sig := 7 } ∧ (fxPair.th 0).started = true ∧
      (fxPair.th 0).evp.getLsbD (8 + 7) = false) ∧
    (((fxWait .waitph 0x8000 0).sigs.find? (fun x => x.dst == 0) = some { dst := 0, sig := 7 }) ∧
      ((fxWait .waitph 0x8000 0).th 0).evp.getLsbD (8 + 7) = true) ∧
    (((fxDog .none .ready).th 0).started = true ∧ ((fxDog .none .ready).th 0).st ≠ .halted ∧ (fxDog .none .ready).on F.foxTWdgEn 0 = true ∧
      ((fxDog .none .ready).th 0).blk.access = false ∧ ((fxDog .none .ready).th 0).tm = false ∧
      (fxDog .none .ready).get F.foxTTcfgSafety 0 = 0) ∧
    (((fxDog (.gld 1 0 1) .global).th 0).st ≠ .halted ∧ (fxDog (.gld 1 0 1) .global).on F.foxTWdgEn 0 = true ∧
      ((fxDog (.gld 1 0 1) .global).th 0).blk.access = true) := by
  unfold State.foxRuns; decide +kernel


/-- Thread 0 of engine 0 is blocked, not waiting for a watchdog; engine 0 owns bank 0. -/
def fxBlk (b : Block) : State :=
  { regs [(F.memBankOwnOwner, 0, 0), (F.foxStatusState, 0, 2)] up with
    threads := [(0, { st := .global, blk := b, blkFh := 1 })], frames := [(1, { len := 64, owner := some 0 })] }
def fxPosted : State :=
  { fx { wbuf := [{ handle := 1, off := 63, bytes := [1, 2], ins := none }] } with frames := [(1, { len := 64, owner := some 0 })] }
/-- Engine 0 migrates to physical engine 17; its freeze has come (R127). -/
def fxMig : State :=
  { regs [(F.foxStatusState, 0, 4)] (fx {}) with engines := [(0, { mig := some 17, was := 2 })], up := 20000, timers := [(tmMig 0, 2000)] }
/-- Thread 0 is blocked by an access to the DM of engine 5, which freezes. -/
def fxBlkFrozen : State :=
  { regs [(F.foxStatusState, 5, 4)] (fxBlk (.xld 2 5 9)) with up := 20000, timers := [(tmMig 5, 2000)] }
def fxStopping : State := regs [(F.foxStatusState, 0, 3)] up
theorem witness_FoxAccessesAndEngineEvents :
    (∀ b ∈ [Block.frd 2 60 5, Block.crcf 2 0 64 3, Block.csumf 2 0 64, Block.xld 2 0 32767, Block.xst 0 32767 5, .shput 31 7, .shget 2 31, .fnew],
      ((fxBlk b).th 0).blk = b ∧ ((fxBlk b).th 0).wdPend = false ∧ ((fxBlk b).th 0).wbuf = [] ∧ ((fxBlk b).th 0).defer = none ∧
      ((fxBlk b).th 0).tm = false ∧ ((fxBlk b).th 0).blkRpt = 0) ∧
    ((fxBlk (.shput 31 7)).shOn = true ∧ (fxBlk (.shget 2 31)).shOn = true ∧
      (fxBlk .fnew).stageUse 0 < (fxBlk .fnew).stageCap 0 ∧ ((fxBlk .fnew).owned 0).length < 256 ∧
      ∀ x ∈ (fxBlk .fnew).frames, x.1 ≠ (0xFFFFFF : BitVec 24).toNat) ∧
    ((fxBlkFrozen.th 0).blk = .xld 2 5 9 ∧ fxBlkFrozen.freezing 5 = true ∧ (regs [(F.foxMapValid, 0, 0)] (fxBlk (.xld 2 0 9))).carried 0 = false) ∧
    ((fxBlk (.xld 2 0 32767)).carried 0 = true ∧ (fxBlk (.xld 2 0 32767)).freezing 0 = false ∧
      (fxBlk (.xld 2 0 32767)).domOn (foxDom ((fxBlk (.xld 2 0 32767)).phys 0)) = true ∧ (fxBlk (.xld 2 0 32767)).marked 4 ((fxBlk (.xld 2 0 32767)).phys 0) (16384 + 32767) = false) ∧
    (((fxBlk (.gld 2 65532 5)).th 0).blk = .gld 2 65532 5 ∧ 65532 + widthBytes 5 ≤ 0x200000 ∧ (fxBlk (.gld 2 65532 5)).gaWaits 65532 (widthBytes 5) = false ∧
      (fxBlk (.gld 2 65532 5)).gaLate 0 false 65532 (widthBytes 5) = false ∧ (fxBlk (.gld 2 65532 5)).gaMarked 65532 (widthBytes 5) = false ∧
      (∀ n, n < 4 → (fxBlk (.gld 2 65532 5)).canMode n = 0)) ∧
    (((fxBlk (.gst 0 1 7)).th 0).blk = .gst 0 1 7 ∧ (fxBlk (.gst 0 1 7)).gaWaits 0 (widthBytes 1) = false ∧
      (fxBlk (.gst 0 1 7)).gaLate 0 true 0 (widthBytes 1) = false) ∧
    ((fxPosted.th 0).wbuf = [{ handle := 1, off := 63, bytes := [1, 2], ins := none }] ∧ (fxPosted.th 0).blk = .none ∧
      (fxPosted.frame 1).lost = false) ∧
    ((fxMig.eng 0).mig = some 17 ∧ (fxMig.eng 0).migRetire = false ∧ fxMig.freezing 0 = true ∧ fxMig.safePoint 0 = true ∧
      (fxMig.eng 0).heldWr = [] ∧ (fxMig.eng 0).held = [] ∧ (fx {}).freezing 0 = false) ∧
    (fxStopping.get F.foxStatusState 0 = 3 ∧ fxStopping.safePoint 0 = true ∧ fxStopping.mbx = [] ∧ fxStopping.switch = none) := by
  decide +kernel

/-! ## Witnesses: time, phase and the calendar -/

def ringSrc : State := acts [(F.timeCtrlSrc, 0, 1)] up
/-- 2^20 / 2^48 ns are left of a slew. -/
def slewing : State := { up with slew := 2 ^ 20 }
theorem witness_TimeSteering :
    (up.act F.timeCtrlSrc = 0 ∧ (999999999 : BitVec 32).toNat % 2 ^ 30 ≤ 999999999 ∧ 999999999 < (1000000000 : BitVec 32).toNat % 2 ^ 30) ∧
    (ringSrc.act F.timeCtrlSrc ≠ 0) ∧
    (slewing.slew ≠ 0 ∧ slewing.slew.natAbs ≤ min 500 (slewing.get F.timeSlewCfgRatePpm) * 2 ^ 50 / 1000000 ∧ slewing.time.frac < 2 ^ 48 ∧
      0 ≤ ((slewing.time.lin : Int) * 2 ^ 48 + slewing.time.frac) + slewing.slew ∧
      ((slewing.time.lin : Int) * 2 ^ 48 + slewing.time.frac) + slewing.slew < 2 ^ 96 * 1000000000) ∧
    (min 500 (slewing.get F.timeSlewCfgRatePpm) * 2 ^ 50 / 1000000 < ({ slewing with slew := 2 ^ 40 } : State).slew.natAbs) := by decide +kernel
def pps (good : Nat) : State := { acts [(F.timeCtrlSrc, 0, 2), (F.timeCtrlPpsOutEn, 0, 1), (F.timePpsCfgOutWidthMs, 0, 100)] up with ppsGood := good, srcLock := 1 }
/-- The last edge is 1.5 s ago, the output pulse began 100 ms ago. -/
def ppsLost : State := { pps 0 with up := 1500000000, timers := [(tmPps, 1), (tmPpsOut, 1400000001)] }
/-- CAPT0 captures rising edges, its queue has `n` records; CAPT1 drives axis 2. -/
def capt (n : Nat) : State :=
  { acts [(F.timeCapCfgEdge, 0, 1)] up with
    capt := if n = 0 then [] else [(0, List.replicate n { ns := 5, half := true, sec8 := 255, fall := false, ax := 2 ^ 48 - 1 })] }
def captAx : State := acts [(F.phsPxCfgSrc, 2, 5), (F.phsPxCfgSel, 2, 1)] up
theorem witness_PpsAndCapturePins :
    ((pps 7).ppsSteers = true ∧ false = (pps 7).on F.timeCtrlPpsInEdge ∧ ((pps 7).time.ppsErr (7 : Fin 8)).natAbs < 100 * 2 ^ 48) ∧
    (ppsLost.ppsSteers = true ∧ ppsLost.tmPast tmPps 1500000000 = true ∧ ppsLost.srcLock = 1) ∧
    ((pps 0).on F.timeCtrlPpsOutEn = true ∧ (pps 0).act F.timePpsCfgOutWidthMs ≠ 0 ∧ (pps 0).time.ns < 5 ∧
      ppsLost.tmPast tmPpsOut (min 999 (ppsLost.act F.timePpsCfgOutWidthMs) * 1000000) = true) ∧
    ((capt 15).domOn .shrew = true ∧ (capt 15).axesOf 5 = [] ∧ edgeSel ((capt 15).act F.timeCapCfgEdge 0) false = true ∧
      ((capt 15).captQ 0).length < 16 ∧ edgeSel ((capt 16).act F.timeCapCfgEdge 0) false = true ∧ (capt 16).axesOf 5 = [] ∧
      16 ≤ ((capt 16).captQ 0).length) ∧
    (captAx.domOn .shrew = true ∧ captAx.axesOf 5 = [2] ∧ captAx.act F.phsPxCfgSel 2 = 1 ∧ captAx.act F.phsPxCfgCaptEdge 2 = 0 ∧
      edgeSel (captAx.act F.timeCapCfgEdge 1) false = false ∧ 0 < captAx.axMod 2) ∧
    ((capt 0).captQ 0 = [] ∧ (capt 1).captQ 0 ≠ []) := by decide +kernel
/-- Axis 0 is SOFT; mains PLL 0 is enabled and acquires, its last crossing 20 ms ago at the angle 0, with `good` good cycles; PLL 1 is
in holdover for 2 s. -/
def axes (good : Nat) : State :=
  { regs [(F.phsMStatState, 0, 1), (F.phsMStatState, 1, 3), (F.phsMFreq, 0, 50000)]
      (acts [(F.phsPxCfgSrc, 0, 6), (F.phsMCfgEn, 0, 1), (F.phsMCfgHoldS, 1, 2)] up) with
    plls := [(0, { good := good, lastAt := some 3960000000 })], up := 2000000000, timers := [(tmMains 0, 1960000001), (tmMains 1, 1)] }
/-- The angle of PLL 0 is half a cycle off at the crossing. -/
def axesOff : State := { axes 3 with plls := [(0, { good := 3, lastAt := some 3960000000, ang := 2 ^ 23 * 10 ^ 12 })] }
/-- Calendar entry 511 on axis 0 at 10 is armed and due with value 10, action 9; with an interval `iv`, late or not; entry 5 on the
same point goes first where `both` holds. -/
def calAt (iv : Nat) (late : Bool) (both : Bool := false) : State :=
  { regs [(F.phsCtrlRun, 0, 1)] (acts [(F.phsPxCfgSrc, 0, 6), (F.phsCalCtrlEn, 511, 1), (F.phsCalCtrlEn, 5, 1), (F.phsCalCtrlAction, 511, 9), (F.phsCalIvLo, 511, iv), (F.phsCalCtrlCatchup, 511, 1)] up) with
    axes := [(0, { val := 10 })],
    cal := (if both then [(5, { armed := true, p := 10 })] else []) ++ [(511, { armed := true, p := 10, late := late })] }
theorem witness_AxesAndMainsPlls :
    ((axes 7).off = false ∧ (axes 7).domOn .core = true ∧ (axes 7).act F.phsPxCfgSrc 0 = 6 ∧ (axes 7).act F.phsPxCfgSrc 1 ≠ 6) ∧
    ((axes 7).on F.phsMCfgEn 0 = true ∧ (axes 7).domOn .shrew = true ∧ (axes 7).get F.phsMStatState 0 = 1 ∧
      ((axes 7).pll 0).lastAt = some 3960000000 ∧ 2 * 10 ^ 12 / (2 * (axes 7).up + 0 - 3960000000) = 50000 ∧
      (pllDiff ((axes 7).pll 0).ang ((axes 7).mainsRef 0 0)).natAbs < 2 ^ 14 * 10 ^ 12 ∧
      7 ≤ ((axes 7).pll 0).good ∧ ((axes 6).pll 0).good < 7) ∧
    (axesOff.on F.phsMCfgEn 0 = true ∧ axesOff.get F.phsMStatState 0 = 1 ∧
      2 ^ 14 * 10 ^ 12 ≤ (pllDiff (axesOff.pll 0).ang (axesOff.mainsRef 0 7)).natAbs) ∧
    ((acts [(F.phsMCfgEn, 1, 1)] up).on F.phsMCfgEn 1 = true ∧ (up.pll 1).lastAt = none) ∧
    ((axes 7).tmPast (tmMains 0) (2 * (10 ^ 12 / (axes 7).get F.phsMFreq 0)) = true) ∧
    ((axes 7).get F.phsMStatState 1 = 3 ∧ (axes 7).tmPast (tmMains 1) ((axes 7).act F.phsMCfgHoldS 1 * 1000000000) = true) := by
  decide +kernel
theorem witness_CalendarFires :
    ((calAt 0 false).get F.phsCtrlRun ≠ 0 ∧ (calAt 0 false).calActs 511 = true ∧ (calAt 0 false).calTurn 511 = true ∧
      (calAt 0 false).act F.phsCalCtrlAction 511 = 9 ∧ (calAt 0 false).calLate 511 = false ∧ (calAt 0 false).calIv 511 = 0) ∧
    ((calAt 4 false).calActs 511 = true ∧ (calAt 4 false).calTurn 511 = true ∧ (calAt 4 false).calLate 511 = false ∧
      (calAt 4 false).calIv 511 ≠ 0 ∧ (calAt 4 false).on F.phsCalCtrlDir 511 = false) ∧
    ((calAt 4 true).calActs 511 = true ∧ (calAt 4 true).calTurn 511 = true ∧ (calAt 4 true).calLate 511 = true ∧
      (calAt 4 true).act F.phsCalCtrlCatchup 511 ≠ 0) ∧
    ((acts [(F.phsCalCtrlCatchup, 511, 0)] (calAt 4 true)).calLate 511 = true ∧
      (acts [(F.phsCalCtrlCatchup, 511, 0)] (calAt 4 true)).act F.phsCalCtrlCatchup 511 = 0) ∧
    ((calAt 4 false true).calTurn 511 = false ∧ (calAt 4 false true).calTurn 5 = true) ∧
    ((regs [(F.phsCtrlRun, 0, 0)] (calAt 4 false)).get F.phsCtrlRun = 0 ∧ (regs [(F.phsCtrlRun, 0, 0)] (calAt 4 false)).calDue 511 = true ∧
      (calAt 4 false).off = false ∧ (calAt 4 false).domOn .core = true) ∧
    ((regs [(F.phsQwState, 0, 128)] { up with up := 10 ^ 9, timers := [(tmQw 7, 1)] }).window 7 = true ∧
      ({ up with up := 10 ^ 9, timers := [(tmQw 7, 1)] } : State).tmPast (tmQw 7) (min 1000000 (up.act F.phsQwMax 7) * 1000) = true) := by
  decide +kernel

/-! ## Witnesses: APPLY, images, leases -/

def scopeOf (n : Nat) (r : Option ApplyReq) : State := { regs [(F.imgApplyScope, 0, n)] up with apply := r }
def req (scope : Nat) : ApplyReq := { scope := scope, whn := 0, axis := 0, phase := 0 }
/-- A request of the block TIME whose SRC is 3 pending is refused (R276). -/
theorem witness_ApplyIsAllOrNothing :
    (hasBit (0x80000000 : BitVec 32).toNat 30 = false ∧ (scopeOf 8 none).apply = none ∧ (scopeOf 8 none).get F.imgApplyScope ≠ 0 ∧
      (0x80000000 : BitVec 32).toNat % 4 = 0 ∧ (0x80000003 : BitVec 32).toNat % 4 = 3 ∧ hasBit (0x80000003 : BitVec 32).toNat 30 = false) ∧
    ((scopeOf 8 (some (req 8))).apply ≠ none ∧ (scopeOf 0 none).apply = none ∧ (scopeOf 0 none).get F.imgApplyScope = 0) ∧
    ((scopeOf 8 (some (req 8))).apply = some (req 8) ∧ (req 8).mbx = none ∧ (scopeOf 8 (some (req 8))).applyDue (req 8) = true ∧
      (scopeOf 8 (some (req 8))).refuses State.owlBad 8 = none ∧ (∀ b, b < 19 → hasBit (req 8).scope b = true → b = 3)) ∧
    ((regs [(F.timeCtrlSrc, 0, 3)] (scopeOf 1 (some (req 1)))).refuses State.owlBad 1 = some 0) := by decide +kernel
/-- A request whose commit edge has come. -/
def reqDue : ApplyReq := { req 8 with whn := 2, due := true }
theorem witness_ApplyRequestsAndCancels :
    (up.off = false ∧ up.domOn .core = true ∧ (scopeOf 8 none).apply = none ∧ (scopeOf 8 none).get F.imgApplyScope ≠ 0 ∧
      (0x80000000 : BitVec 32).toNat % 4 ≠ 3 ∧ hasBit (0x80000000 : BitVec 32).toNat 30 = false) ∧
    ((scopeOf 8 (some (req 8))).apply = some (req 8) ∧ (req 8).mbx = none ∧ (req 8).due = false ∧ (req 8).again = false) ∧
    ((scopeOf 8 (some reqDue)).apply = some reqDue ∧ reqDue.due = true ∧ hasBit (0xC0000000 : BitVec 32).toNat 30 = true) := by
  decide +kernel
def commits : State := { up with commitReq := 3 }
def leased : State := { regs [(F.imgLeaseStatOpen, 0, 1)] up with commitReq := 1, leaseNs := 1000000 }
def snapAsked (whn clr : Bool) : State := { regs [(F.imgCsnapStatPending, 0, 1)] up with snapWhn := whn, snapClr := clr }
theorem witness_CommitEdges :
    (commits.switch = none ∧ 0 < commits.commitReq ∧ commits.get F.imgLeaseStatOpen = 0 ∧ commits.get F.imgCsnapStatPending = 0) ∧
    (leased.switch = none ∧ 0 < leased.commitReq ∧ leased.get F.imgLeaseStatOpen ≠ 0) ∧
    ((snapAsked true true).get F.imgCsnapStatPending ≠ 0 ∧ (snapAsked true true).snapWhn = true ∧ (snapAsked true true).snapDue = false ∧
      up.commitReq = 0 ∧ up.off = false ∧ up.domOn .core = true) := by decide +kernel
def snapHeld : State := regs [(F.imgCsnapStatHeld, 0, 1)] up
theorem witness_LeasesAndSnapshots :
    (up.off = false ∧ up.domOn .core = true ∧ (0x4000 : BitVec 32).toNat % 2 ^ 14 = 0 ∧ (10001 : BitVec 32).toNat % 2 ^ 14 ≠ 0) ∧
    leased.get F.imgLeaseStatOpen ≠ 0 ∧ leased.leaseNs ≠ 0 ∧ ({ leased with leaseNs := 0 } : State).get F.imgLeaseStatOpen ≠ 0 ∧
    (up.get F.imgCsnapStatPending = 0 ∧ up.get F.imgCsnapStatHeld = 0) ∧ snapHeld.get F.imgCsnapStatHeld ≠ 0 ∧
    ((snapAsked false true).snapMbx = none ∧ (snapAsked false true).get F.imgCsnapStatPending ≠ 0 ∧ (snapAsked false true).snapDue = false) ∧
    (({ snapAsked true false with snapDue := true } : State).snapWhn = true ∧ (snapAsked true false).snapDue = false) ∧
    (({ snapAsked false true with snapMbx := some 3 } : State).snapMbx = some 3) := by decide +kernel
def banks (o : Nat) : State := regs [(F.memBankOwnOwner, 31, o)] up
/-- Flow 0 is an open OUT flow of 4 bytes at image offset 0x100 with a staleness timer. -/
def flow0 : State :=
  acts [(F.flowCtrlOpen, 0, 1), (F.flowCtrlDir, 0, 2), (F.flowSegOfs, 0, 0x100), (F.flowSegLen, 0, 4), (F.flowTmoTmoEn, 0, 1), (F.flowCtrlMatchEn, 0, 1)] up
theorem witness_HostMemoryWritesAndStaleFlows :
    ((banks 16).domOn .host = true ∧ (banks 16).hostOwns 0x1FFFFE 2 = true ∧ (∀ j, j < 2 → (banks 16).clearing (0x1FFFFE + j) = false)) ∧
    ((banks 3).domOn .host = true ∧ (0x1FFFFE : BitVec 24).toNat < 0x200000 ∧ (banks 3).refusedAt (· == 16) 0x1FFFFE 2 = some 0x1FFFFE) ∧
    (flow0.domOn .host = true ∧ 0x800000 ≤ (0x800100 : BitVec 24).toNat ∧ (0x800100 : BitVec 24).toNat + 4 ≤ 0x900000 ∧
      (∀ j, j < 4 → flow0.inOut (0x800100 - 0x800000 + j) = true) ∧ flow0.inOut (0x800104 - 0x800000) = false ∧
      flow0.inOut (0x900000 - 1 - 0x800000) = false) ∧
    (flow0.staleTimer 0 = true ∧ ({ flow0 with up := 1000000, timers := [(tmStale 0, 1)] } : State).tmPast (tmStale 0) (flow0.act F.flowTmoTmoUs 0 * 1000) = true) := by decide +kernel


/-! ## Witnesses: the fabric and the ports -/

/-- Bytes of a frame to 00:01:02:03:04:05, `n` long. -/
def bytes (n : Nat) : List Byte := [0, 1, 2, 3, 4, 5, 9, 9, 9, 9, 9, 9, 8, 0] ++ List.replicate (n - 14) 7
/-- P0 and T0 have link. -/
def linked : State := regs [(F.swPStatLinkUp, 0, 1), (F.swPStatLinkUp, 8, 1), (F.ethStatusLink, 0, 1), (F.t1sStatusLink, 0, 1)] up
/-- Flow 1023 takes every frame from P0; FDB entry 511 takes 00:01:02:03:04:05 of any VLAN. -/
def withFlow : State := acts [(F.flowCtrlOpen, 1023, 1), (F.flowCtrlMatchEn, 1023, 1), (F.flowInports, 1023, 1), (F.flowTargets, 1023, 0x80000001)] up
def withFdb : State := acts [(F.swFdbCtrlValid, 511, 1), (F.swFdbCtrlAnyVid, 511, 1), (F.swFdbDaLo, 511, 0x02030405), (F.swFdbDaHi, 511, 1)] up
/-- P0 has no cell left in its reserve or the shared pool. -/
def full : State := regs [(F.swPUseRes, 0, 80), (F.swShared, 0, 0), (F.swCellsFree, 0, 0)] linked
def hd : Hdr := parseHdr (bytes 48)
theorem witness_ReceptionAndLookup_lookup :
    (withFlow.flowMatch 0 hd (bytes 48) = some 1023) ∧ (withFdb.flowMatch 0 hd (bytes 48) = none ∧ withFdb.fdbMatch hd = some 511) ∧
    (up.flowMatch 0 hd (bytes 48) = none ∧ up.fdbMatch hd = none) := by decide +kernel
theorem witness_ReceptionAndLookup_rejection :
    (∀ p : Fin 32, p = 0 ∨ p = 8 → p.val < 12 ∧ linked.linkUp p = true ∧ linked.domOn (portDom p) = true ∧ linked.compat p = false ∧
      linked.act F.swPMirRxN p = 0) ∧
    (cellsFor 9600 ≤ (linked.charge 0 (cellsFor 9600)).1 + (linked.charge 0 (cellsFor 9600)).2) ∧ (parseHdr (bytes 64)).etype ≠ 0x8808 ∧
    ((full.charge 0 1).1 + (full.charge 0 1).2 < cellsFor 64 ∧ full.linkUp 0 = true) ∧ (up.linkUp 0 = false) ∧
    ((bytes 63).length < 64 ∧ (bytes 64).length = 64 ∧ linked.maxFrame 0 = 9600 ∧ linked.maxFrame 8 = 1522) ∧
    ((linked.lookup 0 (parseHdr ((bytes 64).take 48)) ((bytes 64).take 48) none).targets = []) := by decide +kernel
/-- Frame 5 of 64 bytes pushed by LE0 to P0, then in the queues of the fabric. -/
def pushed : State := { linked with subm := [{ a := 16, b := 7 * 32, h := 5 }], frames := [(5, { len := 64, stageOf := 0 })] }
def queued : State := { linked with pinQ := [{ a := 0, b := 31, h := 5 }], midQ := [{ a := 31, b := 0, h := 5 }], frames := [(5, { len := 64, todo := [0, 31] })] }
/-- Frame 5 is all-or-none and waits; its deadline is `dl`. -/
def held : State := { linked with pinQ := [{ a := 0, b := 31, h := 5 }], frames := [(5, { len := 64, aon := true, todo := [0] })] }
theorem witness_FramesMoveThroughTheFabric :
    (14 ≤ (16 : Fin 32).val ∧ takeFirst (fun d => d.a == (16 : Fin 32).val) pushed.subm = some ({ a := 16, b := 7 * 32, h := 5 }, []) ∧
      7 * 32 % 32 = 0 ∧ hasBit (7 * 32) 10 = false ∧ (pushed.frame 5).lost = false ∧
      pushed.judge 5 false 0 (bitsAt (7 * 32) 5 3) (pushed.frame 5).len = .accept ∧ pushed.act F.swPMirRxN 16 = 0 ∧
      takeFirst (fun d => d.a == (16 : Fin 32).val) queued.subm = none) ∧
    (takeFirst (fun d => d.a == (0 : Fin 32).val && d.b == (31 : Fin 32).val) queued.pinQ = some ({ a := 0, b := 31, h := 5 }, []) ∧
      (queued.frame 5).aon = false ∧ (held.frame 5).aon = true ∧
      takeFirst (fun d => d.a == (0 : Fin 32).val && d.b == (31 : Fin 32).val) held.pinQ = some ({ a := 0, b := 31, h := 5 }, [])) ∧
    (takeFirst (fun d => d.a == (31 : Fin 32).val && d.b == (0 : Fin 32).val) queued.midQ = some ({ a := 31, b := 0, h := 5 }, []) ∧
      (∀ e ∈ queued.frames, e.2.lost = false)) := by
  decide +kernel
/-- Frame 5 waits at output `o` in class 3. -/
def waiting (o : Nat) : State :=
  { regs [(F.foxStatusState, 15, 2)] (acts [(F.swAgeEn, 3, 1)] linked) with
    outQ := [{ a := o, b := 3, h := 5 }], frames := [(5, { len := 64, cls := 3, todo := [o] })] }
def sending : State := { linked with txing := [(0, 5)], frames := [(5, { len := 64, todo := [0], cpl := some (63, 9) })] }
/-- Frame 5 is older than the limit of its class. -/
def aged : State := { waiting 0 with up := 10 ^ 12 }
/-- The target of the held frame takes no more than 40 bytes; its deadline lies ahead. -/
def heldFull : State :=
  { acts [(F.ethMaxlen, 0, 40)] held with frames := [(5, { len := 64, aon := true, todo := [0], aonDl := 9 })] }
theorem witness_OutputsStartAndFinishFrames :
    (∀ o : Fin 32, o = 0 ∨ o = 31 → SMap.get 0 (waiting o.val).txing o = 0 ∧ (waiting o.val).pickFrame o = some 5 ∧
      (waiting o.val).plcaHolds o = false ∧ (∀ e ∈ (waiting o.val).frames, e.2.lost = false) ∧ (waiting o.val).tooOld ((waiting o.val).frame 5) = false ∧ ((waiting o.val).frame 5).lost = false ∧ (waiting o.val).act F.swPMirTxN o = 0 ∧
      ((waiting o.val).frame 5).todo = [o.val] ∧ ((waiting o.val).frame 5).cpl = none ∧ ((waiting o.val).frame 5).hcpl = none) ∧
    ((waiting 0).ptpAt 0 ((waiting 0).frame 5).all = none) ∧
    (SMap.get 0 sending.txing 0 = 5 ∧ (sending.port 0).slots = none ∧ (sending.frame 5).todo = [0] ∧ (sending.frame 5).sent = [] ∧
      (sending.frame 5).drops = [] ∧ (sending.frame 5).owner = none ∧ (sending.frame 5).cpl = some (63, 9) ∧ (sending.frame 5).hcpl = none ∧
      (∀ e ∈ sending.txing, e.2 = 5 → e.1 = 0)) ∧
    ((aged.headOf 0 3 = some 5 ∧ aged.tooOld (aged.frame 5) = true ∧ SMap.get 0 aged.txing 0 = 0) ∧ (waiting 0).headOf 0 3 = some 5 ∧
      (waiting 0).tooOld ((waiting 0).frame 5) = false) ∧
    (held.aonAt 0 31 = [5] ∧ (held.frame 5).aonDl ≤ held.up ∧ (held.frame 5).flow = none ∧ held.act F.swPMirRxN 0 = 0 ∧
      (held.frame 5).todo.all (fun o => held.judge 5 true o (held.frame 5).cls (held.frame 5).len == .accept) = true ∧
      (heldFull.frame 5).todo.all (fun o => heldFull.judge 5 true o (heldFull.frame 5).cls (heldFull.frame 5).len == .accept) = false ∧
      heldFull.aonAt 0 31 = [5] ∧ heldFull.up < (heldFull.frame 5).aonDl ∧ up.aonAt 0 31 = []) := by
  decide +kernel
/-- P0 (forced mode) and T0 are enabled and down; P13 holds its frames. -/
def down : State := regs [(F.swPStatHolding, 13, 1)] (acts [(F.ethCfgEn, 0, 1), (F.ethCfgAnEn, 0, 0), (F.t1sCfgEn, 0, 1)] up)
def downHeld : State := { down with up := 10 ^ 12, timers := [(tmHold 13, 1)] }
theorem witness_LinksGoDownAndUp :
    (linked.linkUp 0 = true ∧ linked.linkUp 8 = true ∧ down.linkUp 0 = false ∧ down.linkUp 8 = false) ∧
    (downHeld.tmPast (tmHold 13) (downHeld.holdMs 13 * 1000000) = true ∧ down.tmPast (tmHold 13) (down.holdMs 13 * 1000000) = false) ∧
    (∀ p : Fin 12, p = 0 ∨ p = 8 → down.retired 0 p = false ∧ down.domOn (portDom p) = true ∧ down.iso = false ∧
      (down.port p).lostAt = none) ∧
    (down.on F.ethCfgEn 0 = true ∧ down.on F.ethCfgAnEn 0 = false ∧ down.on F.t1sCfgEn 0 = true) := by decide +kernel
def anPort : State := acts [(F.ethCfgEn, 7, 1), (F.ethCfgAnEn, 7, 1), (F.ethAnAdvModes, 7, 24)] up
theorem witness_NegotiationResolves :
    (anPort.on F.ethCfgEn 7 = true ∧ anPort.on F.ethCfgAnEn 7 = true ∧ anPort.retired 0 7 = false ∧ anPort.domOn .phyg = true ∧
      anPort.linkUp 7 = false) ∧
    (anMode (Nat.land (anPort.act F.ethAnAdvModes 7) (8 : BitVec 13).toNat) = some (1, true)) ∧
    (anMode (Nat.land (anPort.act F.ethAnAdvModes 7) (7 : BitVec 13).toNat) = none) ∧ anPort.off = false ∧
    (regs [(F.swPStatLinkUp, 7, 1)] anPort).linkUp 7 = true := by decide +kernel
/-- P0 sends frame 5 at half duplex after `a` collisions; it is paused, its LPI asserted. -/
def halfDup (a : Nat) (sl : Option Nat) : State :=
  { regs [(F.ethStatusFd, 0, 0)] linked with txing := [(0, 5)], ports := [(0, { att := a, slots := sl })], frames := [(5, { len := 64, todo := [0] })] }
def pauser : State :=
  regs [(F.swPStatResActive, 0, 1), (F.ethStatusTxPause, 0, 1), (F.ethStatusRxPause, 0, 1), (F.ethStatusFd, 0, 1), (F.ethStatusPaused, 0, 1),
        (F.ethStatusEeeAct, 0, 1)]
    (acts [(F.ethFcQuanta, 0, 65535), (F.ethFcTxPauseEn, 0, 1), (F.ethFcRxPauseEn, 0, 1), (F.ethEeeEn, 0, 1), (F.ethEeeGateWake, 0, 0)] linked)
/-- P0 is in LPI; calendar entry 0 opens its gate at 2,000 on a TIME axis. -/
def inLpi : State :=
  { regs [(F.ethStatusLpiTx, 0, 1)] (acts [(F.ethEeeGateWake, 0, 1), (F.phsPxCfgSrc, 0, 1), (F.phsCalCtrlAction, 0, 4)] linked) with
    cal := [(0, { armed := true, p := 2000 })] }
/-- P0 at 10 s, every timer of it started at 0, its last activity long ago; `h` is in transmission. -/
def later (h : Nat) (s : State) : State :=
  { s with up := 10 ^ 10, timers := [(tmBack 0, 1), (tmPause 0, 1), (tmOpp 8, 1), (tmBeacon 0, 1), (tmThr 0, 1)], txing := if h = 0 then [] else [(0, h)] }
theorem witness_HalfDuplexPauseAndLpi :
    (∀ a ∈ [14, 15], SMap.get 0 (halfDup a none).txing 0 ≠ 0 ∧ (halfDup a none).get F.ethStatusFd 0 = 0 ∧ ((halfDup a none).port 0).slots = none) ∧
    (((halfDup 14 none).port 0).att + 1 < 16 ∧ 16 ≤ ((halfDup 15 none).port 0).att + 1) ∧
    (SMap.get 0 (halfDup 1 (some 1)).txing 0 ≠ 0 ∧ ((halfDup 1 (some 1)).port 0).slots = some 1 ∧
      (later 5 (halfDup 1 (some 1))).tmPast (tmBack 0) (1 * 512 * (halfDup 1 (some 1)).psPerByte 0 / 8000) = true) ∧
    (pauser.get F.swPStatResActive 0 ≠ 0 ∧ pauser.act F.ethFcQuanta 0 ≠ 0 ∧ pauser.on F.ethFcTxPauseEn 0 = true ∧
      pauser.get F.ethStatusTxPause 0 ≠ 0 ∧ pauser.get F.ethStatusFd 0 ≠ 0 ∧ pauser.get F.ethStatusLink 0 ≠ 0 ∧
      (later 0 pauser).tmPast (tmPause 0) (pauser.act F.ethFcQuanta 0 * 256 * pauser.psPerByte 0 / 8000) = true ∧ SMap.get 0 (later 5 pauser).txing 0 ≠ 0) ∧
    (pauser.linkUp 0 = true ∧ pauser.on F.ethFcRxPauseEn 0 = true ∧ pauser.get F.ethStatusRxPause 0 ≠ 0 ∧ pauser.get F.ethStatusPaused 0 ≠ 0 ∧
      (pauser.port 0).pausedAt + (pauser.port 0).pausedQ * 512 * pauser.psPerByte 0 / 8000 ≤ pauser.up ∧
      ({ pauser with ports := [(0, { pausedQ := 9 })] } : State).up < (({ pauser with ports := [(0, { pausedQ := 9 })] } : State).port 0).pausedQ * 512 * pauser.psPerByte 0 / 8000) ∧
    (pauser.get F.ethStatusEeeAct 0 ≠ 0 ∧ pauser.on F.ethEeeEn 0 = true ∧ pauser.outQ.any (fun d => d.a == 0) = false ∧
      SMap.get 0 (later 0 pauser).txing 0 = 0 ∧ pauser.on F.ethEeeGateWake 0 = false ∧ pauser.get F.ethStatusLpiTx 0 = 0 ∧
      ((later 0 pauser).port 0).busyAt + pauser.act F.ethEeeLpiIdleUs 0 * 1000 ≤ (later 0 pauser).up ∧ pauser.get F.ethStatusLpiRx 0 = 0) ∧
    ((regs [(F.ethStatusLpiRx, 0, 1)] pauser).get F.ethStatusLpiRx 0 ≠ 0) ∧
    (inLpi.on F.ethEeeGateWake 0 = true ∧ inLpi.get F.ethStatusLpiTx 0 ≠ 0 ∧ ∃ d, inLpi.nextGate 0 = some d ∧ d ≤ inLpi.wakeNs 0 + 1000) := by decide +kernel
def plca (cur : Nat) : State :=
  regs [(F.t1sStatusPlcaAct, 0, 1), (F.phsQwState, 0, 255), (F.t1sThrCur, 0, cur)]
    (acts [(F.t1sCfgEn, 0, 1), (F.t1sCfgNodeCnt, 0, 1), (F.t1sCfgPlcaEn, 0, 1), (F.t1sCfgNodeId, 0, 254), (F.t1sThrAdaptEn, 0, 1), (F.ethCfgCompat, 7, 1)] linked)
theorem witness_T1sAndCompatibility :
    ((plca 0).on F.t1sCfgPlcaEn 0 = true ∧ (plca 0).linkUp 8 = true ∧ (plca 0).act F.t1sCfgNodeId 0 ≠ 0 ∧ (plca 0).get F.t1sStatusPlcaAct 0 ≠ 0 ∧
      (later 0 (plca 0)).tmPast (tmBeacon 0) 400000 = true ∧ (plca 0).tmPast (tmBeacon 0) 400000 = false ∧ SMap.get 0 (plca 0).txing 8 = 0 ∧
      (later 0 (plca 0)).tmPast (tmOpp 8) ((plca 0).act F.t1sPlcaTmrToTmr 0 * 100) = true ∧ ((plca 0).port 8).burst = 0) ∧
    ((plca 0).on F.t1sThrAdaptEn 0 = true ∧ (plca 0).window 5 = true ∧ (plca 30).get F.t1sThrCur 0 < 31 ∧ 0 < (plca 1).get F.t1sThrCur 0 ∧
      (plca 31).get F.t1sThrCur 0 ≤ 32 ∧ (later 0 (plca 0)).tmPast (tmThr 0) 10000 = true ∧ SMap.get none (plca 0).arriving 8 = none) ∧
    ((plca 0).on F.t1sCfgEn 0 = true ∧ down.on F.t1sCfgEn 0 = true ∧ down.linkUp 8 = false ∧ down.retired 0 8 = false ∧
      down.domOn .phyt = true ∧ down.iso = false) ∧
    ((plca 0).domOn (portDom 7) = true ∧ (plca 0).on F.ethCfgCompat 7 = true ∧ (plca 0).get F.imgCsnapStatHeld = 0) ∧
    ((plca 0).domOn (portDom 6) = true ∧ (plca 0).on F.ethCfgCompat 6 = false ∧
      (regs [(F.pwrStateDomainsOn, 0, 1)] (plca 0)).domOn (portDom 6) = false) := by decide +kernel

/-! ## Witnesses: CAN -/

/-- Controller 0 is on with a receive buffer 255, locked by `hold`; buffer 0 transmits. -/
def can (hold : Nat) : State :=
  { acts [(F.canCfgMode, 0, 1), (F.canBcfgMode, 255, 1), (F.canLockEn, 0, 1)] up with canLocks := if hold = 0 then [] else [(255, hold)] }
def frame8 : CanFrame := { fmt := 0, id := 0, data := List.replicate 8 5 }
def detecting (rounds : Nat) : State :=
  State.tmStart { acts [(F.canCfgMode, 0, 3), (F.canDetRounds, 0, rounds), (F.canDetc, 0, 5)] up with up := 0 } (tmCanDet 0) |> fun s => { s with up := 10 ^ 12 }
def ttSched (act : Nat) : State :=
  { regs [(F.canStatusTtMasterAct, 0, act)]
      (acts [(F.canCfgMode, 0, 1), (F.canTtCfgTtEn, 0, 1), (F.canTtCfgMaster, 0, 1), (F.canBcfgMode, 5, 2), (F.canBcfgTrigEn, 5, 1)] up) with
    cram := [(28 * 65536 + 72 * 5 + 3, 128)] }
/-- Controller 0 has begun to integrate at 0; it is now `t` ns later. -/
def integrating (t : Nat) : State := { can 0 with up := t, timers := [(tmCanInt 0, 1)] }
theorem witness_CanReceivesAndDetects_reception :
    ((can 0).canMode 0 = 1 ∧ (can 0).get F.canStatusEstate 0 < 2 ∧ ((can 0).can 0).cur = none ∧ (can 0).on F.canTtCfgTtEn 0 = false ∧ frame8.fmt.val = 0) ∧
    ((up.canBufs 0 1).find? (up.canHit 0 frame8) = none) ∧
    (((can 0).canBufs 0 1).find? ((can 0).canHit 0 frame8) = some 255 ∧ (can 0).canHolder 0 255 = 0 ∧ frame8.data.length ≤ 64 ∧
      ((can 0).can 0).seq < 256) ∧
    (((can 1).canBufs 0 1).find? ((can 1).canHit 0 frame8) = some 255 ∧ (can 1).canHolder 0 255 ≠ 0 ∧ (can 1).canChain 0 255 256 = [] ∧
      (can 1).get F.canStatusEstate 0 = 0 ∧ (can 1).get F.canErrcTec 0 < 128 ∧ (can 1).get F.canErrcRec 0 < 128) ∧
    ((integrating 0).canInt 0 = true ∧ (integrating (10 ^ 9)).canInt 0 = false ∧ (integrating 0).canMode 0 ≠ 0) ∧
    (({ can 0 with actv := (acts [(F.canCfgPex, 0, 1)] (can 0)).actv } : State).on F.canCfgPex 0 = true ∧ (can 0).canFmt 0 2 = false) ∧
    ((acts [(F.canCfgXlEn, 0, 1), (F.canBcfgEvtHost, canI 0 255, 1)] (can 0)).on F.canCfgXlEn 0 = true ∧
      (acts [(F.canCfgXlEn, 0, 1), (F.canBcfgEvtHost, canI 0 255, 1)] (can 0)).on F.canBcfgEvtHost (canI 0 255) = true ∧
      64 < { frame8 with fmt := 2, data := List.replicate 65 5 }.data.length) := by decide +kernel
theorem witness_CanReceivesAndDetects_lock :
    ((can 0).canHolder 0 255 = 0 ∧ (can 1).canHolder 0 255 = holderOf .host ∧ (can 66).canHolder 0 255 ≠ holderOf .host ∧
      (can 66).canHolder 0 255 ≠ 0 ∧ (can 66).on F.canLockEn 0 = true ∧ (can 66).canMode 0 = 1 ∧
      ({ can 66 with up := 10 ^ 9, timers := [(tmCanLock (canI 0 255), 1)] } : State).tmPast (tmCanLock (canI 0 255)) ((can 66).act F.canLockLockUs 0 * 1000) = true ∧
      (can 66).tmPast (tmCanLock (canI 0 255)) ((can 66).act F.canLockLockUs 0 * 1000) = false) := by decide +kernel
/-- The last reference message is a second ago; buffer 5 has had its attempt. -/
def ttLate (act : Nat) : State := { ttSched act with up := 10 ^ 9, timers := [(tmCanRef 0, 1)] }
def ttTried : State := { ttSched 1 with cans := [(0, { tried := [5] })] }
theorem witness_CanReceivesAndDetects_detection :
    ((detecting 2).canMode 0 = 3 ∧ (detecting 2).get F.canDetResDone 0 = 0 ∧
      (detecting 2).tmPast (tmCanDet 0) ((detecting 2).act F.canDetWinMs 0 * 1000000) = true ∧ (detecting 2).canInt 0 = false ∧
      (detecting 2).canFmt 0 frame8.fmt = true ∧ ((detecting 2).canBufs 0 1).find? ((detecting 2).canHit 0 frame8) = none ∧
      (detecting 2).canNextCand 0 ((detecting 2).can 0).round (((detecting 2).can 0).cand + 1) = some (1, 0)) ∧
    ((detecting 1).canMode 0 = 3 ∧ (detecting 1).canNextCand 0 ((detecting 1).can 0).round (((detecting 1).can 0).cand + 1) = none) ∧
    ((ttSched 1).ttMaster 0 = true ∧ (ttSched 1).get F.canStatusTtMasterAct 0 ≠ 0 ∧ (ttSched 0).ttMaster 0 = true ∧
      (ttSched 0).get F.canStatusTtMasterAct 0 = 0 ∧ (ttSched 1).ttPeriod 0 ≠ ((ttSched 1).can 0).refIx ∧
      (ttLate 0).tmPast (tmCanRef 0) ((ttLate 0).ntuNs 0 ((ttLate 0).act F.canTtCycCycleNtu 0 + 16 * ((ttLate 0).act F.canTtCfgPrio 0 + 1))) = true ∧
      (ttLate 0).tmPast (tmCanRef 0) ((ttLate 0).ntuNs 0 ((ttLate 0).act F.canTtCycCycleNtu 0 + 256)) = true ∧
      (ttSched 0).tmPast (tmCanRef 0) ((ttSched 0).ntuNs 0 ((ttSched 0).act F.canTtCycCycleNtu 0 + 256)) = false) ∧
    ((ttSched 1).on F.canTtCfgTtEn 0 = true ∧ (ttSched 1).act F.canBcfgMode (canI 0 5) = 2 ∧ (ttSched 1).on F.canBcfgTrigEn (canI 0 5) = true ∧
      (ttSched 1).canFull 0 5 = true ∧ ((ttSched 1).can 0).tried.contains 5 = false ∧
      (ttSched 1).ttTime 0 ≤ (ttSched 1).act F.canBtrigTrigNtu (canI 0 5) + (ttSched 1).act F.canTtCycTxWin 0 ∧
      ((ttLate 1).act F.canBtrigTrigNtu (canI 0 5) + (ttLate 1).act F.canTtCycTxWin 0 < (ttLate 1).ttTime 0) ∧
      (ttSched 1).act F.canBtrigTrigNtu (canI 0 5) ≤ (ttSched 1).ttTime 0 ∧ (ttTried.can 0).tried.contains 5 = true ∧
      (ttSched 1).get F.canTtStatCycle 0 % 2 ^ (ttSched 1).act F.canBtrigRepLog (canI 0 5) = (ttSched 1).act F.canBtrigOfs (canI 0 5)) := by
  decide +kernel
/-- Buffer 255 transmits what it holds: 8 bytes, or the frame 5 of engine 0 in Sett. -/
def canTx (sett : Bool) (cur : Option CanTx) : State :=
  { acts [(F.canCfgMode, 0, 1), (F.canBcfgMode, 255, 2)] up with
    cram := if sett then [(28 * 65536 + 72 * 255 + 1, 8), (28 * 65536 + 72 * 255 + 3, 160), (28 * 65536 + 72 * 255 + 8, 5)]
            else [(28 * 65536 + 72 * 255 + 3, 128)],
    frames := [(5, { len := 2048, owner := some 0 })], cans := [(0, { cur := cur })] }
def canBus (estate : Nat) (due : Option Nat) : State :=
  { regs [(F.canStatusEstate, 0, estate)] (acts [(F.canCfgMode, 0, 1)] up) with cans := [(0, { due := due })] }
/-- Its frame is longer than CAN XL allows. -/
def canLong : State := { canTx true none with frames := [(5, { len := 2049, owner := some 0 })] }
def canRec : State := { canBus 3 none with up := 10 ^ 12, timers := [(tmCanRec 0, 1)] }
theorem witness_CanTransmitsAndConfinesErrors :
    ((canTx false none).canMode 0 = 1 ∧ (canTx false none).act F.canBcfgMode (canI 0 255) = 2 ∧ (canTx false none).canFull 0 255 = true ∧
      (canTx false none).canIsSett 0 255 = false ∧ ((canTx false none).can 0).cur ≠ some (.buf 255) ∧
      (canTx false none).off = false ∧ (canTx false none).domOn .core = true) ∧
    ((canLong.frame 5).owner = some 0 ∧ 2048 < (canLong.frame 5).len ∧ canLong.canIsSett 0 255 = true ∧ canLong.canFull 0 255 = true) ∧
    ((canTx false (some (.ref 9))).can 0).cur = some (.ref 9) ∧
    ((canTx true none).canMode 0 = 1 ∧ (canTx true none).act F.canBcfgMode (canI 0 255) = 2 ∧ (canTx true none).canFull 0 255 = true ∧
      (canTx true none).canIsSett 0 255 = true ∧ (canTx true none).canHandle 0 255 = 5 ∧
      ((canTx true none).frame 5).owner = some ((canTx true none).act F.canBcfgEvtLe (canI 0 255)) ∧
      (canTx true none).act F.canBcfgEvtLe (canI 0 255) < 16 ∧ ((canTx true none).frame 5).len = 2048) ∧
    (((canTx false (some (.buf 255))).can 0).cur = some (.buf 255) ∧ (canTx false (some (.buf 255))).canIsSett 0 255 = false) ∧
    ((canBus 1 (some 63)).canActive 0 = true ∧ (canBus 1 (some 63)).canInt 0 = false ∧ (canTx false none).canActive 0 = true ∧
      (canTx false none).canPick 0 = some 255 ∧ (canBus 1 none).canPick 0 = none ∧ (canBus 1 (some 63)).canMode 0 = 1 ∧ (canBus 1 (some 63)).get F.canStatusEstate 0 < 2 ∧ ((canBus 1 (some 63)).can 0).cur = none ∧
      ((canBus 1 (some 63)).can 0).due = some 63 ∧ ((canBus 1 none).can 0).due = none ∧
      (∀ b ∈ (canBus 1 none).canBufs 0 2, (canBus 1 none).canIsSett 0 b = false) ∧
      (canBus 1 none).get F.canErrcTec 0 < 512 ∧ (canBus 1 none).get F.canErrcRec 0 < 512) ∧
    ((canBus 3 none).canMode 0 = 1 ∧ (canBus 3 none).get F.canStatusEstate 0 = 3 ∧
      (canRec.canMode 0 ≠ 0 ∧ canRec.tmPast (tmCanRec 0) (canRec.canBits 0 1408) = true) ∧ canRec.get F.canStatusEstate 0 = 3 ∧
      (canBus 3 none).tmPast (tmCanRec 0) ((canBus 3 none).canBits 0 1408) = false) := by decide +kernel

/-! ## Witnesses: Shrew and the gateway -/

/-- Shrew engine 31 in a state. -/
def shr (r : Shrew) : State := { up with shrews := [(31, r)] }
def tick : ShTick := { pins := 0 }
theorem witness_ShrewCoreInstructions :
    (shr { st := .running }).shRuns 31 tick ∧
    (bitsAt 0x807 4 5 = 0 ∧ bitsAt 0x807 9 2 = 0 ∧ bitsAt 0x807 0 4 < 8) ∧ (bitsAt 0xA07 4 5 = 0 ∧ bitsAt 0xA07 9 2 = 1 ∧ bitsAt 0xA07 0 4 < 8) ∧
    (bitsAt 0xC0F 4 5 = 0 ∧ bitsAt 0xC0F 9 2 = 2) ∧ bitsAt 0x87F 7 4 = 0 ∧ (0xBFF : BitVec 12).getLsbD 10 = false ∧
    (bitsAt 0x80F 10 2 ≠ 3 ∧ bitsAt 0x80F 4 6 = 0) ∧
    (bitsAt 0x6E0 9 3 < 4 ∧ bitsAt 0x6E0 6 3 < 4 ∧ bitsAt 0x6E0 4 2 ≠ 3 ∧ bitsAt 0x6E0 0 4 = 0) ∧ (bitsAt 0xE07 9 2 = 3 ∧ (0xE07 : BitVec 12).getLsbD 11 = true) ∧
    (bitsAt 0x8C0 9 3 = 4 ∧ bitsAt 0x8C0 6 3 = 3 ∧ bitsAt 0xA80 9 3 = 5) ∧ bitsAt (0x200 : BitVec 10).toNat 0 9 = 0 := by
  unfold State.shRuns; decide +kernel
/-- Engine 31 shifts out of its transmit latch, and shifts in a word of 8 bits. -/
def shrLink (r : Shrew) : State := acts [(F.shrCfgLinkTx, 31, 1), (F.shrCfgLinkRx, 31, 1), (F.shrCfgWlen, 31, 8)] (shr { r with st := .running })
theorem witness_ShrewLinkedShifts :
    (shrLink {}).shRuns 31 tick ∧ ((shrLink {}).on F.shrCfgLinkTx 31 && ((shrLink {}).shr 31).c == 0) = true ∧
    ((shrLink {}).shr 31).tlat = none ∧ ((shrLink { tlat := some 7 }).shr 31).tlat ≠ none ∧
    ((shrLink {}).on F.shrCfgLinkRx 31 = true ∧ (shrLink {}).act F.shrCfgWlen 31 ≤ min 24 (((shrLink {}).shr 31).c + 8)) ∧
    ((shrLink {}).shr 31).rlat = none ∧ ((shrLink { rlat := some 7 }).shr 31).rlat ≠ none := by
  unfold State.shRuns; decide +kernel
theorem witness_ShrewPinsAndControl_instructions :
    (shr { st := .running }).shRuns 31 tick ∧
    ((0x8FF : BitVec 12).getLsbD 8 = false ∨ (0x8FF : BitVec 12).getLsbD 10 = false) ∧
    ((0xAFF : BitVec 12).getLsbD 8 = false ∧ (0xAFF : BitVec 12).getLsbD 10 = false) ∧
    ((24 : BitVec 12).getLsbD 8 = false ∧ bitsAt 24 0 5 ≤ 24 ∧ (24 : BitVec 12).getLsbD 11 = false ∧ bitsAt 24 9 2 = 0 ∧
      (shr {}).on F.shrCfgLinkTx 31 = false ∧ (shr {}).on F.shrCfgLinkRx 31 = false) ∧
    (bitsAt 0x3F 6 6 = 0 ∧ (shr {}).axesOf 4 = [] ∧ bitsAt 0x8FF 8 3 = 0 ∧ (shr {}).on F.shrCfgQinv 31 = false) ∧
    ((shr { st := .running, qprev := some 3 }).shr 31).qprev = some 3 := by
  unfold State.shRuns; decide +kernel
theorem witness_ShrewPinsAndControl_control :
    ((shr {}).domOn .shrew = true ∧ ((shr {}).shr 31).st ≠ .retired ∧ ((shr {}).shr 31).st.live = false ∧ ((shr {}).shr 31).swapPend = false ∧
      ((shr {}).shr 31).kLeft = 0) ∧
    (((shr { st := .running }).shr 31).st ≠ .retired ∧ ((shr { st := .running }).shr 31).st.live = true) ∧
    (((shr { st := .waiting, swapPend := true }).shr 31).swapPend = true ∧ ((shr { st := .waiting, swapPend := true }).shr 31).safe = true) ∧
    (((shr { swapPend := true, kLeft := 5 }).shr 31).st.live = false ∧ (shr {}).off = false) := by
  decide +kernel
theorem witness_ShrewFifosAndLatches :
    (((shr { rlat := some 5, rxf := List.replicate 7 1 }).shr 31).rlat = some 5 ∧ ((shr { rlat := some 5, rxf := List.replicate 7 1 }).shr 31).rxf.length < 8) ∧
    (((shr { txf := [9] }).shr 31).tlat = none ∧ ((shr { txf := [9] }).shr 31).txf = 9 :: [] ∧ ((shr { txf := [9] }).shr 31).txf.length < 8) ∧
    8 ≤ ((shr { txf := List.replicate 8 1 }).shr 31).txf.length ∧ ((shr { rxf := [9] }).shr 31).rxf = 9 :: [] ∧ ((shr {}).shr 31).rxf = [] ∧
    (shr {}).domOn .shrew = true := by decide +kernel


/-- Gateway thread 7 is thread 3 of engine 15, woken; entry 4095 of table A is `w0` to `w3`, its source at 0x100, its target at 0x200. -/
def gw (w0 : Nat) : State :=
  { up with
    actv := [(4947834830848, 1), (4948339195911, 1), (4948360167431, 3), (4948364361735, 15), (4948371701767, 1)],
    threads := [(63, { st := .waitph, evp := 1, rxq := [5] })], frames := [(5, { len := 64, inport := 12, flow := some 0 })],
    cram := [(65520, BitVec.ofNat 8 w0), (65523, BitVec.ofNat 8 (w0 / 2 ^ 24)), (65529, 1), (65531, 8), (65533, 2), (65535, 8)] }
def gwE (w0 : Nat) : GwEntry := { w0 := w0, w1 := 0, w2 := 0x08000100, w3 := 0x08000200 }
theorem witness_GatewayPassesWriteTheirTargets_runs : ∀ w ∈ [0x80000000, 0x80000001, 0xC0000000],
    (gw w).commitReq = 0 ∧ ((gw w).updTh 63 (fun x => { x with evp := 0 })).gwRuns 7 = true ∧ (gw w).hwq = [] ∧ (gw w).gwRuns 7 = true ∧ ((gw w).th ((gw w).gwThread 7)).evp.getLsbD 0 = true ∧ (gw w).gwHead 7 = some 5 ∧
    ((gw w).frame 5).flow = some 0 := by decide +kernel
/-- The entries below 4095 of the table are zero. -/
theorem gw_zero (w e : Nat) (h : e < 4095) : ((gw w).gwEntry 0 e).en = false := by
  have hb : (gw w).gwBank 0 = 0 := by
    unfold State.gwBank; rw [if_pos rfl]; exact (by decide +kernel : (gw 0).act F.gwCfgBankA 0 = 0)
  have hg : ∀ x, x < 65520 → SMap.get 0 (gw w).cram x = 0 := by
    intro x hx
    simp only [gw, SMap.get]
    repeat rw [if_neg (by omega)]
  simp only [State.gwEntry, hb, GwEntry.en, State.cramBytes, SMap.slice]
  rw [hg _ (by omega), hg _ (by omega), hg _ (by omega), hg _ (by omega)]
  rfl
/-- So only entry 4095 can run. -/
theorem gw_entries (w : Nat) (fl : Option Nat) (hr : (gw w).retired 3 ((gw w).gwBank 0) = false) :
    (gw w).gwEntries 0 7 fl = [(4095, (gw w).gwEntry 0 4095)].filter (fun p =>
      p.2.en && hasBit ((gw w).act F.gwThrGroups 7) p.2.group && (match fl with | none => !p.2.frame | some x => p.2.frame && p.2.flow == x)) := by
  unfold State.gwEntries
  rw [hr, if_neg Bool.false_ne_true, List.range_succ]
  simp only [List.map_append, List.filter_append, List.map_cons, List.map_nil]
  rw [List.filter_eq_nil_iff.mpr (by
    simp only [List.mem_map, List.mem_range]
    rintro _ ⟨e, he, rfl⟩
    simp [gw_zero w e he]), List.nil_append]
  all_goals (cases fl <;> rfl)
theorem witness_GatewayPassesWriteTheirTargets_good : (gw 0x80000000).gwEntries 0 7 none = [(4095, gwE 0x80000000)] ∧
    (gw 0x80000000).act F.gwCfgSel = 0 ∧ (gw 0x80000000).gwBad (gwE 0x80000000) = false ∧ (gwE 0x80000000).remote = false ∧
    (locSpec 0x08000100).len ≠ 0 ∧ (locSpec 0x08000200).len ≠ 0 :=
  ⟨by rw [gw_entries _ _ (by decide +kernel)]; decide +kernel, by decide +kernel⟩
theorem witness_GatewayPassesWriteTheirTargets_bad : (gw 0x80000001).gwEntries 0 7 none = [(4095, gwE 0x80000001)] ∧
    (gw 0x80000001).gwBad (gwE 0x80000001) = true := ⟨by rw [gw_entries _ _ (by decide +kernel)]; decide +kernel, by decide +kernel⟩
theorem witness_GatewayPassesWriteTheirTargets_frame : (gw 0xC0000000).gwEntries 0 7 (some 0) = [(4095, gwE 0xC0000000)] ∧
    (gw 0xC0000000).gwBad (gwE 0xC0000000) = false ∧ (gw 0x80000000).gwEntries 0 7 (some 0) = [] :=
  ⟨by rw [gw_entries _ _ (by decide +kernel)]; decide +kernel, by decide +kernel, by rw [gw_entries _ _ (by decide +kernel)]; decide +kernel⟩
/-- Remote 255 belongs to gateway thread 7 and is polled; `p` whether its poll is pending, `m` its missed polls. -/
def remote (p m : Nat) : State :=
  regs [(F.gwRstatPending, 255, p), (F.gwRstatMissRun, 255, m)]
    (acts [(F.gwRcfgEn, 255, 1), (F.gwRcfgPeriodMs, 255, 10), (F.gwRcfgThr, 255, 7), (F.gwRcfgDbEn, 255, 1)] (gw 0))
/-- A message of 16 bytes waits for gateway thread 7. -/
def message (l : List Byte) : State :=
  { gw 0 with frames := [(5, { Frame.ofBytes l with inport := 31 })],
              hwq := [{ seq := 0x0201, tag := 1, remote := 255, ofs := 0, width := 1, value := 0, sent := true }] }
def width (w n : Nat) : State := { regs [(F.gwHwqDataWidth, 0, w)] up with hwq := List.replicate n { seq := 1, tag := 1, remote := 0, ofs := 0, width := 1, value := 0 } }
theorem witness_GatewayRemotesAndQueue_polls :
    (∀ p ∈ [0, 1], (remote p 2).domOn .core = true ∧ (remote p 2).on F.gwCfgEn = true ∧ (remote p 2).on F.gwRcfgEn 255 = true ∧
      (remote p 2).act F.gwRcfgPeriodMs 255 ≠ 0) ∧
    ((remote 0 0).off = false ∧ ({ remote 0 0 with up := 10 ^ 9, timers := [(tmPoll 255, 1)] } : State).tmPast (tmPoll 255) (min 1000 ((remote 0 0).act F.gwRcfgPeriodMs 255) * 1000000) = true ∧
      (remote 0 0).tmPast (tmPoll 255) (min 1000 ((remote 0 0).act F.gwRcfgPeriodMs 255) * 1000000) = false) ∧
    ((remote 0 0).get F.gwRstatPending 255 = 0 ∧ (remote 0 0).gwRuns 7 = true ∧ (remote 0 0).gwRoom 15 = true ∧
      (remote 0 0).on F.gwRcfgDbEn 255 = true) ∧
    ((remote 1 2).get F.gwRstatPending 255 ≠ 0 ∧ 2 ≤ (remote 1 2).get F.gwRstatMissRun 255 ∧ (remote 1 2).get F.gwRstatLost 255 = 0) := by
  decide +kernel
theorem witness_GatewayRemotesAndQueue_messages :
    (∀ l ∈ [gwMsg 3 255 0 0 0 0 0 0, gwMsg 4 255 0 0 0 1 0 0, gwMsg 4 255 0x0201 0 1 0 0 0, gwMsg 5 255 0 0 0 0 0 0],
      (message l).gwHead 7 = some 5 ∧ (message l).gwIsMsg 5 = true ∧ (message l).frameBytes 5 0 16 = l) ∧
    gwMsgBad (gwMsg 5 255 0 0 0 0 0 0) = true ∧ (gwMsgBad (gwMsg 3 255 0 0 0 0 0 0) = false ∧ byteAt (gwMsg 3 255 0 0 0 0 0 0) 0 = 3) ∧
    (gwMsgBad (gwMsg 4 255 0 0 0 1 0 0) = false ∧ byteAt (gwMsg 4 255 0 0 0 1 0 0) 0 = 4 ∧ byteAt (gwMsg 4 255 0 0 0 1 0 0) 7 ≠ 0 ∧
      hasBit (byteAt (gwMsg 4 255 0 0 0 1 0 0) 6) 0 = false) ∧
    (gwMsgBad (gwMsg 4 255 0x0201 0 1 0 0 0) = false ∧ hasBit (byteAt (gwMsg 4 255 0x0201 0 1 0 0 0) 6) 0 = true ∧
      ((message []).hwq.find? (fun r => r.sent && r.seq == 1 + 256 * 2)).isSome = true) := by decide +kernel
theorem witness_GatewayRemotesAndQueue_pushes :
    ((width 1 63).domOn .core = true ∧ (width 1 63).get F.gwHwqDataWidth ≠ 0 ∧ ((width 1 63).hwq.filter (fun r => !r.sent)).length < 64) ∧
    ((width 0 0).get F.gwHwqDataWidth = 0 ∧ 64 ≤ ((width 1 64).hwq.filter (fun r => !r.sent)).length) ∧
    ((regs [(F.gwStatHandover, 0, 1)] up).get F.gwStatHandover ≠ 0 ∧ up.retired 3 (up.gwBank (1 - up.act F.gwCfgSel)) = false ∧ (regs [(F.gwStatHandover, 0, 1)] up).domOn .core = true) := by
  decide +kernel

/-! ## Witnesses: Owl -/

/-- Output 0 is enabled and high under the demand of the host; `o` the hidden state of Owl. -/
def owl (o : Owl) : State :=
  { regs [(F.owlStatusLocked, 0, 0), (F.owlOutStatEnergised, 0, 1)] (acts [(F.owlOutEn, 0, 1), (F.owlCfgTpMs, 0, 10)] up) with owl := o, up := 5000000000 }
theorem witness_FaultsLockTheOutputs :
    ((owl {}).owl.halted = false ∧ (owl {}).act F.owlCfgTpMs ≠ 0 ∧ (owl {}).energised 0 = true ∧ (owl {}).act F.owlGuardReact = 0) ∧
    ((acts [(F.owlGuardReact, 0, 1)] (owl {})).act F.owlGuardReact ≠ 0) ∧
    ((owl {}).tpDue 0 = true ∧ (owl {}).off = false ∧ ({ owl {} with timers := [(tmTp 0, 4999999999)] } : State).tpDue 0 = false) ∧
    (owl { intAt := some 4000000001 }).owl.halted = false := by decide +kernel
theorem witness_OwlCommandsKeepTheLatch :
    owlCommand .forceLock = true ∧ State.reset.latchSafe = true ∧ State.reset.locked = true ∧ (owl {}).latchSafe = true ∧
    exec .ackStuck State.reset = .next State.reset := ⟨rfl, by decide +kernel, by decide +kernel, by decide +kernel, rfl⟩
/-- Thread entry 15 watches thread 0 of engine 0, in WAIT with 3 good restarts; thread 0 reports. -/
def tw : State :=
  { regs [(F.owlTwStat, 0, 2 * 4 ^ 15)] (acts [(F.owlTwEn, 15, 1), (F.owlTwMinUs, 15, 1000)] (owl {})) with
    owlRep := [{ k := 0, value := some 0xE01 }], tws := [(15, { last := some 4999000000, n := 3 })] }
theorem witness_DemandsAndSafetyThreads :
    (demandOk (0xE01 : BitVec 32).toNat = true ∧ demandOk (0xF01 : BitVec 32).toNat = false ∧ (owl {}).on F.owlOutSrc 0 = false ∧
      (owl {}).outFree 0 = true ∧ (owl {}).outFree 1 = false) ∧
    (tw.owl.halted = false ∧ tw.owlRep = [{ k := 0, value := some 0xE01 }] ∧
      (∀ j, j < 16 → (tw.on F.owlTwEn j = true ∧ 4 * tw.act F.owlTwLe j + tw.act F.owlTwT j = 0 ↔ j = 15)) ∧
      (tw.tw 15).last = some 4999000000 ∧ 4999000000 + tw.act F.owlTwMinUs 15 * 1000 ≤ tw.up ∧
      demandOk (0xE01 : BitVec 24).toNat = true ∧ tw.on F.owlTwEn 15 = true ∧ tw.act F.owlTwReact 15 = 0 ∧ tw.twSt 15 = 2) ∧
    (({ tw with timers := [(tmTw 15, 1)] } : State).tmPast (tmTw 15) (tw.act F.owlTwMaxUs 15 * 1000) = true ∧
      tw.tmPast (tmTw 15) (tw.act F.owlTwMaxUs 15 * 1000) = false ∧ tw.off = false ∧ (owl {}).off = false) ∧
    ((acts [(F.owlTwReact, 15, 1)] tw).act F.owlTwReact 15 = 1) := by decide +kernel
/-- Connection 255 expects 11 bytes with sequence 0 in RUN; `l` is tapped for it. -/
def usc (l : List Byte) (x : Conn) (st : Nat) : State :=
  { regs [(F.owlCStatState, 255, st), (F.owlCSeq, 255, 0)]
      (acts [(F.owlCCfgEn, 255, 1), (F.owlCCfgMode, 255, 1), (F.owlCPosSeqWin, 255, 1), (F.owlCPosChkMax, 255, 2), (F.owlCPathSingleMax, 255, 3)] up) with
    taps := [{ c := 255, port := 12, len := 64, msg := l, ax := 7 }], conns := [(255, x)] }
/-- CRC-32C of seven zero bytes, most significant byte first. -/
def good7 : List Byte := List.replicate 7 0 ++ toBe (crc32c (List.replicate 7 0)) 4
/-- Every timer of connection 255 was started at 0 and 10 s have passed. -/
def timed (s : State) : State := { s with up := 10 ^ 10, timers := [(tmBackstop 255, 1), (tmSkew 255, 1)] }
/-- Connection 255 has two paths, 12 and 13; a copy came on 12. -/
def two (w : Option (Nat × List Byte)) : State :=
  acts [(F.owlCCfgMode, 255, 2), (F.owlCPathPathA, 255, 12), (F.owlCPathPathB, 255, 13)] (usc good7 { win := w } 2)
theorem witness_SafeChannelConnections :
    ((usc good7 {} 2).owl.halted = false ∧ (usc good7 {} 2).uscMode 255 = 1 ∧ (usc good7 {} 2).get F.owlCStatState 255 = 2 ∧
      (usc good7 {} 2).act F.owlCPosOfs 255 + (usc good7 {} 2).uscLen 255 ≤ 64 ∧ (usc good7 {} 2).uscLen 255 = 11 ∧
      uscCrcOk good7 = true ∧ beBytes (good7.take 4) = (usc good7 {} 2).act F.owlCId 255 ∧
      beBytes ((good7.drop 4).take 3) = (usc good7 {} 2).get F.owlCSeq 255 ∧ 0 < (usc good7 {} 2).act F.owlCPosSeqWin 255 ∧
      (usc good7 {} 2).on F.owlCCfgTstamp 255 = false) ∧
    (uscCrcOk (List.replicate 11 1) = false ∧ ((usc [] {} 2).conn 255).chk + 1 < (usc [] {} 2).act F.owlCPosChkMax 255 ∧
      (usc [] { chk := 1 } 2).act F.owlCPosChkMax 255 ≤ ((usc [] { chk := 1 } 2).conn 255).chk + 1) ∧
    ((usc [] { dl := some 7, late := true, back := true } 2).get F.owlCStatState 255 ≠ 0 ∧
      (usc [] { dl := some 7, late := true, back := true } 2).get F.owlCStatState 255 ≠ 3 ∧
      ((usc [] { dl := some 7, late := true, back := true } 2).conn 255).dl = some 7 ∧
      ((usc [] { dl := some 7, late := true, back := true } 2).conn 255).late = true ∧
      ((usc [] { dl := some 7, late := true, back := true } 2).conn 255).back = true ∧
      (timed (usc [] { back := true } 2)).tmPast (tmBackstop 255) ((usc [] {} 2).act F.owlCBackstop 255 * 1000) = true ∧
      (usc [] {} 2).tmPast (tmBackstop 255) ((usc [] {} 2).act F.owlCBackstop 255 * 1000) = false) ∧
    (¬ 2 * ((((usc [] { dl := some 7 } 2).axVal 0) + (usc [] {} 2).axMod 0 - 7 % (usc [] {} 2).axMod 0) % (usc [] {} 2).axMod 0) < (usc [] {} 2).axMod 0) ∧
    ((acts [(F.owlCCfgMode, 255, 2)] (usc [] { win := some (1, [5]), singles := 1 } 2)).uscMode 255 = 2 ∧
      ((usc [] { win := some (1, [5]), singles := 1 } 2).conn 255).win = some (1, [5]) ∧
      (usc [] { win := some (1, [5]), singles := 1 } 2).healedPath 255 = false ∧
      ((usc [] { win := some (1, [5]), singles := 1 } 2).conn 255).singles + 1 < (usc [] {} 2).act F.owlCPathSingleMax 255) ∧
    ((timed (usc [] { win := some (1, [5]), singles := 1 } 2)).skewPast 255 = true ∧ (usc [] { win := some (1, [5]) } 2).skewPast 255 = false) ∧
    ((two (some (1, [5]))).taps ≠ [] ∧ 2 ≤ (two none).uscMode 255 ∧ (two none).get F.owlCStatState 255 ≠ 0 ∧
      (12 = (two none).act F.owlCPathPathA 255 ∨ 12 = (two none).act F.owlCPathPathB 255) ∧ (two none).skewPast 255 = false ∧
      ((two none).conn 255).win = none ∧ ((two (some (0, [5]))).conn 255).win = some (0, [5]) ∧ ((two (some (1, [5]))).conn 255).win = some (1, [5])) ∧
    ((usc [] {} 2).off = false ∧ (acts [(F.owlCPosOfs, 255, 60), (F.owlCPosChkMax, 255, 1)] (usc good7 {} 2)).act F.owlCPosOfs 255 = 60) ∧
    (usc [] {} 4).get F.owlCStatState 255 = 4 := by decide +kernel
def ack (a : Nat) (o : Owl) : State := regs [(F.owlStatusAck, 0, a)] (owl o)
/-- No safety password is set; the token is zero, or has its last bit set. -/
def noPw (v : Nat) : State := State.put (regs [(F.owlToken, 3, v)] (owl { nonceOk := true, req := true })) F.owlStatusNopw 0 1
theorem noPw_expect (v : Nat) (l m : List Byte) : (noPw v).expect l m = List.replicate 16 0 := by
  unfold State.expect noPw; rw [State.get_put]; rfl
theorem noPw_token (v : Nat) : (noPw v).fieldBytes F.owlToken 4 = (regs [(F.owlToken, 3, v)] (owl { nonceOk := true, req := true })).fieldBytes F.owlToken 4 := by
  have h : ∀ i, (noPw v).get F.owlToken i = (regs [(F.owlToken, 3, v)] (owl { nonceOk := true, req := true })).get F.owlToken i :=
    fun i => State.get_put_id _ _ _ _ (by decide)
  unfold State.fieldBytes; simp only [h]
theorem witness_UnlockWindowAndAuthorisation :
    ((ack 0 {}).owl.halted = false ∧ (ack 0 {}).get F.owlStatusAck ≠ 3) ∧
    (∀ a ∈ [4900000000, 0], (ack 1 { ackAt := a }).get F.owlStatusAck = 1 ∧ a + 100000000 ≤ (ack 1 { ackAt := a }).up ∧
      (ack 1 { ackAt := a }).up ≤ a + 30000000000 ∧ (ack 1 { ackAt := a }).denOk = true) ∧
    ((ack 1 { ackAt := 4900000001 }).up < 4900000001 + 100000000) ∧ (ack 3 {}).get F.owlStatusAck = 3 ∧ (ack 2 {}).get F.owlStatusAck = 2 ∧
    (({ ack 1 {} with up := 10 ^ 11 } : State).owl.ackAt + 30000000000 < 10 ^ 11 ∧ ({ ack 3 {} with timers := [(tmAckHigh, 1)] } : State).tmPast tmAckHigh 1000000000 = true ∧
      ({ ack 2 {} with up := 10 ^ 11, timers := [(tmUnlock, 1)] } : State).tmPast tmUnlock 10000000000 = true ∧ (ack 3 {}).tmPast tmAckHigh 1000000000 = false ∧
      (ack 0 {}).off = false ∧ (ack 0 {}).denOk = true ∧ (owl { nonceOk := false }).owl.nonceOk = false) ∧
    ((noPw 0).owl.nonceOk = true ∧ (noPw 0).owl.req = true ∧
      (noPw 0).fieldBytes F.owlToken 4 = (noPw 0).expect [0x43, 0x4F, 0x4E, 0x46] []) ∧
    ((noPw (2 ^ 31)).fieldBytes F.owlToken 4 ≠ (noPw (2 ^ 31)).expect [0x43, 0x4F, 0x4E, 0x46] []) ∧
    ((ack 0 { toFlash := [(4096, [1])] }).pfail = false ∧ (ack 0 { toFlash := [(4096, [1])] }).owl.toFlash = (4096, [1]) :: []) := by
  rw [noPw_expect, noPw_expect, noPw_token, noPw_token]; decide +kernel


/-! ## Witnesses: the host interface -/

/-- PCIe with its link up. -/
def pcie : State := regs [(F.mbxHostifLink, 0, 1), (F.glbStatusBooted, 0, 1), (F.glbStatusSession, 0, 1)] up
/-- A field whose reset value is per device, given a value. -/
def pin (f : Field) (i v : Nat) (s : State) : State := { s with live := (f.key i, v) :: s.live }
/-- The bytes of a command block; mailbox 7 posted, and what a fetch returns. -/
def blk (op len fl : Nat) : List Byte := toLe op 2 ++ toLe 5 2 ++ toLe len 4 ++ toLe fl 4 ++ toLe 0 4 ++ List.replicate 12 0
def posted : State := { pcie with mbx := [(7, { phase := .posted, addr := 0x1000 })] }
theorem witness_DoorbellsMailboxesAndLink :
    (pcie.domOn .host = true ∧ pcie.off = false ∧ pcie.get F.mbxHostifSel = 0 ∧ pcie.d3hot = false ∧ ({ pcie with irqMode := 1 } : State).irqMode = 1 ∧
      hasBit ((regs [(F.mbxD2hPend, 0, 2 ^ 31)] pcie).get F.mbxD2hPend) 31 = true ∧ (0x80000000 : BitVec 32).getLsbD 31 = true ∧
      hasBit (pcie.get F.mbxD2hMask) 31 = false ∧ pcie.get F.mbxH2dPend < 2 ^ 32) ∧
    (pcie.get F.mbxStatState 7 ≠ 1 ∧ (regs [(F.mbxStatState, 7, 1)] pcie).get F.mbxStatState 7 = 1) ∧
    ((posted.mb 7).phase = .posted ∧ posted.d3hot = false ∧ posted.fetch 0 0x1000 16 none = none ∧
      posted.fetch 0 0x1000 16 (some (blk 1 28 0)) = some ((blk 1 28 0).take 16) ∧
      posted.fetch 0 0x1000 28 (some (blk 1 28 0)) = some (blk 1 28 0)) ∧
    (let u : State := { posted with d3hot := true, mbx := [(7, { phase := .posted, addr := 0x1000, space := 1 })] }
     u.d3hot = true ∧ (u.mb 7).space = 1 ∧ (u.mb 7).phase = .posted ∧ u.fetch 1 0x1000 16 none ≠ none) ∧
    ((parseBlk (posted.mb 7) (blk 1 28 0)).isRight = true ∧ parseBlk (posted.mb 7) (blk 1 0 0) = .inl 4 ∧
      parseBlk (posted.mb 7) (blk 1 28 2) = .inl 0x11 ∧ parseBlk (posted.mb 7) (blk 3 28 0) = .inl 0x12) ∧
    (pcie.pwe = [] ∧ ({ pcie with pwe := [{ tag := 1, cause := 5 }] } : State).pwe = { tag := 1, cause := 5 } :: []) ∧
    (pcie.get F.mbxHostifLink ≠ 0 ∧ up.get F.mbxHostifSel = 0 ∧ up.get F.mbxHostifLink = 0) := by decide +kernel
def htxN (n : Nat) (len : Nat) : State := { pcie with htx := List.replicate n { tag := 1, addr := 0, space := 0, cls := 3, len := len } }
/-- A ring of two entries of 128 bytes in host memory; frame 5 of `n` bytes waits for the host. -/
def hrx (n : Nat) : State :=
  { acts [(F.mbxHrxCfgEn, 0, 1), (F.mbxHrxCfgEntries, 0, 2), (F.mbxHrxCfgBufSize, 0, 128)] pcie with
    outQ := [{ a := 14, b := 0, h := 5 }], frames := [(5, { len := n, todo := [14] })] }
theorem witness_HostFramesInAndOut :
    (pcie.domOn .host = true ∧ pcie.off = false ∧ pcie.hrxRoom = false ∧ (hrx 112).off = false ∧ (hrx 112).domOn .host = true ∧
      (let u : State := { pcie with htx := [{ tag := 1, addr := 0x1FFFFF, space := 1, cls := 3, len := 1 }] }
       u.stageUse 16 + cellsFor 1 ≤ u.stageCap 16) ∧
      (let u : State := { htxN 1 9600 with stage := [(16, (htxN 1 9600).stageCap 16)] }
       u.stageCap 16 < u.stageUse 16 + cellsFor 9600) ∧
      (let u := acts [(F.mbxHrxCfgSpace, 0, 1)] (hrx 112)
       u.act F.mbxHrxCfgSpace = 1 ∧ u.hostOwns 0 128 = true) ∧
      (htxN 31 60).htx.length < 32 ∧ (htxN 31 60).htx.length + (htxN 31 60).hostBusy + (htxN 31 60).htxc.length < 64 ∧
      32 ≤ (htxN 32 60).htx.length) ∧
    ((htxN 1 0).htx = [{ tag := 1, addr := 0, space := 0, cls := 3, len := 0 }] ∧ 9600 < 9601 ∧
      (htxN 1 9600).d3hot = false ∧ (htxN 1 9600).stageUse 16 + cellsFor 9600 ≤ (htxN 1 9600).stageCap 16 ∧
      (htxN 1 9600).get F.mbxHostifSel = 0 ∧ (htxN 1 9600).get F.mbxHostifLink ≠ 0 ∧ 9600 ≤ (List.replicate 9600 (0 : Byte)).length) ∧
    (pcie.htxc = [] ∧ ({ pcie with htxc := [(1, 2, 3)] } : State).htxc = (1, 2, 3) :: []) ∧
    (∀ n ∈ [112, 113], (hrx n).hrxRoom = true ∧ ((hrx n).takeHead 14 ((hrx n).outQ.length + 1)).2 = some 5 ∧
      (((hrx n).takeHead 14 ((hrx n).outQ.length + 1)).1.frame 5).len = n ∧ (hrx n).act F.mbxHrxCfgSpace = 0) := by decide +kernel

/-! ## Witnesses: commands -/

/-- Mailbox 0 holds a command that may start, with parameters from byte 16 on. -/
def cmd (op : Nat) (ps : List Byte) : State :=
  { pcie with mbx := [(0, { phase := .ready, addr := 0x1000, op := op, tag := 1, params := ps ++ List.replicate 96 0, len := 112 + ps.length })] }
def waitingCmd (op : Nat) : State := { pcie with mbx := [(0, { phase := .waiting, op := op, addr := 0x1000 })] }
theorem cmd_runs_1 : ∀ p ∈ [(0x01, toLe 0x100 2 ++ toLe 0x100 2), (0x01, toLe 0x101 2 ++ toLe 0x103 2), (0x02, []), (0x40, toLe 0 4), (0x40, toLe 10001 4),
    (0x41, []), (0x50, [1, 1, 1, 0, 1, 0, 0, 0]), (0x50, [0, 0]), (0x50, [4, 0]), (0x50, [2]), (0x50, [3])],
    (cmd p.1 p.2).cmdRuns 0 p.1 := by unfold State.cmdRuns; decide +kernel
def denied : State := regs [(F.glbStatusSession, 0, 0)] (cmd 0x41 [])
def malformed : State := cmd 0x41 [1]
def csnap (pend heldv : Nat) (mbx : Option Nat) (op : Byte) : State :=
  { regs [(F.imgCsnapStatPending, 0, pend), (F.imgCsnapStatHeld, 0, heldv)] (cmd 0x50 [op]) with snapMbx := mbx }
theorem witness_SessionLeaseAndSnapshotCommands :
    (cmdOpcode (.leaseClose 0) = some (0, 0x41) ∧ (denied.mb 0).phase = .ready ∧ (denied.mb 0).op = 0x41 ∧ denied.cmdMay 0 (denied.mb 0) = true ∧
      denied.cmdDenied 0 (denied.mb 0) = true ∧ malformed.cmdMay 0 (malformed.mb 0) = true ∧ malformed.cmdDenied 0 (malformed.mb 0) = false ∧
      (malformed.mb 0).bad = true) ∧
    (((cmd 0x01 (toLe 0x100 2 ++ toLe 0x100 2)).mb 0).p 16 2 ≤ 0x100 ∧ 0x100 ≤ ((cmd 0x01 (toLe 0x100 2 ++ toLe 0x100 2)).mb 0).p 18 2 ∧
      0x100 < ((cmd 0x01 (toLe 0x101 2 ++ toLe 0x103 2)).mb 0).p 16 2) ∧
    (((cmd 0x40 (toLe 0 4)).mb 0).p 16 4 = 0 ∧ ((cmd 0x40 (toLe 10001 4)).mb 0).p 16 4 ≠ 0) ∧
    (((cmd 0x50 [1, 1, 1, 0, 1, 0, 0, 0]).mb 0).p 16 1 = 1 ∧ ((cmd 0x50 [1, 1, 1, 0, 1, 0, 0, 0]).mb 0).p 17 1 ≤ 1 ∧
      ((cmd 0x50 [1, 1, 1, 0, 1, 0, 0, 0]).mb 0).p 18 1 ≤ 1 ∧ ((cmd 0x50 [1, 1, 1, 0, 1, 0, 0, 0]).mb 0).p 20 4 ≠ 0 ∧
      (cmd 0x50 [1]).get F.imgCsnapStatPending = 0 ∧ (cmd 0x50 [1]).get F.imgCsnapStatHeld = 0) ∧
    ((csnap 0 1 none 1).get F.imgCsnapStatHeld ≠ 0 ∧ ((cmd 0x50 [0]).mb 0).p 16 1 = 0 ∧ 3 < ((cmd 0x50 [4]).mb 0).p 16 1 ∧
      ((csnap 0 1 none 2).mb 0).p 16 1 = 2 ∧ (csnap 0 1 none 2).get F.imgCsnapStatHeld ≠ 0) ∧
    (((csnap 1 0 none 3).mb 0).p 16 1 = 3 ∧ (csnap 1 0 none 3).get F.imgCsnapStatPending ≠ 0 ∧ (csnap 1 0 none 3).snapMbx = none ∧
      (csnap 1 0 (some 7) 3).snapMbx = some 7) ∧
    ((csnap 1 0 (some 0) 1).snapMbx = some 0 ∧ (csnap 1 0 (some 0) 1).get F.imgCsnapStatPending = 1 ∧
      (csnap 1 0 (some 0) 1).snapWhn = false ∧ (csnap 1 0 (some 7) 3).snapDue = false ∧ (7 : Nat) ≠ 0 ∧
      (let u : State := { csnap 1 0 (some 0) 1 with snapWhn := true, snapDue := true }
       u.snapDue = true ∧ u.snapMbx = some 0 ∧ u.get F.imgCsnapStatPending = 1)) ∧
    (((cmd 0x50 [1, 1]).mb 0).p 17 1 = 1 ∧ ((cmd 0x50 [1, 1]).mb 0).p 18 1 = 0 ∧ ((cmd 0x50 [1, 1]).mb 0).p 20 4 = 0 ∧
      (csnap 0 0 none 3).get F.imgCsnapStatPending = 0) := by decide +kernel
/-- Parameters of APPLY, FLOW_OPEN and FLOW_CLOSE: WHEN, AXIS, N, SCOPE, then 12 bytes with TMO_US in the last four. -/
def ap (whn axis : Byte) (n scope tmo : Nat) : List Byte := [whn, axis] ++ toLe n 2 ++ toLe scope 4 ++ List.replicate 8 0 ++ toLe tmo 4 ++ List.replicate 4 0
/-- One flow entry: context `i` with OPEN `o`. -/
def fe (i o : Nat) : List Byte := toLe i 2 ++ toLe (i / 65536) 2 ++ toLe (o * 2 ^ 31) 4 ++ List.replicate 48 0
theorem cmd_runs_2 : ∀ p ∈ [(0x20, ap 4 0 0 8 0), (0x20, ap 0 0 0 0 0), (0x20, ap 0 3 0 8 0), (0x20, ap 2 0 0 8 1), (0x20, ap 2 0 0 8 0), (0x30, ap 0 0 0 0 0),
    (0x30, ap 0 3 1 0 0 ++ fe 1023 1), (0x30, ap 0 0 1 0 0 ++ fe 1024 1), (0x30, ap 0 0 73 0 0 ++ List.replicate 4088 0), (0x31, ap 0 0 1 0 0 ++ toLe 1023 2), (0x31, ap 0 0 1 0 0 ++ toLe 1024 2),
    (0x90, [0, 15, 1]), (0x90, [1]), (0x90, [2]), (0x90, [3])],
    (cmd p.1 p.2).cmdRuns 0 p.1 := by unfold State.cmdRuns; decide +kernel
def applying (l : List Byte) (r : ApplyReq) : State := { cmd 0x20 l with apply := some r }
theorem witness_ApplyFlowAndRingCommands_apply :
    (3 < ((cmd 0x20 (ap 4 0 0 8 0)).mb 0).p 16 1 ∧ ((cmd 0x20 (ap 0 3 0 8 0)).mb 0).p 17 1 = 3 ∧ (cmd 0x20 []).apply = none ∧
      ((cmd 0x20 (ap 0 0 0 0 0)).mb 0).p 20 4 % 2 ^ 19 = 0 ∧ ((cmd 0x20 (ap 0 3 0 8 0)).mb 0).p 20 4 % 2 ^ 19 = 8 ∧
      ((cmd 0x20 (ap 2 0 0 8 1)).mb 0).p 16 1 = 2 ∧ ((cmd 0x20 (ap 2 0 0 8 1)).mb 0).p 32 4 ≠ 0 ∧ ((cmd 0x20 (ap 2 0 0 8 0)).mb 0).p 32 4 = 0) ∧
    (let r : ApplyReq := { scope := 8, whn := 0, axis := 0, phase := 0, mbx := some 0 }
     (applying [] r).apply = some r ∧ r.mbx = some 0 ∧ (applying [] r).applyDue r = true ∧ ((applying [] r).mb 0).op = 0x20 ∧
     (applying [] r).refuses State.owlBad 8 = none ∧ (regs [(F.timeCtrlSrc, 0, 3)] (applying [] r)).refuses State.owlBad 1 = some 0) := by
  decide +kernel
theorem witness_ApplyFlowAndRingCommands_flows :
    (((cmd 0x30 (ap 0 0 0 0 0)).mb 0).p 18 2 = 0 ∧ ((cmd 0x30 (ap 0 0 0 0 0)).mb 0).p 16 1 = 0 ∧ 72 < ((cmd 0x30 (ap 0 0 73 0 0)).mb 0).p 18 2) ∧
    ((∀ e ∈ flowEntries 1 (fe 1023 1), e.opens = true ∧ e.idx < 1024) ∧ (flowEntries 1 (fe 1023 1)).Pairwise (fun a b => a.idx ≠ b.idx) ∧
      ((cmd 0x30 (ap 0 3 1 0 0 ++ fe 1023 1)).mb 0).p 18 2 = 1 ∧
      ((cmd 0x30 (ap 0 3 1 0 0 ++ fe 1023 1)).mb 0).bytes 40 56 = fe 1023 1 ∧
      (∃ e ∈ flowEntries 1 (fe 1024 1), e.opens = false ∨ 1024 ≤ e.idx) ∧ (∃ e ∈ flowEntries 1 (fe 0 0), e.opens = false ∨ 1024 ≤ e.idx)) ∧
    ((∀ i ∈ flowIdxs 1 (toLe 1023 2), i < 1024) ∧ (∃ i ∈ flowIdxs 1 (toLe 1024 2), 1024 ≤ i) ∧ ((cmd 0x31 (ap 0 0 1 0 0 ++ toLe 1023 2)).mb 0).p 18 2 = 1) := by
  decide +kernel
def ringIn (st : Nat) : State := regs [(F.ringStatusState, 0, st)] (cmd 0x90 [1])
theorem witness_ApplyFlowAndRingCommands_ring :
    (∀ n ∈ [0, 1, 2, 3], ((cmd 0x90 (toLe n 1)).mb 0).p 16 1 = n ∧ ((cmd 0x90 (toLe n 1)).mb 0).roleBad = false ∧ (cmd 0x90 (toLe n 1)).apply = none) ∧
    ((cmd 0x90 [0, 15, 1]).mb 0).roleBad = false ∧ (ringIn 5).rst = 5 ∧ (ringIn 4).rst < 5 := by decide +kernel
def eng (op : Nat) (ps : List Byte) (st : Nat) : State := regs [(F.foxStatusState, 15, st)] (cmd op ps)
/-- Parameters of a command that reads an object: two bytes, LENGTH and an address. -/
def op2 (a b : Byte) (len : Nat) : List Byte := [a, b, 0, 0] ++ toLe len 4 ++ toLe 0x2000 8
theorem cmd_runs_3 : ∀ p ∈ [(0x60, op2 15 0 320), (0x61, toLe 0 2), (0x61, toLe 0x8000 2), (0x62, toLe 0 2), (0x62, toLe 0x8000 2), (0x70, [2, 33, 1]), (0x70, [1, 17, 1]),
    (0x71, [3, 31, 1]), (0x71, [5, 31, 1]), (0x80, toLe 0 4), (0x80, toLe 5 4), (0xA0, [3, 1])],
    (cmd p.1 p.2).cmdRuns 0 p.1 := by unfold State.cmdRuns; decide +kernel
def retiredCmd (op : Nat) (ps : List Byte) (k n : Nat) : State := (cmd op ps).setRetired k n true
theorem witness_EngineAndChannelCommands :
    (((eng 0x60 (op2 15 0 320) 1).mb 0).p 16 1 = 15 ∧ ((eng 0x60 (op2 15 0 320) 1).mb 0).p 20 4 ≠ 0 ∧ (eng 0x60 (op2 15 0 320) 1).carried 15 = true ∧
      (eng 0x60 (op2 15 0 320) 1).get F.foxStatusState 15 < 2 ∧
      (eng 0x60 (op2 15 0 320) 1).fetch 0 0x2000 320 (some (List.replicate 320 0)) = some (List.replicate 320 0)) ∧
    (((cmd 0x61 (toLe 0 2)).mb 0).p 16 2 = 0 ∧ bitsOf (((cmd 0x61 (toLe 0x8000 2)).mb 0).p 16 2) 16 = [15] ∧
      (eng 0x61 (toLe 0x8000 2) 0).get F.foxStatusState 15 = 0 ∧ (eng 0x61 (toLe 0x8000 2) 1).get F.foxStatusState 15 = 1 ∧
      (eng 0x61 (toLe 0x8000 2) 1).carried 15 = true) ∧
    ((eng 0x62 (toLe 0x8000 2) 1).active 15 = false ∧ (eng 0x62 (toLe 0x8000 2) 2).active 15 = true ∧
      (eng 0x62 (toLe 0x8000 2) 2).migrating 15 = false ∧ (eng 0x62 (toLe 0x8000 2) 4).migrating 15 = true) ∧
    (33 < chanCount 2 ∧ (cmd 0x70 [2, 33, 1]).retired 2 33 = false ∧ (cmd 0x70 [2, 33, 1]).chan (2 * 64 + 33) = {} ∧
      (eng 0x70 [1, 16, 1] 4).leOf 16 = some 15 ∧ (eng 0x70 [1, 16, 1] 4).migrating 15 = true ∧ (eng 0x70 [1, 16, 0] 2).migrating 15 = false ∧
      (eng 0x70 [1, 16, 0] 2).spareFor 16 ≠ none ∧ (regs [(F.foxSpares, 0, 0)] (eng 0x70 [1, 16, 0] 2)).spareFor 16 = none ∧
      (retiredCmd 0x70 [2, 33, 1] 2 33).retired 2 33 = true ∧ ((cmd 0x70 [1, 17, 1]).mb 0).p 18 1 = 1) ∧
    (31 < chanCount 3 ∧ (cmd 0x71 [3, 31, 1]).retired 3 31 = false ∧ (retiredCmd 0x71 [3, 31, 1] 3 31).retired 3 31 = true ∧
      (retiredCmd 0x71 [5, 31, 1] 5 31).retired 5 31 = true) ∧
    (((cmd 0x80 (toLe 5 4)).mb 0).noteSeq = 0 ∧ (cmd 0x80 (toLe 5 4)).synced 0 = true ∧ ({ cmd 0x80 (toLe 5 4) with waitWr := [(0, 1)] } : State).synced 0 = false ∧
      ((cmd 0x80 (toLe 5 4)).mb 0).p 16 4 ≠ 0) ∧
    (((waitingCmd 0x80).mb 0).phase = .waiting ∧ ((waitingCmd 0x80).mb 0).op = 0x80 ∧ (waitingCmd 0x80).synced 0 = true ∧
      ((waitingCmd 0x70).mb 0).phase = .waiting ∧ ((waitingCmd 0x70).mb 0).op = 0x70) ∧
    (((cmd 0xA0 [3, 1]).mb 0).p 16 1 = 3 ∧ (cmd 0xA0 [3, 1]).get F.canStatusEstate 3 ≠ 2 ∧
      (regs [(F.canStatusEstate, 3, 2)] (cmd 0xA0 [3, 1])).get F.canStatusEstate 3 = 2) := by decide +kernel
/-- A command that has waited since `up` 0, at `up` 5,000,000. -/
def late (op : Nat) (ps : List Byte) : State :=
  { regs [(F.imgCsnapStatPending, 0, 1), (F.imgApplyStatPending, 0, 1)] pcie with
    up := 5000000, snapMbx := some 0, apply := some { scope := 8, whn := 1, axis := 0, phase := 0, mbx := some 0 },
    mbx := [(0, { phase := .waiting, op := op, params := ps ++ List.replicate 96 0, len := 112 + ps.length })] }
theorem witness_EngineAndChannelCommands_timeouts :
    (∀ op ∈ [0x20, 0x30, 0x31], (late op (ap 1 0 0 0 5)).overdue 0 = true ∧ (late op (ap 1 0 0 0 6)).overdue 0 = false) ∧
    (late 0x50 [1, 1, 0, 0, 5]).overdue 0 = true ∧ (late 0x50 [1, 1, 0, 0, 5]).snapDue = false ∧ (late 0x62 []).overdue 0 = true ∧
    (late 0x70 []).overdue 0 = true ∧ (late 0x80 [5]).overdue 0 = true ∧ (late 0x80 [6]).overdue 0 = false ∧
    (let u : State := { late 0x70 [1, 3] with chans := [(67, { retire := some 5 })] }
     u.overdue 0 = true ∧ ((u.mb 0).p 16 1 * 64 + (u.mb 0).p 17 1) = 67 ∧ (u.chan 67).retire = some 5) := by decide +kernel


/-- Den's OTP: keys 0 and 1 enrolled or only key 0, none revoked or key 1, no lock to a slot. -/
def otp (en rev lock : Nat) (s : State) : State :=
  pin F.denOtpEnrolled 0 en (pin F.denOtpRevoked 0 rev (pin F.denOtpProfileLockEn 0 lock (pin F.denOtpProfileLockSlot 0 7 s)))
/-- An object of a KIND, with no valid signature. -/
def object (kind : Nat) : List Byte :=
  [0x4C, 0x56, 0x58] ++ toLe (kindLetter kind) 1 ++ toLe 0x100 2 ++ toLe kind 1 ++ [0] ++ toLe 320 4 ++ List.replicate 308 0
theorem cmd_runs_4 : ∀ p ∈ [(0x10, [7]), (0x10, [0xFF]), (0x11, [7, 1]), (0x12, op2 7 0 320), (0xB0, []), (0xB1, toLe 8 4), (0xC0, []), (0xD0, op2 3 0 320),
    (0xD1, op2 3 0 320), (0xE0, [1, 4] ++ List.replicate 6 0 ++ toLe 0x20000 8),
    (0xF0, [4]), (0xF0, [0]), (0xF0, [1, 0, 0, 0, 2, 0, 0, 0]), (0xF0, [2]), (0xF0, [3])],
    (otp 3 0 0 (cmd p.1 p.2)).cmdRuns 0 p.1 := by unfold State.cmdRuns; decide +kernel
theorem mbist_runs : (regs [(F.pwrStateState, 0, 2)] (cmd 0xE0 ([0, 1] ++ List.replicate 6 0 ++ toLe 0x80000000 8))).cmdRuns 0 0xE0 := by
  unfold State.cmdRuns; decide +kernel
theorem witness_ProfileSafetyAndDenCommands_profiles :
    ((otp 3 0 1 (cmd 0x10 [0])).slotLocked 0 = true ∧ (otp 3 0 1 (cmd 0x10 [7])).slotLocked 7 = false ∧ (otp 3 0 0 (cmd 0x10 [7])).slotLocked 0 = false ∧
      (cmd 0x10 [7]).slotFull 7 = false ∧ ({ cmd 0x10 [7] with prof := [(15, object 2)] } : State).slotFull 7 = true ∧
      (cmd 0x10 [0xFF]).pfail = false ∧ ((cmd 0x10 [0xFF]).mb 0).p 16 1 = 0xFF) ∧
    ((cmd 0x12 (op2 7 0 320)).fetch 0 0x2000 320 (some (object 2)) = some (object 2) ∧ ((cmd 0x12 (op2 7 0 320)).mb 0).p 20 4 ≠ 0 ∧
      (cmd 0x12 (op2 7 0 320)).bundleFault (object 1) = 3) ∧
    (((cmd 0x11 [7, 1]).mb 0).p 16 1 = 7 ∧ ((cmd 0x11 [7, 1]).mb 0).p 17 1 = 1) := by decide +kernel
/-- What Den's functions must answer for an object under the service key to verify: the standard's functions have no body here. -/
theorem witness_verified (s : State) (hk : sha384 (objPubkey (object 2)) = (List.range 48).map Config.serviceKeyHash) (l : List Byte)
    (hf : objFormat l 2 = true) (h1 : s.keyOk (objOf l) = true) (h2 : objSigOk (objOf l) = true) (h3 : ¬ objVersion (objOf l) < s.rollbackC) :
    s.objFault l 2 = 0 := by
  have _ := hk
  unfold State.objFault; simp [hf, h1, h2, h3]
def unlocked : State := regs [(F.owlStatusLocked, 0, 0)] (cmd 0xB0 [])
theorem witness_ProfileSafetyAndDenCommands_owl :
    (unlocked.locked = false ∧ (cmd 0xB0 []).locked = true ∧ (cmd 0xB0 []).unlockErr [] = 1 ∧ (cmd 0xB0 []).owl.halted = false) ∧
    (((cmd 0xB1 (toLe 8 4)).mb 0).p 16 1 = 8 ∧ (cmd 0xB1 (toLe 8 4)).owl.nonceOk = false) ∧
    (((cmd 0xC0 []).mb 0).p 56 1 = 0 ∧ ((cmd 0xC0 []).mb 0).space = 0 ∧ ((cmd 0xC0 []).mb 0).p 60 4 = 0 ∧ up.denOk = true ∧ up.off = false ∧
      up.domOn .den = true) := by decide +kernel
/-- With no safety password set the zero token unlocks a device only where ACK = 2 fails first; a token error of 5 is NOPW. -/
theorem witness_ProfileSafetyAndDenCommands_attest :
    ((cmd 0xC0 (List.replicate 40 0 ++ [0, 0, 0, 0] ++ toLe 8192 4)).mb 0).p 60 4 = 8192 ∧ 1128 + certBytes.length ≤ 8192 ∧
    (cmd 0xC0 (List.replicate 32 0 ++ toLe 0x2000 8 ++ [0, 0, 0, 0] ++ toLe 8192 4)).spaceOk 0 0x2000 (1128 + certBytes.length) = true ∧
    0x1000 + 20 ≤ 0x2000 := by
  refine ⟨by decide +kernel, ?_, by rfl, by decide⟩
  simp only [certBytes, List.length_map, List.length_range]; omega
theorem witness_ProfileSafetyAndDenCommands_keys :
    ((cmd 0xD0 (op2 3 0 320)).fetch 0 0x2000 320 (some (object 3)) = some (object 3) ∧ ((cmd 0xD0 (op2 3 0 320)).mb 0).p 16 1 = 3) ∧
    (hasBit ((otp 3 2 0 up).get F.denOtpRevoked) 1 = true ∧ hasBit ((otp 3 2 0 up).get F.denOtpRevoked) 0 = false ∧
      hasBit ((otp 3 2 0 up).get F.denOtpEnrolled) 0 = true ∧ hasBit ((otp 3 2 0 up).get F.denOtpEnrolled) 3 = false ∧
      (otp 3 2 0 up).liveKeys = [0] ∧ (otp 3 0 0 up).liveKeys = [0, 1]) := by decide +kernel
theorem witness_ProfileSafetyAndDenCommands_mbist :
    (let s := regs [(F.pwrStateState, 0, 2)] (cmd 0xE0 ([0, 1] ++ List.replicate 6 0 ++ toLe 0x80000000 8))
     (s.mb 0).p 16 1 = 0 ∧ (s.mb 0).p 17 1 = 1 ∧ (s.mb 0).p 24 8 < 2 ^ memUnits 1 ∧ bitsOf ((s.mb 0).p 24 8) 64 = [31] ∧
     s.idleUnit 1 31 = false ∧ (regs [(F.memBankOwnOwner, 31, 31)] s).idleUnit 1 31 = true ∧ s.unitRetired 1 31 = false ∧ (s.mb 0).space = 0) ∧
    (let s := cmd 0xE0 ([1, 4] ++ List.replicate 6 0 ++ toLe 0x20000 8)
     (s.mb 0).p 16 1 = 1 ∧ (s.mb 0).p 17 1 = 4 ∧ (s.mb 0).p 24 8 < 2 ^ memUnits 4 ∧ (s.mb 0).p 24 8 ≠ 0) := by decide +kernel
def trim (d : Nat) : State := cmd 0xF0 ([1, 0, 0, 0] ++ toLe d 4)
theorem witness_DeviceStates :
    (∀ v ∈ [0, 1, 2, 3, 4], ((cmd 0xF0 (toLe v 1)).mb 0).p 16 1 = v) ∧ (cmd 0xF0 []).get F.pwrStateState = 0 ∧
    (regs [(F.pwrStateState, 0, 2)] (cmd 0xF0 [])).get F.pwrStateState = 2 ∧
    (((trim 0).mb 0).p 20 4 = 0 ∧ ((trim 1022).mb 0).p 20 4 = 1022 ∧ 1022 % 2 = 0 ∧ 1022 < 1024 ∧ (trim 2).trimBusy 1022 = true ∧
      (trim 512).trimBusy 512 = false) := by decide +kernel

/-! ## Witnesses: memories, faults, events -/

def bank (n : Nat) (c : Nat) : State :=
  { regs [(F.memBankOwnClearing, n, c)] up with waitWr := [(n * 65536 + 5, 1), (7, 2), (n * 65536 + 5, 3)] }
def ue : State :=
  { acts [(F.memScrubEn, 0, 1)] up with ueLog := [{ target := 2, unit := 47, word := 65535 }], refLog := [{ wr := true, req := 16, bank := 31, ofs := 65535 }],
                                        health := [{ kind := 1, chKind := 3, number := 31, cause := 1, count := 3 }] }
def decided (k n : Nat) : State := { up with chans := [(k * 64 + n, { retire := some 3 })] }
theorem witness_BanksScrubbingAndRetirement :
    ((0x12 : BitVec 32).toNat % 32 = 18 ∧ (0x1F : BitVec 32).toNat % 32 = 31 ∧ (0x13 : BitVec 32).toNat % 32 = 19 ∧ up.retired 3 31 = false ∧
      up.gwHolds 31 = false ∧ (up.setRetired 3 31 true).retired 3 31 = true ∧ (bank 31 1).get F.memBankOwnClearing 31 ≠ 0 ∧
      (bank 31 1).waitWr = [(31 * 65536 + 5, 1), (7, 2)] ++ (31 * 65536 + 5, 3) :: [] ∧ (31 * 65536 + 5) / 65536 = 31) ∧
    ((bank 31 1).off = false ∧ (bank 31 1).domOn .core = true ∧ ue.off = false ∧ ue.tmOn tmScrubLate = false ∧ ue.scrubPast = false ∧
      ({ ue with up := 200000000000, timers := [(tmScrub, 1)] } : State).scrubPast = true ∧
      ({ ue with timers := [(tmScrubLate, 1)] } : State).tmOn tmScrubLate = true ∧
      (17 : Fin 64).val < 18 ∧ ue.unitRetired 4 17 = false ∧ ue.marked 4 17 65535 = false) ∧
    (ue.on F.memScrubEn = true ∧ (47 : Fin 64).val < 48 ∧ ue.marked 2 47 (65535 : BitVec 16).toNat = false) ∧
    (up.ueLog = [] ∧ ue.ueLog = { target := 2, unit := 47, word := 65535 } :: [] ∧ up.refLog = [] ∧
      ue.refLog = { wr := true, req := 16, bank := 31, ofs := 65535 } :: []) ∧
    (∀ k ∈ [3, 4, 5], ((decided k 3).chan (k * 64 + 3)).retire ≠ none ∧ (decided k 3).retired k 3 = false) ∧
    (((decided 1 17).chan (1 * 64 + 17)).retire ≠ none ∧ (decided 1 16).retired 1 16 = false ∧ (decided 1 16).leOf 16 = some 15 ∧
      ((decided 1 16).eng 15).mig = none ∧ (decided 1 16).spareFor 16 = some 17) ∧
    (ue.health ≠ [] ∧ ue.pfail = false) := by decide +kernel
def ev : Event := { cause := 3, subj := 5 }
def evRec (c : Nat) : EvRec := { cause := c, subj := 5, partner := 0, count := 65535, sat := false, early := false, detail := 0, fns := 1, fsec := 1, lns := 1, lsec := 1 }
/-- One event waits; `n` records are open, of causes 100 and up; `m` are in the host FIFO. -/
def evs (n m : Nat) (l : List EvRec) : State :=
  { up with evq := [ev], evOpen := l ++ (List.range n).map (fun i => evRec (100 + i)), evFifo := List.replicate m (evRec 9) }
theorem witness_EventRecordsReachTheHost :
    ((evs 0 0 [evRec 3]).evq = ev :: [] ∧ ∃ r ∈ (evs 0 0 [evRec 3]).evOpen, r.has ev = true) ∧
    ((∀ r ∈ (evs 63 0 []).evOpen, r.has ev = false) ∧ (evs 63 0 []).evOpen.length < 64 ∧ (∀ r ∈ (evs 64 0 []).evOpen, r.has ev = false) ∧
      64 ≤ (evs 64 0 []).evOpen.length) ∧
    ((evs 64 255 []).evOpen[63]? = some (evRec 163) ∧ (evs 64 255 []).evFifo.length < 256 ∧ 256 ≤ (evs 64 256 []).evFifo.length ∧
      hasBit ((regs [(F.evtMask, 3, 2 ^ 4)] (evs 1 0 [])).get F.evtMask (100 / 32)) (100 % 32) = true ∧
      hasBit ((regs [(F.evtMask, 3, 0)] (evs 1 0 [])).get F.evtMask (100 / 32)) (100 % 32) = false) ∧
    (let r : EvRec := { evRec 9 with firstAt := 5, lastAt := 9 }
     let u : State := acts [(F.evtCfgHoldUs, 0, 1), (F.evtCfgMaxMs, 0, 1)] { up with evOpen := [r] }
     ({ u with up := 1008 } : State).recDue r = false ∧ r.lastAt + 1 * 1000 ≤ 1009 ∧ u.act F.evtCfgHoldUs = 1 ∧ r.firstAt + 1000000 ≤ 1000005 ∧
     (evs 0 1 []).off = false ∧ (evs 0 1 []).domOn .core = true) ∧
    ((evs 0 1 []).evFifo = evRec 9 :: [] ∧ up.evFifo = []) := by decide +kernel

/-! ## Witnesses: power -/

def boot : BootIn := { hostSel := 0, prof := 7, card := true }
def start (l : List (List Byte)) (op : Nat) : State :=
  { regs [(F.glbStatusBooted, 0, 0)] up with startQ := l, mbx := [(8, { phase := .ready, op := op, params := List.replicate 12 0, len := 28 })] }
def fresh : State := pin F.denOtpProfileLockEn 0 0 State.reset
theorem witness_ResetsAndBoot :
    (fresh.released = false ∧ fresh.supOut = 0 ∧ fresh.hlog = [] ∧ fresh.selRec = [] ∧ fresh.startQ = [] ∧ fresh.switch = none ∧ boot.fails = [] ∧
      fresh.get F.denOtpProfileLockEn = 0 ∧ fresh.get F.glbStatusBooted = 0 ∧ fresh.bundle = [] ∧ fresh.domOn .den = true ∧
      boot.testEn = false ∧ ({ boot with testEn := true } : BootIn).testEn = true ∧ boot.selftest = true ∧ boot.trng = true ∧ boot.rdA = .ok ∧ fresh.prof = [] ∧ boot.rdB = .ok) ∧
    (up.released = true ∧ aonKey (F.swCellsFree.key 0) = false) ∧
    ((start [] 0x41).cmdRuns 8 0x41 ∧ (start [] 0x41).startQ = [] ∧ (start [] 0x41).switch = none ∧ (start [] 0x41).get F.glbStatusBooted = 0) ∧
    ((start [blk 1 28 0] 0x41).cmdRuns 8 0x41 ∧ (start [blk 1 28 0] 0x41).startQ = blk 1 28 0 :: [] ∧ (parseBlk {} (blk 1 28 0)).isRight = true) := by
  unfold State.cmdRuns; decide +kernel
def loops (w tg : Nat) : State :=
  regs [(F.phsQwState, 0, w), (F.pwrAvsDTargetMv, 1, tg)]
    (acts [(F.pwrAvsCfgEn, 0, 1), (F.pwrAvsCfgMarginMv, 0, 10), (F.pwrAvsCfgVminMv, 0, 700), (F.pwrAvsCfgVmaxMv, 0, 850), (F.clkDfsEn, 1, 1),
           (F.clkDfsUpPct, 1, 60), (F.clkDfsMax, 1, 3), (F.clkMthrAdaptEn, 1, 1), (F.clkPlaceEn, 0, 1), (F.clkPlaceFaultEn, 0, 1),
           (F.evtThrCount, 1, 2), (F.evtThrWindowMs, 1, 1000), (F.ringLgCfgEn, 0, 1), (F.ringCfgEn, 0, 1)] up)
/-- DFS cluster 1 runs at step 2 of 3 and no cap; an engine fault 1 ns ago at FX0. -/
def loops2 : State :=
  { regs [(F.clkDfsStatCap, 1, 3), (F.foxSpares, 0, 2 ^ 8), (F.ringStatusState, 0, 5)] (loops 255 800) with
    fstep := [(1, 2)], up := 100, chans := [(64, { times := [99] })] }
theorem witness_PowerFailLoopsAndInsertion :
    (loops2.pfail = false ∧ (false || false || false || true) = true ∧ loops2.on F.ringLgCfgEn = true ∧ loops2.ringOn = true ∧ loops2.ring.gasp = none ∧
      hasBit ((regs [(F.evtMask, 3, 1)] loops2).get F.evtMask 3) 0 = true ∧ loops2.evFifo.length < 256) ∧
    ({ up with pfail := true } : State).pfail = true ∧
    (({ up with pfail := true, up := 10000000, timers := [(tmPfail, 1)] } : State).tmPast tmPfail 10000000 = true ∧
      ({ up with pfail := true, up := 9999999, timers := [(tmPfail, 1)] } : State).tmPast tmPfail 10000000 = false) ∧
    (loops2.laneLive 0 = false ∧ loops2.retired 0 12 = false) ∧
    (hasBit ((loops 255 845).get F.pwrStateDomainsOn) 1 = true ∧ (loops 255 845).on F.pwrAvsCfgEn = true ∧ (loops 255 845).window 0 = true ∧
      hasBit (loops 255 845).stepMask 1 = false ∧ (9 : BitVec 8).toNat < (loops 255 845).act F.pwrAvsCfgMarginMv ∧
      (loops 255 845).get F.pwrAvsDTargetMv 1 + 5 ≤ (loops 255 845).act F.pwrAvsCfgVmaxMv ∧ (loops 255 845).act F.pwrAvsCfgVmaxMv < 2 ^ 10) ∧
    ((loops 255 845).tmOn tmAvs = false ∧ ({ loops 255 845 with up := 10000, timers := [(tmAvs, 1)] } : State).tmPast tmAvs 10000 = true ∧
      ({ loops 255 845 with timers := [(tmAvs, 1)] } : State).tmOn tmAvs = true ∧
      ({ loops 255 845 with up := 9999, timers := [(tmAvs, 1)] } : State).tmPast tmAvs 10000 = false ∧
      ({ loops 255 845 with up := 5000, timers := [(tmVcore, 1)] } : State).tmPast tmVcore 5000 = true ∧ (loops 255 845).tmPast tmVcore 5000 = false ∧
      (loops 0 845).window 0 = false) ∧
    ((loops 255 705).act F.pwrAvsCfgMarginMv + 2 < (13 : BitVec 8).toNat ∧ (loops 255 705).act F.pwrAvsCfgVminMv + 5 ≤ (loops 255 705).get F.pwrAvsDTargetMv 1 ∧
      (loops 255 705).get F.pwrAvsDTargetMv 1 < 2 ^ 10) ∧
    (loops2.domOn .foxb = true ∧ loops2.get F.pwrStateState ≠ 2 ∧ loops2.window 2 = true ∧ hasBit loops2.stepMask 11 = false ∧ loops2.on F.clkDfsEn 1 = true ∧
      loops2.act F.clkDfsUpPct 1 < (61 : BitVec 8).toNat ∧ loops2.fclkStep 1 < loops2.act F.clkDfsMax 1 ∧ loops2.fclkStep 1 < loops2.get F.clkDfsStatCap 1) ∧
    (loops2.on F.clkMthrAdaptEn 1 = true ∧ loops2.window 6 = true ∧ loops2.domOn .shrew = true ∧
      loops2.mthrMay 1 = true ∧
      ({ loops2 with timers := [(tmMthr 1, 9)] } : State).mthrMay 1 = false ∧
      ({ loops2 with timers := [(tmMthr 1, 9)], plls := [(1, { lastAt := some 18 })] } : State).mthrMay 1 = true ∧
      sgn 10 (loops2.get F.clkMthrCurMv 1) + 2 ≤ sgn 10 (511 : BitVec 10).toNat) ∧
    (loops2.on F.clkPlaceEn = true ∧ loops2.window 7 = true ∧ hasBit loops2.stepMask 12 = false ∧ loops2.switch = none ∧ loops2.carried 0 = true ∧
      (loops2.eng 0).mig = none ∧ loops2.get F.pwrStateState ≠ 2 ∧ loops2.faultMove 0 = true ∧
      (loops2.freeSpares.filter (fun y => loops2.inWindow 1 y == 0)).find? (fun y => y / 9 == loops2.phys 0 / 9) = some 8) ∧
    (up.tmPast tmTrip 10000 = false ∧ ({ up with up := 10000, timers := [(tmTrip, 1)] } : State).tmPast tmTrip 10000 = true) ∧
    (up.off = false ∧ (regs [(F.pwrInsIso, 0, 1), (F.ringStatusState, 0, 0)] (loops 0 0)).iso = true ∧
      (regs [(F.pwrInsIso, 0, 1), (F.ringStatusState, 0, 0)] (loops 0 0)).on F.ringCfgEn = true ∧ up.domOn .ring = true) := by decide +kernel

theorem witness_PowerFailLoopsAndInsertion_placement :
    (let u : State := { regs [(F.pwrTemp, 0, 400), (F.pwrTemp, 1, 100), (F.foxSpares, 0, 2 ^ 17)] loops2 with chans := [], up := 10000000, timers := [(tmHot 0, 1)] }
     (List.range 16).all (fun e => !u.faultMove e) = true ∧ u.hotter 0 = true ∧ u.tmPast (tmHot 0) 10000000 = true ∧ u.phys 0 / 9 = 0 ∧
     (u.freeSpares.filter (fun y => u.inWindow 1 y == 0)).find? (fun y => y / 9 == 1 - 0) = some 17) ∧
    (let u : State := regs [(F.foxSpares, 0, 2 ^ 17)] loops2
     (u.freeSpares.filter (fun y => u.inWindow 1 y == 0)).find? (fun y => y / 9 == u.phys 0 / 9) = none ∧
     (u.freeSpares.filter (fun y => u.inWindow 1 y == 0)).head? = some 17) := by decide +kernel

/-! ## Witnesses: the ring -/

/-- The ring node 31 in a state of Table 8-4; lane 1 is trained, live and joined. -/
def ring (st : Nat) (l : Lane) (r : Ring) : State :=
  { regs [(F.ringStatusState, 0, st), (F.ringLTrained, 1, 1), (F.ringLLive, 1, 1), (F.ringLJoined, 1, 1), (F.phsQwState, 0, 255), (F.ringMembers, 0, 2 ^ 31 + 1),
          (F.ringHash, 0, 77)]
      (acts [(F.ringCfgEn, 0, 1), (F.ringCfgNode, 0, 31), (F.ringCfgColdEn, 0, 1), (F.ringCycleUnits, 0, 32), (F.ringCfgRank, 0, 3)] up) with
    ringLanes := [(1, l)], ring := r }
/-- The same node at `up` u with one timer running since `up` 0. -/
def timer0 (k u : Nat) (s : State) : State := { s with up := u, timers := [(k, 1)] }
theorem witness_RingLanesAndNodeStates_timers :
    (((ring 2 {} {}).rLane 0).training = false ∧ (timer0 (tmTrain 0) 100000000 (ring 2 {} {})).tmPast (tmTrain 0) 100000000 = true ∧
      (timer0 (tmTrain 1) 20000000 (ring 2 {} {})).tmPast (tmTrain 1) 20000001 = false ∧
      (timer0 (tmTrain 1) 20000001 (ring 2 {} {})).tmPast (tmTrain 1) 20000001 = true) ∧
    ((ring 5 {} {}).tmOn (tmEcho 1) = false ∧ (timer0 (tmEcho 1) 124000 (ring 5 {} {})).tmPast (tmEcho 1) 124000 = true ∧
      (timer0 (tmEcho 1) 123999 (ring 5 {} {})).tmPast (tmEcho 1) 124000 = false ∧
      (regs [(F.ringStatusOutside, 0, 1), (F.ringStatusLocked, 0, 1)] (ring 4 {} {})).joinErr = 1 ∧
      (regs [(F.ringStatusOutside, 0, 1), (F.ringStatusLocked, 0, 1), (F.ringMembers, 0, 1)]
        (ring 4 { samples := [5] } { ann := some { node := 0, ns := 0, cycle := 0, hash := 77, rank := 0, id := 0 } })).joinErr = 0 ∧
      (ring 4 {} {}).get F.ringStatusOutside = 0) ∧
    ((timer0 tmListen 5000000000 (ring 2 {} {})).tmPast tmListen ((ring 2 {} {}).act F.ringListenListenUs * 1000) = true ∧
      (ring 2 {} {}).tmPast tmListen ((ring 2 {} {}).act F.ringListenListenUs * 1000) = false ∧
      (timer0 tmCold 300000 (ring 3 {} {})).tmPast tmCold 300000 = true ∧ (timer0 tmCold 299999 (ring 3 {} {})).tmPast tmCold 300000 = false) ∧
    ((ring 7 {} {}).tcNs = 1000000 ∧ (timer0 tmCsm 3000000 (ring 7 {} {})).tmPast tmCsm (3 * 1000000) = true ∧
      (timer0 tmCsm 2999999 (ring 7 {} {})).tmPast tmCsm (3 * 1000000) = false ∧ (ring 7 { lastIns := some 5 } {}).off = false ∧
      (timer0 (tmStat 0) 3000000 (ring 5 {} {})).tmPast (tmStat 0) (3 * 1000000) = true ∧ (ring 5 {} {}).domOn .ring = true) ∧
    (((ring 3 { lastIns := some 5 } {}).rLane 1).lastIns = some 5 ∧ (ring 3 { lastIns := some 5 } {}).up < 5 + 10000 ∧
      5 + 10000 ≤ (timer0 0 10005 (ring 3 { lastIns := some 5 } {})).up ∧ (ring 3 {} {}).joined 1 = true) := by decide +kernel
theorem witness_RingLanesAndNodeStates_lanes :
    ((ring 2 {} {}).ringOn = true ∧ (ring 2 {} {}).laneLive 0 = false ∧ (ring 2 {} {}).retired 0 12 = false ∧
      ((ring 2 { training := true } {}).rLane 1).training = true ∧ (ring 2 {} {}).laneLive 1 = true) ∧
    ((ring 5 {} {}).window 4 = true ∧ (ring 5 {} {}).get F.ringLTrained 1 ≠ 0 ∧ (ring 5 {} {}).get F.ringStatusOutside = 0) ∧
    (((ring 5 { echo := some (255, 9) } {}).rLane 1).echo = some ((255 : BitVec 8).toNat, 9)) ∧
    ((ring 2 {} {}).inRing = false ∧ ((ring 2 {} {}).rLane 1).nbr = none ∧ (ring 5 {} {}).inRing = true) ∧
    (((ring 5 { joinId := some 4 } {}).rLane 1).joinId = some 4 ∧ (regs [(F.ringLJoined, 1, 0)] (ring 5 { joinId := some 4 } {})).joined 1 = false ∧
      (ring 5 {} {}).rst = 5) := by decide +kernel
theorem witness_RingLanesAndNodeStates_states :
    ((ring 2 {} {}).rst = 2 ∧ (ring 2 {} {}).on F.ringCfgColdEn = true ∧ (ring 2 {} {}).get F.ringStatusOutside = 0) ∧ (ring 3 {} {}).rst = 3 ∧
    ((ring 7 {} {}).rst = 7 ∧ (ring 7 {} {}).ring.other = none ∧ (ring 4 {} { other := some 2 }).ring.other = some 2 ∧
      (regs [] (acts [(F.timeCtrlSrc, 0, 1)] { ring 5 {} {} with srcLock := 1 })).act F.timeCtrlSrc = 1) ∧
    ((0 : Fin 32).val ≠ (ring 5 {} {}).rnode ∧ hasBit ((ring 5 {} {}).get F.ringMembers) 0 = true) ∧
    ((ring 6 {} {}).rst = 6 ∧ (ring 6 {} {}).get F.ringGstatInternalOsc = 0) := by decide +kernel
/-- A header whose HCRC is right. -/
def rhdr (b0 hops src dst : Nat) : List Byte :=
  let h := toBe b0 1 ++ toBe hops 1 ++ toBe src 1 ++ toBe dst 1 ++ [0, 0, 0, 0]
  h ++ toBe (hcrc h) 2
def both : State := regs [(F.ringLJoined, 0, 1)] (ring 5 {} {})
theorem witness_RingFramesAreRelayedAndCopied_frames :
    ((ring 5 {} {}).ringOn = true ∧ (ring 5 {} {}).laneLive 1 = true ∧ 2 ≤ (ring 5 {} {}).rst ∧ (ring 5 {} {}).joined 1 = true ∧
      (ring 5 {} {}).get F.ringStatusHealed = 0) ∧
    (¬ ((List.replicate 10 (0 : Byte)).length = 10 ∧ byteAt (List.replicate 10 0) 0 / 64 = 1)) ∧
    (∀ h ∈ [rhdr 64 62 31 5, rhdr 64 62 3 5, rhdr 64 63 3 5, rhdr 64 0 3 31, rhdr 64 0 3 128],
      h.length = 10 ∧ byteAt h 0 / 64 = 1 ∧ beAt h 8 2 = hcrc h ∧ bitsAt (byteAt h 0) 4 2 = 0) ∧
    (byteAt (rhdr 64 62 31 5) 2 % 32 = (ring 5 {} {}).rnode ∧ byteAt (rhdr 64 62 3 5) 2 % 32 ≠ (ring 5 {} {}).rnode ∧
      byteAt (rhdr 64 62 3 5) 3 / 128 ≠ 1 ∧ byteAt (rhdr 64 62 3 5) 3 % 32 ≠ (ring 5 {} {}).rnode ∧
      byteAt (rhdr 64 62 3 5) 1 % 64 + 1 = 63 ∧ 63 < byteAt (rhdr 64 63 3 5) 1 % 64 + 1 ∧
      byteAt (rhdr 64 0 3 31) 3 % 32 = (ring 5 {} {}).rnode ∧ byteAt (rhdr 64 0 3 128) 3 / 128 = 1) ∧
    (both.joined (otherLane 1) = true ∧ both.inserting (otherLane 1) = false ∧ (ring 5 {} {}).off = false) := by decide +kernel
/-- Bodies of control frames from node 3. -/
def body (ty : Nat) (l : List (Nat × Byte)) : List Byte := (List.range 60).map (fun i => if i = 0 then BitVec.ofNat 8 ty else if i = 1 then 3 else SMap.get 0 l i)
def firstNode : State := { ring 6 {} {} with pend := (ring 6 {} {}).pend }
def spl : Splice := { ks := 5, a := 31, j := some 4, id := 9 }
theorem witness_RingFramesAreRelayedAndCopied_control :
    (byteAt (body 1 []) 0 = 1 ∧ byteAt (body 1 []) 1 % 32 ≠ (ring 5 {} {}).rnode) ∧
    (byteAt (body 2 [(25, 77)]) 0 = 2 ∧ (ring 5 {} {}).rst ≠ 6 ∧ (ring 5 {} {}).ring.known = false ∧ beAt (body 2 [(25, 77)]) 22 4 = (ring 5 {} {}).get F.ringHash ∧
      byteAt (body 2 [(25, 77), (27, 127)]) 27 < 128) ∧
    (byteAt (body 3 []) 0 = 3 ∧ (ring 3 {} {}).rst = 3 ∧ 
      beats (byteAt (body 3 [(8, 1)]) 8 % 16) (beAt (body 3 [(8, 1)]) 2 6) ((ring 3 {} {}).act F.ringCfgRank) (ring 3 {} {}).rid = true) ∧
    (byteAt (body 4 []) 0 = 4 ∧ (ring 6 {} {}).rst = 6 ∧ beAt (body 4 []) 16 4 ≠ (ring 6 {} {}).get F.ringHash ∧
      beAt (body 4 [(19, 77), (13, 1), (14, 2)]) 16 4 = (ring 6 {} {}).get F.ringHash ∧ beAt (body 4 [(19, 77), (13, 1), (14, 2)]) 8 6 ≠ 0 ∧
      hasBit ((ring 6 {} {}).get F.ringMembers) (byteAt (body 4 [(19, 77), (13, 1), (14, 2)]) 14 % 32) = false ∧ (ring 6 {} {}).ring.plan = none ∧ (ring 6 {} {}).get F.ringStatusOutside = 0 ∧
      (ring 6 {} {}).get F.ringStatusMembers < (ring 6 {} {}).act F.ringCfgNmax ∧
      beAt (body 4 [(19, 77), (13, 1), (14, 2)]) 20 2 ≤ (ring 6 {} {}).act F.ringLmaxLmaxNs * 16) ∧
    ((ring 5 {} { sp := some spl }).ring.sp = some spl ∧ ¬ ((spl.ks + cycMod - 2) % cycMod ∈ (ring 5 {} { sp := some spl }).ring.got) ∧
      (spl.ks + cycMod - 2) % cycMod ∈ (ring 5 {} { sp := some spl, got := [3, 4] }).ring.got ∧
      (spl.ks + cycMod - 1) % cycMod ∈ (ring 5 {} { sp := some spl, got := [3, 4] }).ring.got ∧ (ring 5 {} {}).inRing = true ∧
      spl.a = (ring 5 {} {}).rnode ∧ (ring 5 {} {}).tcNs = 1000000 ∧
      ({ ring 5 {} { sp := some spl } with time := { sec := 0, ns := 4999775 } } : State).spliceDue spl.ks = true ∧
      ({ ring 5 {} { sp := some spl } with time := { sec := 0, ns := 4999774 } } : State).spliceDue spl.ks = false) ∧
    (((ring 5 { fresh := true } {}).rLane 1).fresh = true ∧
      (timer0 (tmFresh 1) (200 + (ring 5 {} {}).tfNs) (ring 5 { fresh := true } {})).tmPast (tmFresh 1) (200 + (ring 5 {} {}).tfNs) = true) := by decide +kernel
def csm (first : Fin 32) (hops : BitVec 6) : CsmIn := { cycle := 0xFFFFFF, corr := 0, hops := hops, folds := 3, dir := true, first := first, mac := 0, res := 0, gtk := 0, last := true }
/-- Slot 255 belongs to node 31 on lane 1, long enough for a STATUS frame, which waits. -/
def slot (g : Bool) (st : Nat) : State := acts [(F.ringSlotCtrlEn, 255, 1), (F.ringSlotCtrlOwner, 255, 31), (F.ringSlotCtrlLane, 255, 1), (F.ringSlotLen, 255, 65535)] (ring st { gate := g, ctl := [1] } {})
theorem witness_RingClockCyclesAndSlots_csm :
    ((ring 5 {} {}).laneLive 1 = true ∧ 2 ≤ (ring 5 {} {}).rst ∧ (ring 5 {} {}).joined 1 = true ∧ (csm 3 62).hops.toNat < 63) ∧
    ((ring 2 {} {}).rst = 2 ∧ (ring 3 {} {}).rst = 3) ∧
    ((ring 5 {} { known := true }).ring.known = true ∧ (ring 5 {} { known := true }).get F.ringStatusFirst = (csm 0 0).first.val) ∧
    ((ring 6 {} {}).rst = 6 ∧ (csm 3 62).first.val ≠ (ring 6 {} {}).rnode ∧ (csm 31 62).first.val = (ring 6 {} {}).rnode ∧ (ring 2 {} {}).get F.ringStatusLocked = 0) := by decide +kernel
theorem witness_RingClockCyclesAndSlots_slots :
    ((ring 6 {} { csmGate := true }).tcNs ≠ 0 ∧ (ring 6 {} { csmGate := true }).rst = 6 ∧ (ring 6 {} { csmGate := true }).ring.yields = false ∧
      (ring 6 {} { csmGate := true }).ring.csmGate = true ∧ (ring 5 {} {}).tcNs ≠ 0) ∧
    (∀ g : Bool, (slot g 5).act F.ringSlotCtrlLane 255 = 1 ∧ (slot g 5).rst = 5 ∧ (slot g 5).on F.ringSlotCtrlEn 255 = true ∧
      (slot g 5).act F.ringSlotCtrlOwner 255 = (slot g 5).rnode ∧ (slot g 5).joined 1 = true ∧ (slot g 5).gaspDue = none ∧
      ((slot g 5).rLane 1).ctl = [1] ∧ ((slot g 5).rLane 1).gate = g ∧ (slot g 5).outQ = [] ∧
      (slot g 5).slotDue 255 = true ∧ (slot g 5).laneFree 1 + 84 * (slot g 5).byteTime 1 ≤ (slot g 5).up * 10 + (slot g 5).slotLeft 255 ∧
      (let u : State := { slot g 5 with time := { sec := 0, ns := 655340 } }
       u.slotDue 255 = true ∧ u.outQ = [] ∧ u.up * 10 + u.slotLeft 255 < u.laneFree 1 + 84 * u.byteTime 1) ∧
      (acts [(F.ringSlotCtrlEn, 255, 0)] (slot g 5)).slotDue 255 = false) := by decide +kernel
/-- The guardian's copy of slot 7 on lane 1, from 100,000 ns (in units of 10 ns) for 1,000 ns; aligned at its tick 0, or not yet. -/
def guarded (r : Option Int) (l : Lane) : State := ring 6 l { gown := [(7, 1, 10000, 100)], gref := r }
theorem witness_RingClockCyclesAndSlots_gates :
    ((guarded none {}).ring.gown.find? (fun o => o.1 == (8 : Fin 256).val) = none ∧
      (guarded none {}).ring.gown.find? (fun o => o.1 == (7 : Fin 256).val) = some (7, 1, 10000, 100)) ∧
    ((guarded none {}).gpos 5 = none ∧ (guarded (some 0) {}).gpos 20000 = some 100000 ∧ 100000 ≤ 10000 * 10 ∧ (guarded (some 0) {}).gpos 0 = some 0 ∧
      0 + (guarded (some 0) {}).act F.ringGuardGuardNs < 10000 * 10 ∧ 0 ≤ (guarded (some 0) {}).act F.ringGuardGuardNs) ∧
    ([0, 1].find? (fun p => ((guarded none {}).rLane p).gate && ((guarded none {}).rLane p).gateIx == (7 : Fin 256).val) = none ∧
      [0, 1].find? (fun p => ((guarded none { gate := true, gateIx := 7 }).rLane p).gate &&
        ((guarded none { gate := true, gateIx := 7 }).rLane p).gateIx == (7 : Fin 256).val) = some 1) ∧
    ((guarded none { gate := true, gateIx := 7, ends := [0] }).inserting 1 = false ∧
      (guarded none { gate := true, gateIx := 7, ends := [1] }).inserting 1 = true) := by decide +kernel

/-! ## Single steps with results from spec/ -/

/-- The registers of thread 0 of engine 0 given as numbers. -/
def ws (l : List (Fin 16 × Nat)) (fl : Flags := {}) : State := fx { w := l.foldl (fun v p => v.set p.1 (BitVec.ofNat 24 p.2)) (Vector.replicate 16 0), fl := fl }
def regOf (s : State) (r : Fin 16) : Nat := ((s.th 0).reg r).toNat

/-- The pair of the example of R106, encoded in 04_fox_instructions_core.md as 0x80448C079080. -/
theorem test_pair_example :
    (let t := after (.fxPair 0 (BitVec.ofNat 47 (0x80448C079080 % 2 ^ 47))) (ws [(1, 10), (2, 3), (3, 4)])
     regOf t 1 = 7 ∧ regOf t 2 = 10) := by decide +kernel
/-- The same pair: the flags come from slot A (R104). -/
theorem test_pair_example_flags :
    ((after (.fxPair 0 (BitVec.ofNat 47 (0x80448C079080 % 2 ^ 47))) (ws [(1, 10), (2, 0xFFFFFF), (3, 1)])).th 0).fl.z = true := by
  decide +kernel
/-- ADDI W3, W1, #1,000 under NE (the example of R139's encoding, 0x1113100003E8). -/
theorem test_addi_example :
    regOf (after (.fxAddi 0 2 (BitVec.ofNat 36 0x3100003E8)) (ws [(1, 24)])) 3 = 1024 ∧
    regOf (after (.fxAddi 0 2 (BitVec.ofNat 36 0x3100003E8)) (ws [(1, 24)] { z := true })) 3 = 0 := by decide +kernel
/-- The loop example of 04: W6 = 0x000100 and W7 = 0x0000FF give C = 1 and Z = 0, and LS fails. -/
theorem test_cmp_ls_example :
    (let f := ((after (.fxCmp 0 0 (opn 0 6 7 0)) (ws [(6, 0x100), (7, 0xFF)])).th 0).fl
     f.c = true ∧ f.z = false ∧ condHolds 10 f = false) := by decide +kernel
/-- REP #count of 0 skips the next word (R111, R158). -/
theorem test_rep_zero_skips : (((after (.fxRep 0 0 (opn 0 0 0 0)) (ws [])).th 0).pc).toNat = 2 := by decide +kernel
/-- The pressure field of the scaling example of 05: bytes 14 to 19 in a register pair, BOFS 20 there. -/
theorem test_fext_example :
    regOf (after (.fxFext 0 0 (opn 4 2 0 0xCC0014)) (ws [(2, 0xF80500), (3, 0x812C30)])) 4 = 0xFFF830 := by decide +kernel
/-- The counter field of the same example, little-endian: ten bits from byte 18. -/
theorem test_fext_little_example :
    regOf (after (.fxFext 0 0 (opn 4 2 0 0xAA0020)) (ws [(2, 0xF80500), (3, 0x812C30)])) 4 = 300 := by decide +kernel
/-- SCALE of the same example: 100 + ((-2,000 * 1,024 + 2,048) >> 12) = -400. -/
theorem test_scale_example :
    (let t := after (.fxScale 0 0 (opn 5 3 6 0)) (ws [(5, 100), (3, 0xFFF830), (6, 1024)])
     regOf t 5 = 0xFFFE70 ∧ (t.th 0).fl.v = false) := by decide +kernel
/-- The check column of Table 5-6 over "123456789". -/
def nine : List Byte := [0x31, 0x32, 0x33, 0x34, 0x35, 0x36, 0x37, 0x38, 0x39]
theorem test_crc_checks : crc32 nine = 0xCBF43926 ∧ crc32c nine = 0xE3069283 ∧ crcFeed (crcPoly 2) 0xFFFF nine = 0x29B1 ∧
    crcFeed (crcPoly 3) 0 nine = 0xF4 := by decide +kernel
/-- Entry 7 of the example of R68 after the step of +1,100,000 ns. -/
def cal7 (catchup : Nat) : State :=
  { regs [(F.phsCtrlRun, 0, 1)] (acts [(F.phsPxCfgSrc, 0, 1), (F.phsPxCfgModulo, 0, 1), (F.phsPxModLo, 0, 86400000000000 % 2 ^ 32), (F.phsPxModHi, 0, 86400000000000 / 2 ^ 32),
      (F.phsCalIvLo, 7, 250000), (F.phsCalCtrlCatchup, 7, catchup), (F.phsCalCtrlAction, 7, 9)] up) with
    time := { sec := 3600, ns := 1200000 }, cal := [(7, { armed := true, p := 3600000250000 })] }
theorem test_cal_fire_once :
    (let t := after (.calEntryFire 7 false) (cal7 0)
     (t.calE 7).p = 3600001250000 ∧ t.get F.phsCalMissed 7 = 3) := by decide +kernel
theorem test_cal_skip_all :
    (let t := after (.calEntryFire 7 false) (cal7 1)
     (t.calE 7).p = 3600001250000 ∧ t.get F.phsCalMissed 7 = 4) := by decide +kernel
/-- The machine at reset waits: its queue is empty, and its step is an idle one. -/
theorem test_reset_unreleased : step State.reset = .next State.reset.tick ∧ State.reset.pending = [] ∧ State.reset.released = false := by
  refine ⟨rfl, rfl, rfl⟩
/-- A session: HELLO that the device meets opens it; its mailbox reads DONE (R513, R497). -/
theorem test_hello :
    (let t := after (.hello 0) (cmd 0x01 (toLe 0x100 2 ++ toLe 0x103 2))
     t.get F.mbxAckCode 0 = 1 ∧ t.get F.glbStatusSession = 1) := by decide +kernel

end Sys2Proof.Tests
end

section
/-!
Fox arithmetic (R143, R144, R146): every flag operation and shift of Machine/Flags.lean computes what `aluSpec` and `shiftSpec`
state. The additions and subtractions rest on one fact about the carry chain, `addFl_eq`.
-/
namespace Sys2Proof.Machine

/-! ### Flags of a result -/

theorem Flags.nz_eq_logic (f : Flags) (d : W24) : f.nz d = f.logic d := by
  unfold Flags.nz Flags.logic
  rw [BitVec.msb_eq_getLsbD_last]
  rfl

theorem logFl_eq (d : W24) (f : Flags) : logFl d f = ⟨d, f.logic d⟩ := by
  rw [logFl, Flags.nz_eq_logic]

/-! ### Sums and differences -/

/-- V by the signs, as R143 computes it, and by the signed value, as `aluSpec` states it, agree. -/
theorem sum_signs_differ_iff {a b d : W24} {cin : Bool} (hd : d = a + b + BitVec.ofNat 24 cin.toNat) :
    (a.msb == b.msb && d.msb != a.msb) = decide (d.toInt ≠ a.toInt + b.toInt + cin.toNat) := by
  have hn : d.toNat = (a.toNat + b.toNat + cin.toNat) % 2 ^ 24 := by
    cases cin with
    | false => simp only [hd, Bool.toNat_false, BitVec.add_zero, BitVec.toNat_add, Nat.add_zero]
    | true =>
      simp only [hd, Bool.toNat_true, BitVec.toNat_add, Nat.reducePow, BitVec.toNat_ofNat, Nat.one_mod, Nat.mod_add_mod]
  have ha := a.isLt
  have hb := b.isLt
  have hc := cin.toNat_le
  rw [Bool.eq_iff_iff]
  simp only [BitVec.msb_eq_decide, BitVec.toInt_eq_toNat_cond, hn, Bool.and_eq_true, beq_iff_eq, bne_iff_ne,
    decide_eq_decide, decide_eq_true_eq, ne_eq]
  omega

theorem addFl_eq {a b d : W24} {cin : Bool} (f : Flags) (hd : d = a + b + BitVec.ofNat 24 cin.toNat) :
    addFl a b cin f = ⟨d, f.arith d (decide (2 ^ 24 ≤ a.toNat + b.toNat + cin.toNat))
      (decide (d.toInt ≠ a.toInt + b.toInt + cin.toNat))⟩ := by
  have hr : BitVec.ofNat 24 (a.toNat + b.toNat + cin.toNat) = d := by
    simp only [BitVec.ofNat_add, BitVec.ofNat_toNat, BitVec.setWidth_eq, hd]
  simp only [addFl, hr]
  rw [Flags.nz_eq_logic, ← sum_signs_differ_iff hd]
  simp only [BitVec.msb_eq_getLsbD_last]
  rfl

theorem addFl_zero {a b d : W24} (f : Flags) (hd : d = a + b) :
    addFl a b false f = ⟨d, f.arith d (decide (2 ^ 24 ≤ a.toNat + b.toNat)) (decide (d.toInt ≠ a.toInt + b.toInt))⟩ := by
  have h := addFl_eq (cin := false) f (hd.trans (BitVec.add_zero (a + b)).symm)
  simpa only [Bool.toNat_false, Nat.add_zero, Int.cast_ofNat_Int, Int.add_zero] using h

theorem toInt_complement (b : W24) : (~~~b).toInt = -b.toInt - 1 := by
  have hb := b.isLt
  simp only [BitVec.toInt_eq_toNat_cond, BitVec.toNat_not]
  omega

/-- Adding the complement subtracts: the carry out says that no borrow came, and the borrow taken is the complement of the
carry in. -/
theorem addFl_complement {a b d : W24} {cin : Bool} (f : Flags) (hd : d = a - b - BitVec.ofNat 24 (!cin).toNat) :
    addFl a (~~~b) cin f = ⟨d, f.arith d (decide (b.toNat + (!cin).toNat ≤ a.toNat))
      (decide (d.toInt ≠ a.toInt - b.toInt - (!cin).toNat))⟩ := by
  have hcin : (!cin).toNat = 1 - cin.toNat := by cases cin <;> rfl
  have hle := cin.toNat_le
  have hs : d = a + ~~~b + BitVec.ofNat 24 cin.toNat := by
    rw [hd, hcin, BitVec.not_eq_neg_add]
    bv_omega
  have hc : 2 ^ 24 ≤ a.toNat + (~~~b).toNat + cin.toNat ↔ b.toNat + (!cin).toNat ≤ a.toNat := by
    have hb := b.isLt
    rw [BitVec.toNat_not, hcin]
    omega
  have hv : a.toInt + (~~~b).toInt + cin.toNat = a.toInt - b.toInt - (!cin).toNat := by
    rw [toInt_complement, hcin]
    omega
  rw [addFl_eq f hs, hv, decide_eq_decide.mpr hc]

theorem addFl_complement_one {a b d : W24} (f : Flags) (hd : d = a - b) :
    addFl a (~~~b) true f = ⟨d, f.arith d (decide (b.toNat ≤ a.toNat)) (decide (d.toInt ≠ a.toInt - b.toInt))⟩ := by
  have h := addFl_complement (cin := true) f (hd.trans (BitVec.sub_zero (a - b)).symm)
  simpa only [Bool.not_true, Bool.toNat_false, Nat.add_zero, Int.cast_ofNat_Int, Int.sub_zero] using h

theorem addFl_zero_complement (a : W24) (f : Flags) :
    addFl 0 (~~~a) true f = ⟨-a, f.arith (-a) (decide (a = 0)) (decide ((-a).toInt ≠ -a.toInt))⟩ := by
  have hc : a.toNat ≤ (0 : W24).toNat ↔ a = 0 := by bv_omega
  have hz : (0 : W24).toInt = 0 := rfl
  rw [addFl_complement_one (a := 0) (d := -a) f (BitVec.zero_sub a).symm, decide_eq_decide.mpr hc, hz, Int.zero_sub]

/-! ### Minimum, maximum and leading zeros -/

theorem signedMin_eq (a b : W24) : (if a.toInt ≤ b.toInt then a else b) = if b.slt a then b else a := by
  simp only [BitVec.slt_iff_toInt_lt, ← Int.not_le, ite_not]

theorem signedMax_eq (a b : W24) : (if a.toInt ≤ b.toInt then b else a) = if a.slt b then b else a := by
  simp only [BitVec.slt_iff_toInt_lt]
  rcases Int.lt_trichotomy a.toInt b.toInt with h | h | h
  · rw [if_pos h, if_pos (Int.le_of_lt h)]
  · rw [BitVec.eq_of_toInt_eq h, ite_self, ite_self]
  · rw [if_neg (Int.not_le.mpr h), if_neg (Int.not_lt.mpr (Int.le_of_lt h))]

theorem unsignedMin_eq (a b : W24) : (if a.toNat ≤ b.toNat then a else b) = if b < a then b else a := by
  simp only [BitVec.lt_def, ← Nat.not_le, ite_not]

theorem unsignedMax_eq (a b : W24) : (if a.toNat ≤ b.toNat then b else a) = if a < b then b else a := by
  simp only [BitVec.lt_def]
  rcases Nat.lt_trichotomy a.toNat b.toNat with h | h | h
  · rw [if_pos h, if_pos (Nat.le_of_lt h)]
  · rw [BitVec.eq_of_toNat_eq h, ite_self, ite_self]
  · rw [if_neg (Nat.not_le.mpr h), if_neg (Nat.not_lt.mpr (Nat.le_of_lt h))]

theorem ofNat_sub_log2_eq_clz (a : W24) :
    BitVec.ofNat 24 (if a.toNat = 0 then 24 else 23 - Nat.log2 a.toNat) = a.clz := by
  by_cases h : a = 0
  · subst h; rfl
  · have hn : a.toNat ≠ 0 := fun e => h (BitVec.eq_of_toNat_eq e)
    have hlt : a.clz.toNat < 24 := BitVec.clz_lt_iff_ne_zero.mpr h
    have hlog : Nat.log2 a.toNat = 23 - a.clz.toNat := by
      have hup := BitVec.toNat_lt_two_pow_sub_clz (x := a)
      rw [Nat.log2_eq_iff hn, show 23 - a.clz.toNat + 1 = 24 - a.clz.toNat by omega]
      exact ⟨BitVec.two_pow_sub_clz_le_toNat_of_ne_zero (by decide) h, hup⟩
    rw [if_neg hn, hlog, show 23 - (23 - a.clz.toNat) = a.clz.toNat by omega, BitVec.ofNat_toNat, BitVec.setWidth_eq]

/-! ### The operations of R143 -/

theorem Alu.writes_iff (op : Alu) : op.writes = true ↔ ¬(op = .cmp ∨ op = .tst) := by
  cases op <;> decide

theorem Alu.run_eq_spec {op : Alu} (h : op.writes = true) (a b : W24) (f : Flags) :
    op.run a b f = ⟨(aluSpec op a b f).1, (aluSpec op a b f).2⟩ := by
  cases op with
  | add => exact addFl_zero f rfl
  | adc => exact addFl_eq f rfl
  | sub => exact addFl_complement_one f rfl
  | sbc => exact addFl_complement f rfl
  | neg => exact addFl_zero_complement a f
  | and | or | xor | andn | not => exact logFl_eq _ f
  | min => simp only [Alu.run, aluSpec, logFl_eq, signedMin_eq]
  | max => simp only [Alu.run, aluSpec, logFl_eq, signedMax_eq]
  | minu => simp only [Alu.run, aluSpec, logFl_eq, unsignedMin_eq]
  | maxu => simp only [Alu.run, aluSpec, logFl_eq, unsignedMax_eq]
  | abs =>
    have hz : 0 - a = -a := BitVec.zero_sub a
    simp only [Alu.run, aluSpec, Flags.nz_eq_logic, BitVec.msb_eq_getLsbD_last, hz]
  | clz => simp only [Alu.run, aluSpec, ofNat_sub_log2_eq_clz]; rfl
  | cmp => cases h
  | tst => cases h

/-- The flags of every operation: CMP and TST take those of SUB and AND. -/
theorem Alu.run_fl_eq_spec (op : Alu) (a b : W24) (f : Flags) : (op.run a b f).fl = (aluSpec op a b f).2 := by
  cases op with
  | cmp => exact congrArg Res24.fl (Alu.run_eq_spec (op := .sub) rfl a b f)
  | tst => exact congrArg Res24.fl (Alu.run_eq_spec (op := .and) rfl a b f)
  | _ => exact congrArg Res24.fl (Alu.run_eq_spec rfl a b f)

/-! ### The shifts of R146 -/

theorem lsl_eq_spec (a : W24) (n : Nat) (f : Flags) :
    Shift.lsl.run a n f = ⟨(shiftSpec .lsl a n f).1, (shiftSpec .lsl a n f).2⟩ := by
  have hd : BitVec.ofNat 24 (a.toNat * 2 ^ n) = a <<< n := by
    apply BitVec.eq_of_toNat_eq
    rw [BitVec.toNat_ofNat, BitVec.toNat_shiftLeft, Nat.shiftLeft_eq]
  simp only [Shift.run, shiftSpec, logFl_eq, Flags.nz_eq_logic, hd]
  by_cases h0 : n = 0
  · rw [h0, BitVec.shiftLeft_zero]; rfl
  by_cases h : n ≤ 24
  · simp only [if_neg h0, if_pos h, decide_eq_true h, Bool.true_and]
  · rw [if_neg h0, if_neg h, if_neg h0, BitVec.shiftLeft_eq_zero (by omega), decide_eq_false h]; rfl

theorem lsr_eq_spec (a : W24) (n : Nat) (f : Flags) :
    Shift.lsr.run a n f = ⟨(shiftSpec .lsr a n f).1, (shiftSpec .lsr a n f).2⟩ := by
  have hd : BitVec.ofNat 24 (a.toNat / 2 ^ n) = a >>> n := by
    apply BitVec.eq_of_toNat_eq
    rw [BitVec.toNat_ushiftRight, Nat.shiftRight_eq_div_pow, BitVec.toNat_ofNat]
    exact Nat.mod_eq_of_lt (Nat.lt_of_le_of_lt (Nat.div_le_self _ _) a.isLt)
  simp only [Shift.run, shiftSpec, logFl_eq, Flags.nz_eq_logic, hd]
  by_cases h0 : n = 0
  · rw [h0, BitVec.ushiftRight_zero]; rfl
  by_cases h : n ≤ 24
  · rw [if_neg h0, if_pos h, if_neg h0]
  · rw [if_neg h0, if_neg h, if_neg h0, BitVec.ushiftRight_eq_zero (by omega), BitVec.getLsbD_of_ge _ _ (by omega)]; rfl

theorem asr_eq_spec (a : W24) (n : Nat) (f : Flags) :
    Shift.asr.run a n f = ⟨(shiftSpec .asr a n f).1, (shiftSpec .asr a n f).2⟩ := by
  have hd : BitVec.ofInt 24 (a.toInt / 2 ^ n) = a.sshiftRight n := by
    rw [BitVec.sshiftRight_eq, Int.shiftRight_eq_div_pow]; rfl
  have hs : a.getLsbD 23 = a.msb := (BitVec.msb_eq_getLsbD_last a).symm
  simp only [Shift.run, shiftSpec, logFl_eq, Flags.nz_eq_logic, hd, hs]
  by_cases h0 : n = 0
  · rw [h0, BitVec.sshiftRight_zero]; rfl
  by_cases h : n ≤ 23
  · rw [if_neg h0, if_pos h, if_neg h0, if_pos h]
  have hfill : (if a.msb = true then 0xFFFFFF else 0 : W24) = a.sshiftRight n := by
    cases hm : a.msb with
    | true => rw [BitVec.sshiftRight_eq_of_msb_true hm, BitVec.ushiftRight_eq_zero (by omega)]; rfl
    | false => rw [BitVec.sshiftRight_eq_of_msb_false hm, BitVec.ushiftRight_eq_zero (by omega)]; rfl
  rw [if_neg h0, if_neg h, if_neg h0, if_neg h, hfill]

/-- The two parts of a rotation share no bit, so their sum is their union. -/
theorem ofNat_rotate_eq (a : W24) (n : Nat) :
    BitVec.ofNat 24 (a.toNat / 2 ^ (n % 24) + a.toNat * 2 ^ (24 - n % 24)) = a.rotateRight n := by
  have hdisj : a >>> (n % 24) &&& a <<< (24 - n % 24) = 0#24 := by
    ext i hi
    simp only [BitVec.getElem_and, BitVec.getElem_ushiftRight, BitVec.getElem_shiftLeft, BitVec.getElem_zero]
    by_cases h : i < 24 - n % 24
    · rw [decide_eq_true h, Bool.not_true, Bool.false_and, Bool.and_false]
    · rw [BitVec.getLsbD_of_ge a (n % 24 + i) (by omega), Bool.false_and]
  rw [BitVec.rotateRight_def, ← BitVec.add_eq_or_of_and_eq_zero _ _ hdisj]
  apply BitVec.eq_of_toNat_eq
  simp only [BitVec.toNat_ofNat, BitVec.toNat_add, BitVec.toNat_ushiftRight, Nat.shiftRight_eq_div_pow,
    BitVec.toNat_shiftLeft, Nat.shiftLeft_eq, Nat.add_mod_mod]

theorem ror_eq_spec (a : W24) (n : Nat) (f : Flags) :
    Shift.ror.run a n f = ⟨(shiftSpec .ror a n f).1, (shiftSpec .ror a n f).2⟩ := by
  simp only [Shift.run, shiftSpec, logFl_eq, Flags.nz_eq_logic, ofNat_rotate_eq]
  by_cases h0 : n % 24 = 0
  · have h : a.rotateRight n = a := by
      rw [BitVec.rotateRight_def, h0, BitVec.ushiftRight_zero, BitVec.shiftLeft_eq_zero (by omega), BitVec.or_zero]
    rw [if_pos h0, if_pos h0, h]; rfl
  · rw [if_neg h0, if_neg h0, BitVec.msb_eq_getLsbD_last]

theorem Shift.run_eq_spec (op : Shift) (a : W24) (n : Nat) (f : Flags) :
    op.run a n f = ⟨(shiftSpec op a n f).1, (shiftSpec op a n f).2⟩ := by
  cases op with
  | lsl => exact lsl_eq_spec a n f
  | lsr => exact lsr_eq_spec a n f
  | asr => exact asr_eq_spec a n f
  | ror => exact ror_eq_spec a n f

end Sys2Proof.Machine
end

section
/-!
Fox words of arithmetic: what the shared operations do to a thread whose word issues, which shared operation each command of
R143, R144 and R146 runs, and the statement about all of them.
-/
namespace Sys2Proof.Machine

/-! ### A word of a shared operation -/

theorem aluOp_eq_spec (k : Nat) (op : Alu) (d : Fin 16) (a b : W24) (t : Thread) :
    aluOp k op d a b true t = .go (fun s => s.updTh k (fun u =>
      if op = .cmp ∨ op = .tst then { u with fl := (aluSpec op a b t.fl).2 }
      else { u.setReg d (aluSpec op a b t.fl).1 with fl := (aluSpec op a b t.fl).2 })) := by
  unfold aluOp
  by_cases hw : op.writes = true
  · simp only [Alu.run_eq_spec hw, hw, if_true, if_neg ((Alu.writes_iff op).mp hw)]
  · have hc : op = .cmp ∨ op = .tst := Decidable.not_not.mp (fun h => hw ((Alu.writes_iff op).mpr h))
    simp only [Alu.run_fl_eq_spec, if_neg hw, if_true, if_pos hc]

theorem shiftOp_eq_spec (k : Nat) (op : Shift) (d : Fin 16) (a : W24) (n : Nat) (t : Thread) :
    shiftOp k op d a n true t = .go (fun s => s.updTh k (fun u =>
      { u.setReg d (shiftSpec op a n t.fl).1 with fl := (shiftSpec op a n t.fl).2 })) := by
  simp only [shiftOp, Shift.run_eq_spec, if_true]

@[simp] theorem Thread.next_fl (t : Thread) : t.next.fl = t.fl := by
  unfold Thread.next
  split <;> rfl

theorem Thread.wrote_same_fl (t : Thread) (d : Fin 16) (v : W24) : t.wrote d v t.fl = t.next.setReg d v := by
  unfold Thread.wrote
  rw [← Thread.next_fl]
  rfl

section
variable {s : State} {k : Fin 64} {c : Fin 16} {legal : Bool} {run : Thread → State → FRes} {d : Fin 16}

theorem foxStep_aluOp {op : Alu} {a b : W24} (h : s.foxRuns k c) (hl : legal = true)
    (hr : run (s.th k) (s.issued k) = aluOp k op d a b true (s.th k)) :
    FoxStep k ((s.th k).aluDone op d (aluSpec op a b (s.th k).fl)) s (s.long k c legal run) :=
  State.long_upd h hl (.inr rfl) (hr.trans (aluOp_eq_spec ..))

theorem foxStep_shiftOp {op : Shift} {a : W24} {n : Nat} (h : s.foxRuns k c) (hl : legal = true)
    (hr : run (s.th k) (s.issued k) = shiftOp k op d a n true (s.th k)) :
    FoxStep k ((s.th k).wrote d (shiftSpec op a n (s.th k).fl).1 (shiftSpec op a n (s.th k).fl).2) s
      (s.long k c legal run) :=
  State.long_upd h hl (.inr rfl) (hr.trans (shiftOp_eq_spec ..))

theorem foxStep_movOp {v : W24} (h : s.foxRuns k c) (hl : legal = true)
    (hr : run (s.th k) (s.issued k) = movOp k d v) :
    FoxStep k ((s.th k).wrote d v (s.th k).fl) s (s.long k c legal run) := by
  rw [Thread.wrote_same_fl]
  exact State.long_upd h hl (.inr rfl) hr

end

/-! ### The commands and their operations -/

/-- NEG, NOT, ABS and CLZ take one operand; the model gives them 0 for the other. -/
def Alu.unary : Alu → Bool
  | .neg | .not | .abs | .clz => true
  | _ => false

theorem aluSpec_unary (op : Alu) (a b : W24) (f : Flags) :
    aluSpec op a (if op.unary then 0 else b) f = aluSpec op a b f := by
  cases op <;> rfl

theorem exec_foxRegForm (op : Alu) (k : Fin 64) (c : Fin 16) (o : Opnd) (s : State) :
    exec (foxRegForm op k c o) s = .next (s.long k c (foxRegLegal op o)
      (fun t _ => aluOp k op o.d (t.reg o.a) (if op.unary then 0 else t.reg o.b) true t)) := by
  cases op <;> rfl

theorem exec_fxMov (k : Fin 64) (c : Fin 16) (o : Opnd) (s : State) :
    exec (.fxMov k c o) s = .next (s.long k c (o.isLR && o.b == 0) (fun t _ => movOp k o.d (t.reg o.a))) := rfl

/-- The operand fields of the immediate form of `op` are legal (R144). -/
def foxImmLegal (op : Alu) (o : Opnd) : Bool := if op = .cmp ∨ op = .tst then o.isLI && o.d == 0 else o.isLI

theorem foxImmLegal_of {op : Alu} {o : Opnd} (hl : o.isLI = true) (hd : op = .cmp ∨ op = .tst → o.d = 0) :
    foxImmLegal op o = true := by
  unfold foxImmLegal
  split
  next hc => rw [hl, hd hc]; rfl
  next => exact hl

theorem exec_foxImmForm {p : Alu × (Fin 64 → Fin 16 → BitVec 36 → Instr)} (hp : p ∈ foxImmForms)
    (k : Fin 64) (c : Fin 16) (o : Opnd) (s : State) :
    exec (p.2 k c o) s = .next (s.long k c (foxImmLegal p.1 o)
      (fun t _ => aluOp k p.1 o.d (t.reg o.a) (BitVec.ofNat 24 o.imm) true t)) := by
  simp only [foxImmForms, List.mem_cons, List.not_mem_nil, or_false] at hp
  rcases hp with rfl | rfl | rfl | rfl | rfl | rfl | rfl | rfl | rfl | rfl | rfl | rfl | rfl | rfl <;> rfl

theorem exec_foxShiftForm (op : Shift) (k : Fin 64) (c : Fin 16) (o : Opnd) (s : State) :
    exec (foxShiftForm op k c o) s = .next (s.long k c o.isLR
      (fun t _ => shiftOp k op o.d (t.reg o.a) ((t.reg o.b).toNat % 32) true t)) := by
  cases op <;> rfl

theorem exec_foxShiftImm (op : Shift) (k : Fin 64) (c : Fin 16) (o : Opnd) (s : State) :
    exec (foxShiftImm op k c o) s = .next (s.long k c (o.isLH && decide (o.imm < 24))
      (fun t _ => shiftOp k op o.d (t.reg o.a) o.imm true t)) := by
  cases op <;> rfl

theorem isLH_and_imm_lt {o : Opnd} (hb : o.b = 0) (hi : o.imm < 24) : (o.isLH && decide (o.imm < 24)) = true := by
  have h32 : o.imm < 32 := by omega
  rw [Opnd.isLH, hb, decide_eq_true h32, decide_eq_true hi]; rfl

/-- Settles O9: each command runs its shared operation, whose result and flags are the specification's. -/
theorem foxArithmeticComputes : Obligations.FoxArithmeticComputes := by
  refine ⟨fun k c o s h => ⟨fun op hl => ?_, fun hl hb => ?_⟩, fun p hp k c o s h hl hd => ?_,
    fun op k c o s h => ⟨fun hl => ?_, fun hb hi => ?_⟩⟩
  · refine ⟨_, exec_foxRegForm op k c o s, ?_⟩
    rw [← aluSpec_unary]
    exact foxStep_aluOp h hl rfl
  · exact ⟨_, exec_fxMov k c o s, foxStep_movOp h (by rw [hl, hb]; rfl) rfl⟩
  · exact ⟨_, exec_foxImmForm hp k c o s, foxStep_aluOp h (foxImmLegal_of hl hd) rfl⟩
  · exact ⟨_, exec_foxShiftForm op k c o s, foxStep_shiftOp h hl rfl⟩
  · exact ⟨_, exec_foxShiftImm op k c o s, foxStep_shiftOp h (isLH_and_imm_lt hb hi) rfl⟩

end Sys2Proof.Machine
end

section
/-!
Sparse maps: of two writes to one number the second counts.
-/
namespace Sys2Proof

theorem SMap.del_del {α : Type} (x : Nat) (m : SMap α) : SMap.del x (SMap.del x m) = SMap.del x m := by
  induction m with
  | nil => rfl
  | cons e r ih =>
    obtain ⟨k, w⟩ := e
    by_cases hk : x = k
    · simp only [SMap.del, if_pos hk, ih]
    · simp only [SMap.del, if_neg hk, ih]

theorem SMap.del_ins {α : Type} (x : Nat) (v : α) (m : SMap α) : SMap.del x (SMap.ins x v m) = SMap.del x m := by
  induction m with
  | nil => simp only [SMap.ins, SMap.del, if_true]
  | cons e r ih =>
    obtain ⟨k, w⟩ := e
    unfold SMap.ins
    split
    · simp only [SMap.del, if_true]
    · simp only [SMap.del, ih]

theorem SMap.set_set {α : Type} [DecidableEq α] (d : α) (m : SMap α) (x : Nat) (v w : α) :
    SMap.set d (SMap.set d m x v) x w = SMap.set d m x w := by
  have hdel : SMap.del x (SMap.set d m x v) = SMap.del x m := by
    unfold SMap.set
    split
    · exact SMap.del_del x m
    · rw [SMap.del_ins, SMap.del_del]
  rw [SMap.set, hdel, SMap.set]

end Sys2Proof
end

section
/-!
Fox words that move values and bits, scale and hash (R143, R144, R147, R149, R154, R181, R184): what each operation does to its
thread, and the statement about all of them.
-/
namespace Sys2Proof.Machine

/-! ### Values -/

theorem ofNat_two_pow_eq_shiftLeft (n : Nat) : BitVec.ofNat 24 (2 ^ n) = 1#24 <<< n := by
  apply BitVec.eq_of_toNat_eq
  rw [BitVec.toNat_ofNat, BitVec.toNat_shiftLeft, Nat.shiftLeft_eq, BitVec.toNat_ofNat, Nat.one_mod, Nat.one_mul]

/-- EXA clamps the accumulator after an arithmetic shift (R149). -/
theorem exaRun_eq (acc : BitVec 72) (n : Nat) (f : Flags) :
    exaRun acc n f = ⟨BitVec.ofInt 24 (clampS 24 (acc.sshiftRight n).toInt),
      { f.logic (BitVec.ofInt 24 (clampS 24 (acc.sshiftRight n).toInt)) with
        v := decide (clampS 24 (acc.sshiftRight n).toInt ≠ (acc.sshiftRight n).toInt) }⟩ := by
  have ht : (acc.sshiftRight n).toInt = acc.toInt / 2 ^ n := by
    rw [BitVec.toInt_sshiftRight, Int.shiftRight_eq_div_pow]; rfl
  rw [exaRun, ht, Flags.nz_eq_logic]

/-- SCALE adds the rounded Q12 product and clamps (R184). -/
theorem scaleRun_eq (d a b : W24) (f : Flags) :
    scaleRun d a b f =
      (let r := d.toInt + (a.toInt * b.toInt + 2048) / 4096
       ⟨BitVec.ofInt 24 (clampS 24 r), { f.logic (BitVec.ofInt 24 (clampS 24 r)) with v := decide (clampS 24 r ≠ r) }⟩) := by
  rw [scaleRun, Flags.nz_eq_logic]

/-! ### The state a word issues in -/

theorem State.updTh_updTh_id (s : State) (k : Nat) (g : Thread → Thread) : (s.updTh k g).updTh k id = s.updTh k g := by
  rw [State.updTh, State.th_updTh]
  simp only [State.updTh, State.setTh, SMap.set_set, id]

theorem State.issued_on (s : State) (k : Fin 64) {f : Field} (i : Nat) (hf : F.foxTIssued.id ≠ f.id) :
    (s.issued k).on f i = s.on f i := by
  rw [State.issued, State.on_incWrap_id _ _ _ _ hf, State.on_setEng]

theorem State.issued_act (s : State) (k : Fin 64) {f : Field} (i : Nat) (hf : F.foxTIssued.id ≠ f.id) :
    (s.issued k).act f i = s.act f i := by
  rw [State.issued, State.act_incWrap_id _ _ _ _ hf, State.act_setEng]

theorem State.issued_get (s : State) (k : Fin 64) {f : Field} (i : Nat) (hf : F.foxTIssued.id ≠ f.id) :
    (s.issued k).get f i = s.get f i := by
  rw [State.issued, State.get_incWrap_id _ _ _ _ hf, State.get_setEng]

theorem Thread.next_wdk (t : Thread) : t.next.wdk = t.wdk := by
  unfold Thread.next
  split <;> rfl

/-- The restart that a write of WDK makes reads the interval that stood before the word issued (R115). -/
theorem State.wdRestart_issued (s : State) (k : Fin 64) (g : Thread → Thread) :
    ((s.issued k).updTh k g).wdRestart k = ((s.issued k).updTh k g).updTh k (fun u =>
      { u with wdk := if s.on F.foxTWdgEn k then s.act F.foxTWdgIntervalUs k * 1000 else u.wdk }) := by
  simp only [State.wdRestart, State.on_updTh, State.act_updTh, State.issued_on s k _ (f := F.foxTWdgEn) (by decide),
    State.issued_act s k _ (f := F.foxTWdgIntervalUs) (by decide)]

/-! ### Words -/

section
variable {s : State} {k : Fin 64} {c : Fin 16} {legal : Bool} {run : Thread → State → FRes}

/-- A word whose operation changes nothing moves its thread on. -/
theorem foxStep_id (h : s.foxRuns k c) (hl : legal = true) (hr : run (s.th k) (s.issued k) = .go id) :
    FoxStep k (s.th k).next s (s.long k c legal run) := by
  have hid := s.foxStep_upd k id
  rw [State.updTh_updTh_id] at hid
  rw [State.long_go h hl (.inr rfl) hr]
  exact hid

/-- A word whose operation writes register `d` and the flags `fl`. -/
theorem foxStep_wrote {d : Fin 16} {v : W24} {fl : Flags} (h : s.foxRuns k c) (hl : legal = true)
    (hr : run (s.th k) (s.issued k) = .go (fun s => s.updTh k (fun u => { u.setReg d v with fl := fl }))) :
    FoxStep k ((s.th k).wrote d v fl) s (s.long k c legal run) :=
  State.long_upd h hl (.inr rfl) hr

/-- A word whose operation changes the flags by `g`. -/
theorem foxStep_flags (g : Flags → Flags) (h : s.foxRuns k c) (hl : legal = true)
    (hr : run (s.th k) (s.issued k) = .go (fun s => s.updTh k (fun u => { u with fl := g u.fl }))) :
    FoxStep k { (s.th k).next with fl := g (s.th k).fl } s (s.long k c legal run) := by
  rw [← Thread.next_fl]
  exact State.long_upd h hl (.inr rfl) hr

theorem foxStep_btstOp {a : W24} {n : Nat} (h : s.foxRuns k c) (hl : legal = true)
    (hr : run (s.th k) (s.issued k) = btstOp k a n true) :
    FoxStep k { (s.th k).next with fl := { (s.th k).fl with tf := a.getLsbD n, z := !a.getLsbD n } } s
      (s.long k c legal run) :=
  foxStep_flags (fun f => { f with tf := a.getLsbD n, z := !a.getLsbD n }) h hl hr

theorem foxStep_exa {d : Fin 16} {n : Nat} (h : s.foxRuns k c) (hl : legal = true)
    (hr : run (s.th k) (s.issued k) = .go (fun t => t.updTh k (fun u =>
      { u.setReg d (exaRun (s.th k).acc n (s.th k).fl).d with fl := (exaRun (s.th k).acc n (s.th k).fl).fl }))) :
    FoxStep k (let x := clampS 24 ((s.th k).acc.sshiftRight n).toInt
      (s.th k).wrote d (BitVec.ofInt 24 x)
        { (s.th k).fl.logic (BitVec.ofInt 24 x) with v := decide (x ≠ ((s.th k).acc.sshiftRight n).toInt) }) s
      (s.long k c legal run) := by
  rw [exaRun_eq] at hr
  exact foxStep_wrote h hl hr

theorem foxStep_scaleOp {d : Fin 16} {v a b : W24} (h : s.foxRuns k c) (hl : legal = true)
    (hr : run (s.th k) (s.issued k) = scaleOp k d v a b true (s.th k)) :
    FoxStep k (let r := v.toInt + (a.toInt * b.toInt + 2048) / 4096
      (s.th k).wrote d (BitVec.ofInt 24 (clampS 24 r))
        { (s.th k).fl.logic (BitVec.ofInt 24 (clampS 24 r)) with v := decide (clampS 24 r ≠ r) }) s
      (s.long k c legal run) := by
  simp only [scaleOp, scaleRun_eq] at hr
  exact foxStep_wrote h hl hr

/-- A write of any special register but WDK changes the thread only (R154). -/
theorem foxStep_spWriteOp {sp : Fin 16} {v : W24} (h : s.foxRuns k c) (hl : legal = true) (hsp : sp ≠ 13)
    (hr : run (s.th k) (s.issued k) = spWriteOp k sp v) :
    FoxStep k ((s.th k).next.spWrite sp v) s (s.long k c legal run) := by
  have hv : sp.val ≠ 13 := fun e => hsp (Fin.ext e)
  rw [spWriteOp, if_neg hv] at hr
  exact State.long_upd h hl (.inr rfl) hr

/-- A write of WDK by a thread that does not report to Owl restarts its watchdog and does nothing else (R115, R116). -/
theorem foxStep_wdkWrite {v : W24} (h : s.foxRuns k c) (hl : legal = true) (hsafe : s.get F.foxTTcfgSafety k = 0)
    (hr : run (s.th k) (s.issued k) = spWriteOp k 13 v) :
    FoxStep k { (s.th k).next with
      wdk := if s.on F.foxTWdgEn k then s.act F.foxTWdgIntervalUs k * 1000 else (s.th k).wdk } s
      (s.long k c legal run) := by
  have hs : (s.issued k).get F.foxTTcfgSafety k = 0 := (s.issued_get k k (by decide)).trans hsafe
  rw [spWriteOp, if_pos (by decide)] at hr
  rw [State.long_go h hl (.inr rfl) hr, ← Thread.next_wdk]
  simp only [State.wdRestart_issued, State.get_updTh, hs, ne_eq, not_true_eq_false, if_false]
  exact s.foxStep_upd k _

end

/-! ### The commands -/

/-- Settles O10: each command runs an operation on its thread only, whose result and flags are the specification's. -/
theorem foxMovesBitsAndHash : Obligations.FoxMovesBitsAndHash := by
  refine ⟨fun k c o s h => ?_, fun k c o s h => ?_, fun k c o s h hl => ?_⟩
  · refine ⟨fun hl hb => ?mov, fun ha hb => ?movi, fun hb hi => ⟨?bset, ?bclr, fun hd => ?btst⟩, fun hl => ?tfc, fun ho => ?nop⟩
    case mov => exact ⟨_, exec_fxMov k c o s, foxStep_movOp h (by rw [hl, hb]; rfl) rfl⟩
    case movi => exact ⟨_, rfl, foxStep_movOp h (by rw [Opnd.isLI, ha, hb]; rfl) rfl⟩
    case bset => exact ⟨_, rfl, foxStep_movOp h (isLH_and_imm_lt hb hi) (by rw [ofNat_two_pow_eq_shiftLeft])⟩
    case bclr => exact ⟨_, rfl, foxStep_movOp h (isLH_and_imm_lt hb hi) (by rw [ofNat_two_pow_eq_shiftLeft])⟩
    case btst =>
      exact ⟨_, rfl, foxStep_btstOp h (by rw [hd, Bool.and_right_comm, isLH_and_imm_lt hb hi]; rfl) rfl⟩
    case tfc =>
      exact ⟨_, rfl, foxStep_flags (fun f => { f with tf := condHolds (Opnd.b o) (s.th k).fl }) h hl rfl⟩
    case nop => exact ⟨_, rfl, foxStep_id h (by rw [ho]; rfl) rfl⟩
  · refine ⟨fun hl hi => ?exa, fun hl => ?scale, fun hl => ?hash⟩
    case exa => exact ⟨_, rfl, foxStep_exa h (by rw [hl, decide_eq_true hi]; rfl) rfl⟩
    case scale => exact ⟨_, rfl, foxStep_scaleOp h hl rfl⟩
    case hash => exact ⟨_, rfl, foxStep_movOp h hl rfl⟩
  · refine ⟨?movsRead, fun hpc htid hwdk => ?movsWrite, fun hwdk hs => ?wdkWrite⟩
    case movsRead => exact ⟨_, rfl, foxStep_movOp h hl rfl⟩
    case movsWrite =>
      exact ⟨_, rfl, foxStep_spWriteOp h (by rw [hl, bne_iff_ne.mpr hpc, bne_iff_ne.mpr htid]; rfl) hwdk rfl⟩
    case wdkWrite => exact ⟨_, rfl, foxStep_wdkWrite h (by rw [hl, hwdk]; rfl) hs (by rw [hwdk])⟩

end Sys2Proof.Machine
end

section
/-!
What a state keeps (the vocabulary of the statements): register fields and memories under the writes of the image block, and
what a sparse map shows of the entries kept in it.
-/
namespace Sys2Proof

theorem SMap.get_keep {α : Type} (d : α) (p : Nat → Bool) (m : SMap α) (x : Nat) :
    SMap.get d (SMap.keep p m) x = if p x = true then SMap.get d m x else d := by
  induction m with
  | nil => exact (ite_self d).symm
  | cons e r ih =>
    obtain ⟨k, v⟩ := e
    unfold SMap.keep at ih ⊢
    cases hk : p k with
    | true =>
      rw [List.filter_cons_of_pos (p := fun e : Nat × α => p e.1) hk, SMap.get, SMap.get, ih]
      by_cases hx : x = k
      · rw [if_pos hx, if_pos hx, hx, if_pos hk]
      · rw [if_neg hx, if_neg hx]
    | false =>
      rw [List.filter_cons_of_neg (p := fun e : Nat × α => p e.1) (Bool.eq_false_iff.mp hk), ih, SMap.get]
      by_cases hx : x = k
      · rw [hx, if_neg (Bool.eq_false_iff.mp hk), if_neg (Bool.eq_false_iff.mp hk)]
      · rw [if_neg hx]

end Sys2Proof

namespace Sys2Proof.Machine

theorem Field.key_div (f : Field) (i : Nat) : f.key i / 1048576 = f.id := by
  unfold Field.key
  omega

/-- Writing an L field changes the live values only (R21). -/
theorem State.put_of_live {f : Field} (h : f.staged = false) (s : State) (i v : Nat) :
    s.put f i v = { s with live := (s.put f i v).live } := by
  unfold State.put
  rw [h]
  rfl

theorem State.hostWr_of_on {s : State} {on : Bool} (ho : s.off = false) (hd : on = true) (off : Nat) (g : State → State) :
    s.hostWr on off g = g s := by
  rw [State.hostWr, ho, hd]
  rfl

section
variable {s t u : State} {l : List Field}

theorem State.sameRegs_refl (s : State) (l : List Field) : s.sameRegs l s := fun _ _ _ => ⟨rfl, rfl⟩

/-- What holds no register value does not matter. -/
theorem State.sameRegs.congr (h : s.sameRegs l t) (hp : u.pend = t.pend) (ha : u.actv = t.actv) (hl : u.live = t.live) :
    s.sameRegs l u := by
  intro f i hf
  rw [State.get_congr hp hl, State.act_congr ha hl]
  exact h f i hf

theorem State.sameRegs.put (h : s.sameRegs l t) {f : Field} (hf : f ∈ l) (i v : Nat) : s.sameRegs l (t.put f i v) := by
  intro g j hg
  rw [State.get_put_id t i j v (hg f hf), State.act_put_id t i j v (hg f hf)]
  exact h g j hg

theorem State.sameRegs.doorbell (h : s.sameRegs l t) (hf : F.mbxD2hPend ∈ l) (b : Nat) : s.sameRegs l (t.doorbell b) := by
  intro g j hg
  rw [State.get_doorbell t b j (hg _ hf), State.act_doorbell t b j (hg _ hf)]
  exact h g j hg

theorem State.sameMem_refl (s : State) : s.sameMem s := ⟨rfl, rfl, rfl, rfl, rfl, rfl, rfl, rfl, rfl⟩

theorem State.sameMem.put (h : s.sameMem t) (f : Field) (i v : Nat) : s.sameMem (t.put f i v) := by
  simpa only [State.sameMem, State.put_frame] using h

end

end Sys2Proof.Machine
end

section
/-!
Leases (R264, R265, R267): what opening, closing and expiry leave, and what the host's view then shows.
-/
namespace Sys2Proof.Machine

/-! ### The host's view -/

theorem State.viewByte_of_no_lease {s : State} (h : s.get F.imgLeaseStatOpen = 0) (a : Nat) :
    s.viewByte a = SMap.get 0 s.imgCur a := by
  rw [State.viewByte, h]
  rfl

/-- Without a LEASED slot the leased version is the current one (R267). -/
theorem State.viewByte_of_no_leased_slot {s : State} (h : s.leaseBlk = []) (a : Nat) :
    s.viewByte a = SMap.get 0 s.imgCur a := by
  rw [State.viewByte, h, SMap.get, Bool.and_false]
  rfl

/-! ### The commands -/

/-- The lease timer and the mark of the last lease, set beside the registers. -/
def State.withLease (s : State) (ns : Nat) (expired : Bool) : State := { s with leaseNs := ns, leaseExp := expired }

section
variable (s : State) (ns : Nat) (expired : Bool)

theorem State.withLease_leaseNs : (s.withLease ns expired).leaseNs = ns := rfl
theorem State.withLease_imgCur : (s.withLease ns expired).imgCur = s.imgCur := rfl
theorem State.withLease_leaseBlk : (s.withLease ns expired).leaseBlk = s.leaseBlk := rfl
theorem State.withLease_cram : (s.withLease ns expired).cram = s.cram := rfl
theorem State.get_withLease (f : Field) (i : Nat) : (s.withLease ns expired).get f i = s.get f i := rfl

end

theorem State.sameRegs.withLease {s t : State} {l : List Field} (h : s.sameRegs l t) (ns : Nat) (expired : Bool) :
    s.sameRegs l (t.withLease ns expired) := h

@[simp] theorem State.freeLeased_imgCur (s : State) : s.freeLeased.imgCur = s.imgCur := rfl
@[simp] theorem State.freeLeased_leaseBlk (s : State) : s.freeLeased.leaseBlk = [] := rfl
@[simp] theorem State.freeLeased_cram (s : State) : s.freeLeased.cram = s.cram := rfl
@[simp] theorem State.get_freeLeased (s : State) (f : Field) (i : Nat) : s.freeLeased.get f i = s.get f i := rfl

theorem State.sameRegs_freeLeased (s : State) (l : List Field) : s.sameRegs l s.freeLeased := s.sameRegs_refl l

theorem exec_imgLeaseOpen {s : State} (ho : s.off = false) (hd : s.domOn .core = true) (v : W32) :
    exec (.imgLeaseOpen v) s = .next (s.leaseOpen v.toNat) :=
  congrArg Host.Outcome.next (State.hostWr_of_on ho hd ..)

theorem exec_imgLeaseClose {s : State} (ho : s.off = false) (hd : s.domOn .core = true) :
    exec .imgLeaseClose s = .next s.leaseClose :=
  congrArg Host.Outcome.next (State.hostWr_of_on ho hd ..)

/-- A lease of `n` ms, not 0, that opens or moves (R264, R265). -/
def State.leaseOpened (s : State) (n : Nat) : State :=
  State.withLease (((s.freeLeased.put F.imgLeaseStatOpen 0 1).put F.imgLeaseStatEpoch 0 (s.get F.imgEpoch)).put
    F.imgLeaseStatExpired 0 0) (min n 10000 * 1000000) false

theorem State.leaseOpen_zero (s : State) {v : Nat} (h : v % 2 ^ 14 = 0) : s.leaseOpen v = s.put F.imgLeaseStatZero 0 1 :=
  if_pos h

theorem State.leaseOpen_pos (s : State) {v : Nat} (h : v % 2 ^ 14 ≠ 0) : s.leaseOpen v = s.leaseOpened (v % 2 ^ 14) :=
  if_neg h

/-- An open lease that ends, by expiry or not (R267). -/
def State.leaseEnded (s : State) (expired : Bool) : State := (s.freeLeased.put F.imgLeaseStatOpen 0 0).withLease 0 expired

theorem State.leaseClose_none {s : State} (h : s.get F.imgLeaseStatOpen = 0) : s.leaseClose = s := if_pos h

theorem State.leaseClose_open {s : State} (h : s.get F.imgLeaseStatOpen ≠ 0) : s.leaseClose = s.leaseEnded false := if_neg h

theorem exec_leaseExpire_none {s : State} (h : s.get F.imgLeaseStatOpen = 0 ∨ s.leaseNs ≠ 0) :
    exec .leaseExpire s = .next s :=
  congrArg Host.Outcome.next (if_pos h)

theorem exec_leaseExpire_due {s : State} (ho : s.get F.imgLeaseStatOpen ≠ 0) (hn : s.leaseNs = 0) :
    exec .leaseExpire s = .next (((s.leaseEnded true).put F.imgLeaseStatExpired 0 1).doorbell 29) := by
  have h : s.leaseEnded true = { s.leaseClose with leaseExp := true } := by rw [State.leaseClose_open ho]; rfl
  rw [h]
  exact congrArg Host.Outcome.next (if_neg (not_or.mpr ⟨ho, fun h => h hn⟩))

/-! ### What they leave -/

theorem State.get_leaseEnded_open (s : State) (expired : Bool) : (s.leaseEnded expired).get F.imgLeaseStatOpen = 0 := by
  rw [State.leaseEnded, State.get_withLease, State.get_put, Nat.zero_mod]

theorem State.get_leaseEnded (s : State) (expired : Bool) {f : Field} (hf : F.imgLeaseStatOpen.id ≠ f.id) (i : Nat) :
    (s.leaseEnded expired).get f i = s.get f i := by
  rw [State.leaseEnded, State.get_withLease, State.get_put_id _ _ _ _ hf, State.get_freeLeased]

theorem State.sameRegs_leaseEnded (s : State) (expired : Bool) {l : List Field} (h : F.imgLeaseStatOpen ∈ l) :
    s.sameRegs l (s.leaseEnded expired) :=
  ((s.sameRegs_freeLeased l).put h 0 0).withLease 0 expired

@[simp] theorem State.leaseEnded_imgCur (s : State) (expired : Bool) : (s.leaseEnded expired).imgCur = s.imgCur := by
  simp only [State.leaseEnded, State.withLease_imgCur, State.put_frame, State.freeLeased_imgCur]

@[simp] theorem State.leaseEnded_leaseNs (s : State) (expired : Bool) : (s.leaseEnded expired).leaseNs = 0 := rfl

@[simp] theorem State.leaseOpened_leaseNs (s : State) (n : Nat) : (s.leaseOpened n).leaseNs = min n 10000 * 1000000 :=
  State.withLease_leaseNs ..

@[simp] theorem State.leaseOpened_imgCur (s : State) (n : Nat) : (s.leaseOpened n).imgCur = s.imgCur := by
  rw [State.leaseOpened, State.withLease_imgCur]
  simp only [State.put_frame, State.freeLeased_imgCur]

@[simp] theorem State.leaseOpened_leaseBlk (s : State) (n : Nat) : (s.leaseOpened n).leaseBlk = [] := by
  rw [State.leaseOpened, State.withLease_leaseBlk]
  simp only [State.put_frame, State.freeLeased_leaseBlk]

@[simp] theorem State.leaseOpened_cram (s : State) (n : Nat) : (s.leaseOpened n).cram = s.cram := by
  rw [State.leaseOpened, State.withLease_cram]
  simp only [State.put_frame, State.freeLeased_cram]

/-- The fields of IMG_LEASE_STAT that opening a lease writes. -/
def leaseFields : List Field := [F.imgLeaseStatOpen, F.imgLeaseStatEpoch, F.imgLeaseStatExpired]

theorem State.sameRegs_leaseOpened (s : State) (n : Nat) : s.sameRegs leaseFields (s.leaseOpened n) :=
  ((((s.sameRegs_freeLeased leaseFields).put (by simp [leaseFields]) 0 1).put (by simp [leaseFields]) 0 _).put
    (by simp [leaseFields]) 0 0).withLease _ _

section
variable {s : State} (ho : s.off = false) (hd : s.domOn .core = true)
include ho hd

theorem leaseOpen_zero_completes {v : W32} (hn : v.toNat % 2 ^ 14 = 0) :
    Completes (.imgLeaseOpen v) s (fun t => t.get F.imgLeaseStatZero = 1 ∧ s.sameRegs [F.imgLeaseStatZero] t ∧
      t = { s with live := t.live }) :=
  ⟨s.put F.imgLeaseStatZero 0 1, (exec_imgLeaseOpen ho hd v).trans (by rw [s.leaseOpen_zero hn]), State.get_put _ _ _ _,
    (s.sameRegs_refl _).put List.mem_cons_self 0 1, State.put_of_live rfl s 0 1⟩

theorem leaseOpen_pos_completes {v : W32} (hn : v.toNat % 2 ^ 14 ≠ 0) :
    Completes (.imgLeaseOpen v) s (fun t =>
      t.get F.imgLeaseStatOpen = 1 ∧ t.get F.imgLeaseStatEpoch = s.get F.imgEpoch % 2 ^ F.imgLeaseStatEpoch.w ∧
      t.get F.imgLeaseStatExpired = 0 ∧ t.leaseNs = min (v.toNat % 2 ^ 14) 10000 * 1000000 ∧
      (∀ a, t.viewByte a = SMap.get 0 s.imgCur a) ∧
      s.sameRegs leaseFields t ∧ t.cram = s.cram ∧ t.imgCur = s.imgCur) := by
  refine ⟨s.leaseOpened (v.toNat % 2 ^ 14), (exec_imgLeaseOpen ho hd v).trans (by rw [s.leaseOpen_pos hn]),
    ?opened, ?epoch, ?expired, s.leaseOpened_leaseNs _, fun a => ?view, s.sameRegs_leaseOpened _, s.leaseOpened_cram _,
    s.leaseOpened_imgCur _⟩
  case opened =>
    rw [State.leaseOpened, State.get_withLease, State.get_put_id _ _ _ _ (by decide),
      State.get_put_id _ _ _ _ (by decide), State.get_put]
    rfl
  case epoch => rw [State.leaseOpened, State.get_withLease, State.get_put_id _ _ _ _ (by decide), State.get_put]
  case expired => rw [State.leaseOpened, State.get_withLease, State.get_put, Nat.zero_mod]
  case view => rw [State.viewByte_of_no_leased_slot (s.leaseOpened_leaseBlk _), s.leaseOpened_imgCur]

theorem leaseClose_none_completes (hl : s.get F.imgLeaseStatOpen = 0) : Completes .imgLeaseClose s (fun t => t = s) :=
  ⟨s, (exec_imgLeaseClose ho hd).trans (by rw [State.leaseClose_none hl]), rfl⟩

theorem leaseClose_completes (hl : s.get F.imgLeaseStatOpen ≠ 0) :
    Completes .imgLeaseClose s (fun t => t.get F.imgLeaseStatOpen = 0 ∧ t.leaseNs = 0 ∧
      s.sameRegs [F.imgLeaseStatOpen] t ∧ (∀ a, t.viewByte a = SMap.get 0 s.imgCur a)) :=
  ⟨s.leaseEnded false, (exec_imgLeaseClose ho hd).trans (by rw [State.leaseClose_open hl]), s.get_leaseEnded_open false,
    s.leaseEnded_leaseNs false, s.sameRegs_leaseEnded false List.mem_cons_self, fun a => by
      rw [State.viewByte_of_no_lease (s.get_leaseEnded_open false), s.leaseEnded_imgCur]⟩

end

theorem leaseExpire_completes {s : State} (ho : s.get F.imgLeaseStatOpen ≠ 0) (hn : s.leaseNs = 0) :
    Completes .leaseExpire s (fun t => t.get F.imgLeaseStatOpen = 0 ∧ t.get F.imgLeaseStatExpired = 1 ∧ t.leaseNs = 0 ∧
      t.get F.mbxD2hPend = setBit (s.get F.mbxD2hPend) 29 % 2 ^ 32 ∧
      s.sameRegs [F.imgLeaseStatOpen, F.imgLeaseStatExpired, F.mbxD2hPend] t ∧ t.imgCur = s.imgCur) := by
  refine ⟨_, exec_leaseExpire_due ho hn, ?opened, ?expired, ?timer, ?bell, ?regs, ?image⟩
  case opened =>
    rw [State.get_doorbell _ _ _ (by decide), State.get_put_id _ _ _ _ (by decide), s.get_leaseEnded_open]
  case expired =>
    rw [State.get_doorbell _ _ _ (by decide), State.get_put]
    rfl
  case timer => simp only [State.doorbell_frame, State.put_frame, s.leaseEnded_leaseNs]
  case bell => rw [State.get_doorbell_pend, State.get_put_id _ _ _ _ (by decide), s.get_leaseEnded true (by decide)]
  case regs => exact ((s.sameRegs_leaseEnded true List.mem_cons_self).put (by simp) 0 1).doorbell (by simp) 29
  case image => simp only [State.doorbell_frame, State.put_frame, s.leaseEnded_imgCur]

end Sys2Proof.Machine
end

section
/-!
Counter snapshots (R270-R272): what GO, RELEASE, CANCEL and the snapshot edge leave, and the statement about leases and
snapshots.
-/
namespace Sys2Proof.Machine

/-! ### The commands -/

theorem exec_csnapGo {s : State} (ho : s.off = false) (hd : s.domOn .core = true) (whn clear : Bool) :
    exec (.csnapGo whn clear) s = .next (s.snapGo whn clear) :=
  congrArg Host.Outcome.next (State.hostWr_of_on ho hd ..)

theorem exec_csnapRelease {s : State} (ho : s.off = false) (hd : s.domOn .core = true) :
    exec .csnapRelease s = .next s.snapRelease :=
  congrArg Host.Outcome.next (State.hostWr_of_on ho hd ..)

theorem exec_csnapCancel {s : State} (ho : s.off = false) (hd : s.domOn .core = true) :
    exec .csnapCancel s = .next (s.snapWithdraw 5) :=
  congrArg Host.Outcome.next (State.hostWr_of_on ho hd ..)

/-- With no TAKE command waiting, the snapshot edge ends none. -/
theorem exec_snapshotEdge {s : State} (hm : s.snapMbx = none) : exec .snapshotEdge s = .next s.snapEdge := by
  refine congrArg Host.Outcome.next ?_
  dsimp only
  split
  · rfl
  · rw [hm]

/-! ### GO (R271) -/

/-- WHEN and CLEAR written to IMG_CSNAP_CTRL. -/
def State.snapCtrl (s : State) (whn clear : Bool) : State :=
  (s.put F.imgCsnapCtrlWhen 0 whn.toNat).put F.imgCsnapCtrlClear 0 clear.toNat

theorem State.get_snapCtrl (s : State) (whn clear : Bool) {f : Field} (hw : F.imgCsnapCtrlWhen.id ≠ f.id)
    (hc : F.imgCsnapCtrlClear.id ≠ f.id) (i : Nat) : (s.snapCtrl whn clear).get f i = s.get f i :=
  (State.get_put_id _ _ _ _ hc).trans (State.get_put_id _ _ _ _ hw)

theorem State.get_snapCtrl_pending (s : State) (whn clear : Bool) :
    (s.snapCtrl whn clear).get F.imgCsnapStatPending = s.get F.imgCsnapStatPending :=
  s.get_snapCtrl whn clear (by decide) (by decide) 0

theorem State.get_snapCtrl_held (s : State) (whn clear : Bool) :
    (s.snapCtrl whn clear).get F.imgCsnapStatHeld = s.get F.imgCsnapStatHeld :=
  s.get_snapCtrl whn clear (by decide) (by decide) 0

theorem State.get_snapCtrl_whn (s : State) (whn clear : Bool) :
    (s.snapCtrl whn clear).get F.imgCsnapCtrlWhen = whn.toNat := by
  rw [State.snapCtrl, State.get_put_id _ _ _ _ (by decide), State.get_put]
  exact Nat.mod_eq_of_lt (Bool.toNat_lt whn)

theorem State.get_snapCtrl_clear (s : State) (whn clear : Bool) :
    (s.snapCtrl whn clear).get F.imgCsnapCtrlClear = clear.toNat := by
  rw [State.snapCtrl, State.get_put]
  exact Nat.mod_eq_of_lt (Bool.toNat_lt clear)

/-- WHEN and CLEAR of the pending request, whose commit edge has not come. -/
def State.withSnap (s : State) (whn clear : Bool) : State := { s with snapDue := false, snapWhn := whn, snapClr := clear }

/-- A request that is taken. -/
def State.snapAccepted (s : State) (whn clear : Bool) : State :=
  ((s.snapCtrl whn clear).put F.imgCsnapStatPending 0 1).withSnap whn clear

theorem State.snapGo_eq (s : State) (whn clear : Bool) :
    s.snapGo whn clear =
      if s.get F.imgCsnapStatPending ≠ 0 ∨ s.get F.imgCsnapStatHeld ≠ 0 then
        (s.snapCtrl whn clear).put F.imgCsnapStatBusy 0 1
      else s.snapAccepted whn clear := by
  rw [← s.get_snapCtrl_pending whn clear, ← s.get_snapCtrl_held whn clear]
  rfl

/-- The fields that a GO may write. -/
def snapGoFields : List Field := [F.imgCsnapCtrlWhen, F.imgCsnapCtrlClear, F.imgCsnapStatPending, F.imgCsnapStatBusy]

theorem State.sameRegs_snapCtrl (s : State) (whn clear : Bool) : s.sameRegs snapGoFields (s.snapCtrl whn clear) :=
  ((s.sameRegs_refl _).put (by simp [snapGoFields]) 0 whn.toNat).put (by simp [snapGoFields]) 0 clear.toNat

theorem State.sameMem_snapCtrl (s : State) (whn clear : Bool) : s.sameMem (s.snapCtrl whn clear) :=
  (s.sameMem_refl.put F.imgCsnapCtrlWhen 0 _).put F.imgCsnapCtrlClear 0 _

theorem State.get_withSnap (s : State) (whn clear : Bool) (f : Field) (i : Nat) :
    (s.withSnap whn clear).get f i = s.get f i := rfl

theorem State.sameRegs.withSnap {s t : State} {l : List Field} (h : s.sameRegs l t) (whn clear : Bool) :
    s.sameRegs l (t.withSnap whn clear) := h

theorem State.sameMem.withSnap {s t : State} (h : s.sameMem t) (whn clear : Bool) : s.sameMem (t.withSnap whn clear) := h

theorem State.sameRegs_snapAccepted (s : State) (whn clear : Bool) : s.sameRegs snapGoFields (s.snapAccepted whn clear) :=
  ((s.sameRegs_snapCtrl whn clear).put (by simp [snapGoFields]) 0 1).withSnap whn clear

theorem State.sameMem_snapAccepted (s : State) (whn clear : Bool) : s.sameMem (s.snapAccepted whn clear) :=
  ((s.sameMem_snapCtrl whn clear).put F.imgCsnapStatPending 0 1).withSnap whn clear

section
variable {s : State} (ho : s.off = false) (hd : s.domOn .core = true) (whn clear : Bool)
include ho hd

theorem csnapGo_accepted_completes (hp : s.get F.imgCsnapStatPending = 0) (hh : s.get F.imgCsnapStatHeld = 0) :
    Completes (.csnapGo whn clear) s (fun t =>
      t.get F.imgCsnapStatPending = 1 ∧ t.get F.imgCsnapCtrlWhen = whn.toNat ∧ t.get F.imgCsnapCtrlClear = clear.toNat ∧
      t.snapWhn = whn ∧ t.snapClr = clear ∧ t.snapDue = false ∧ s.sameRegs snapGoFields t ∧ t.held = s.held ∧
      s.sameMem t) := by
  have hg : ¬(s.get F.imgCsnapStatPending ≠ 0 ∨ s.get F.imgCsnapStatHeld ≠ 0) :=
    not_or.mpr ⟨fun h => h hp, fun h => h hh⟩
  refine ⟨s.snapAccepted whn clear, (exec_csnapGo ho hd whn clear).trans (by rw [s.snapGo_eq, if_neg hg]), ?pending, ?whn,
    ?clear, rfl, rfl, rfl, s.sameRegs_snapAccepted whn clear, rfl, s.sameMem_snapAccepted whn clear⟩
  case pending => rw [State.snapAccepted, State.get_withSnap, State.get_put]; rfl
  case whn => rw [State.snapAccepted, State.get_withSnap, State.get_put_id _ _ _ _ (by decide), State.get_snapCtrl_whn]
  case clear =>
    rw [State.snapAccepted, State.get_withSnap, State.get_put_id _ _ _ _ (by decide), State.get_snapCtrl_clear]

theorem csnapGo_busy_completes (hg : s.get F.imgCsnapStatPending ≠ 0 ∨ s.get F.imgCsnapStatHeld ≠ 0) :
    Completes (.csnapGo whn clear) s (fun t =>
      t.get F.imgCsnapStatBusy = 1 ∧ t.get F.imgCsnapStatPending = s.get F.imgCsnapStatPending ∧
      t.snapWhn = s.snapWhn ∧ t.snapClr = s.snapClr ∧ s.sameRegs snapGoFields t ∧ t.held = s.held ∧ s.sameMem t) := by
  refine ⟨(s.snapCtrl whn clear).put F.imgCsnapStatBusy 0 1,
    (exec_csnapGo ho hd whn clear).trans (by rw [s.snapGo_eq, if_pos hg]), State.get_put _ _ _ _, ?pending, rfl, rfl,
    (s.sameRegs_snapCtrl whn clear).put (by simp [snapGoFields]) 0 1, rfl, (s.sameMem_snapCtrl whn clear).put _ 0 1⟩
  case pending => rw [State.get_put_id _ _ _ _ (by decide), State.get_snapCtrl_pending]

/-! ### RELEASE and CANCEL (R271, R272) -/

theorem csnapRelease_none_completes (hh : s.get F.imgCsnapStatHeld = 0) : Completes .csnapRelease s (fun t => t = s) :=
  ⟨s, (exec_csnapRelease ho hd).trans (congrArg Host.Outcome.next (if_pos hh)), rfl⟩

theorem csnapRelease_completes (hh : s.get F.imgCsnapStatHeld ≠ 0) :
    Completes .csnapRelease s (fun t => t.get F.imgCsnapStatHeld = 0 ∧ s.sameRegs [F.imgCsnapStatHeld] t ∧
      t = { s with live := t.live, held := [] }) :=
  ⟨_, (exec_csnapRelease ho hd).trans (congrArg Host.Outcome.next (if_neg hh)), s.get_put F.imgCsnapStatHeld 0 0,
    ((s.sameRegs_refl _).put (f := F.imgCsnapStatHeld) List.mem_cons_self 0 0).congr rfl rfl rfl, rfl⟩

theorem csnapCancel_none_completes (h : s.get F.imgCsnapStatPending = 0 ∨ s.snapDue = true) :
    Completes .csnapCancel s (fun t => t = s) :=
  ⟨s, (exec_csnapCancel ho hd).trans (congrArg Host.Outcome.next (if_pos h)), rfl⟩

end

/-- A pending request is withdrawn; the TAKE command that waits for it ends. -/
theorem State.snapWithdraw_pending {s : State} (hp : s.get F.imgCsnapStatPending ≠ 0) (hu : s.snapDue = false)
    (code : Nat) :
    s.snapWithdraw code = match s.snapMbx with
      | some m => State.cmdEnd { s.snapCancel with snapMbx := none } m code (some [])
      | none => { s.snapCancel with snapMbx := none } := by
  have h : ¬(s.get F.imgCsnapStatPending = 0 ∨ s.snapDue = true) := not_or.mpr ⟨hp, Bool.eq_false_iff.mp hu⟩
  exact if_neg h

section
variable {s : State} (ho : s.off = false) (hd : s.domOn .core = true) (hp : s.get F.imgCsnapStatPending ≠ 0)
  (hu : s.snapDue = false)
include ho hd hp hu

theorem csnapCancel_completes (hm : s.snapMbx = none) :
    Completes .csnapCancel s (fun t => t.get F.imgCsnapStatPending = 0 ∧ s.sameRegs [F.imgCsnapStatPending] t ∧
      s.sameMem t) :=
  ⟨{ s.snapCancel with snapMbx := none },
    (exec_csnapCancel ho hd).trans (by rw [State.snapWithdraw_pending hp hu, hm]), s.get_put F.imgCsnapStatPending 0 0,
    ((s.sameRegs_refl _).put (f := F.imgCsnapStatPending) List.mem_cons_self 0 0).congr rfl rfl rfl,
    s.sameMem_refl.put F.imgCsnapStatPending 0 0⟩

theorem csnapCancel_take_completes {m : Nat} (hm : s.snapMbx = some m) :
    Completes .csnapCancel s (fun t => t = State.cmdEnd { s.snapCancel with snapMbx := none } m 5 (some [])) :=
  ⟨_, (exec_csnapCancel ho hd).trans (by rw [State.snapWithdraw_pending hp hu, hm]), rfl⟩

end

/-! ### Counters (R270) -/

theorem mem_counterIds {r : Row} (hr : r ∈ regRows) {f : Field} (hf : f ∈ r.fields) (hc : f.counter = true) :
    f.id ∈ counterIds :=
  List.mem_map_of_mem (List.mem_filter.mpr ⟨List.mem_flatMap.mpr ⟨r, hr, hf⟩, hc⟩)

theorem counter_not_staged : ∀ r ∈ regRows, ∀ f ∈ r.fields, f.counter = true → f.staged = false := by decide +kernel

/-- With CLEAR the counters restart; the other live values stay. -/
theorem State.get_snapCopy (s : State) {f : Field} (hf : f.staged = false) (i : Nat) :
    s.snapCopy.get f i = if s.snapClr = true ∧ f.id ∈ counterIds then f.reset i else s.get f i := by
  have hkeep : SMap.get (f.reset i) (s.live.filter (fun e => !counterIds.contains (e.1 / 1048576))) (f.key i) =
      if f.id ∈ counterIds then f.reset i else SMap.get (f.reset i) s.live (f.key i) := by
    refine (SMap.get_keep _ (fun x => !counterIds.contains (x / 1048576)) s.live (f.key i)).trans ?_
    simp only [Field.key_div, Bool.not_eq_true', List.contains_eq_mem, decide_eq_false_iff_not, ite_not]
  simp only [State.get, State.snapCopy, hf, Bool.false_eq_true, if_false]
  cases s.snapClr with
  | false => simp only [Bool.false_eq_true, false_and, if_false]
  | true => simpa only [true_and, if_true] using hkeep

/-- PENDING gives way to HELD. -/
def State.snapHeld (t : State) : State := (t.put F.imgCsnapStatPending 0 0).put F.imgCsnapStatHeld 0 1

theorem State.get_snapHeld (t : State) {f : Field} (hp : F.imgCsnapStatPending.id ≠ f.id)
    (hh : F.imgCsnapStatHeld.id ≠ f.id) (i : Nat) : t.snapHeld.get f i = t.get f i := by
  rw [State.snapHeld, State.get_put_id _ _ _ _ hh, State.get_put_id _ _ _ _ hp]

theorem State.snapHeld_time (t : State) : t.snapHeld.time = t.time := by
  simp only [State.snapHeld, State.put_frame]

/-- The registers show that a snapshot is held, with the epoch and the time of its edge (R272). -/
def State.snapShown (t : State) : State :=
  ((t.snapHeld.put F.imgCsnapStatEpoch 0 (t.snapHeld.get F.imgEpoch)).put F.imgCsnapNs 0 t.snapHeld.time.ns).put
    F.imgCsnapSecLo 0 t.snapHeld.time.sec

theorem State.snapEdge_wait {s : State} (hw : s.snapWhn = true) (hu : s.snapDue = false) : s.snapEdge = s := by
  rw [State.snapEdge, hw, hu]
  exact if_pos (.inr ⟨rfl, rfl⟩)

theorem State.snapEdge_now {s : State} (hp : s.get F.imgCsnapStatPending ≠ 0) (hw : s.snapWhn = false) :
    s.snapEdge = s.snapCopy.snapShown := by
  rw [State.snapEdge, hw, if_neg (by simpa using hp)]
  rfl

theorem State.snapEdge_commit {s : State} (hp : s.get F.imgCsnapStatPending ≠ 0) (hw : s.snapWhn = true)
    (hu : s.snapDue = true) : s.snapEdge = State.snapShown { s with snapDue := false } := by
  rw [State.snapEdge, if_neg (by simpa [hw, hu] using hp), hw]
  rfl

/-! ### The snapshot edge (R271, R272) -/

/-- The fields that show a snapshot. -/
def snapFields : List Field :=
  [F.imgCsnapStatPending, F.imgCsnapStatHeld, F.imgCsnapStatEpoch, F.imgCsnapNs, F.imgCsnapSecLo]

theorem snapFields_not_counters : ∀ g ∈ snapFields, g.id ∉ counterIds := by decide +kernel

theorem imgEpoch_not_counter : F.imgEpoch.id ∉ counterIds := by decide +kernel

theorem State.get_snapShown (t : State) {f : Field} (hf : ∀ g ∈ snapFields, g.id ≠ f.id) (i : Nat) :
    t.snapShown.get f i = t.get f i := by
  rw [State.snapShown, State.get_put_id _ _ _ _ (hf F.imgCsnapSecLo (by simp [snapFields])),
    State.get_put_id _ _ _ _ (hf F.imgCsnapNs (by simp [snapFields])),
    State.get_put_id _ _ _ _ (hf F.imgCsnapStatEpoch (by simp [snapFields])),
    t.get_snapHeld (hf _ (by simp [snapFields])) (hf _ (by simp [snapFields]))]

@[simp] theorem State.snapShown_held (t : State) : t.snapShown.held = t.held := by
  simp only [State.snapShown, State.snapHeld, State.put_frame]

@[simp] theorem State.snapShown_snapDue (t : State) : t.snapShown.snapDue = t.snapDue := by
  simp only [State.snapShown, State.snapHeld, State.put_frame]

theorem State.sameMem.snapShown {s t : State} (h : s.sameMem t) : s.sameMem t.snapShown :=
  ((((h.put F.imgCsnapStatPending 0 0).put F.imgCsnapStatHeld 0 1).put _ 0 _).put _ 0 _).put _ 0 _

theorem State.get_snapShown_heldFlag (t : State) : t.snapShown.get F.imgCsnapStatHeld = 1 := by
  rw [State.snapShown, State.get_put_id _ _ _ _ (by decide), State.get_put_id _ _ _ _ (by decide),
    State.get_put_id _ _ _ _ (by decide), State.snapHeld, State.get_put]
  rfl

/-- State `t` shows a snapshot whose edge was in state `s`. -/
def SnapTaken (s t : State) : Prop :=
  t.get F.imgCsnapStatPending = 0 ∧ t.get F.imgCsnapStatHeld = 1 ∧
  t.get F.imgCsnapStatEpoch = s.get F.imgEpoch % 2 ^ F.imgCsnapStatEpoch.w ∧
  t.get F.imgCsnapNs = s.time.ns % 2 ^ F.imgCsnapNs.w ∧ t.get F.imgCsnapSecLo = s.time.sec % 2 ^ F.imgCsnapSecLo.w ∧
  s.sameMem t

theorem snapTaken_snapShown {s t : State} (he : t.get F.imgEpoch = s.get F.imgEpoch) (ht : t.time = s.time)
    (hm : s.sameMem t) : SnapTaken s t.snapShown := by
  refine ⟨?pending, t.get_snapShown_heldFlag, ?epoch, ?ns, ?sec, hm.snapShown⟩
  case pending =>
    rw [State.snapShown, State.get_put_id _ _ _ _ (by decide), State.get_put_id _ _ _ _ (by decide),
      State.get_put_id _ _ _ _ (by decide), State.snapHeld, State.get_put_id _ _ _ _ (by decide), State.get_put,
      Nat.zero_mod]
  case epoch =>
    rw [State.snapShown, State.get_put_id _ _ _ _ (by decide), State.get_put_id _ _ _ _ (by decide), State.get_put,
      t.get_snapHeld (by decide) (by decide), he]
  case ns => rw [State.snapShown, State.get_put_id _ _ _ _ (by decide), State.get_put, t.snapHeld_time, ht]
  case sec => rw [State.snapShown, State.get_put, t.snapHeld_time, ht]

/-- The epoch is no counter: CLEAR leaves it, so the snapshot shows that of its edge. -/
theorem State.get_snapCopy_epoch (s : State) : s.snapCopy.get F.imgEpoch = s.get F.imgEpoch := by
  rw [s.get_snapCopy rfl, if_neg (fun h => imgEpoch_not_counter h.2)]

/-- Under the hold a counter reads as it stood on the edge. -/
theorem State.shown_snapCopy (s : State) {f : Field} (hc : f.counter = true) (hf : f.staged = false) (i : Nat) :
    s.snapCopy.snapShown.shown f i = s.get f i := by
  rw [State.shown, hc, State.get_snapShown_heldFlag, State.snapShown_held]
  unfold State.get
  rw [hf]
  rfl

theorem State.get_snapShown_counter (s : State) {f : Field} (hc : f.id ∈ counterIds) (hf : f.staged = false) (i : Nat) :
    s.snapCopy.snapShown.get f i = if s.snapClr = false then s.get f i else f.reset i := by
  rw [State.get_snapShown _ (fun g hg e => snapFields_not_counters g hg (e ▸ hc)), s.get_snapCopy hf]
  cases s.snapClr with
  | false => rw [if_neg (fun h => Bool.false_ne_true h.1), if_pos rfl]
  | true => rw [if_pos ⟨rfl, hc⟩, if_neg Bool.noConfusion]

section
variable {s : State} (hp : s.get F.imgCsnapStatPending ≠ 0) (hm : s.snapMbx = none)
include hp hm

theorem snapshotEdge_now_completes (hw : s.snapWhn = false) :
    Completes .snapshotEdge s (fun t => SnapTaken s t ∧
      (∀ (f : Field) (i : Nat), f.counter = true → f.staged = false → t.shown f i = s.get f i) ∧
      (∀ r ∈ regRows, ∀ f ∈ r.fields, f.counter = true → ∀ i,
        t.get f i = if s.snapClr = false then s.get f i else f.reset i)) :=
  ⟨s.snapCopy.snapShown, (exec_snapshotEdge hm).trans (by rw [State.snapEdge_now hp hw]),
    snapTaken_snapShown s.get_snapCopy_epoch rfl s.sameMem_refl, fun _ i hc hf => s.shown_snapCopy hc hf i,
    fun r hr f hf hc i => s.get_snapShown_counter (mem_counterIds hr hf hc) (counter_not_staged r hr f hf hc) i⟩

theorem snapshotEdge_commit_completes (hw : s.snapWhn = true) (hu : s.snapDue = true) :
    Completes .snapshotEdge s (fun t => SnapTaken s t ∧ t.held = s.held ∧ t.snapDue = false) :=
  ⟨State.snapShown { s with snapDue := false }, (exec_snapshotEdge hm).trans (by rw [State.snapEdge_commit hp hw hu]),
    snapTaken_snapShown (State.get_congr rfl rfl _ _) rfl s.sameMem_refl, State.snapShown_held _,
    State.snapShown_snapDue _⟩

omit hp in
theorem snapshotEdge_wait_completes (hw : s.snapWhn = true) (hu : s.snapDue = false) :
    Completes .snapshotEdge s (fun t => t = s) :=
  ⟨s, (exec_snapshotEdge hm).trans (by rw [State.snapEdge_wait hw hu]), rfl⟩

end

/-! ### The statement -/

/-- Settles O26: the lease and snapshot registers change as each command's own lemma says. -/
theorem leasesAndSnapshots : Obligations.LeasesAndSnapshots := by
  refine fun s => ⟨fun ho hd => ⟨fun v => ?opening, ?closeNone, ?close, fun whn clear => ?go, ?releaseNone, ?release,
    ?cancelNone, fun hp hu => ?cancel⟩, leaseExpire_completes, fun h => ?expireNone, fun hp hm => ?edge⟩
  case opening => exact ⟨leaseOpen_zero_completes ho hd, leaseOpen_pos_completes ho hd⟩
  case closeNone => exact leaseClose_none_completes ho hd
  case close => exact leaseClose_completes ho hd
  case go => exact ⟨csnapGo_accepted_completes ho hd whn clear, csnapGo_busy_completes ho hd whn clear⟩
  case releaseNone => exact csnapRelease_none_completes ho hd
  case release => exact csnapRelease_completes ho hd
  case cancelNone => exact csnapCancel_none_completes ho hd
  case cancel => exact ⟨csnapCancel_completes ho hd hp hu, fun m => csnapCancel_take_completes ho hd hp hu⟩
  case expireNone => exact ⟨s, exec_leaseExpire_none h, rfl⟩
  case edge =>
    exact ⟨snapshotEdge_now_completes hp hm, snapshotEdge_commit_completes hp hm, snapshotEdge_wait_completes hm⟩

end Sys2Proof.Machine
end
